-- ==== Sys2Proof/Word.lean ====
section
/-! DEFINITION. Sys2Proof/Word.lean: the word types of the machine (spec/02 R61) and nothing more. -/

namespace Sys2Proof

/-- A byte of memory (R7). -/
abbrev Byte := BitVec 8

/-- A 32-bit register value (R18). -/
abbrev Word := BitVec 32

/-- A 64-bit value of an even/odd pair, an address or an instruction word (R20, R34). -/
abbrev DWord := BitVec 64

end Sys2Proof
end

