-- ==== Sys2Proof/Machine/Bits.lean ====
section
/-! DEFINITION. Sys2Proof/Machine/Bits.lean: bit-field, byte-order and packed-element helpers (R7, R8, R61, R62). -/

namespace Sys2Proof.Machine

/-- Bits [lo + len - 1 : lo] of a number. -/
def bitsOf (x lo len : Nat) : Nat := x / 2 ^ lo % 2 ^ len

/-- Bit `k` of a number. -/
def bitOf (x k : Nat) : Bool := x / 2 ^ k % 2 == 1

/-- A number read as a two's-complement value of `w` bits. -/
def sextOf (x w : Nat) : Int := if x % 2 ^ w < 2 ^ (w - 1) then (x % 2 ^ w : Nat) else (x % 2 ^ w : Nat) - (2 ^ w : Nat)

/-- 32-bit pattern of an integer (R62). -/
def w32 (x : Int) : Word := BitVec.ofInt 32 x

/-- 64-bit pattern of an integer (R62). -/
def w64 (x : Int) : DWord := BitVec.ofInt 64 x

/-- Saturate(x, T) for a range (R62). -/
def clampInt (x lo hi : Int) : Int := if x < lo then lo else if hi < x then hi else x

/-- Saturate to a signed type of `w` bits (R62). -/
def satS (w : Nat) (x : Int) : Int := clampInt x (-(2 ^ (w - 1) : Nat)) ((2 ^ (w - 1) : Nat) - 1)

/-- Saturate to an unsigned type of `w` bits (R122). -/
def satU (w : Nat) (x : Int) : Int := clampInt x 0 ((2 ^ w : Nat) - 1)

/-- Element `k` of width `w` in a register (R61). -/
def elem (w : Nat) (v : Word) (k : Nat) : Nat := v.toNat / 2 ^ (w * k) % 2 ^ w

/-- A register from its elements of width `w`, element 0 lowest (R61). -/
def packElems (w : Nat) : List Nat → Nat
  | [] => 0
  | x :: xs => x % 2 ^ w + 2 ^ w * packElems w xs

/-- Low half, high half of a doubleword. -/
def lo32 (v : DWord) : Word := v.extractLsb' 0 32
def hi32 (v : DWord) : Word := v.extractLsb' 32 32

/-- A pair from its even and odd registers (R20). -/
def pair64 (lo hi : Word) : DWord := hi ++ lo

/-- Little-endian value of bytes (R7). -/
def leNat : List Byte → Nat
  | [] => 0
  | b :: bs => b.toNat + 256 * leNat bs

/-- `n` little-endian bytes of a number (R7). -/
def leBytes : Nat → Nat → List Byte
  | 0, _ => []
  | n + 1, x => BitVec.ofNat 8 x :: leBytes n (x / 256)

/-- Bytes [at, at + n) of a list; missing bytes are zero. -/
def sliceBytes (b : List Byte) (pos n : Nat) : List Byte :=
  let t := (b.drop pos).take n
  t ++ List.replicate (n - t.length) 0

/-- Little-endian doubleword at an offset of a record. -/
def recU64 (b : List Byte) (off : Nat) : Nat := leNat (sliceBytes b off 8)

/-- Little-endian 32-bit word at an offset of a record. -/
def recU32 (b : List Byte) (off : Nat) : Nat := leNat (sliceBytes b off 4)

/-- Little-endian 16-bit value at an offset of a record. -/
def recU16 (b : List Byte) (off : Nat) : Nat := leNat (sliceBytes b off 2)

/-- Byte at an offset of a record. -/
def recU8 (b : List Byte) (off : Nat) : Nat := ((b.drop off).head?.getD 0).toNat

/-- Bytes written over a record at an offset. -/
def patchBytes (b : List Byte) (pos : Nat) (new : List Byte) : List Byte :=
  b.take pos ++ new ++ b.drop (pos + new.length)

/-- The largest power of two exponent at or below `x`; 0 for 0. -/
def ilog2 (x : Nat) : Nat := Nat.log2 x

/-- One digit of the binary square root: `r` is the root so far for the bits above. -/
def isqrtGo : Nat → Nat → Nat → Nat
  | 0, _, r => r
  | k + 1, x, r =>
    let c := r + 2 ^ k
    isqrtGo k x (if c * c ≤ x then c else r)

/-- floor of the square root, bit by bit. -/
def isqrt (x : Nat) : Nat := isqrtGo (ilog2 x / 2 + 1) x 0

/-- floor(n / 2^k), for either sign of `k`. -/
def shiftInt (n : Nat) (k : Int) : Nat :=
  if k ≥ 0 then n * 2 ^ k.toNat else if (ilog2 n : Int) < -k then 0 else n / 2 ^ (-k).toNat

/-- Arithmetic shift right of an integer, which floors (R83). -/
def asr (x : Int) (k : Nat) : Int := x / (2 ^ k : Nat)

/-- Nearest integer to n / d with ties to even; `d` is not zero. -/
def rneDiv (n d : Nat) : Nat :=
  let q := n / d
  let r := n % d
  if 2 * r < d then q else if d < 2 * r then q + 1 else q + q % 2

end Sys2Proof.Machine
end

