-- ==== Sys2Proof/Machine/Float.lean ====
section
/-! DEFINITION. Sys2Proof/Machine/Float.lean: the floating formats of R63 and R64, Round of R67 with R68 and R70, the
arithmetic of R150 to R153 on exact values, and the generator of R72. -/

namespace Sys2Proof.Machine

/-- sr_fpflags (R26): NX 4, UF 3, OF 2, DZ 1, NV 0. -/
abbrev Flags := BitVec 5

def flagNX : Flags := 0x10
def flagUF : Flags := 0x08
def flagOF : Flags := 0x04
def flagDZ : Flags := 0x02
def flagNV : Flags := 0x01

/-- A floating format (R63, R64). -/
structure Fmt where
  /-- exponent width -/
  eb : Nat
  /-- fraction width -/
  fb : Nat
  bias : Nat
  /-- code of the largest finite magnitude -/
  maxCode : Nat
  /-- the format has infinities -/
  hasInf : Bool
  /-- code of the default NaN -/
  nan : Nat
  deriving DecidableEq, Repr

def Fmt.b32 : Fmt := ⟨8, 23, 127, 0x7F7FFFFF, true, 0x7FC00000⟩
def Fmt.b16 : Fmt := ⟨5, 10, 15, 0x7BFF, true, 0x7E00⟩
def Fmt.bf16 : Fmt := ⟨8, 7, 127, 0x7F7F, true, 0x7FC0⟩
def Fmt.e4m3 : Fmt := ⟨4, 3, 7, 0x7E, false, 0x7F⟩
def Fmt.e5m2 : Fmt := ⟨5, 2, 15, 0x7B, true, 0x7E⟩

/-- Width of the format in bits. -/
def Fmt.width (F : Fmt) : Nat := 1 + F.eb + F.fb

/-- Code of infinity: the exponent all ones and the fraction zero (R64). -/
def Fmt.infCode (F : Fmt) : Nat := (2 ^ F.eb - 1) * 2 ^ F.fb

/-- A code with its sign bit. -/
def Fmt.signed (F : Fmt) (neg : Bool) (code : Nat) : Nat := if neg then code + 2 ^ (F.eb + F.fb) else code

/-- A floating value: a NaN (signalling or quiet), an infinity, or the exact number ± m · 2^e. -/
inductive FV where
  | nan (sig : Bool)
  | inf (neg : Bool)
  | fin (neg : Bool) (m : Nat) (e : Int)
  deriving DecidableEq, Repr

/-- The value of a code (R63, R64); E4M3 holds finite values under its all-ones exponent. -/
def Fmt.value (F : Fmt) (c : Nat) : FV :=
  let neg := bitOf c (F.eb + F.fb)
  let E := c / 2 ^ F.fb % 2 ^ F.eb
  let f := c % 2 ^ F.fb
  if E = 2 ^ F.eb - 1 then
    if F.hasInf then
      if f = 0 then .inf neg else .nan (f < 2 ^ (F.fb - 1) && F.fb ≠ 2)
    else if f = 2 ^ F.fb - 1 then .nan false
    else .fin neg (2 ^ F.fb + f) ((E : Int) - F.bias - F.fb)
  else if E = 0 then .fin neg f (1 - (F.bias : Int) - F.fb)
  else .fin neg (2 ^ F.fb + f) ((E : Int) - F.bias - F.fb)

def FV.isNan (x : FV) : Bool := match x with | .nan _ => true | _ => false
def FV.isSig (x : FV) : Bool := match x with | .nan s => s | _ => false
def FV.isInf (x : FV) : Bool := match x with | .inf _ => true | _ => false
def FV.isZero (x : FV) : Bool := match x with | .fin _ 0 _ => true | _ => false
def FV.isFinite (x : FV) : Bool := match x with | .fin _ _ _ => true | _ => false
def FV.sign (x : FV) : Bool := match x with | .nan _ => false | .inf n => n | .fin n _ _ => n

def FV.negate (x : FV) : FV :=
  match x with
  | .nan s => .nan s
  | .inf n => .inf (!n)
  | .fin n m e => .fin (!n) m e

def FV.abs (x : FV) : FV :=
  match x with
  | .nan s => .nan s
  | .inf _ => .inf false
  | .fin _ m e => .fin false m e

/-- An exact real before rounding: ± n · 2^e, or, when `st`, a value strictly between n · 2^e and (n + 1) · 2^e. A
producer that sets `st` gives `n` enough bits that 2^e is below 2^-33 of the destination's ulp. -/
structure XR where
  neg : Bool
  n : Nat
  e : Int
  st : Bool := false
  deriving DecidableEq, Repr

/-- floor(log2 |x|) of a non-zero exact real. -/
def XR.flog2 (x : XR) : Int := (ilog2 x.n : Int) + x.e

/-- floor(|x| / 2^q). -/
def XR.floorAt (x : XR) (q : Int) : Nat := shiftInt x.n (x.e - q)

/-- |x| is not a multiple of 2^q. -/
def XR.inexactAt (x : XR) (q : Int) : Bool :=
  x.st || (if x.e ≥ q then false else if (ilog2 x.n : Int) < q - x.e then x.n != 0 else x.n % 2 ^ (q - x.e).toNat != 0)

/-- Compares the fraction of |x| / 2^q with one half. -/
def XR.halfCmp (x : XR) (q : Int) : Ordering :=
  if x.e ≥ q then .lt
  else if (ilog2 x.n : Int) + 1 < q - x.e then .lt
  else
    let d := (q - x.e).toNat
    let r := x.n % 2 ^ d
    if 2 * r < 2 ^ d then .lt
    else if 2 * r = 2 ^ d then (if x.st then .gt else .eq)
    else .gt

/-- The integer m of R67: |x| in units of 2^q, rounded by the mode (R66); `draw` is Draw32 under SR. -/
def XR.roundTo (x : XR) (q : Int) (mode draw : Nat) : Nat :=
  let k := x.floorAt q
  let up := x.inexactAt q
  match mode with
  | 0 =>
    match x.halfCmp q with
    | .lt => k
    | .gt => k + 1
    | .eq => k + k % 2
  | 1 => k
  | 2 => if !x.neg && up then k + 1 else k
  | 3 => if x.neg && up then k + 1 else k
  | _ => (x.floorAt (q - 32) + draw) / 2 ^ 32

/-- Round of R67 on a non-zero real: the code with its sign, and the flags. -/
def roundX (F : Fmt) (mode : Nat) (sat : Bool) (draw : Nat) (x : XR) : Nat × Flags :=
  let e := max x.flog2 (1 - (F.bias : Int))
  let q := e - F.fb
  let m := x.roundTo q mode draw
  let code := ((e + F.bias) * (2 ^ F.fb : Nat) + m - (2 ^ F.fb : Nat)).toNat
  let inexact := x.inexactAt q
  let f0 : Flags := if inexact then flagNX else 0
  let f1 : Flags := if inexact && x.flog2 < 1 - (F.bias : Int) then f0 ||| flagUF else f0
  if F.maxCode < code then
    let f2 := f1 ||| flagOF ||| flagNX
    if sat then (F.signed x.neg F.maxCode, f2)
    else if mode = 1 ∨ (mode = 2 ∧ x.neg) ∨ (mode = 3 ∧ !x.neg) then (F.signed x.neg F.maxCode, f2)
    else if !F.hasInf then (F.nan, f2)
    else (F.signed x.neg F.infCode, f2)
  else (F.signed x.neg code, f1)

/-- What an exact operation delivers before rounding: a special value with its flags, or a real. -/
inductive Exact where
  | nan (f : Flags)
  | inf (neg : Bool) (f : Flags)
  | zero (neg : Bool)
  | real (x : XR)
  deriving DecidableEq, Repr

/-- Delivery of an exact result (R67, R68, R70): the infinity of a division by zero, which DZ marks, stays one in every form.
DESIGN CHOICE (log 80): the infinity of an FSCALE.sat is delivered as the largest finite magnitude (R68, R150). -/
def deliver (F : Fmt) (mode : Nat) (sat : Bool) (draw : Nat) (r : Exact) : Nat × Flags :=
  match r with
  | .nan f => (F.nan, f)
  | .inf neg f =>
    if sat && f &&& flagDZ == 0 then (F.signed neg F.maxCode, f)
    else if F.hasInf then (F.signed neg F.infCode, f)
    else (F.nan, f)
  | .zero neg => (F.signed neg 0, 0)
  | .real x => roundX F mode sat draw x

/-- Any NaN operand gives the default NaN, NV when one is signalling (R70). -/
def nanOf (xs : List FV) : Option Exact :=
  if xs.any FV.isSig then some (.nan flagNV) else if xs.any FV.isNan then some (.nan 0) else none

/-- ± m · 2^e as an exact result, with the sign kept on zero. -/
def exactOf (neg : Bool) (m : Nat) (e : Int) : Exact :=
  if m = 0 then .zero neg else .real ⟨neg, m, e, false⟩

/-- A value as the exact operand of a conversion (R68). -/
def FV.exact (x : FV) : Exact :=
  match x with
  | .nan s => .nan (if s then flagNV else 0)
  | .inf n => .inf n 0
  | .fin n m e => exactOf n m e

/-- Signed sum of two finite values as an integer times 2^e. -/
def finSum (n1 : Bool) (m1 : Nat) (e1 : Int) (n2 : Bool) (m2 : Nat) (e2 : Int) : Int × Int :=
  let e := min e1 e2
  let a : Int := (m1 * 2 ^ (e1 - e).toNat : Nat)
  let b : Int := (m2 * 2 ^ (e2 - e).toNat : Nat)
  ((if n1 then -a else a) + (if n2 then -b else b), e)

/-- An exact sum s · 2^e; an exact zero takes `z` when both terms are zeros of one sign, else +0, or -0 under RM (R68). -/
def sumExact (mode : Nat) (same : Option Bool) (s : Int × Int) : Exact :=
  if s.1 = 0 then .zero (match same with | some z => z | none => mode == 3)
  else .real ⟨s.1 < 0, s.1.natAbs, s.2, false⟩

/-- a + b (R68, R70). -/
def addE (mode : Nat) (a b : FV) : Exact :=
  match nanOf [a, b] with
  | some r => r
  | none =>
    match a, b with
    | .inf n1, .inf n2 => if n1 = n2 then .inf n1 0 else .nan flagNV
    | .inf n1, _ => .inf n1 0
    | _, .inf n2 => .inf n2 0
    | .fin n1 m1 e1, .fin n2 m2 e2 =>
      sumExact mode (if m1 = 0 ∧ m2 = 0 ∧ n1 = n2 then some n1 else none) (finSum n1 m1 e1 n2 m2 e2)
    | _, _ => .nan 0

/-- a · b (R68, R70). -/
def mulE (a b : FV) : Exact :=
  match nanOf [a, b] with
  | some r => r
  | none =>
    match a, b with
    | .fin n1 m1 e1, .fin n2 m2 e2 => exactOf (n1 != n2) (m1 * m2) (e1 + e2)
    | _, _ => if a.isZero || b.isZero then .nan flagNV else .inf (a.sign != b.sign) 0

/-- a · b + c, fused (R68, R70): 0 × ∞ is invalid whatever the addend. -/
def fmaE (mode : Nat) (a b c : FV) : Exact :=
  if (a.isZero && b.isInf) || (a.isInf && b.isZero) then .nan flagNV
  else
    match nanOf [a, b, c] with
    | some r => r
    | none =>
      match mulE a b with
      | .inf n _ =>
        match c with
        | .inf n2 => if n = n2 then .inf n 0 else .nan flagNV
        | _ => .inf n 0
      | .zero n => addE mode (.fin n 0 0) c
      | .real x => addE mode (.fin x.neg x.n x.e) c
      | .nan f => .nan f

/-- a0·b0 + a1·b1 + c, fused, one rounding (R153). DESIGN CHOICE (log 103): with a quiet NaN operand and opposite infinities among the
other terms, the quiet NaN's row of R70 holds, which has no flag. -/
def dot2E (a0 b0 a1 b1 c : FV) : Exact :=
  let bad := fun (x y : FV) => (x.isZero && y.isInf) || (x.isInf && y.isZero)
  if bad a0 b0 || bad a1 b1 then .nan flagNV
  else
    match nanOf [a0, b0, a1, b1, c] with
    | some r => r
    | none =>
      let toFV := fun (x : Exact) => match x with
        | .inf n _ => FV.inf n
        | .zero n => FV.fin n 0 0
        | .real x => FV.fin x.neg x.n x.e
        | .nan _ => FV.nan false
      let ts := [toFV (mulE a0 b0), toFV (mulE a1 b1), c]
      let pinf := ts.any fun t => t == .inf false
      let ninf := ts.any fun t => t == .inf true
      if pinf && ninf then .nan flagNV
      else if pinf then .inf false 0
      else if ninf then .inf true 0
      else
        let s := ts.foldl (fun (acc : Int × Int) t =>
          match t with
          | .fin n m e => finSum (acc.1 < 0) acc.1.natAbs acc.2 n m e
          | _ => acc) (0, 0)
        let allz := ts.all FV.isZero
        let sg := ts.map FV.sign
        sumExact 0 (if allz && (sg.all id || sg.all not) then some (sg.all id) else none) s

/-- a / b (R70); the quotient is formed to 2^-120 of itself or finer. -/
def divE (a b : FV) : Exact :=
  match nanOf [a, b] with
  | some r => r
  | none =>
    match a, b with
    | .inf _, .inf _ => .nan flagNV
    | .inf n1, _ => .inf (n1 != b.sign) 0
    | .fin n1 _ _, .inf n2 => .zero (n1 != n2)
    | .fin n1 m1 e1, .fin n2 m2 e2 =>
      if m2 = 0 then (if m1 = 0 then .nan flagNV else .inf (n1 != n2) flagDZ)
      else if m1 = 0 then .zero (n1 != n2)
      else .real ⟨n1 != n2, m1 * 2 ^ 120 / m2, e1 - e2 - 120, m1 * 2 ^ 120 % m2 != 0⟩
    | _, _ => .nan 0

/-- √a (R150); the root is formed to 2^-100 of itself or finer. -/
def sqrtE (a : FV) : Exact :=
  match nanOf [a] with
  | some r => r
  | none =>
    match a with
    | .inf n => if n then .nan flagNV else .inf false 0
    | .fin n m e =>
      if m = 0 then .zero n
      else if n then .nan flagNV
      else
        let k : Nat := if (e - 200) % 2 = 0 then 200 else 201
        let x := m * 2 ^ k
        let r := isqrt x
        .real ⟨false, r, (e - k) / 2, r * r != x⟩
    | .nan _ => .nan 0

/-- a · 2^b (R150). -/
def scaleE (a : FV) (b : Int) : Exact :=
  match nanOf [a] with
  | some r => r
  | none =>
    match a with
    | .inf n => .inf n 0
    | .fin n m e => exactOf n m (e + b)
    | .nan _ => .nan 0

/-- Compares two finite or infinite values: exact, -0 equal to +0 (R124). -/
def cmpFV (a b : FV) : Ordering :=
  match a, b with
  | .inf n1, .inf n2 => if n1 = n2 then .eq else if n1 then .lt else .gt
  | .inf n1, _ => if n1 then .lt else .gt
  | _, .inf n2 => if n2 then .gt else .lt
  | .fin n1 m1 e1, .fin n2 m2 e2 => compare (finSum n1 m1 e1 (!n2) m2 e2).1 0
  | _, _ => .eq

/-- The total order of non-NaN values in which -0 < +0 (R151). -/
def ltTotal (a b : FV) : Bool :=
  match cmpFV a b with
  | .lt => true
  | .gt => false
  | .eq => a.sign && !b.sign

/-- MinNum and MaxNum on codes (R151): the chosen operand's bits, or the default NaN. -/
def minMaxNum (F : Fmt) (isMax : Bool) (a b : Nat) : Nat × Flags :=
  let va := F.value a
  let vb := F.value b
  let f : Flags := if va.isSig || vb.isSig then flagNV else 0
  if va.isNan && vb.isNan then (F.nan, f)
  else if va.isNan then (b, f)
  else if vb.isNan then (a, f)
  else if (if isMax then ltTotal vb va else ltTotal va vb) then (a, f)
  else if (if isMax then ltTotal va vb else ltTotal vb va) then (b, f)
  else (a, f)

/-- RoundInt of R152 and R69: |x| on the integer grid. -/
def roundInt (mode draw : Nat) (x : XR) : Nat := x.roundTo 0 mode draw

/-- FRND on a code (R152). -/
def frnd (F : Fmt) (mode draw c : Nat) : Nat × Flags :=
  match F.value c with
  | .nan s => (F.nan, if s then flagNV else 0)
  | .inf _ => (c, 0)
  | .fin n m e =>
    if m = 0 then (c, 0)
    else
      let x : XR := ⟨n, m, e, false⟩
      let r := roundInt mode draw x
      let f : Flags := if x.inexactAt 0 then flagNX else 0
      if r = 0 then (F.signed n 0, f) else ((roundX F 0 false 0 ⟨n, r, 0, false⟩).1, f)

/-- FFRAC on a binary32 code (R152). -/
def ffrac (c : Nat) : Nat × Flags :=
  match Fmt.b32.value c with
  | .nan s => (Fmt.b32.nan, if s then flagNV else 0)
  | .inf _ => (Fmt.b32.nan, flagNV)
  | .fin n m e =>
    if e ≥ 0 then (0, 0)
    else
      let d := 2 ^ (-e).toNat
      let r := m % d
      let f := if n then (if r = 0 then 0 else d - r) else r
      if f = 0 then (0, 0)
      else
        let (c', fl) := roundX Fmt.b32 1 false 0 ⟨false, f, e, false⟩
        (c', fl &&& flagNX)

/-- A conversion to an integer of range [lo, hi] (R69). -/
def toIntE (mode draw : Nat) (lo hi : Int) (v : FV) : Int × Flags :=
  match v with
  | .nan _ => (0, flagNV)
  | .inf n => (if n then lo else hi, flagNV)
  | .fin n m e =>
    if m = 0 then (0, 0)
    else
      let x : XR := ⟨n, m, e, false⟩
      let r : Int := roundInt mode draw x
      let s := if n then -r else r
      if s < lo then (lo, flagNV) else if hi < s then (hi, flagNV)
      else (s, if x.inexactAt 0 then flagNX else 0)

/-- Class of R126. -/
def fclass (F : Fmt) (c : Nat) : Nat :=
  match F.value c with
  | .nan true => 8
  | .nan false => 9
  | .inf n => if n then 0 else 7
  | .fin n m _ =>
    if m = 0 then (if n then 3 else 4)
    else if m < 2 ^ F.fb then (if n then 2 else 5)
    else if n then 1 else 6

/-! ### binary32 RNE helpers for fixed sequences of steps (R73, R86, R87) -/

/-- A binary32 step of a listed order: its code and flags. -/
def f32Round (r : Exact) : Nat × Flags := deliver Fmt.b32 0 false 0 r

def f32Val (c : Nat) : FV := Fmt.b32.value c
def f32Add (a b : Nat) : Nat × Flags := f32Round (addE 0 (f32Val a) (f32Val b))
def f32Sub (a b : Nat) : Nat × Flags := f32Round (addE 0 (f32Val a) (f32Val b).negate)
def f32Mul (a b : Nat) : Nat × Flags := f32Round (mulE (f32Val a) (f32Val b))
def f32Fma (a b c : Nat) : Nat × Flags := f32Round (fmaE 0 (f32Val a) (f32Val b) (f32Val c))

/-- The binary32 code of 1.0. -/
def f32One : Nat := 0x3F800000

/-- Bilinear filter of R86 in its listed order, into format `F`. -/
def bilinear (F : Fmt) (t00 t10 t01 t11 fu fv : Nat) : Nat × Flags :=
  let (a, g1) := f32Sub f32One fu
  let (b, g2) := f32Sub f32One fv
  let (w00, g3) := f32Mul a b
  let (w10, g4) := f32Mul fu b
  let (w01, g5) := f32Mul a fv
  let (w11, g6) := f32Mul fu fv
  let (s1, g7) := f32Mul w00 t00
  let (s2, g8) := f32Fma w10 t10 s1
  let (s3, g9) := f32Fma w01 t01 s2
  let (out, g10) := deliver F 0 false 0 (fmaE 0 (f32Val w11) (f32Val t11) (f32Val s3))
  (out, g1 ||| g2 ||| g3 ||| g4 ||| g5 ||| g6 ||| g7 ||| g8 ||| g9 ||| g10)

/-- Level combination of R87 in its listed order, into format `F`. -/
def trilinear (F : Fmt) (lo hi fl : Nat) : Nat × Flags :=
  let (wl, g1) := f32Sub f32One fl
  let (s, g2) := f32Mul wl lo
  let (out, g3) := deliver F 0 false 0 (fmaE 0 (f32Val fl) (f32Val hi) (f32Val s))
  (out, g1 ||| g2 ||| g3)

/-! ### The stochastic-rounding generator (R72) -/

def mix64 (z : DWord) : DWord :=
  let z := (z ^^^ (z >>> 30)) * 0xBF58476D1CE4E5B9
  let z := (z ^^^ (z >>> 27)) * 0x94D049BB133111EB
  z ^^^ (z >>> 31)

/-- Draw32 (R72): the new state and the draw. -/
def draw32 (S : DWord) : DWord × Nat :=
  let S := S + 0x9E3779B97F4A7C15
  (S, (mix64 S).toNat / 2 ^ 32)

/-- Seed (R72). -/
def seedGen (seed G : DWord) : DWord := mix64 (seed ^^^ mix64 G)

/-! ### Allowance codes (R78 to R80) -/

/-- A non-negative exact bound m · 2^e, or unbounded. -/
inductive Bound where
  | unb
  | val (m : Nat) (e : Int)
  deriving DecidableEq, Repr

/-- The value of an AL16 code (R78). -/
def al16Val (c : Nat) : Bound :=
  let E := c / 256 % 256
  if E = 0 then .val 0 0 else if E = 255 then .unb else .val (256 + c % 256) ((E : Int) - 127 - 8)

/-- The value of an AL8 code in scale units (R79). -/
def al8Val (c : Nat) : Bound :=
  if c % 256 = 0 then .val 0 0
  else if c % 256 = 255 then .unb
  else .val (8 + c % 8) ((c / 8 % 32 : Nat) - 20 - 3)

/-- m1 · 2^e1 ≤ m2 · 2^e2. -/
def dyLe (m1 : Nat) (e1 : Int) (m2 : Nat) (e2 : Int) : Bool :=
  let e := min e1 e2
  m1 * 2 ^ (e1 - e).toNat ≤ m2 * 2 ^ (e2 - e).toNat

/-- Smallest m' · 2^q at or above m · 2^e, as m'. -/
def ceilAt (m : Nat) (e q : Int) : Nat :=
  if e ≥ q then m * 2 ^ (e - q).toNat else (m + 2 ^ (q - e).toNat - 1) / 2 ^ (q - e).toNat

/-- RoundUpAL16 of m · 2^e (R80). -/
def roundUpAL16 (m : Nat) (e : Int) : Nat :=
  if m = 0 then 0
  else if !dyLe m e 511 (127 - 8) then 0xFFFF
  else
    let l := (ilog2 m : Int) + e
    if l < -126 then 0x0100
    else
      let k := ceilAt m e (l - 8)
      ((l + 127) * 256 + (k : Int) - 256).toNat

/-- RoundUpAL8 of m · 2^e scale units (R80). -/
def roundUpAL8 (m : Nat) (e : Int) : Nat :=
  if m = 0 then 0
  else if !dyLe m e 3584 0 then 0xFF
  else
    let l := (ilog2 m : Int) + e
    if l < -20 then 0x01
    else
      let k := ceilAt m e (l - 3)
      max 1 ((l + 20) * 8 + (k : Int) - 8).toNat

/-- Sum of two dyadic bounds. -/
def Bound.add (p q : Bound) : Bound :=
  match p, q with
  | .val m1 e1, .val m2 e2 =>
    let e := min e1 e2
    .val (m1 * 2 ^ (e1 - e).toNat + m2 * 2 ^ (e2 - e).toNat) e
  | _, _ => .unb

/-- Product of two dyadic bounds; a bound that is unbounded stays so. -/
def Bound.mul (p q : Bound) : Bound :=
  match p, q with
  | .val m1 e1, .val m2 e2 => .val (m1 * m2) (e1 + e2)
  | _, _ => .unb

/-- RoundUpAL16 of a bound. -/
def Bound.al16 (p : Bound) : Nat :=
  match p with
  | .unb => 0xFFFF
  | .val m e => roundUpAL16 m e

/-- RoundUpAL8 of a bound. -/
def Bound.al8 (p : Bound) : Nat :=
  match p with
  | .unb => 0xFF
  | .val m e => roundUpAL8 m e

/-! ### Block scales and nested integers (R74 to R77) -/

/-- clamp(floor(log2 |x|) + 121, 0, 254) of a non-zero value (R77, R157). -/
def scaleCode (m : Nat) (e : Int) : Nat := (clampInt ((ilog2 m : Int) + e + 121) 0 254).toNat

/-- One BSCALE step (R157); folding it over a block is BlockScale (R77). -/
def bscaleStep (c : Nat) (v : FV) : Nat :=
  match v with
  | .fin _ m e => if c = 0xFF then 0xFF else if m = 0 then c else max c (scaleCode m e)
  | _ => 0xFF

/-- BlockScale (R77). -/
def blockScale (xs : List FV) : Nat := xs.foldl bscaleStep 0

/-- A read of k planes of a signed byte (R75). -/
def planeRead (k : Nat) (v : Int) : Int :=
  if k = 8 then v else asr v (8 - k) * (2 ^ (8 - k) : Nat) + (2 ^ (7 - k) : Nat)

/-- Element `e` of an NI8 block of 64 bytes read at k planes (R74, R75). -/
def ni8Elem (blk : List Byte) (k e : Nat) : Int :=
  let bit := fun j => if bitOf (recU64 blk (8 * (7 - j))) e then 2 ^ j else 0
  planeRead k (sextOf ((List.range 8).foldl (fun acc j => acc + (if j + k ≥ 8 then bit j else 0)) 0) 8)

/-- The 64 bytes of an NI8 block of 64 values (R74). -/
def ni8Bytes (vs : List Int) : List Byte :=
  (List.range 8).foldl (fun acc r =>
    let j := 7 - r
    acc ++ leBytes 8 (((vs.zipIdx).foldl (fun a (v, e) =>
      if bitOf (v % 256).toNat j then a + 2 ^ e else a) 0))) []

end Sys2Proof.Machine
end

