-- ==== Sys2Proof/Config.lean ====
section
/-! DEFINITION. Sys2Proof/Config.lean: what the module fixes, and the free values: constants without a body, so that no
proof can see what they are. Each names its entry of the assumption log. -/

namespace Sys2Proof.Config

/-- Compute dies (R1). -/
def dies : Nat := 8

/-- Cores of a die (R2). -/
def cores : Nat := 48

/-- Partitions of a core (R13). -/
def partitions : Nat := 16

/-- Wave slots of a partition (R175). -/
def waveSlots : Nat := 16

/-- Registers of a partition's file (R175). -/
def partRegs : Nat := 32768

/-- Split-table entries of a partition (R178). -/
def splitSlots : Nat := 64

/-- Bundle slots of a partition (R188). -/
def bundleSlots : Nat := 4

/-- Resident teams of a core (R175). -/
def coreTeams : Nat := 32

/-- Scratchpad bytes of a core (R175). -/
def coreScratch : Nat := 458752

/-- Accumulator tiles of a core (R175). -/
def coreTiles : Nat := 16

/-- Bytes of SRAM of a core, and of one of its slices (R233). -/
def coreSram : Nat := 524288
def slice : Nat := 32768

/-- Slices of a core's SRAM (R233). -/
def coreSlices : Nat := coreSram / slice

/-- Bytes of a cache line (R234), and lines of a slice that serves as L1. -/
def line : Nat := 128
def sliceLines : Nat := slice / line

/-- Bytes of a die L2 (R2, R5), and its lines. -/
def dieL2 : Nat := 64 * 2 ^ 20
def dieL2Lines : Nat := dieL2 / line

/-- Bytes of a die's Basket, Shears and Sprinkle units of a die (R2, R5). -/
def basket : Nat := 32 * 2 ^ 20
def shears : Nat := 4
def sprinkles : Nat := 8

/-- Copies in flight in one core's Shuttle (R310). -/
def coreCopies : Nat := 64

/-- Entries of a TLB (R434). -/
def tlbEntries : Nat := 512

/-- Monitors of a core (R292). -/
def coreMonitors : Nat := 128

/-- Entries of a fault queue (R441). -/
def faultEntries : Nat := 256

/-- First physical address above usable GDDR7 (R5, R524). -/
def gddrTop : Nat := 0x2D00000000

/-- End of the physical map (R524). -/
def physTop : Nat := 2 ^ 52

/-- FREE: which of `n` candidates acts next, when the agenda is empty (log 2). -/
opaque choose : Nat → Nat → Nat

/-- FREE: clocks that pass in a step (log 3). -/
opaque clocks : Nat → Nat

/-- FREE: further clocks for which a core was not clocked (log 3). -/
opaque gated : Nat → Nat → Nat → Nat

/-- FREE: a value of 64 bits that the spec leaves open, by the counter of free values (log 2). -/
opaque freeWord : Nat → BitVec 64

/-- FREE: the boot ROM's answer on the key hash of an image's 64-byte key (log 7). -/
opaque keyMatches : List Byte → Bool

/-- FREE: the verdict of SLH-DSA-SHAKE-256s on an image (log 7). -/
opaque signatureVerifies : List Byte → Bool

/-- FREE: entry clause of the dispatcher kernel in the firmware store (log 8). -/
opaque dispatcherEntry : BitVec 64

/-- FREE: base of the dispatcher's call stacks in the firmware store (log 8). -/
opaque dispatcherStack : BitVec 64

/-- FREE: the identity secret in the host processor die's storage, which no grid can address (R2, R535; log 73). -/
opaque identity : List Byte

/-- FREE: a counter word of a PM record (log 14). -/
opaque pmCounter : Nat → Nat → BitVec 32

/-- Level-1 table under which a die's counter streamer translates its ring's addresses (R474); the spec names none (log 16). -/
opaque pmRoot : Nat → Nat

end Sys2Proof.Config
end

