-- ==== Sys2Proof/Syntax.lean ====
section
/-! DEFINITION. Sys2Proof/Syntax.lean: the operand formats of spec/03 (R90 to R97), the common fields of every word
(R34) and the one inductive of the rows of spec/opcode_table.json. A word row carries the operand fields of its format;
its common fields (`Guard`) stand in the issuing bundle, since they act alike for every word (R34 to R36, R44). An event
row is a bare name: what tells one occurrence from another (`EvArgs`) stands in the turn that runs it. Sixteen word rows
are bare names too: eight whose format holds no operand at all, and eight with one operand field, which their meaning
reads from the issuing word. Lean's runtime can build at most 244 constructors that carry fields, and the model is kept
evaluable. -/

namespace Sys2Proof

/-- The common fields of every word (R34): the switch marker S, PRED and PN. -/
structure Guard where
  sw : Bool
  pred : BitVec 7
  pn : Bool
  deriving DecidableEq, Repr

/-- What tells one occurrence of an event from another: small numbers (a die, a core, a team, an operation), a
register value with its width and halves, or bytes and doublewords. -/
structure EvArgs where
  a : Nat := 0
  b : Nat := 0
  c : Nat := 0
  d : Nat := 0
  v : BitVec 64 := 0
  flag : Bool := false
  data : List (BitVec 64) := []
  deriving DecidableEq, Repr

/-- Format F3 (R90). -/
structure F3 where
  rd : BitVec 8
  ra : BitVec 8
  ea : BitVec 4
  rb : BitVec 8
  eb : BitVec 4
  rc : BitVec 8
  ec : BitVec 4
  x : Bool
  deriving DecidableEq, Repr

/-- Format FI (R92). -/
structure FI where
  rd : BitVec 8
  ra : BitVec 8
  ea : BitVec 4
  imm : BitVec 24
  x : Bool
  deriving DecidableEq, Repr

/-- Format FK (R93). -/
structure FK where
  rd : BitVec 8
  sub : BitVec 5
  imm : BitVec 32
  deriving DecidableEq, Repr

/-- Format FM (R94). -/
structure FM where
  rd : BitVec 8
  base : BitVec 8
  off : BitVec 20
  sz : BitVec 3
  cc : BitVec 2
  scope : BitVec 3
  sx : Bool
  deriving DecidableEq, Repr

/-- Format FB (R95). -/
structure FB where
  off : BitVec 32
  ra : BitVec 8
  kind : BitVec 5
  deriving DecidableEq, Repr

/-- Format FA (R96). -/
structure FA where
  rd : BitVec 8
  ra : BitVec 8
  rb : BitVec 8
  h : BitVec 5
  bar : BitVec 5
  sub : BitVec 11
  deriving DecidableEq, Repr

/-- Format FX (R97). -/
structure FX where
  shape : BitVec 4
  tile : BitVec 4
  abase : BitVec 8
  bh : BitVec 5
  boff : BitVec 6
  pl : BitVec 4
  ssel : BitVec 2
  sreg : BitVec 8
  ru : Bool
  rsv : Bool
  am : BitVec 2
  deriving DecidableEq, Repr

/-- One constructor per row of spec/opcode_table.json: first the words with operand fields, then the words that are
bare names, then the device's and the host's events (spec/95_what_each_step_holds.md). -/
inductive Instr where
  /-- IADD (R118). -/
  | iadd (o : F3)
  /-- IADD_IMM (R118). -/
  | iaddImm (o : FI)
  /-- ISUB (R118). -/
  | isub (o : F3)
  /-- ISUB_IMM (R118). -/
  | isubImm (o : FI)
  /-- IMUL (R118). -/
  | imul (o : F3)
  /-- IMUL_IMM (R118). -/
  | imulImm (o : FI)
  /-- IMULH (R118). -/
  | imulh (o : F3)
  /-- IMULH_IMM (R118). -/
  | imulhImm (o : FI)
  /-- IMAD (R118). -/
  | imad (o : F3)
  /-- IDIV (R119). -/
  | idiv (o : F3)
  /-- IDIV_IMM (R119). -/
  | idivImm (o : FI)
  /-- IREM (R119). -/
  | irem (o : F3)
  /-- IREM_IMM (R119). -/
  | iremImm (o : FI)
  /-- IMIN (R118). -/
  | imin (o : F3)
  /-- IMIN_IMM (R118). -/
  | iminImm (o : FI)
  /-- IMAX (R118). -/
  | imax (o : F3)
  /-- IMAX_IMM (R118). -/
  | imaxImm (o : FI)
  /-- IABS (R118). -/
  | iabs (o : F3)
  /-- INEG (R118). -/
  | ineg (o : F3)
  /-- AND (R118). -/
  | and (o : F3)
  /-- AND_IMM (R118). -/
  | andImm (o : FI)
  /-- OR (R118). -/
  | or (o : F3)
  /-- OR_IMM (R118). -/
  | orImm (o : FI)
  /-- XOR (R118). -/
  | xor (o : F3)
  /-- XOR_IMM (R118). -/
  | xorImm (o : FI)
  /-- NOT (R118). -/
  | not (o : F3)
  /-- MOV (R118). -/
  | mov (o : F3)
  /-- MOV_IMM (R118). -/
  | movImm (o : FI)
  /-- IADD64 (R118). -/
  | iadd64 (o : F3)
  /-- IADD64_IMM (R118). -/
  | iadd64Imm (o : FI)
  /-- ISUB64 (R118). -/
  | isub64 (o : F3)
  /-- ISUB64_IMM (R118). -/
  | isub64Imm (o : FI)
  /-- IMUL64 (R118). -/
  | imul64 (o : F3)
  /-- IMUL64_IMM (R118). -/
  | imul64Imm (o : FI)
  /-- IMAD64 (R118). -/
  | imad64 (o : F3)
  /-- MOVK (R120). -/
  | movk (o : FK)
  /-- MOVK_64 (R120). -/
  | movk64 (o : FK)
  /-- SHL (R121). -/
  | shl (o : F3)
  /-- SHL_IMM (R121). -/
  | shlImm (o : FI)
  /-- SHR (R121). -/
  | shr (o : F3)
  /-- SHR_IMM (R121). -/
  | shrImm (o : FI)
  /-- ROL (R121). -/
  | rol (o : F3)
  /-- ROL_IMM (R121). -/
  | rolImm (o : FI)
  /-- BFE (R121). -/
  | bfe (o : F3)
  /-- BFE_IMM (R121). -/
  | bfeImm (o : FI)
  /-- BFI (R121). -/
  | bfi (o : F3)
  /-- POPC (R121). -/
  | popc (o : F3)
  /-- CLZ (R121). -/
  | clz (o : F3)
  /-- BREV (R121). -/
  | brev (o : F3)
  /-- SHF (R121). -/
  | shf (o : F3)
  /-- PADD8 (R122). -/
  | padd8 (o : F3)
  /-- PADD8_IMM (R122). -/
  | padd8Imm (o : FI)
  /-- PADD16 (R122). -/
  | padd16 (o : F3)
  /-- PADD16_IMM (R122). -/
  | padd16Imm (o : FI)
  /-- PDOT4 (R121). -/
  | pdot4 (o : F3)
  /-- PDOT8 (R121). -/
  | pdot8 (o : F3)
  /-- BPX (R123). -/
  | bpx (o : F3)
  /-- BPI (R123). -/
  | bpi (o : F3)
  /-- BMSK (R121). -/
  | bmsk (o : F3)
  /-- BMSK_IMM (R121). -/
  | bmskImm (o : FI)
  /-- FADD (R150). -/
  | fadd (o : F3)
  /-- FADD_IMM (R150). -/
  | faddImm (o : FI)
  /-- FSUB (R150). -/
  | fsub (o : F3)
  /-- FSUB_IMM (R150). -/
  | fsubImm (o : FI)
  /-- FMUL (R150). -/
  | fmul (o : F3)
  /-- FMUL_IMM (R150). -/
  | fmulImm (o : FI)
  /-- FFMA (R150). -/
  | ffma (o : F3)
  /-- FFMS (R150). -/
  | ffms (o : F3)
  /-- FMIN (R151). -/
  | fmin (o : F3)
  /-- FMIN_IMM (R151). -/
  | fminImm (o : FI)
  /-- FMAX (R151). -/
  | fmax (o : F3)
  /-- FMAX_IMM (R151). -/
  | fmaxImm (o : FI)
  /-- FABS (R150). -/
  | fabs (o : F3)
  /-- FNEG (R150). -/
  | fneg (o : F3)
  /-- FCPYS (R150). -/
  | fcpys (o : F3)
  /-- FCPYS_IMM (R150). -/
  | fcpysImm (o : FI)
  /-- FDIV (R150). -/
  | fdiv (o : F3)
  /-- FDIV_IMM (R150). -/
  | fdivImm (o : FI)
  /-- FSQRT (R150). -/
  | fsqrt (o : F3)
  /-- FRND (R152). -/
  | frnd (o : F3)
  /-- FFRAC (R152). -/
  | ffrac (o : F3)
  /-- FSCALE (R150). -/
  | fscale (o : F3)
  /-- FSCALE_IMM (R150). -/
  | fscaleImm (o : FI)
  /-- FCLAMP (R150). -/
  | fclamp (o : F3)
  /-- FSAT (R150). -/
  | fsat (o : F3)
  /-- HADD (R153). -/
  | hadd (o : F3)
  /-- HADD_IMM (R153). -/
  | haddImm (o : FI)
  /-- HSUB (R153). -/
  | hsub (o : F3)
  /-- HSUB_IMM (R153). -/
  | hsubImm (o : FI)
  /-- HMUL (R153). -/
  | hmul (o : F3)
  /-- HMUL_IMM (R153). -/
  | hmulImm (o : FI)
  /-- HFMA (R153). -/
  | hfma (o : F3)
  /-- HFMS (R153). -/
  | hfms (o : F3)
  /-- HMIN (R153). -/
  | hmin (o : F3)
  /-- HMIN_IMM (R153). -/
  | hminImm (o : FI)
  /-- HMAX (R153). -/
  | hmax (o : F3)
  /-- HMAX_IMM (R153). -/
  | hmaxImm (o : FI)
  /-- HABS (R153). -/
  | habs (o : F3)
  /-- HNEG (R153). -/
  | hneg (o : F3)
  /-- HCPYS (R153). -/
  | hcpys (o : F3)
  /-- HCPYS_IMM (R153). -/
  | hcpysImm (o : FI)
  /-- HDOT2 (R153). -/
  | hdot2 (o : F3)
  /-- HRND (R153). -/
  | hrnd (o : F3)
  /-- HSCALE (R153). -/
  | hscale (o : F3)
  /-- HSCALE_IMM (R153). -/
  | hscaleImm (o : FI)
  /-- HCLAMP (R153). -/
  | hclamp (o : F3)
  /-- F2F (R154). -/
  | f2f (o : F3)
  /-- F2I (R155). -/
  | f2i (o : F3)
  /-- I2F (R155). -/
  | i2f (o : F3)
  /-- F2F8 (R156). -/
  | f2f8 (o : F3)
  /-- F8F (R156). -/
  | f8f (o : F3)
  /-- H2F (R154). -/
  | h2f (o : F3)
  /-- BSCALE (R157). -/
  | bscale (o : F3)
  /-- QNT8 (R158). -/
  | qnt8 (o : F3)
  /-- QNT8_ERR (R158). -/
  | qnt8Err (o : F3)
  /-- DQ8 (R159). -/
  | dq8 (o : F3)
  /-- FXPN (R160). -/
  | fxpn (o : F3)
  /-- FMNT (R160). -/
  | fmnt (o : F3)
  /-- EXP2 (R162). -/
  | exp2 (o : F3)
  /-- LOG2 (R162). -/
  | log2 (o : F3)
  /-- RCP (R162). -/
  | rcp (o : F3)
  /-- RSQRT (R162). -/
  | rsqrt (o : F3)
  /-- SQRT (R162). -/
  | sqrt (o : F3)
  /-- SIN (R162). -/
  | sin (o : F3)
  /-- COS (R162). -/
  | cos (o : F3)
  /-- FILT (R163). -/
  | filt (o : F3)
  /-- FILTL (R164). -/
  | filtl (o : F3)
  /-- ALRND (R161). -/
  | alrnd (o : F3)
  /-- ICMP (R124). -/
  | icmp (o : F3)
  /-- ICMP_IMM (R124). -/
  | icmpImm (o : FI)
  /-- ICMP64 (R124). -/
  | icmp64 (o : F3)
  /-- ICMP64_IMM (R124). -/
  | icmp64Imm (o : FI)
  /-- FCMP (R124). -/
  | fcmp (o : F3)
  /-- FCMP_IMM (R124). -/
  | fcmpImm (o : FI)
  /-- HCMP (R124). -/
  | hcmp (o : F3)
  /-- HCMP_IMM (R124). -/
  | hcmpImm (o : FI)
  /-- PAND (R125). -/
  | pand (o : F3)
  /-- POR (R125). -/
  | por (o : F3)
  /-- PXOR (R125). -/
  | pxor (o : F3)
  /-- PNOT (R125). -/
  | pnot (o : F3)
  /-- SEL (R125). -/
  | sel (o : F3)
  /-- SEL_IMM (R125). -/
  | selImm (o : FI)
  /-- SEL64 (R125). -/
  | sel64 (o : F3)
  /-- P2G (R125). -/
  | p2g (o : F3)
  /-- G2P (R125). -/
  | g2p (o : F3)
  /-- FCLASS (R126). -/
  | fclass (o : F3)
  /-- FCLASS_IMM (R126). -/
  | fclassImm (o : FI)
  /-- BTEST (R125). -/
  | btest (o : F3)
  /-- BTEST_IMM (R125). -/
  | btestImm (o : FI)
  /-- BRA (R129). -/
  | bra (o : FB)
  /-- CALL (R129). -/
  | call (o : FB)
  /-- CALLI (R129). -/
  | calli (o : FB)
  /-- JMPI (R129). -/
  | jmpi (o : FB)
  /-- LD (R135). -/
  | ld (o : FM)
  /-- ST (R135). -/
  | st (o : FM)
  /-- LDW (R137). -/
  | ldw (o : FM)
  /-- PREF (R138). -/
  | pref (o : FM)
  /-- WBACK (R138). -/
  | wback (o : FM)
  /-- ATOM_ADD (R280). -/
  | atomAdd (o : FM)
  /-- ATOM_MIN (R280). -/
  | atomMin (o : FM)
  /-- ATOM_MAX (R280). -/
  | atomMax (o : FM)
  /-- ATOM_AND (R280). -/
  | atomAnd (o : FM)
  /-- ATOM_OR (R280). -/
  | atomOr (o : FM)
  /-- ATOM_XOR (R280). -/
  | atomXor (o : FM)
  /-- ATOM_EXCH (R280). -/
  | atomExch (o : FM)
  /-- ATOM_FADD (R285). -/
  | atomFadd (o : FM)
  /-- ATOM_FMIN (R285). -/
  | atomFmin (o : FM)
  /-- ATOM_FMAX (R285). -/
  | atomFmax (o : FM)
  /-- CAS (R280). -/
  | cas (o : FM)
  /-- FENCE (R288). -/
  | fence (o : FM)
  /-- ACQ_REMOTE (R289). -/
  | acqRemote (o : FM)
  /-- MWAIT (R291). -/
  | mwait (o : FM)
  /-- BARR (R217). -/
  | barr (o : FA)
  /-- BWAIT (R220). -/
  | bwait (o : FA)
  /-- BTXN (R218). -/
  | btxn (o : FA)
  /-- BGEN_READ (R219). -/
  | bgenRead (o : FA)
  /-- BGEN_INIT (R219). -/
  | bgenInit (o : FA)
  /-- QSWAP (R205). -/
  | qswap (o : F3)
  /-- QDDX (R205). -/
  | qddx (o : F3)
  /-- QDDY (R205). -/
  | qddy (o : F3)
  /-- QBCAST (R205). -/
  | qbcast (o : F3)
  /-- WSHFL (R206). -/
  | wshfl (o : F3)
  /-- WVOTE (R207). -/
  | wvote (o : F3)
  /-- WBALLOT (R207). -/
  | wballot (o : F3)
  /-- WRED (R208). -/
  | wred (o : F3)
  /-- WRED64 (R208). -/
  | wred64 (o : F3)
  /-- WREDF (R209). -/
  | wredf (o : F3)
  /-- WSCAN (R208). -/
  | wscan (o : F3)
  /-- WSCANF (R210). -/
  | wscanf (o : F3)
  /-- WMATCH (R207). -/
  | wmatch (o : F3)
  /-- WFIRST (R207). -/
  | wfirst (o : F3)
  /-- WSYNCM (R213). -/
  | wsyncm (o : F3)
  /-- CPY_T (R317). -/
  | cpyT (o : FA)
  /-- CPY_L (R317). -/
  | cpyL (o : FA)
  /-- OBRES (R322). -/
  | obres (o : FA)
  /-- OBSTATE_READ (R322). -/
  | obstateRead (o : FA)
  /-- OBSTATE_PEND (R322). -/
  | obstatePend (o : FA)
  /-- OBSTATE_REFILL (R321). -/
  | obstateRefill (o : FA)
  /-- PRSET (R323). -/
  | prset (o : FA)
  /-- PRCLR (R323). -/
  | prclr (o : FA)
  /-- PRTEST (R324). -/
  | prtest (o : FA)
  /-- WAITC (R311). -/
  | waitc (o : FA)
  /-- MX_I8 (R346). -/
  | mxI8 (o : FX)
  /-- MX_E4 (R346). -/
  | mxE4 (o : FX)
  /-- MX_E5 (R346). -/
  | mxE5 (o : FX)
  /-- MX_H (R346). -/
  | mxH (o : FX)
  /-- MX_BF (R346). -/
  | mxBf (o : FX)
  /-- ACCLD (R353). -/
  | accld (o : FA)
  /-- ACCST (R354). -/
  | accst (o : FA)
  /-- ACCST_NI8 (R355). -/
  | accstNi8 (o : FA)
  /-- ALSET (R351). -/
  | alset (o : FA)
  /-- ALSET_LIM (R351). -/
  | alsetLim (o : FA)
  /-- ALGET (R352). -/
  | alget (o : FA)
  /-- DICE_RUN (R376). -/
  | diceRun (o : FA)
  /-- DICE_BIND (R377). -/
  | diceBind (o : FA)
  /-- PATCHQ (R373). -/
  | patchq (o : FA)
  /-- GEMIT (R379). -/
  | gemit (o : FA)
  /-- SAMP (R302). -/
  | samp (o : FA)
  /-- SAMPL (R302). -/
  | sampl (o : FA)
  /-- SAMPD (R302). -/
  | sampd (o : FA)
  /-- SAMPG (R303). -/
  | sampg (o : FA)
  /-- RESQ (R304). -/
  | resq (o : FA)
  /-- TRACE (R413). -/
  | trace (o : FA)
  /-- TRESUME (R414). -/
  | tresume (o : FA)
  /-- TACCEPT (R415). -/
  | taccept (o : FA)
  /-- TSTATE_READ (R416). -/
  | tstateRead (o : FA)
  /-- TSTATE_END (R416). -/
  | tstateEnd (o : FA)
  /-- RDSR (R140). -/
  | rdsr (o : F3)
  /-- WRSR (R141). -/
  | wrsr (o : F3)
  /-- STPRED (R142). -/
  | stpred (o : F3)
  /-- LDPRED (R142). -/
  | ldpred (o : F3)
  /-- TRAP (R143). -/
  | trap (o : FK)
  /-- BKPT (R143). -/
  | bkpt (o : FK)
  /-- SPLRD (R223). -/
  | splrd (o : F3)
  /-- SPLWR (R224). -/
  | splwr (o : F3)
  /-- BARSV (R225). -/
  | barsv (o : FA)
  /-- BARLD (R225). -/
  | barld (o : FA)
  /-- CTXRD (R456). -/
  | ctxrd (o : F3)
  /-- CTXWR (R456). -/
  | ctxwr (o : F3)
  /-- MBRECV (R507). -/
  | mbrecv (o : FA)
  /-- MBSEND (R508). -/
  | mbsend (o : FA)
  /-- SPAWN_RANGE (R510). -/
  | spawnRange (o : FA)
  /-- FWD (R509). -/
  | fwd (o : FA)
  /-- DUMP (R484). -/
  | dump (o : FA)
  /-- SPAWN_TRIM (R511). -/
  | spawnTrim (o : FA)
  /-- SRGEN (R165). -/
  | srgen
  /-- RET (R130). -/
  | ret
  /-- RETT (R60). -/
  | rett
  /-- EXIT (R131). -/
  | exit
  /-- YIELD (R132). -/
  | yield
  /-- SYNCW (R212). -/
  | syncw
  /-- ELECT (R207). -/
  | elect
  /-- OBREL (R321). -/
  | obrel
  /-- OBSTATE_FULL (R321). -/
  | obstateFull
  /-- ACCZ (R350). -/
  | accz
  /-- DICE_UNBIND (R377). -/
  | diceUnbind
  /-- PATCHDQ (R374). -/
  | patchdq
  /-- WMARK_REL (R383). -/
  | wmarkRel
  /-- WMARK_GLOB (R383). -/
  | wmarkGlob
  /-- WMARK_DIE (R383). -/
  | wmarkDie
  /-- NOP (R144). -/
  | nop
  /-- MODULE_RESET (R12). -/
  | moduleReset
  /-- FWGO (R535). -/
  | fwgo
  /-- SQTAIL_WRITE (R528). -/
  | sqtailWrite
  /-- LAUNCH (R530). -/
  | launch
  /-- FRAME (R531). -/
  | frame
  /-- ENDFRAME (R531). -/
  | endframe
  /-- TEAM_CLAIM (R194). -/
  | teamClaim
  /-- RANGE_STEAL (R195). -/
  | rangeSteal
  /-- PICK (R185). -/
  | pick
  /-- SWITCH_MARKER_RESUME (R44). -/
  | switchMarkerResume
  /-- TRAP_ENTRY (R59). -/
  | trapEntry
  /-- LOAD_RESULT_RETURN (R43). -/
  | loadResultReturn
  /-- STORE_PERFORMED (R134). -/
  | storePerformed
  /-- CACHE_EVICTION (R238). -/
  | cacheEviction
  /-- TEAM_END (R131). -/
  | teamEnd
  /-- TEAM_FATAL_END (R445). -/
  | teamFatalEnd
  /-- TLBSYNC_WRITE (R436). -/
  | tlbsyncWrite
  /-- TLB_SYNC_COMPLETE (R436). -/
  | tlbSyncComplete
  /-- FQCMD_REPLAY (R444). -/
  | fqcmdReplay
  /-- FQCMD_CANCEL (R444). -/
  | fqcmdCancel
  /-- FQCMD_ACK (R444). -/
  | fqcmdAck
  /-- PREQ_PREEMPT (R447). -/
  | preqPreempt
  /-- PREQ_RESUME (R446). -/
  | preqResume
  /-- TEAM_FLUSH (R448). -/
  | teamFlush
  /-- DRAIN_TIMEOUT (R449). -/
  | drainTimeout
  /-- TIME_SLICE (R198). -/
  | timeSlice
  /-- TEAM_SAVE (R450). -/
  | teamSave
  /-- TEAM_RESTORE (R455). -/
  | teamRestore
  /-- DBGCMD_RESUME (R482). -/
  | dbgcmdResume
  /-- DBGCMD_STEP (R482). -/
  | dbgcmdStep
  /-- DBGCMD_KILL (R482). -/
  | dbgcmdKill
  /-- PM_TICK (R487). -/
  | pmTick
  /-- PMCTL_WRITE (R487). -/
  | pmctlWrite
  /-- QCTL_WRITE (R536). -/
  | qctlWrite
  /-- CLOCK_CHANGE (R537). -/
  | clockChange
  /-- THERMAL_THROTTLE (R537). -/
  | thermalThrottle
  /-- BSKCMD_SPILL (R520). -/
  | bskcmdSpill
  /-- BSKCMD_RETURN (R520). -/
  | bskcmdReturn
  /-- OWNMOVE (R514). -/
  | ownmove
  /-- TILE_HANDOFF (R514). -/
  | tileHandoff
  /-- REGISTER_WRITE (R525). -/
  | registerWrite
  /-- HOST_MEMORY_ACCESS (R277). -/
  | hostMemoryAccess
  /-- COPY_LINE_ARRIVAL (R318). -/
  | copyLineArrival
  /-- COPY_COMPLETE (R318). -/
  | copyComplete
  /-- SHUTTLE_OP_PERFORM (R322). -/
  | shuttleOpPerform
  /-- MX_START (R340). -/
  | mxStart
  /-- MX_FINISH (R339). -/
  | mxFinish
  /-- MANGLE_OP_PERFORM (R342). -/
  | mangleOpPerform
  /-- TEXTURE_COMPLETE (R305). -/
  | textureComplete
  /-- RAY_RETURN (R413). -/
  | rayReturn
  /-- SHEARS_DELIVERY (R371). -/
  | shearsDelivery
  /-- GEMIT_RETIRE (R379). -/
  | gemitRetire
  /-- WATERMARK_DELIVERY (R516). -/
  | watermarkDelivery
  /-- GRID_COPY_ARRIVAL (R381). -/
  | gridCopyArrival
  /-- COPY_SAMPLING (R391). -/
  | copySampling
  /-- MWAIT_WAKE (R292). -/
  | mwaitWake
  /-- COMMIT_TOKEN_PASS (R463). -/
  | commitTokenPass
  /-- BADPACKET (R530). -/
  | badpacket
  /-- MAILBOX_PACKET_FROM_HOST (R502). -/
  | mailboxPacketFromHost
  /-- EQTAIL_WRITE (R528). -/
  | eqtailWrite
  /-- HOST_BAR_ASSIGNMENT (R527). -/
  | hostBarAssignment
  /-- PAGE_WALK_COMPLETE (R428). -/
  | pageWalkComplete
  deriving DecidableEq, Repr

end Sys2Proof
end

