-- ==== Sys2Proof/WellFormed.lean ====
section
/-! DEFINITION. Sys2Proof/WellFormed.lean: what the encodings of spec/03 and of each instruction's description allow.
`checks i` lists the operand checks of a word; a word that fails one raises RSVD (R53, R99). Checks that need the
launch (R19, R349) are answered by `Chk.inLaunch`. -/

namespace Sys2Proof

/-- Element types of a source operand (R38, R39, R92, R108). -/
inductive ETy where
  | i32 | i64 | i16 | i8 | i4 | f32 | h16 | b16
  deriving DecidableEq, Repr

/-- The 16-bit element type that X chooses: binary16, or BF16 under .bf (R153). -/
def f16 (x : Bool) : ETy := if x then .b16 else .h16

/-- binary32, or binary16 under .f16 (R125, R162, R205). -/
def f32h16 (x : Bool) : ETy := if x then .h16 else .f32

/-- A pair when `x`, else a 32-bit integer. -/
def i6432 (x : Bool) : ETy := if x then .i64 else .i32

/-- ESEL codes a type accepts (R38, R39). -/
def eselOk (t : ETy) (e : BitVec 4) : Bool :=
  match t with
  | .i32 | .f32 => e == 0 || e == 3 || e == 8
  | .i16 | .h16 | .b16 => e.toNat < 4
  | .i8 => e == 0 || (4 ≤ e.toNat && e.toNat ≤ 8)
  | .i4 => e.toNat ≤ 8
  | .i64 => e == 0

/-- Integer types to which the inline constants 232 to 239 are not delivered (R108). -/
def ETy.lowConstOnly (t : ETy) : Bool :=
  match t with
  | .i64 | .i16 | .i8 | .i4 => true
  | _ => false

/-- A selector of the special-register range (R23). -/
def isSr (sel : BitVec 8) : Bool := 192 ≤ sel.toNat && sel.toNat < 224

/-- A source selector with its element select (R20, R23, R37 to R39, R108). -/
def srcOk (t : ETy) (sel : BitVec 8) (e : BitVec 4) : Bool :=
  let n := sel.toNat
  if n < 192 then eselOk t e && (t != .i64 || n % 2 == 0)
  else if n < 214 then eselOk t e && t != .i64
  else if 224 ≤ n && n < 240 then e == 0 && (n < 232 || !t.lowConstOnly)
  else false

/-- An FI immediate for a type (R92). -/
def immOk (t : ETy) (imm : BitVec 24) : Bool :=
  match t with
  | .i32 | .i64 | .f32 => true
  | .i16 | .h16 | .b16 => imm.toNat < 0x10000
  | .i8 => imm.toNat < 0x100
  | .i4 => imm.toNat < 0x10

/-- The registers an access of 2^SZ bytes takes (R94, R135). -/
def szRegs (sz : BitVec 3) : Nat := if sz.toNat ≤ 2 then 1 else 2 ^ (sz.toNat - 2)

/-- A SYN-group scope other than 0 and 7 (R278, R288, R290). -/
def scopeOk (s : BitVec 3) : Bool := 1 ≤ s.toNat && s.toNat ≤ 6

/-- MOD[2:0] names a rounding mode (R66). -/
def modeOk (m : BitVec 8) : Bool := m.toNat % 8 ≤ 4

/-- A special register that RDSR reads (R140). -/
def rdsrOk (s : BitVec 8) : Bool :=
  192 ≤ s.toNat && s.toNat ≤ 212 && s != 206 && s != 208 && s != 211

/-- SCOPE of CPY is 2 to 6 (R314). -/
def cpyScopeOk (sub : BitVec 11) : Bool := 2 ≤ sub.toNat / 256 && sub.toNat / 256 ≤ 6

/-- PL of CPY.T is 0 or 2 to 8 (R314). -/
def cpyPlOk (sub : BitVec 11) : Bool :=
  let p := sub.toNat / 4 % 16
  p == 0 || (2 ≤ p && p ≤ 8)

/-- The sub field of OBRES (R322). -/
def obresOk (sub : BitVec 11) : Bool :=
  let fmt := sub.toNat % 8
  let bax := sub.toNat / 8 % 2
  let sc := sub.toNat / 32
  fmt ≤ 4 && sub.toNat / 16 % 2 == 0 &&
    (if fmt ≤ 2 then sc == 0 && bax == 0 else sc != 0 && (fmt == 3 || bax == 0))

/-- Shapes of i8, e4 and e5 (R98). -/
def shape8 (s : BitVec 4) : Bool := s == 0 || s == 1 || s == 2 || s == 5

/-- Shapes of h and bf (R98). -/
def shape16 (s : BitVec 4) : Bool := s == 3 || s == 4 || s == 6

/-- Result registers of SAMP, SAMPL and SAMPD (R301). -/
def txRegs (sub : BitVec 11) : Nat := if sub.getLsbD 9 then 2 else 4

/-- One operand check. -/
inductive Chk where
  /-- a plain condition on the fields (R99) -/
  | must (b : Bool)
  /-- a condition on a selector, or on the number of a barrier or a predicate (R23, R99, R101, R107) -/
  | num (b : Bool)
  /-- a source operand -/
  | src (t : ETy) (sel : BitVec 8) (e : BitVec 4)
  /-- `n` consecutive g (or w) registers from a selector that is a multiple of `al` (R20, R94) -/
  | rng (g w : Bool) (n al : Nat) (sel : BitVec 8)
  /-- a run of `n` predicates from rd (R101, R124) -/
  | pdst (n : Nat) (sel : BitVec 8)
  /-- a predicate operand (R101) -/
  | psrc (sel : BitVec 8)
  /-- an FI immediate -/
  | imm (t : ETy) (v : BitVec 24)
  /-- the FM base (R100, R133) -/
  | base (sel : BitVec 8)
  /-- the value of a store (R135) -/
  | stval (sz : BitVec 3) (sel : BitVec 8)
  /-- a destination present only under a modifier -/
  | optDst (on : Bool) (sel : BitVec 8)
  /-- an accumulator tile (R346, R349) -/
  | tile (n : Nat)
  /-- SREG under SSEL (R97) -/
  | sreg (ssel : BitVec 2) (sel : BitVec 8)
  deriving DecidableEq, Repr

/-- A register range named by a selector (R20, R37, R94). -/
def rngOk (g w : Bool) (n al : Nat) (sel : BitVec 8) : Bool :=
  let s := sel.toNat
  s % al == 0 && ((g && s + n ≤ 128) || (w && 128 ≤ s && s + n ≤ 192))

/-- The check holds of the word alone, in the largest launch. -/
def Chk.ok (c : Chk) : Bool :=
  match c with
  | .must b => b
  | .num b => b
  | .src t sel e => srcOk t sel e
  | .rng g w n al sel => rngOk g w n al sel
  | .pdst n sel => sel.toNat + n ≤ 96
  | .psrc sel => sel.toNat ≤ 96
  | .imm t v => immOk t v
  | .base sel => sel == 255 || rngOk true true 2 2 sel
  | .stval sz sel =>
      if sz.toNat ≤ 2 then srcOk .i32 sel 0 else rngOk true true (szRegs sz) (szRegs sz) sel
  | .optDst on sel => if on then rngOk true true 1 1 sel else sel == 0
  | .tile n => n < 16
  | .sreg ssel sel => if ssel == 2 then sel == 0 else sel.toNat < 128

/-- A selector's g registers lie within an allocation of `regs` (R19). -/
def gIn (regs n : Nat) (sel : BitVec 8) : Bool := 128 ≤ sel.toNat || sel.toNat + n ≤ regs

/-- The check holds in a launch of `regs` g registers and `acct` tiles (R19, R346, R349). -/
def Chk.inLaunch (regs acct : Nat) (c : Chk) : Bool :=
  match c with
  | .must _ | .num _ | .pdst _ _ | .psrc _ | .imm _ _ => true
  | .src t sel _ => gIn regs (if t = .i64 then 2 else 1) sel
  | .rng _ _ n _ sel => gIn regs n sel
  | .base sel => gIn regs 2 sel
  | .stval sz sel => gIn regs (szRegs sz) sel
  | .optDst on sel => !on || gIn regs 1 sel
  | .tile n => n < acct
  | .sreg ssel sel => ssel == 2 || gIn regs 1 sel

/-- The operand signature of every word with operand fields (the format tables of spec/03 and each instruction's
encoding paragraph). The bare names are checked from their word (`rawChecks` of Decode.lean). -/
def checks (i : Instr) : List Chk :=
  match i with
  | .iadd o => [.rng true true 1 1 o.rd, .src .i32 o.ra o.ea, .src .i32 o.rb o.eb, .must (o.rc = 0), .must (o.ec = 0)]
  | .iaddImm o => [.rng true true 1 1 o.rd, .src .i32 o.ra o.ea, .imm .i32 o.imm]
  | .isub o => [.rng true true 1 1 o.rd, .src .i32 o.ra o.ea, .src .i32 o.rb o.eb, .must (o.rc = 0), .must (o.ec = 0)]
  | .isubImm o => [.rng true true 1 1 o.rd, .src .i32 o.ra o.ea, .imm .i32 o.imm]
  | .imul o => [.rng true true 1 1 o.rd, .src .i32 o.ra o.ea, .src .i32 o.rb o.eb, .must (o.rc = 0), .must (o.ec = 0)]
  | .imulImm o => [.rng true true 1 1 o.rd, .src .i32 o.ra o.ea, .imm .i32 o.imm]
  | .imulh o => [.rng true true 1 1 o.rd, .src .i32 o.ra o.ea, .src .i32 o.rb o.eb, .must (o.rc = 0), .must (o.ec = 0)]
  | .imulhImm o => [.rng true true 1 1 o.rd, .src .i32 o.ra o.ea, .imm .i32 o.imm]
  | .imad o => [.rng true true 1 1 o.rd, .src .i32 o.ra o.ea, .src .i32 o.rb o.eb, .src .i32 o.rc o.ec]
  | .idiv o => [.rng true true 1 1 o.rd, .src .i32 o.ra o.ea, .src .i32 o.rb o.eb, .must (o.rc = 0), .must (o.ec = 0)]
  | .idivImm o => [.rng true true 1 1 o.rd, .src .i32 o.ra o.ea, .imm .i32 o.imm]
  | .irem o => [.rng true true 1 1 o.rd, .src .i32 o.ra o.ea, .src .i32 o.rb o.eb, .must (o.rc = 0), .must (o.ec = 0)]
  | .iremImm o => [.rng true true 1 1 o.rd, .src .i32 o.ra o.ea, .imm .i32 o.imm]
  | .imin o => [.rng true true 1 1 o.rd, .src .i32 o.ra o.ea, .src .i32 o.rb o.eb, .must (o.rc = 0), .must (o.ec = 0)]
  | .iminImm o => [.rng true true 1 1 o.rd, .src .i32 o.ra o.ea, .imm .i32 o.imm]
  | .imax o => [.rng true true 1 1 o.rd, .src .i32 o.ra o.ea, .src .i32 o.rb o.eb, .must (o.rc = 0), .must (o.ec = 0)]
  | .imaxImm o => [.rng true true 1 1 o.rd, .src .i32 o.ra o.ea, .imm .i32 o.imm]
  | .iabs o => [.rng true true 1 1 o.rd, .src .i32 o.ra o.ea, .must (o.rb = 0), .must (o.eb = 0), .must (o.rc = 0), .must (o.ec = 0)]
  | .ineg o => [.rng true true 1 1 o.rd, .src .i32 o.ra o.ea, .must (o.rb = 0), .must (o.eb = 0), .must (o.rc = 0), .must (o.ec = 0)]
  | .and o => [.rng true true 1 1 o.rd, .src .i32 o.ra o.ea, .src .i32 o.rb o.eb, .must (o.rc = 0), .must (o.ec = 0), .must (!o.x)]
  | .andImm o => [.rng true true 1 1 o.rd, .src .i32 o.ra o.ea, .imm .i32 o.imm, .must (!o.x)]
  | .or o => [.rng true true 1 1 o.rd, .src .i32 o.ra o.ea, .src .i32 o.rb o.eb, .must (o.rc = 0), .must (o.ec = 0), .must (!o.x)]
  | .orImm o => [.rng true true 1 1 o.rd, .src .i32 o.ra o.ea, .imm .i32 o.imm, .must (!o.x)]
  | .xor o => [.rng true true 1 1 o.rd, .src .i32 o.ra o.ea, .src .i32 o.rb o.eb, .must (o.rc = 0), .must (o.ec = 0), .must (!o.x)]
  | .xorImm o => [.rng true true 1 1 o.rd, .src .i32 o.ra o.ea, .imm .i32 o.imm, .must (!o.x)]
  | .not o => [.rng true true 1 1 o.rd, .src .i32 o.ra o.ea, .must (o.rb = 0), .must (o.eb = 0), .must (o.rc = 0), .must (o.ec = 0), .must (!o.x)]
  | .mov o => [.rng true true 1 1 o.rd, .src .i32 o.ra o.ea, .must (o.rb = 0), .must (o.eb = 0), .must (o.rc = 0), .must (o.ec = 0), .must (!o.x)]
  | .movImm o => [.rng true true 1 1 o.rd, .must (o.ra = 0), .must (o.ea = 0), .imm .i32 o.imm, .must (!o.x)]
  | .iadd64 o => [.rng true true 2 2 o.rd, .src .i64 o.ra o.ea, .src .i64 o.rb o.eb, .must (o.rc = 0), .must (o.ec = 0)]
  | .iadd64Imm o => [.rng true true 2 2 o.rd, .src .i64 o.ra o.ea, .imm .i64 o.imm]
  | .isub64 o => [.rng true true 2 2 o.rd, .src .i64 o.ra o.ea, .src .i64 o.rb o.eb, .must (o.rc = 0), .must (o.ec = 0)]
  | .isub64Imm o => [.rng true true 2 2 o.rd, .src .i64 o.ra o.ea, .imm .i64 o.imm]
  | .imul64 o => [.rng true true 2 2 o.rd, .src .i64 o.ra o.ea, .src .i64 o.rb o.eb, .must (o.rc = 0), .must (o.ec = 0), .must (!o.x)]
  | .imul64Imm o => [.rng true true 2 2 o.rd, .src .i64 o.ra o.ea, .imm .i64 o.imm, .must (!o.x)]
  | .imad64 o => [.rng true true 2 2 o.rd, .src .i64 o.ra o.ea, .src .i64 o.rb o.eb, .src .i64 o.rc o.ec, .must (!o.x)]
  | .movk o => [.rng true true 1 1 o.rd, .must (o.sub = 0)]
  | .movk64 o => [.rng true true 2 2 o.rd, .must (o.sub = 1)]
  | .shl o => [.rng true true 1 1 o.rd, .src .i32 o.ra o.ea, .src .i32 o.rb o.eb, .must (o.rc = 0), .must (o.ec = 0), .must (!o.x)]
  | .shlImm o => [.rng true true 1 1 o.rd, .src .i32 o.ra o.ea, .imm .i32 o.imm, .must (!o.x)]
  | .shr o => [.rng true true 1 1 o.rd, .src .i32 o.ra o.ea, .src .i32 o.rb o.eb, .must (o.rc = 0), .must (o.ec = 0)]
  | .shrImm o => [.rng true true 1 1 o.rd, .src .i32 o.ra o.ea, .imm .i32 o.imm]
  | .rol o => [.rng true true 1 1 o.rd, .src .i32 o.ra o.ea, .src .i32 o.rb o.eb, .must (o.rc = 0), .must (o.ec = 0), .must (!o.x)]
  | .rolImm o => [.rng true true 1 1 o.rd, .src .i32 o.ra o.ea, .imm .i32 o.imm, .must (!o.x)]
  | .bfe o => [.rng true true 1 1 o.rd, .src .i32 o.ra o.ea, .src .i32 o.rb o.eb, .must (o.rc = 0), .must (o.ec = 0)]
  | .bfeImm o => [.rng true true 1 1 o.rd, .src .i32 o.ra o.ea, .imm .i32 o.imm]
  | .bfi o => [.rng true true 1 1 o.rd, .src .i32 o.ra o.ea, .src .i32 o.rb o.eb, .src .i32 o.rc o.ec, .must (!o.x)]
  | .popc o => [.rng true true 1 1 o.rd, .src .i32 o.ra o.ea, .must (o.rb = 0), .must (o.eb = 0), .must (o.rc = 0), .must (o.ec = 0), .must (!o.x)]
  | .clz o => [.rng true true 1 1 o.rd, .src .i32 o.ra o.ea, .must (o.rb = 0), .must (o.eb = 0), .must (o.rc = 0), .must (o.ec = 0)]
  | .brev o => [.rng true true 1 1 o.rd, .src .i32 o.ra o.ea, .must (o.rb = 0), .must (o.eb = 0), .must (o.rc = 0), .must (o.ec = 0), .must (!o.x)]
  | .shf o => [.rng true true 1 1 o.rd, .src .i32 o.ra o.ea, .src .i32 o.rb o.eb, .src .i32 o.rc o.ec, .must (!o.x)]
  | .padd8 o => [.rng true true 1 1 o.rd, .src .i8 o.ra o.ea, .src .i8 o.rb o.eb, .must (o.rc &&& 0xFC = 0), .must (o.ec = 0), .must (o.x || o.rc &&& 2 = 0)]
  | .padd8Imm o => [.rng true true 1 1 o.rd, .src .i8 o.ra o.ea, .imm .i8 o.imm]
  | .padd16 o => [.rng true true 1 1 o.rd, .src .i16 o.ra o.ea, .src .i16 o.rb o.eb, .must (o.rc &&& 0xFC = 0), .must (o.ec = 0), .must (o.x || o.rc &&& 2 = 0)]
  | .padd16Imm o => [.rng true true 1 1 o.rd, .src .i16 o.ra o.ea, .imm .i16 o.imm]
  | .pdot4 o => [.rng true true 1 1 o.rd, .src .i8 o.ra o.ea, .src .i8 o.rb o.eb, .src .i32 o.rc o.ec]
  | .pdot8 o => [.rng true true 1 1 o.rd, .src .i4 o.ra o.ea, .src .i4 o.rb o.eb, .src .i32 o.rc o.ec]
  | .bpx o => [.rng true true 1 1 o.rd, .src .i32 o.ra o.ea, .must (o.rb = 0), .must (o.eb = 0), .must (o.rc = 0), .must (o.ec = 0), .must (!o.x)]
  | .bpi o => [.rng true true 1 1 o.rd, .src .i32 o.ra o.ea, .must (o.rb = 0), .must (o.eb = 0), .must (o.rc = 0), .must (o.ec = 0), .must (!o.x)]
  | .bmsk o => [.rng true true 1 1 o.rd, .src .i32 o.ra o.ea, .src .i32 o.rb o.eb, .must (o.rc = 0), .must (o.ec = 0), .must (!o.x)]
  | .bmskImm o => [.rng true true 1 1 o.rd, .src .i32 o.ra o.ea, .imm .i32 o.imm, .must (!o.x)]
  | .fadd o => [.rng true true 1 1 o.rd, .src .f32 o.ra o.ea, .src .f32 o.rb o.eb, .must (o.rc &&& 0xF8 = 0), .must (o.ec = 0), .must (modeOk o.rc)]
  | .faddImm o => [.rng true true 1 1 o.rd, .src .f32 o.ra o.ea, .imm .f32 o.imm]
  | .fsub o => [.rng true true 1 1 o.rd, .src .f32 o.ra o.ea, .src .f32 o.rb o.eb, .must (o.rc &&& 0xF8 = 0), .must (o.ec = 0), .must (modeOk o.rc)]
  | .fsubImm o => [.rng true true 1 1 o.rd, .src .f32 o.ra o.ea, .imm .f32 o.imm]
  | .fmul o => [.rng true true 1 1 o.rd, .src .f32 o.ra o.ea, .src .f32 o.rb o.eb, .must (o.rc &&& 0xF8 = 0), .must (o.ec = 0), .must (modeOk o.rc)]
  | .fmulImm o => [.rng true true 1 1 o.rd, .src .f32 o.ra o.ea, .imm .f32 o.imm]
  | .ffma o => [.rng true true 1 1 o.rd, .src .f32 o.ra o.ea, .src .f32 o.rb o.eb, .src .f32 o.rc o.ec]
  | .ffms o => [.rng true true 1 1 o.rd, .src .f32 o.ra o.ea, .src .f32 o.rb o.eb, .src .f32 o.rc o.ec]
  | .fmin o => [.rng true true 1 1 o.rd, .src .f32 o.ra o.ea, .src .f32 o.rb o.eb, .must (o.rc &&& 0xFF = 0), .must (o.ec = 0), .must (!o.x)]
  | .fminImm o => [.rng true true 1 1 o.rd, .src .f32 o.ra o.ea, .imm .f32 o.imm, .must (!o.x)]
  | .fmax o => [.rng true true 1 1 o.rd, .src .f32 o.ra o.ea, .src .f32 o.rb o.eb, .must (o.rc &&& 0xFF = 0), .must (o.ec = 0), .must (!o.x)]
  | .fmaxImm o => [.rng true true 1 1 o.rd, .src .f32 o.ra o.ea, .imm .f32 o.imm, .must (!o.x)]
  | .fabs o => [.rng true true 1 1 o.rd, .src .f32 o.ra o.ea, .must (o.rb = 0), .must (o.eb = 0), .must (o.rc = 0), .must (o.ec = 0), .must (!o.x)]
  | .fneg o => [.rng true true 1 1 o.rd, .src .f32 o.ra o.ea, .must (o.rb = 0), .must (o.eb = 0), .must (o.rc = 0), .must (o.ec = 0), .must (!o.x)]
  | .fcpys o => [.rng true true 1 1 o.rd, .src .f32 o.ra o.ea, .src .f32 o.rb o.eb, .must (o.rc &&& 0xFF = 0), .must (o.ec = 0), .must (!o.x)]
  | .fcpysImm o => [.rng true true 1 1 o.rd, .src .f32 o.ra o.ea, .imm .f32 o.imm, .must (!o.x)]
  | .fdiv o => [.rng true true 1 1 o.rd, .src .f32 o.ra o.ea, .src .f32 o.rb o.eb, .must (o.rc &&& 0xF8 = 0), .must (o.ec = 0), .must (modeOk o.rc)]
  | .fdivImm o => [.rng true true 1 1 o.rd, .src .f32 o.ra o.ea, .imm .f32 o.imm]
  | .fsqrt o => [.rng true true 1 1 o.rd, .src .f32 o.ra o.ea, .must (o.rb = 0), .must (o.eb = 0), .must (o.rc &&& 0xF8 = 0), .must (o.ec = 0), .must (modeOk o.rc), .must (!o.x)]
  | .frnd o => [.rng true true 1 1 o.rd, .src .f32 o.ra o.ea, .must (o.rb = 0), .must (o.eb = 0), .must (o.rc &&& 0xF8 = 0), .must (o.ec = 0), .must (modeOk o.rc), .must (!o.x)]
  | .ffrac o => [.rng true true 1 1 o.rd, .src .f32 o.ra o.ea, .must (o.rb = 0), .must (o.eb = 0), .must (o.rc = 0), .must (o.ec = 0), .must (!o.x)]
  | .fscale o => [.rng true true 1 1 o.rd, .src .f32 o.ra o.ea, .src .i32 o.rb o.eb, .must (o.rc &&& 0xF8 = 0), .must (o.ec = 0), .must (modeOk o.rc)]
  | .fscaleImm o => [.rng true true 1 1 o.rd, .src .f32 o.ra o.ea, .imm .i32 o.imm]
  | .fclamp o => [.rng true true 1 1 o.rd, .src .f32 o.ra o.ea, .src .f32 o.rb o.eb, .src .f32 o.rc o.ec, .must (!o.x)]
  | .fsat o => [.rng true true 1 1 o.rd, .src .f32 o.ra o.ea, .must (o.rb = 0), .must (o.eb = 0), .must (o.rc = 0), .must (o.ec = 0), .must (!o.x)]
  | .hadd o => [.rng true true 1 1 o.rd, .src (f16 o.x) o.ra o.ea, .src (f16 o.x) o.rb o.eb, .must (o.rc &&& 0xF8 = 0), .must (o.ec = 0), .must (modeOk o.rc)]
  | .haddImm o => [.rng true true 1 1 o.rd, .src (f16 o.x) o.ra o.ea, .imm (f16 o.x) o.imm]
  | .hsub o => [.rng true true 1 1 o.rd, .src (f16 o.x) o.ra o.ea, .src (f16 o.x) o.rb o.eb, .must (o.rc &&& 0xF8 = 0), .must (o.ec = 0), .must (modeOk o.rc)]
  | .hsubImm o => [.rng true true 1 1 o.rd, .src (f16 o.x) o.ra o.ea, .imm (f16 o.x) o.imm]
  | .hmul o => [.rng true true 1 1 o.rd, .src (f16 o.x) o.ra o.ea, .src (f16 o.x) o.rb o.eb, .must (o.rc &&& 0xF8 = 0), .must (o.ec = 0), .must (modeOk o.rc)]
  | .hmulImm o => [.rng true true 1 1 o.rd, .src (f16 o.x) o.ra o.ea, .imm (f16 o.x) o.imm]
  | .hfma o => [.rng true true 1 1 o.rd, .src (f16 o.x) o.ra o.ea, .src (f16 o.x) o.rb o.eb, .src (f16 o.x) o.rc o.ec]
  | .hfms o => [.rng true true 1 1 o.rd, .src (f16 o.x) o.ra o.ea, .src (f16 o.x) o.rb o.eb, .src (f16 o.x) o.rc o.ec]
  | .hmin o => [.rng true true 1 1 o.rd, .src (f16 o.x) o.ra o.ea, .src (f16 o.x) o.rb o.eb, .must (o.rc = 0), .must (o.ec = 0)]
  | .hminImm o => [.rng true true 1 1 o.rd, .src (f16 o.x) o.ra o.ea, .imm (f16 o.x) o.imm]
  | .hmax o => [.rng true true 1 1 o.rd, .src (f16 o.x) o.ra o.ea, .src (f16 o.x) o.rb o.eb, .must (o.rc = 0), .must (o.ec = 0)]
  | .hmaxImm o => [.rng true true 1 1 o.rd, .src (f16 o.x) o.ra o.ea, .imm (f16 o.x) o.imm]
  | .habs o => [.rng true true 1 1 o.rd, .src (f16 o.x) o.ra o.ea, .must (o.rb = 0), .must (o.eb = 0), .must (o.rc = 0), .must (o.ec = 0)]
  | .hneg o => [.rng true true 1 1 o.rd, .src (f16 o.x) o.ra o.ea, .must (o.rb = 0), .must (o.eb = 0), .must (o.rc = 0), .must (o.ec = 0)]
  | .hcpys o => [.rng true true 1 1 o.rd, .src (f16 o.x) o.ra o.ea, .src (f16 o.x) o.rb o.eb, .must (o.rc = 0), .must (o.ec = 0)]
  | .hcpysImm o => [.rng true true 1 1 o.rd, .src (f16 o.x) o.ra o.ea, .imm (f16 o.x) o.imm]
  | .hdot2 o => [.rng true true 1 1 o.rd, .src (f16 o.x) o.ra o.ea, .src (f16 o.x) o.rb o.eb, .src .f32 o.rc o.ec]
  | .hrnd o => [.rng true true 1 1 o.rd, .src (f16 o.x) o.ra o.ea, .must (o.rb = 0), .must (o.eb = 0), .must (o.rc &&& 0xF8 = 0), .must (o.ec = 0), .must (modeOk o.rc)]
  | .hscale o => [.rng true true 1 1 o.rd, .src (f16 o.x) o.ra o.ea, .src .i16 o.rb o.eb, .must (o.rc &&& 0xF8 = 0), .must (o.ec = 0), .must (modeOk o.rc)]
  | .hscaleImm o => [.rng true true 1 1 o.rd, .src (f16 o.x) o.ra o.ea, .imm .i16 o.imm]
  | .hclamp o => [.rng true true 1 1 o.rd, .src (f16 o.x) o.ra o.ea, .src (f16 o.x) o.rb o.eb, .src (f16 o.x) o.rc o.ec]
  | .f2f o => [.rng true true 1 1 o.rd, .src .f32 o.ra o.ea, .src .f32 o.rb o.eb, .must (o.rc &&& 0xF0 = 0), .must (o.ec = 0), .must (modeOk o.rc)]
  | .f2i o => [.rng true true 1 1 o.rd, .src .f32 o.ra o.ea, .must (o.rb = 0), .must (o.eb = 0), .must (o.rc &&& 0xE0 = 0), .must (o.ec = 0), .must (modeOk o.rc), .must (o.rc &&& 0x18 ≠ 0x18)]
  | .i2f o => [.rng true true 1 1 o.rd, .src (i6432 (o.rc.getLsbD 3)) o.ra o.ea, .must (o.rb = 0), .must (o.eb = 0), .must (o.rc &&& 0xF0 = 0), .must (o.ec = 0), .must (modeOk o.rc)]
  | .f2f8 o => [.rng true true 1 1 o.rd, .src .f32 o.ra o.ea, .src .f32 o.rb o.eb, .must (o.rc &&& 0xE0 = 0), .must (o.ec = 0), .must (modeOk o.rc)]
  | .f8f o => [.rng true true 1 1 o.rd, .src .i8 o.ra o.ea, .must (o.rb = 0), .must (o.eb = 0), .must (o.rc &&& 0xF7 = 0), .must (o.ec = 0), .must (!o.x)]
  | .h2f o => [.rng true true 1 1 o.rd, .src (f16 o.x) o.ra o.ea, .must (o.rb = 0), .must (o.eb = 0), .must (o.rc = 0), .must (o.ec = 0)]
  | .bscale o => [.rng true true 1 1 o.rd, .src .f32 o.ra o.ea, .src .i32 o.rb o.eb, .must (o.rc = 0), .must (o.ec = 0), .must (!o.x)]
  | .qnt8 o => [.rng true true 1 1 o.rd, .src .f32 o.ra o.ea, .src .i32 o.rb o.eb, .must (o.rc &&& 0xF8 = 0), .must (o.ec = 0), .must (modeOk o.rc), .must (!o.x)]
  | .qnt8Err o => [.rng true true 1 1 o.rd, .src .f32 o.ra o.ea, .src .i32 o.rb o.eb, .must (o.rc &&& 0xF7 = 0), .must (o.ec = 0), .must (!o.x), .must (o.rc = 8)]
  | .dq8 o => [.rng true true 1 1 o.rd, .src .i8 o.ra o.ea, .src .i32 o.rb o.eb, .must (o.rc &&& 0xF0 = 0), .must (o.ec = 0), .must (!o.x), .must (o.rc ≠ 1 ∧ o.rc.toNat < 8)]
  | .fxpn o => [.rng true true 1 1 o.rd, .src .f32 o.ra o.ea, .must (o.rb = 0), .must (o.eb = 0), .must (o.rc = 0), .must (o.ec = 0), .must (!o.x)]
  | .fmnt o => [.rng true true 1 1 o.rd, .src .f32 o.ra o.ea, .must (o.rb = 0), .must (o.eb = 0), .must (o.rc = 0), .must (o.ec = 0), .must (!o.x)]
  | .exp2 o => [.rng true true 1 1 o.rd, .src (f32h16 o.x) o.ra o.ea, .must (o.rb = 0), .must (o.eb = 0), .must (o.rc = 0), .must (o.ec = 0)]
  | .log2 o => [.rng true true 1 1 o.rd, .src (f32h16 o.x) o.ra o.ea, .must (o.rb = 0), .must (o.eb = 0), .must (o.rc = 0), .must (o.ec = 0)]
  | .rcp o => [.rng true true 1 1 o.rd, .src (f32h16 o.x) o.ra o.ea, .must (o.rb = 0), .must (o.eb = 0), .must (o.rc = 0), .must (o.ec = 0)]
  | .rsqrt o => [.rng true true 1 1 o.rd, .src (f32h16 o.x) o.ra o.ea, .must (o.rb = 0), .must (o.eb = 0), .must (o.rc = 0), .must (o.ec = 0)]
  | .sqrt o => [.rng true true 1 1 o.rd, .src (f32h16 o.x) o.ra o.ea, .must (o.rb = 0), .must (o.eb = 0), .must (o.rc = 0), .must (o.ec = 0)]
  | .sin o => [.rng true true 1 1 o.rd, .src (f32h16 o.x) o.ra o.ea, .must (o.rb = 0), .must (o.eb = 0), .must (o.rc = 0), .must (o.ec = 0)]
  | .cos o => [.rng true true 1 1 o.rd, .src (f32h16 o.x) o.ra o.ea, .must (o.rb = 0), .must (o.eb = 0), .must (o.rc = 0), .must (o.ec = 0)]
  | .filt o => [.rng true true 1 1 o.rd, .rng true false 4 1 o.ra, .must (o.ea = 0), .src .f32 o.rb o.eb, .src .f32 o.rc o.ec]
  | .filtl o => [.rng true true 1 1 o.rd, .src .f32 o.ra o.ea, .src .f32 o.rb o.eb, .src .f32 o.rc o.ec]
  | .alrnd o => [.rng true true 1 1 o.rd, .src .i32 o.ra o.ea, .src .f32 o.rb o.eb, .must (o.rc &&& 0xF7 = 0), .must (o.ec = 0), .must (!o.x)]
  | .icmp o => [.pdst 3 o.rd, .src .i32 o.ra o.ea, .src .i32 o.rb o.eb, .must (o.rc = 0), .must (o.ec = 0)]
  | .icmpImm o => [.pdst 3 o.rd, .src .i32 o.ra o.ea, .imm .i32 o.imm]
  | .icmp64 o => [.pdst 3 o.rd, .src .i64 o.ra o.ea, .src .i64 o.rb o.eb, .must (o.rc = 0), .must (o.ec = 0)]
  | .icmp64Imm o => [.pdst 3 o.rd, .src .i64 o.ra o.ea, .imm .i64 o.imm]
  | .fcmp o => [.pdst 4 o.rd, .src .f32 o.ra o.ea, .src .f32 o.rb o.eb, .must (o.rc = 0), .must (o.ec = 0)]
  | .fcmpImm o => [.pdst 4 o.rd, .src .f32 o.ra o.ea, .imm .f32 o.imm]
  | .hcmp o => [.pdst 8 o.rd, .src (f16 o.x) o.ra o.ea, .src (f16 o.x) o.rb o.eb, .must (o.rc = 0), .must (o.ec = 0)]
  | .hcmpImm o => [.pdst 8 o.rd, .src (f16 o.x) o.ra o.ea, .imm (f16 o.x) o.imm]
  | .pand o => [.pdst 1 o.rd, .psrc o.ra, .must (o.ea = 0), .psrc o.rb, .must (o.eb = 0), .must (o.rc = 0), .must (o.ec = 0), .must (!o.x)]
  | .por o => [.pdst 1 o.rd, .psrc o.ra, .must (o.ea = 0), .psrc o.rb, .must (o.eb = 0), .must (o.rc = 0), .must (o.ec = 0), .must (!o.x)]
  | .pxor o => [.pdst 1 o.rd, .psrc o.ra, .must (o.ea = 0), .psrc o.rb, .must (o.eb = 0), .must (o.rc = 0), .must (o.ec = 0), .must (!o.x)]
  | .pnot o => [.pdst 1 o.rd, .psrc o.ra, .must (o.ea = 0), .must (o.rb = 0), .must (o.eb = 0), .must (o.rc = 0), .must (o.ec = 0), .must (!o.x)]
  | .sel o => [.rng true true 1 1 o.rd, .src .i32 o.ra o.ea, .src .i32 o.rb o.eb, .psrc o.rc, .must (o.ec = 0), .must (!o.x)]
  | .selImm o => [.rng true true 1 1 o.rd, .src .i32 o.ra o.ea, .imm .i32 o.imm, .must (!o.x)]
  | .sel64 o => [.rng true true 2 2 o.rd, .src .i64 o.ra o.ea, .src .i64 o.rb o.eb, .psrc o.rc, .must (o.ec = 0), .must (!o.x)]
  | .p2g o => [.rng true true 1 1 o.rd, .must (o.ra = 0), .must (o.ea = 0), .must (o.rb = 0), .must (o.eb = 0), .must (o.rc &&& 0xFC = 0), .must (o.ec = 0), .must (!o.x), .must (o.rc ≠ 3)]
  | .g2p o => [.must (o.rd = 0), .src .i32 o.ra o.ea, .must (o.rb = 0), .must (o.eb = 0), .must (o.rc &&& 0xFC = 0), .must (o.ec = 0), .must (!o.x), .must (o.rc ≠ 3)]
  | .fclass o => [.pdst 1 o.rd, .src (f32h16 o.x) o.ra o.ea, .src .i32 o.rb o.eb, .must (o.rc = 0), .must (o.ec = 0)]
  | .fclassImm o => [.pdst 1 o.rd, .src (f32h16 o.x) o.ra o.ea, .imm .i32 o.imm]
  | .btest o => [.pdst 1 o.rd, .src .i32 o.ra o.ea, .src .i32 o.rb o.eb, .must (o.rc = 0), .must (o.ec = 0), .must (!o.x)]
  | .btestImm o => [.pdst 1 o.rd, .src .i32 o.ra o.ea, .imm .i32 o.imm, .must (!o.x)]
  | .bra o => [.must (o.ra = 0), .must (o.kind.toNat < 4)]
  | .call o => [.must (o.ra = 0), .must (o.kind.toNat < 4)]
  | .calli o => [.must (o.off = 0), .rng true true 2 2 o.ra, .must (o.kind = 0)]
  | .jmpi o => [.must (o.off = 0), .rng true true 2 2 o.ra, .must (o.kind = 0)]
  | .ld o => [.must (o.sz.toNat < 6), .rng true true (szRegs o.sz) (szRegs o.sz) o.rd, .base o.base, .must (o.cc ≠ 3), .must (o.scope = 0), .must (!o.sx || o.sz.toNat < 2)]
  | .st o => [.must (o.sz.toNat < 6), .stval o.sz o.rd, .base o.base, .must (o.cc ≠ 3), .must (o.scope = 0), .must (!o.sx)]
  | .ldw o => [.must (o.sz.toNat < 6), .rng false true (szRegs o.sz) (szRegs o.sz) o.rd, .base o.base, .must (o.cc ≠ 3), .must (o.scope = 0), .must (!o.sx || o.sz.toNat < 2)]
  | .pref o => [.must (o.rd = 0), .must (o.sz = 0), .base o.base, .must (o.cc ≠ 3), .must (o.scope = 0), .must (!o.sx)]
  | .wback o => [.must (o.rd = 0), .must (o.sz = 0), .base o.base, .must (o.cc = 0), .must (o.scope = 0 ∨ o.scope = 4 ∨ o.scope = 5 ∨ o.scope = 6), .must (!o.sx)]
  | .atomAdd o => [.must (o.sz = 2 ∨ o.sz = 3), .rng true true (szRegs o.sz) (szRegs o.sz) o.rd, .base o.base, .must (scopeOk o.scope), .must (!o.sx)]
  | .atomMin o => [.must (o.sz = 2 ∨ o.sz = 3), .rng true true (szRegs o.sz) (szRegs o.sz) o.rd, .base o.base, .must (scopeOk o.scope), .must (!o.sx)]
  | .atomMax o => [.must (o.sz = 2 ∨ o.sz = 3), .rng true true (szRegs o.sz) (szRegs o.sz) o.rd, .base o.base, .must (scopeOk o.scope), .must (!o.sx)]
  | .atomAnd o => [.must (o.sz = 2 ∨ o.sz = 3), .rng true true (szRegs o.sz) (szRegs o.sz) o.rd, .base o.base, .must (scopeOk o.scope), .must (!o.sx)]
  | .atomOr o => [.must (o.sz = 2 ∨ o.sz = 3), .rng true true (szRegs o.sz) (szRegs o.sz) o.rd, .base o.base, .must (scopeOk o.scope), .must (!o.sx)]
  | .atomXor o => [.must (o.sz = 2 ∨ o.sz = 3), .rng true true (szRegs o.sz) (szRegs o.sz) o.rd, .base o.base, .must (scopeOk o.scope), .must (!o.sx)]
  | .atomExch o => [.must (o.sz = 2 ∨ o.sz = 3), .rng true true (szRegs o.sz) (szRegs o.sz) o.rd, .base o.base, .must (scopeOk o.scope), .must (!o.sx)]
  | .atomFadd o => [.must (o.sz = 1 ∨ o.sz = 2), .rng true true 1 1 o.rd, .base o.base, .must (scopeOk o.scope), .must (!o.sx)]
  | .atomFmin o => [.must (o.sz = 1 ∨ o.sz = 2), .rng true true 1 1 o.rd, .base o.base, .must (scopeOk o.scope), .must (!o.sx)]
  | .atomFmax o => [.must (o.sz = 1 ∨ o.sz = 2), .rng true true 1 1 o.rd, .base o.base, .must (scopeOk o.scope), .must (!o.sx)]
  | .cas o => [.must (o.sz = 2 ∨ o.sz = 3), .rng true true (2 * szRegs o.sz) (2 * szRegs o.sz) o.rd, .base o.base, .must (scopeOk o.scope), .must (!o.sx)]
  | .fence o => [.must (scopeOk o.scope), .must (o.rd = 0), .must (o.base = 0), .must (o.off = 0), .must (o.sz = 0), .must (!o.sx)]
  | .acqRemote o => [.must (o.sz = 2 ∨ o.sz = 3), .rng true true (szRegs o.sz) (szRegs o.sz) o.rd, .base o.base, .must (o.cc = 0), .must (o.scope = 0), .must (!o.sx)]
  | .mwait o => [.must (o.sz = 2 ∨ o.sz = 3), .rng true true (szRegs o.sz) (szRegs o.sz) o.rd, .base o.base, .must (o.cc.toNat < 2), .must (scopeOk o.scope), .must (!o.sx)]
  | .barr o => [.rng true true 1 1 o.rd, .num (o.bar.toNat < 16), .must (o.sub.toNat < 2), .must (o.ra = 0), .must (o.rb = 0), .must (o.h = 0)]
  | .bwait o => [.src .i32 o.rb 0, .num (o.bar.toNat < 16), .must (o.sub = 0), .must (o.rd = 0), .must (o.ra = 0), .must (o.h = 0)]
  | .btxn o => [.optDst (o.sub.getLsbD 0) o.rd, .num (o.bar.toNat < 16), .must (o.sub.toNat < 2), .src .i32 o.rb 0, .must (o.ra = 0), .must (o.h = 0)]
  | .bgenRead o => [.rng true true 1 1 o.rd, .num (o.bar.toNat < 16), .must (o.sub = 0), .must (o.ra = 0), .must (o.rb = 0), .must (o.h = 0)]
  | .bgenInit o => [.src .i32 o.rb 0, .num (o.bar.toNat < 16), .must (o.sub = 1), .must (o.rd = 0), .must (o.ra = 0), .must (o.h = 0)]
  | .qswap o => [.rng true true 1 1 o.rd, .src .i32 o.ra o.ea, .must (o.rb = 0), .must (o.eb = 0), .must (o.rc &&& 0xFC = 0), .must (o.ec = 0), .must (!o.x), .must (o.rc ≠ 3)]
  | .qddx o => [.rng true true 1 1 o.rd, .src (f32h16 o.x) o.ra o.ea, .must (o.rb = 0), .must (o.eb = 0), .must (o.rc &&& 0xFE = 0), .must (o.ec = 0)]
  | .qddy o => [.rng true true 1 1 o.rd, .src (f32h16 o.x) o.ra o.ea, .must (o.rb = 0), .must (o.eb = 0), .must (o.rc &&& 0xFE = 0), .must (o.ec = 0)]
  | .qbcast o => [.rng true true 1 1 o.rd, .src .i32 o.ra o.ea, .must (o.rb = 0), .must (o.eb = 0), .must (o.rc &&& 0xFC = 0), .must (o.ec = 0), .must (!o.x)]
  | .wshfl o => [.rng true true 1 1 o.rd, .src .i32 o.ra o.ea, .src .i32 o.rb o.eb, .must (o.rc &&& 0xE0 = 0), .must (o.ec = 0), .must (!o.x), .must (o.rc.toNat / 4 < 6)]
  | .wvote o => [.pdst 1 o.rd, .psrc o.ra, .must (o.ea = 0), .must (o.rb = 0), .must (o.eb = 0), .must (o.rc &&& 0xFC = 0), .must (o.ec = 0), .must (!o.x), .must (o.rc ≠ 3)]
  | .wballot o => [.rng true true 1 1 o.rd, .psrc o.ra, .must (o.ea = 0), .must (o.rb = 0), .must (o.eb = 0), .must (o.rc = 0), .must (o.ec = 0), .must (!o.x)]
  | .wred o => [.rng true true 1 1 o.rd, .src .i32 o.ra o.ea, .must (o.rb = 0), .must (o.eb = 0), .must (o.rc &&& 0xF8 = 0), .must (o.ec = 0), .must (o.rc.toNat % 8 < 6), .must (!o.x || o.rc.toNat % 8 = 1 || o.rc.toNat % 8 = 2)]
  | .wred64 o => [.rng true true 2 2 o.rd, .src .i64 o.ra o.ea, .must (o.rb = 0), .must (o.eb = 0), .must (o.rc &&& 0xF8 = 0), .must (o.ec = 0), .must (o.rc.toNat % 8 < 6), .must (!o.x || o.rc.toNat % 8 = 1 || o.rc.toNat % 8 = 2)]
  | .wredf o => [.rng true true 1 1 o.rd, .src .f32 o.ra o.ea, .must (o.rb = 0), .must (o.eb = 0), .must (o.rc &&& 0xFC = 0), .must (o.ec = 0), .must (!o.x), .must (o.rc ≠ 3)]
  | .wscan o => [.rng true true 1 1 o.rd, .src .i32 o.ra o.ea, .must (o.rb = 0), .must (o.eb = 0), .must (o.rc &&& 0xF0 = 0), .must (o.ec = 0), .must (o.rc.toNat % 8 < 6), .must (!o.x || o.rc.toNat % 8 = 1 || o.rc.toNat % 8 = 2)]
  | .wscanf o => [.rng true true 1 1 o.rd, .src .f32 o.ra o.ea, .must (o.rb = 0), .must (o.eb = 0), .must (o.rc &&& 0xF4 = 0), .must (o.ec = 0), .must (!o.x), .must (o.rc.toNat % 4 ≠ 3)]
  | .wmatch o => [.rng true true 1 1 o.rd, .src (i6432 o.x) o.ra o.ea, .must (o.rb = 0), .must (o.eb = 0), .must (o.rc = 0), .must (o.ec = 0)]
  | .wfirst o => [.rng true true (if o.x then 2 else 1) (if o.x then 2 else 1) o.rd, .src (i6432 o.x) o.ra o.ea, .must (o.rb = 0), .must (o.eb = 0), .must (o.rc = 0), .must (o.ec = 0)]
  | .wsyncm o => [.must (o.rd = 0), .src .i32 o.ra o.ea, .must (o.rb = 0), .must (o.eb = 0), .must (o.rc = 0), .must (o.ec = 0), .must (!o.x)]
  | .cpyT o => [.must (o.rd = 0), .rng true true 2 2 o.ra, .rng true false 8 2 o.rb, .must (cpyScopeOk o.sub), .must (o.sub &&& 0xC0 ≠ 0xC0), .must (o.sub.getLsbD 0 = false), .must (o.sub &&& 0xC0 = 0x40 ∨ o.h = 0), .must (o.sub.getLsbD 1 || o.bar = 0), .num (o.bar.toNat < 16), .must (cpyPlOk o.sub)]
  | .cpyL o => [.must (o.rd = 0), .rng true true 2 2 o.ra, .rng true false 3 2 o.rb, .must (cpyScopeOk o.sub), .must (o.sub &&& 0xC0 ≠ 0xC0), .must (o.sub.getLsbD 0 = false), .must (o.sub &&& 0xC0 = 0x40 ∨ o.h = 0), .must (o.sub.getLsbD 1 || o.bar = 0), .num (o.bar.toNat < 16), .must (o.sub &&& 0x3C = 0)]
  | .obres o => [.rng true true 1 1 o.rd, .rng true false 2 2 o.rb, .must (obresOk o.sub), .must (o.ra = 0), .must (o.bar = 0)]
  | .obstateRead o => [.rng true true 1 1 o.rd, .must (o.ra = 0), .must (o.rb = 0), .must (o.bar = 0), .must (o.sub = 0)]
  | .obstatePend o => [.rng true true 1 1 o.rd, .must (o.ra = 0), .must (o.rb = 0), .must (o.bar = 0), .must (o.sub = 1)]
  | .obstateRefill o => [.src .i32 o.rb 0, .must (o.rd = 0), .must (o.ra = 0), .must (o.bar = 0), .must (o.sub = 2)]
  | .prset o => [.rng true true 2 2 o.ra, .src .i32 o.rb 0, .num (isSr o.rb = false), .must (o.rd = 0), .must (o.h = 0), .must (o.bar = 0), .must (o.sub = 0)]
  | .prclr o => [.rng true true 2 2 o.ra, .src .i32 o.rb 0, .num (isSr o.rb = false), .must (o.rd = 0), .must (o.h = 0), .must (o.bar = 0), .must (o.sub = 0)]
  | .prtest o => [.pdst 1 o.rd, .rng true true 2 2 o.ra, .must (o.rb = 0), .must (o.h = 0), .must (o.bar = 0), .must (o.sub = 0)]
  | .waitc o => [.must (o.sub.toNat < 0x1C0), .must (o.rd = 0), .must (o.ra = 0), .must (o.rb = 0), .must (o.h = 0), .must (o.bar = 0)]
  | .mxI8 o => [.must (shape8 o.shape), .tile o.tile.toNat, .rng true false 32 1 o.abase, .must (2 ≤ o.pl.toNat ∧ o.pl.toNat ≤ 8), .must (o.ssel ≠ 3), .sreg o.ssel o.sreg, .must (!o.rsv), .must (o.am ≠ 3)]
  | .mxE4 o => [.must (shape8 o.shape), .tile o.tile.toNat, .rng true false 32 1 o.abase, .must (2 ≤ o.pl.toNat ∧ o.pl.toNat ≤ 8), .must (o.ssel ≠ 3), .sreg o.ssel o.sreg, .must (!o.rsv), .must (o.am ≠ 3)]
  | .mxE5 o => [.must (shape8 o.shape), .tile o.tile.toNat, .rng true false 32 1 o.abase, .must (2 ≤ o.pl.toNat ∧ o.pl.toNat ≤ 8), .must (o.ssel ≠ 3), .sreg o.ssel o.sreg, .must (!o.rsv), .must (o.am ≠ 3)]
  | .mxH o => [.must (shape16 o.shape), .tile o.tile.toNat, .rng true false 32 1 o.abase, .must (o.pl = 8), .must (o.ssel ≠ 3), .sreg o.ssel o.sreg, .must (!o.rsv), .must (o.am ≠ 3)]
  | .mxBf o => [.must (shape16 o.shape), .tile o.tile.toNat, .rng true false 32 1 o.abase, .must (o.pl = 8), .must (o.ssel ≠ 3), .sreg o.ssel o.sreg, .must (!o.rsv), .must (o.am ≠ 3)]
  | .accld o => [.rng true true 2 2 o.ra, .src .i32 o.rb 0, .tile (o.sub.toNat % 16), .must (o.sub.toNat < 0x20), .must (o.rd = 0), .must (o.h = 0), .must (o.bar = 0)]
  | .accst o => [.rng true true 2 2 o.ra, .src .i32 o.rb 0, .tile (o.sub.toNat % 16), .must (o.sub.toNat < 0x40), .must (o.rd = 0), .must (o.h = 0), .must (o.bar = 0)]
  | .accstNi8 o => [.rng true true 2 2 o.ra, .rng true false 4 2 o.rb, .tile (o.sub.toNat % 16), .must (o.sub &&& 0x770 = 0x40), .must (o.rd = 0), .must (o.h = 0), .must (o.bar = 0)]
  | .alset o => [.src .i32 o.rb 0, .tile (o.sub.toNat % 16), .must (o.sub.toNat < 0x10), .must (o.rd = 0), .must (o.ra = 0), .must (o.h = 0), .must (o.bar = 0)]
  | .alsetLim o => [.src .i32 o.rb 0, .tile (o.sub.toNat % 16), .must (o.sub &&& 0x7F0 = 0x10), .must (o.rd = 0), .must (o.ra = 0), .must (o.h = 0), .must (o.bar = 0)]
  | .alget o => [.rng true true 1 1 o.rd, .tile (o.sub.toNat % 16), .must (o.sub.toNat < 0x10), .must (o.ra = 0), .must (o.rb = 0), .must (o.h = 0), .must (o.bar = 0)]
  | .diceRun o => [.rng true true 2 2 o.ra, .rng true false 4 4 o.rb, .must (o.rd = 0), .must (o.h = 0), .must (o.bar = 0), .must (o.sub = 0)]
  | .diceBind o => [.src .i32 o.rb 0, .must (o.sub = 1), .must (o.rd = 0), .must (o.ra = 0), .must (o.h = 0), .must (o.bar = 0)]
  | .patchq o => [.rng true true 2 2 o.ra, .src .i32 o.rb 0, .must (o.rd = 0), .must (o.h = 0), .must (o.bar = 0), .must (o.sub = 0)]
  | .gemit o => [.rng true true 2 2 o.ra, .rng true false 2 2 o.rb, .must (o.rd = 0), .must (o.h = 0), .must (o.bar = 0), .must (o.sub = 0)]
  | .samp o => [.rng true true 2 2 o.ra, .rng true false (if o.sub.getLsbD 10 then 3 else 2) 1 o.rb, .rng true false (txRegs o.sub) (txRegs o.sub) o.rd, .num (o.sub.toNat % 128 ≤ 96), .must (o.sub &&& 0x180 = 0), .must (o.h = 0), .must (o.bar = 0)]
  | .sampl o => [.rng true true 2 2 o.ra, .rng true false 3 1 o.rb, .rng true false (txRegs o.sub) (txRegs o.sub) o.rd, .num (o.sub.toNat % 128 ≤ 96), .must (o.sub &&& 0x580 = 0), .must (o.h = 0), .must (o.bar = 0)]
  | .sampd o => [.rng true true 2 2 o.ra, .rng true false 6 1 o.rb, .rng true false (txRegs o.sub) (txRegs o.sub) o.rd, .num (o.sub.toNat % 128 ≤ 96), .must (o.sub &&& 0x580 = 0), .must (o.h = 0), .must (o.bar = 0)]
  | .sampg o => [.rng true true 2 2 o.ra, .rng true false 3 1 o.rb, .rng true false 6 2 o.rd, .num (o.sub.toNat % 128 ≤ 96), .must (o.sub &&& 0x600 = 0), .must (o.h = 0), .must (o.bar = 0)]
  | .resq o => [.rng true true 2 2 o.ra, .rng true false 3 1 o.rb, .rng true false 1 1 o.rd, .num (o.sub.toNat % 128 ≤ 96), .must (o.sub &&& 0x380 = 0), .must (o.h = 0), .must (o.bar = 0)]
  | .trace o => [.rng true true 2 2 o.ra, .rng true false 8 8 o.rd, .rng true false 10 2 o.rb, .must (o.sub.toNat < 8), .must (o.h = 0), .must (o.bar = 0)]
  | .tresume o => [.rng true true 2 2 o.ra, .rng true false 8 8 o.rd, .must (o.rb = 0), .must (o.h = 0), .must (o.bar = 0), .must (o.sub = 0)]
  | .taccept o => [.rng true true 2 2 o.ra, .rng true false 4 4 o.rb, .must (o.rd = 0), .must (o.h = 0), .must (o.bar = 0), .must (o.sub = 0)]
  | .tstateRead o => [.rng true true 2 2 o.ra, .rng true false 8 8 o.rd, .must (o.rb = 0), .must (o.h = 0), .must (o.bar = 0), .must (o.sub = 0)]
  | .tstateEnd o => [.rng true true 2 2 o.ra, .rng true false 8 8 o.rd, .must (o.sub = 1), .must (o.rb = 0), .must (o.h = 0), .must (o.bar = 0)]
  | .rdsr o => [.rng true true 2 2 o.rd, .num (rdsrOk o.ra), .must (o.ea = 0), .must (o.rb = 0), .must (o.eb = 0), .must (o.rc = 0), .must (o.ec = 0), .must (!o.x)]
  | .wrsr o => [.num (o.rd = 209 ∨ o.rd = 210 ∨ o.rd = 211), .must (!o.x || o.rd = 210), .src (i6432 o.x) o.ra o.ea, (if o.x then .rng true true 2 2 o.ra else .must true), .must (o.rb = 0), .must (o.eb = 0), .must (o.rc = 0), .must (o.ec = 0)]
  | .stpred o => [.rng true true 2 2 o.ra, .must (o.rd = 0), .must (o.ea = 0), .must (o.rb = 0), .must (o.eb = 0), .must (o.rc = 0), .must (o.ec = 0), .must (!o.x)]
  | .ldpred o => [.rng true true 2 2 o.ra, .must (o.rd = 0), .must (o.ea = 0), .must (o.rb = 0), .must (o.eb = 0), .must (o.rc = 0), .must (o.ec = 0), .must (!o.x)]
  | .trap o => [.must (o.rd = 0), .must (o.sub = 0)]
  | .bkpt o => [.must (o.rd = 0), .must (o.sub = 0)]
  | .splrd o => [.rng true false 8 8 o.rd, .src .i32 o.ra o.ea, .must (o.rb = 0), .must (o.eb = 0), .must (o.rc = 0), .must (o.ec = 0), .must (!o.x)]
  | .splwr o => [.rng true false 8 8 o.ra, .must (o.rd = 0), .must (o.ea = 0), .must (o.rb = 0), .must (o.eb = 0), .must (o.rc = 0), .must (o.ec = 0), .must (!o.x)]
  | .barsv o => [.rng true true 2 2 o.ra, .must (o.sub.toNat < 2), .must (!o.sub.getLsbD 0 || o.bar = 0), .num (o.bar.toNat < 16), .must (o.rd = 0), .must (o.rb = 0), .must (o.h = 0)]
  | .barld o => [.rng true true 2 2 o.ra, .must (o.sub.toNat < 2), .must (!o.sub.getLsbD 0 || o.bar = 0), .num (o.bar.toNat < 16), .must (o.rd = 0), .must (o.rb = 0), .must (o.h = 0)]
  | .ctxrd o => [.rng true true 1 1 o.rd, .src .i32 o.ra o.ea, .must (o.rb = 0), .must (o.eb = 0), .must (o.rc = 0), .must (o.ec = 0), .must (!o.x)]
  | .ctxwr o => [.must (o.rd = 0), .src .i32 o.ra o.ea, .src .i32 o.rb o.eb, .must (o.rc = 0), .must (o.ec = 0), .must (!o.x)]
  | .mbrecv o => [.rng true false 16 16 o.rd, .must (o.sub.toNat < 2), .must (o.ra = 0), .must (o.rb = 0), .must (o.h = 0), .must (o.bar = 0)]
  | .mbsend o => [.rng true false 16 16 o.rb, .must (o.rd = 0), .must (o.ra = 0), .must (o.h = 0), .must (o.bar = 0), .must (o.sub = 0)]
  | .spawnRange o => [.rng true false 2 2 o.rd, .rng true false 16 16 o.rb, .must (o.ra = 0), .must (o.h = 0), .must (o.bar = 0), .must (o.sub = 0)]
  | .fwd o => [.rng true false 16 16 o.rb, .must (o.rd = 0), .must (o.ra = 0), .must (o.h = 0), .must (o.bar = 0), .must (o.sub = 0)]
  | .dump o => [.rng true true 1 1 o.rd, .rng true true 2 2 o.ra, .src .i32 o.rb 0, .must (o.h = 0), .must (o.bar = 0), .must (o.sub = 0)]
  | .spawnTrim o => [.rng true false 2 2 o.rd, .rng true false 16 16 o.rb, .must (o.ra = 0), .must (o.h = 0), .must (o.bar = 0), .must (o.sub = 0)]
  | .srgen => []
  | .ret => []
  | .rett => []
  | .exit => []
  | .yield => []
  | .syncw => []
  | .elect => []
  | .obrel => []
  | .obstateFull => []
  | .accz => []
  | .diceUnbind => []
  | .patchdq => []
  | .wmarkRel => []
  | .wmarkGlob => []
  | .wmarkDie => []
  | .nop => []
  | .moduleReset => []
  | .fwgo => []
  | .sqtailWrite => []
  | .launch => []
  | .frame => []
  | .endframe => []
  | .teamClaim => []
  | .rangeSteal => []
  | .pick => []
  | .switchMarkerResume => []
  | .trapEntry => []
  | .loadResultReturn => []
  | .storePerformed => []
  | .cacheEviction => []
  | .teamEnd => []
  | .teamFatalEnd => []
  | .tlbsyncWrite => []
  | .tlbSyncComplete => []
  | .fqcmdReplay => []
  | .fqcmdCancel => []
  | .fqcmdAck => []
  | .preqPreempt => []
  | .preqResume => []
  | .teamFlush => []
  | .drainTimeout => []
  | .timeSlice => []
  | .teamSave => []
  | .teamRestore => []
  | .dbgcmdResume => []
  | .dbgcmdStep => []
  | .dbgcmdKill => []
  | .pmTick => []
  | .pmctlWrite => []
  | .qctlWrite => []
  | .clockChange => []
  | .thermalThrottle => []
  | .bskcmdSpill => []
  | .bskcmdReturn => []
  | .ownmove => []
  | .tileHandoff => []
  | .registerWrite => []
  | .hostMemoryAccess => []
  | .copyLineArrival => []
  | .copyComplete => []
  | .shuttleOpPerform => []
  | .mxStart => []
  | .mxFinish => []
  | .mangleOpPerform => []
  | .textureComplete => []
  | .rayReturn => []
  | .shearsDelivery => []
  | .gemitRetire => []
  | .watermarkDelivery => []
  | .gridCopyArrival => []
  | .copySampling => []
  | .mwaitWake => []
  | .commitTokenPass => []
  | .badpacket => []
  | .mailboxPacketFromHost => []
  | .eqtailWrite => []
  | .hostBarAssignment => []
  | .pageWalkComplete => []

/-- A guard that R35 allows. -/
def Guard.ok (g : Guard) : Bool := g.pred.toNat < 96 || (g.pred == 96 && !g.pn)

/-- The operand fields raise no RSVD (R53, R99). -/
def wellFormed (i : Instr) : Bool := (checks i).all Chk.ok

end Sys2Proof
end

