-- ==== Sys2Proof/Decode.lean ====
section
/-! DEFINITION. Sys2Proof/Decode.lean: fields of a word (R34, R90 to R97), the opcode map (R102 to R106), the decoder,
total on any 64 bits, and the encoder. -/

namespace Sys2Proof

/-- Why a word does not decode (R53). -/
inductive DecErr where
  /-- OPC is unassigned -/
  | illop
  /-- a reserved field, guard, selector or element select -/
  | rsvd
  deriving DecidableEq, Repr

/-- Engine class of a word (R28, R105). -/
inductive Cls where
  | alu | ld | st | cp | mx | tx | nd | gm | ctl
  deriving DecidableEq, Repr

/-- CLASS code of a clause header (R28). -/
def Cls.code (c : Cls) : Nat :=
  match c with
  | .alu => 0 | .ld => 1 | .st => 2 | .cp => 3 | .mx => 4 | .tx => 5 | .nd => 6 | .gm => 7 | .ctl => 8

def guardOfWord (w : DWord) : Guard :=
  { sw := w.getLsbD 63, pred := w.extractLsb' 56 7, pn := w.getLsbD 55 }

def opcOfWord (w : DWord) : BitVec 10 := w.extractLsb' 45 10

def f3OfWord (w : DWord) : F3 :=
  { rd := w.extractLsb' 37 8, ra := w.extractLsb' 29 8, ea := w.extractLsb' 25 4, rb := w.extractLsb' 17 8,
    eb := w.extractLsb' 13 4, rc := w.extractLsb' 5 8, ec := w.extractLsb' 1 4, x := w.getLsbD 0 }

def fiOfWord (w : DWord) : FI :=
  { rd := w.extractLsb' 37 8, ra := w.extractLsb' 29 8, ea := w.extractLsb' 25 4, imm := w.extractLsb' 1 24,
    x := w.getLsbD 0 }

def fkOfWord (w : DWord) : FK :=
  { rd := w.extractLsb' 37 8, sub := w.extractLsb' 32 5, imm := w.extractLsb' 0 32 }

def fmOfWord (w : DWord) : FM :=
  { rd := w.extractLsb' 37 8, base := w.extractLsb' 29 8, off := w.extractLsb' 9 20, sz := w.extractLsb' 6 3,
    cc := w.extractLsb' 4 2, scope := w.extractLsb' 1 3, sx := w.getLsbD 0 }

def fbOfWord (w : DWord) : FB :=
  { off := w.extractLsb' 13 32, ra := w.extractLsb' 5 8, kind := w.extractLsb' 0 5 }

def faOfWord (w : DWord) : FA :=
  { rd := w.extractLsb' 37 8, ra := w.extractLsb' 29 8, rb := w.extractLsb' 21 8, h := w.extractLsb' 16 5,
    bar := w.extractLsb' 11 5, sub := w.extractLsb' 0 11 }

def fxOfWord (w : DWord) : FX :=
  { shape := w.extractLsb' 41 4, tile := w.extractLsb' 37 4, abase := w.extractLsb' 29 8, bh := w.extractLsb' 24 5,
    boff := w.extractLsb' 18 6, pl := w.extractLsb' 14 4, ssel := w.extractLsb' 12 2, sreg := w.extractLsb' 4 8,
    ru := w.getLsbD 3, rsv := w.getLsbD 2, am := w.extractLsb' 0 2 }

/-- Group 0 of the opcode map (R102 to R106); `c` is OPC[5:0]. -/
def decodeInt (c : Nat) (w : DWord) : Except DecErr Instr :=
  if c = 0x00 then .ok (.iadd (f3OfWord w))
  else if c = 0x01 then .ok (.isub (f3OfWord w))
  else if c = 0x02 then .ok (.imul (f3OfWord w))
  else if c = 0x03 then .ok (.imulh (f3OfWord w))
  else if c = 0x04 then .ok (.imad (f3OfWord w))
  else if c = 0x05 then .ok (.idiv (f3OfWord w))
  else if c = 0x06 then .ok (.irem (f3OfWord w))
  else if c = 0x07 then .ok (.imin (f3OfWord w))
  else if c = 0x08 then .ok (.imax (f3OfWord w))
  else if c = 0x09 then .ok (.iabs (f3OfWord w))
  else if c = 0x0A then .ok (.ineg (f3OfWord w))
  else if c = 0x0B then .ok (.and (f3OfWord w))
  else if c = 0x0C then .ok (.or (f3OfWord w))
  else if c = 0x0D then .ok (.xor (f3OfWord w))
  else if c = 0x0E then .ok (.not (f3OfWord w))
  else if c = 0x0F then .ok (.mov (f3OfWord w))
  else if c = 0x10 then .ok (.iadd64 (f3OfWord w))
  else if c = 0x11 then .ok (.isub64 (f3OfWord w))
  else if c = 0x12 then .ok (.imul64 (f3OfWord w))
  else if c = 0x13 then .ok (.imad64 (f3OfWord w))
  else if c = 0x20 then .ok (.iaddImm (fiOfWord w))
  else if c = 0x21 then .ok (.isubImm (fiOfWord w))
  else if c = 0x22 then .ok (.imulImm (fiOfWord w))
  else if c = 0x23 then .ok (.imulhImm (fiOfWord w))
  else if c = 0x25 then .ok (.idivImm (fiOfWord w))
  else if c = 0x26 then .ok (.iremImm (fiOfWord w))
  else if c = 0x27 then .ok (.iminImm (fiOfWord w))
  else if c = 0x28 then .ok (.imaxImm (fiOfWord w))
  else if c = 0x2B then .ok (.andImm (fiOfWord w))
  else if c = 0x2C then .ok (.orImm (fiOfWord w))
  else if c = 0x2D then .ok (.xorImm (fiOfWord w))
  else if c = 0x2F then .ok (.movImm (fiOfWord w))
  else if c = 0x30 then .ok (.iadd64Imm (fiOfWord w))
  else if c = 0x31 then .ok (.isub64Imm (fiOfWord w))
  else if c = 0x32 then .ok (.imul64Imm (fiOfWord w))
  else if c = 0x3F then if w.extractLsb' 32 5 = 0 then .ok (.movk (fkOfWord w)) else if w.extractLsb' 32 5 = 1 then .ok (.movk64 (fkOfWord w)) else .error .rsvd
  else .error .illop

/-- Group 1 of the opcode map (R102 to R106); `c` is OPC[5:0]. -/
def decodeBit (c : Nat) (w : DWord) : Except DecErr Instr :=
  if c = 0x00 then .ok (.shl (f3OfWord w))
  else if c = 0x01 then .ok (.shr (f3OfWord w))
  else if c = 0x02 then .ok (.rol (f3OfWord w))
  else if c = 0x03 then .ok (.bfe (f3OfWord w))
  else if c = 0x04 then .ok (.bfi (f3OfWord w))
  else if c = 0x05 then .ok (.popc (f3OfWord w))
  else if c = 0x06 then .ok (.clz (f3OfWord w))
  else if c = 0x07 then .ok (.brev (f3OfWord w))
  else if c = 0x08 then .ok (.shf (f3OfWord w))
  else if c = 0x09 then .ok (.padd8 (f3OfWord w))
  else if c = 0x0A then .ok (.padd16 (f3OfWord w))
  else if c = 0x0B then .ok (.pdot4 (f3OfWord w))
  else if c = 0x0C then .ok (.pdot8 (f3OfWord w))
  else if c = 0x0D then .ok (.bpx (f3OfWord w))
  else if c = 0x0E then .ok (.bpi (f3OfWord w))
  else if c = 0x0F then .ok (.bmsk (f3OfWord w))
  else if c = 0x20 then .ok (.shlImm (fiOfWord w))
  else if c = 0x21 then .ok (.shrImm (fiOfWord w))
  else if c = 0x22 then .ok (.rolImm (fiOfWord w))
  else if c = 0x23 then .ok (.bfeImm (fiOfWord w))
  else if c = 0x29 then .ok (.padd8Imm (fiOfWord w))
  else if c = 0x2A then .ok (.padd16Imm (fiOfWord w))
  else if c = 0x2F then .ok (.bmskImm (fiOfWord w))
  else .error .illop

/-- Group 2 of the opcode map (R102 to R106); `c` is OPC[5:0]. -/
def decodeF32 (c : Nat) (w : DWord) : Except DecErr Instr :=
  if c = 0x00 then .ok (.fadd (f3OfWord w))
  else if c = 0x01 then .ok (.fsub (f3OfWord w))
  else if c = 0x02 then .ok (.fmul (f3OfWord w))
  else if c = 0x03 then .ok (.ffma (f3OfWord w))
  else if c = 0x04 then .ok (.ffms (f3OfWord w))
  else if c = 0x05 then .ok (.fmin (f3OfWord w))
  else if c = 0x06 then .ok (.fmax (f3OfWord w))
  else if c = 0x07 then .ok (.fabs (f3OfWord w))
  else if c = 0x08 then .ok (.fneg (f3OfWord w))
  else if c = 0x09 then .ok (.fcpys (f3OfWord w))
  else if c = 0x0A then .ok (.fdiv (f3OfWord w))
  else if c = 0x0B then .ok (.fsqrt (f3OfWord w))
  else if c = 0x0C then .ok (.frnd (f3OfWord w))
  else if c = 0x0D then .ok (.ffrac (f3OfWord w))
  else if c = 0x0E then .ok (.fscale (f3OfWord w))
  else if c = 0x0F then .ok (.fclamp (f3OfWord w))
  else if c = 0x10 then .ok (.fsat (f3OfWord w))
  else if c = 0x20 then .ok (.faddImm (fiOfWord w))
  else if c = 0x21 then .ok (.fsubImm (fiOfWord w))
  else if c = 0x22 then .ok (.fmulImm (fiOfWord w))
  else if c = 0x25 then .ok (.fminImm (fiOfWord w))
  else if c = 0x26 then .ok (.fmaxImm (fiOfWord w))
  else if c = 0x29 then .ok (.fcpysImm (fiOfWord w))
  else if c = 0x2A then .ok (.fdivImm (fiOfWord w))
  else if c = 0x2E then .ok (.fscaleImm (fiOfWord w))
  else .error .illop

/-- Group 3 of the opcode map (R102 to R106); `c` is OPC[5:0]. -/
def decodeF16 (c : Nat) (w : DWord) : Except DecErr Instr :=
  if c = 0x00 then .ok (.hadd (f3OfWord w))
  else if c = 0x01 then .ok (.hsub (f3OfWord w))
  else if c = 0x02 then .ok (.hmul (f3OfWord w))
  else if c = 0x03 then .ok (.hfma (f3OfWord w))
  else if c = 0x04 then .ok (.hfms (f3OfWord w))
  else if c = 0x05 then .ok (.hmin (f3OfWord w))
  else if c = 0x06 then .ok (.hmax (f3OfWord w))
  else if c = 0x07 then .ok (.habs (f3OfWord w))
  else if c = 0x08 then .ok (.hneg (f3OfWord w))
  else if c = 0x09 then .ok (.hcpys (f3OfWord w))
  else if c = 0x0A then .ok (.hdot2 (f3OfWord w))
  else if c = 0x0B then .ok (.hrnd (f3OfWord w))
  else if c = 0x0C then .ok (.hscale (f3OfWord w))
  else if c = 0x0D then .ok (.hclamp (f3OfWord w))
  else if c = 0x20 then .ok (.haddImm (fiOfWord w))
  else if c = 0x21 then .ok (.hsubImm (fiOfWord w))
  else if c = 0x22 then .ok (.hmulImm (fiOfWord w))
  else if c = 0x25 then .ok (.hminImm (fiOfWord w))
  else if c = 0x26 then .ok (.hmaxImm (fiOfWord w))
  else if c = 0x29 then .ok (.hcpysImm (fiOfWord w))
  else if c = 0x2C then .ok (.hscaleImm (fiOfWord w))
  else .error .illop

/-- Group 4 of the opcode map (R102 to R106); `c` is OPC[5:0]. -/
def decodeCvt (c : Nat) (w : DWord) : Except DecErr Instr :=
  if c = 0x00 then .ok (.f2f (f3OfWord w))
  else if c = 0x01 then .ok (.f2i (f3OfWord w))
  else if c = 0x02 then .ok (.i2f (f3OfWord w))
  else if c = 0x03 then .ok (.f2f8 (f3OfWord w))
  else if c = 0x04 then .ok (.f8f (f3OfWord w))
  else if c = 0x05 then .ok (.h2f (f3OfWord w))
  else if c = 0x06 then .ok (.bscale (f3OfWord w))
  else if c = 0x07 then if w.getLsbD 8 then .ok (.qnt8Err (f3OfWord w)) else .ok (.qnt8 (f3OfWord w))
  else if c = 0x08 then .ok (.dq8 (f3OfWord w))
  else if c = 0x09 then .ok (.fxpn (f3OfWord w))
  else if c = 0x0A then .ok (.fmnt (f3OfWord w))
  else if c = 0x0B then .ok (.exp2 (f3OfWord w))
  else if c = 0x0C then .ok (.log2 (f3OfWord w))
  else if c = 0x0D then .ok (.rcp (f3OfWord w))
  else if c = 0x0E then .ok (.rsqrt (f3OfWord w))
  else if c = 0x0F then .ok (.sqrt (f3OfWord w))
  else if c = 0x10 then .ok (.sin (f3OfWord w))
  else if c = 0x11 then .ok (.cos (f3OfWord w))
  else if c = 0x12 then .ok (.filt (f3OfWord w))
  else if c = 0x13 then .ok (.filtl (f3OfWord w))
  else if c = 0x14 then .ok .srgen
  else if c = 0x15 then .ok (.alrnd (f3OfWord w))
  else .error .illop

/-- Group 5 of the opcode map (R102 to R106); `c` is OPC[5:0]. -/
def decodeCmp (c : Nat) (w : DWord) : Except DecErr Instr :=
  if c = 0x00 then .ok (.icmp (f3OfWord w))
  else if c = 0x01 then .ok (.icmp64 (f3OfWord w))
  else if c = 0x02 then .ok (.fcmp (f3OfWord w))
  else if c = 0x03 then .ok (.hcmp (f3OfWord w))
  else if c = 0x04 then .ok (.pand (f3OfWord w))
  else if c = 0x05 then .ok (.por (f3OfWord w))
  else if c = 0x06 then .ok (.pxor (f3OfWord w))
  else if c = 0x07 then .ok (.pnot (f3OfWord w))
  else if c = 0x08 then .ok (.sel (f3OfWord w))
  else if c = 0x09 then .ok (.sel64 (f3OfWord w))
  else if c = 0x0A then .ok (.p2g (f3OfWord w))
  else if c = 0x0B then .ok (.g2p (f3OfWord w))
  else if c = 0x0C then .ok (.fclass (f3OfWord w))
  else if c = 0x0D then .ok (.btest (f3OfWord w))
  else if c = 0x20 then .ok (.icmpImm (fiOfWord w))
  else if c = 0x21 then .ok (.icmp64Imm (fiOfWord w))
  else if c = 0x22 then .ok (.fcmpImm (fiOfWord w))
  else if c = 0x23 then .ok (.hcmpImm (fiOfWord w))
  else if c = 0x28 then .ok (.selImm (fiOfWord w))
  else if c = 0x2C then .ok (.fclassImm (fiOfWord w))
  else if c = 0x2D then .ok (.btestImm (fiOfWord w))
  else .error .illop

/-- Group 6 of the opcode map (R102 to R106); `c` is OPC[5:0]. -/
def decodeCtl (c : Nat) (w : DWord) : Except DecErr Instr :=
  if c = 0x00 then .ok (.bra (fbOfWord w))
  else if c = 0x01 then .ok (.call (fbOfWord w))
  else if c = 0x02 then .ok (.calli (fbOfWord w))
  else if c = 0x03 then .ok .ret
  else if c = 0x04 then .ok .rett
  else if c = 0x05 then .ok (.jmpi (fbOfWord w))
  else if c = 0x06 then .ok .exit
  else if c = 0x07 then .ok .yield
  else if c = 0x08 then .ok .syncw
  else .error .illop

/-- Group 7 of the opcode map (R102 to R106); `c` is OPC[5:0]. -/
def decodeMem (c : Nat) (w : DWord) : Except DecErr Instr :=
  if c = 0x00 then .ok (.ld (fmOfWord w))
  else if c = 0x01 then .ok (.st (fmOfWord w))
  else if c = 0x02 then .ok (.ldw (fmOfWord w))
  else if c = 0x03 then .ok (.pref (fmOfWord w))
  else if c = 0x04 then .ok (.wback (fmOfWord w))
  else .error .illop

/-- Group 8 of the opcode map (R102 to R106); `c` is OPC[5:0]. -/
def decodeSyn (c : Nat) (w : DWord) : Except DecErr Instr :=
  if c = 0x00 then .ok (.atomAdd (fmOfWord w))
  else if c = 0x01 then .ok (.atomMin (fmOfWord w))
  else if c = 0x02 then .ok (.atomMax (fmOfWord w))
  else if c = 0x03 then .ok (.atomAnd (fmOfWord w))
  else if c = 0x04 then .ok (.atomOr (fmOfWord w))
  else if c = 0x05 then .ok (.atomXor (fmOfWord w))
  else if c = 0x06 then .ok (.atomExch (fmOfWord w))
  else if c = 0x07 then .ok (.atomFadd (fmOfWord w))
  else if c = 0x08 then .ok (.atomFmin (fmOfWord w))
  else if c = 0x09 then .ok (.atomFmax (fmOfWord w))
  else if c = 0x0A then .ok (.cas (fmOfWord w))
  else if c = 0x0B then .ok (.fence (fmOfWord w))
  else if c = 0x0C then .ok (.acqRemote (fmOfWord w))
  else if c = 0x0D then .ok (.mwait (fmOfWord w))
  else if c = 0x0E then .ok (.barr (faOfWord w))
  else if c = 0x0F then .ok (.bwait (faOfWord w))
  else if c = 0x10 then .ok (.btxn (faOfWord w))
  else if c = 0x11 then if w.getLsbD 0 then .ok (.bgenInit (faOfWord w)) else .ok (.bgenRead (faOfWord w))
  else .error .illop

/-- Group 9 of the opcode map (R102 to R106); `c` is OPC[5:0]. -/
def decodeXch (c : Nat) (w : DWord) : Except DecErr Instr :=
  if c = 0x00 then .ok (.qswap (f3OfWord w))
  else if c = 0x01 then .ok (.qddx (f3OfWord w))
  else if c = 0x02 then .ok (.qddy (f3OfWord w))
  else if c = 0x03 then .ok (.qbcast (f3OfWord w))
  else if c = 0x04 then .ok (.wshfl (f3OfWord w))
  else if c = 0x05 then .ok (.wvote (f3OfWord w))
  else if c = 0x06 then .ok (.wballot (f3OfWord w))
  else if c = 0x07 then .ok (.wred (f3OfWord w))
  else if c = 0x08 then .ok (.wred64 (f3OfWord w))
  else if c = 0x09 then .ok (.wredf (f3OfWord w))
  else if c = 0x0A then .ok (.wscan (f3OfWord w))
  else if c = 0x0B then .ok (.wscanf (f3OfWord w))
  else if c = 0x0C then .ok .elect
  else if c = 0x0D then .ok (.wmatch (f3OfWord w))
  else if c = 0x0E then .ok (.wfirst (f3OfWord w))
  else if c = 0x0F then .ok (.wsyncm (f3OfWord w))
  else .error .illop

/-- Group 10 of the opcode map (R102 to R106); `c` is OPC[5:0]. -/
def decodeAsy (c : Nat) (w : DWord) : Except DecErr Instr :=
  if c = 0x00 then .ok (.cpyT (faOfWord w))
  else if c = 0x01 then .ok (.cpyL (faOfWord w))
  else if c = 0x02 then .ok (.obres (faOfWord w))
  else if c = 0x03 then .ok .obrel
  else if c = 0x04 then if w.extractLsb' 0 2 = 0 then .ok (.obstateRead (faOfWord w)) else if w.extractLsb' 0 2 = 1 then .ok (.obstatePend (faOfWord w)) else if w.extractLsb' 0 2 = 2 then .ok (.obstateRefill (faOfWord w)) else .ok .obstateFull
  else if c = 0x05 then .ok (.prset (faOfWord w))
  else if c = 0x06 then .ok (.prclr (faOfWord w))
  else if c = 0x07 then .ok (.prtest (faOfWord w))
  else if c = 0x08 then .ok (.waitc (faOfWord w))
  else .error .illop

/-- Group 11 of the opcode map (R102 to R106); `c` is OPC[5:0]. -/
def decodeMat (c : Nat) (w : DWord) : Except DecErr Instr :=
  if c = 0x00 then .ok (.mxI8 (fxOfWord w))
  else if c = 0x01 then .ok (.mxE4 (fxOfWord w))
  else if c = 0x02 then .ok (.mxE5 (fxOfWord w))
  else if c = 0x03 then .ok (.mxH (fxOfWord w))
  else if c = 0x04 then .ok (.mxBf (fxOfWord w))
  else if c = 0x05 then .ok (.accld (faOfWord w))
  else if c = 0x06 then if w.extractLsb' 4 3 = 4 then .ok (.accstNi8 (faOfWord w)) else .ok (.accst (faOfWord w))
  else if c = 0x07 then .ok .accz
  else if c = 0x08 then if w.getLsbD 4 then .ok (.alsetLim (faOfWord w)) else .ok (.alset (faOfWord w))
  else if c = 0x09 then .ok (.alget (faOfWord w))
  else .error .illop

/-- Group 12 of the opcode map (R102 to R106); `c` is OPC[5:0]. -/
def decodeGfx (c : Nat) (w : DWord) : Except DecErr Instr :=
  if c = 0x00 then if w.extractLsb' 0 2 = 0 then .ok (.diceRun (faOfWord w)) else if w.extractLsb' 0 2 = 1 then .ok (.diceBind (faOfWord w)) else if w.extractLsb' 0 2 = 2 then .ok .diceUnbind else .error .rsvd
  else if c = 0x01 then .ok (.patchq (faOfWord w))
  else if c = 0x02 then .ok .patchdq
  else if c = 0x03 then .ok (.gemit (faOfWord w))
  else if c = 0x04 then if w.extractLsb' 0 2 = 0 then .ok .wmarkRel else if w.extractLsb' 0 2 = 1 then .ok .wmarkGlob else if w.extractLsb' 0 2 = 2 then .ok .wmarkDie else .error .rsvd
  else if c = 0x05 then .ok (.samp (faOfWord w))
  else if c = 0x06 then .ok (.sampl (faOfWord w))
  else if c = 0x07 then .ok (.sampd (faOfWord w))
  else if c = 0x08 then .ok (.sampg (faOfWord w))
  else if c = 0x09 then .ok (.resq (faOfWord w))
  else .error .illop

/-- Group 13 of the opcode map (R102 to R106); `c` is OPC[5:0]. -/
def decodeRay (c : Nat) (w : DWord) : Except DecErr Instr :=
  if c = 0x00 then .ok (.trace (faOfWord w))
  else if c = 0x01 then .ok (.tresume (faOfWord w))
  else if c = 0x02 then .ok (.taccept (faOfWord w))
  else if c = 0x03 then if w.extractLsb' 0 2 = 0 then .ok (.tstateRead (faOfWord w)) else if w.extractLsb' 0 2 = 1 then .ok (.tstateEnd (faOfWord w)) else .error .rsvd
  else .error .illop

/-- Group 14 of the opcode map (R102 to R106); `c` is OPC[5:0]. -/
def decodeSys (c : Nat) (w : DWord) : Except DecErr Instr :=
  if c = 0x00 then .ok (.rdsr (f3OfWord w))
  else if c = 0x01 then .ok (.wrsr (f3OfWord w))
  else if c = 0x02 then .ok (.stpred (f3OfWord w))
  else if c = 0x03 then .ok (.ldpred (f3OfWord w))
  else if c = 0x04 then .ok (.trap (fkOfWord w))
  else if c = 0x05 then .ok (.bkpt (fkOfWord w))
  else if c = 0x06 then .ok .nop
  else if c = 0x07 then .ok (.splrd (f3OfWord w))
  else if c = 0x08 then .ok (.splwr (f3OfWord w))
  else if c = 0x09 then .ok (.barsv (faOfWord w))
  else if c = 0x0A then .ok (.barld (faOfWord w))
  else if c = 0x0B then .ok (.ctxrd (f3OfWord w))
  else if c = 0x0C then .ok (.ctxwr (f3OfWord w))
  else if c = 0x0D then .ok (.mbrecv (faOfWord w))
  else if c = 0x0E then .ok (.mbsend (faOfWord w))
  else if c = 0x0F then .ok (.spawnRange (faOfWord w))
  else if c = 0x10 then .ok (.fwd (faOfWord w))
  else if c = 0x11 then .ok (.dump (faOfWord w))
  else .error .illop

/-- The opcode map as a whole (R102): the group chooses the table. -/
def decodeRaw (w : DWord) : Except DecErr Instr :=
  let o := (opcOfWord w).toNat
  let c := o % 64
  if o / 64 = 0 then decodeInt c w
  else if o / 64 = 1 then decodeBit c w
  else if o / 64 = 2 then decodeF32 c w
  else if o / 64 = 3 then decodeF16 c w
  else if o / 64 = 4 then decodeCvt c w
  else if o / 64 = 5 then decodeCmp c w
  else if o / 64 = 6 then decodeCtl c w
  else if o / 64 = 7 then decodeMem c w
  else if o / 64 = 8 then decodeSyn c w
  else if o / 64 = 9 then decodeXch c w
  else if o / 64 = 10 then decodeAsy c w
  else if o / 64 = 11 then decodeMat c w
  else if o / 64 = 12 then decodeGfx c w
  else if o / 64 = 13 then decodeRay c w
  else if o / 64 = 14 then decodeSys c w
  else .error .illop

/-- The checks of the words that Instr carries as bare names (R34, R127, R144, R165, R207, R321, R322, R372 to R383). -/
def rawChecks (i : Instr) (w : DWord) : List Chk :=
  match i with
  | .srgen => [.rng true true 1 1 (f3OfWord w).rd, .must ((f3OfWord w).ra = 0), .must ((f3OfWord w).ea = 0), .must ((f3OfWord w).rb = 0), .must ((f3OfWord w).eb = 0), .must ((f3OfWord w).rc = 0), .must ((f3OfWord w).ec = 0), .must (!(f3OfWord w).x)]
  | .ret => [.must ((fbOfWord w).off = 0), .must ((fbOfWord w).ra = 0), .must ((fbOfWord w).kind = 0)]
  | .rett => [.must ((fbOfWord w).off = 0), .must ((fbOfWord w).ra = 0), .must ((fbOfWord w).kind = 0)]
  | .exit => [.must ((fbOfWord w).off = 0), .must ((fbOfWord w).ra = 0), .must ((fbOfWord w).kind = 0)]
  | .yield => [.must ((fbOfWord w).off = 0), .must ((fbOfWord w).ra = 0), .must ((fbOfWord w).kind = 0)]
  | .syncw => [.must ((fbOfWord w).off = 0), .must ((fbOfWord w).ra = 0), .must ((fbOfWord w).kind = 0), .must ((guardOfWord w).pred = 96 ∧ (guardOfWord w).pn = false)]
  | .elect => [.pdst 1 (f3OfWord w).rd, .must ((f3OfWord w).ra = 0), .must ((f3OfWord w).ea = 0), .must ((f3OfWord w).rb = 0), .must ((f3OfWord w).eb = 0), .must ((f3OfWord w).rc = 0), .must ((f3OfWord w).ec = 0), .must (!(f3OfWord w).x)]
  | .obrel => [.must ((faOfWord w).rd = 0), .must ((faOfWord w).ra = 0), .must ((faOfWord w).rb = 0), .must ((faOfWord w).bar = 0), .must ((faOfWord w).sub = 0)]
  | .obstateFull => [.must ((faOfWord w).rd = 0), .must ((faOfWord w).ra = 0), .must ((faOfWord w).rb = 0), .must ((faOfWord w).bar = 0), .must ((faOfWord w).sub = 3)]
  | .accz => [.tile ((faOfWord w).sub.toNat % 16), .must ((faOfWord w).sub.toNat < 0x20), .must ((faOfWord w).rd = 0), .must ((faOfWord w).ra = 0), .must ((faOfWord w).rb = 0), .must ((faOfWord w).h = 0), .must ((faOfWord w).bar = 0)]
  | .diceUnbind => [.must ((faOfWord w).sub = 2), .must ((faOfWord w).rd = 0), .must ((faOfWord w).ra = 0), .must ((faOfWord w).rb = 0), .must ((faOfWord w).h = 0), .must ((faOfWord w).bar = 0)]
  | .patchdq => [.rng true false 4 4 (faOfWord w).rd, .must ((faOfWord w).ra = 0), .must ((faOfWord w).rb = 0), .must ((faOfWord w).h = 0), .must ((faOfWord w).bar = 0), .must ((faOfWord w).sub = 0)]
  | .wmarkRel => [.must ((faOfWord w).rd = 0), .must ((faOfWord w).ra = 0), .must ((faOfWord w).rb = 0), .must ((faOfWord w).h = 0), .must ((faOfWord w).bar = 0), .must ((faOfWord w).sub = 0)]
  | .wmarkGlob => [.rng true true 2 2 (faOfWord w).rd, .must ((faOfWord w).sub = 1), .must ((faOfWord w).ra = 0), .must ((faOfWord w).rb = 0), .must ((faOfWord w).h = 0), .must ((faOfWord w).bar = 0)]
  | .wmarkDie => [.rng true true 2 2 (faOfWord w).rd, .must ((faOfWord w).sub = 2), .must ((faOfWord w).ra = 0), .must ((faOfWord w).rb = 0), .must ((faOfWord w).h = 0), .must ((faOfWord w).bar = 0)]
  | .nop => [.must ((f3OfWord w).rd = 0), .must ((f3OfWord w).ra = 0), .must ((f3OfWord w).ea = 0), .must ((f3OfWord w).rb = 0), .must ((f3OfWord w).eb = 0), .must ((f3OfWord w).rc = 0), .must ((f3OfWord w).ec = 0), .must (!(f3OfWord w).x)]
  | _ => []

/-- Every operand check of a decoded word. -/
def wordChecks (i : Instr) (w : DWord) : List Chk := checks i ++ rawChecks i w

/-- The decoder: an unassigned OPC is ILLOP; anything else the encoding forbids is RSVD (R53, R54). -/
def decodeWord (w : DWord) : Except DecErr Instr :=
  match decodeRaw w with
  | .error e => .error e
  | .ok i => if (guardOfWord w).ok && (wordChecks i w).all Chk.ok then .ok i else .error .rsvd

/-- The word's registers and tiles lie within a launch of `regs` registers and `acct` tiles (R19, R346, R349). -/
def fitsLaunch (regs acct : Nat) (w : DWord) (i : Instr) : Bool := (wordChecks i w).all (Chk.inLaunch regs acct)

/-- A doubleword from eight bytes, lowest address first (R7). -/
def dwordOfBytes (b : List Byte) : DWord :=
  BitVec.ofNat 64 (b.foldr (fun x acc => x.toNat + 256 * acc) 0)

/-- The decoder on bytes as the memory holds them. -/
def decodeBytes (b : List Byte) : Except DecErr Instr := decodeWord (dwordOfBytes b)

/-- Bytes of a word, lowest address first (R7). -/
def wordBytes (w : DWord) : List Byte :=
  [w.extractLsb' 0 8, w.extractLsb' 8 8, w.extractLsb' 16 8, w.extractLsb' 24 8,
   w.extractLsb' 32 8, w.extractLsb' 40 8, w.extractLsb' 48 8, w.extractLsb' 56 8]

/-- The instruction read from a table row's bits: every instruction is one 64-bit word (R34), so bits above `nbits`
are zero and the word is laid out little-endian before it is decoded. -/
def decodeTableWord (nbits w : Nat) : Option Instr :=
  match decodeBytes (wordBytes (BitVec.ofNat 64 (w % 2 ^ nbits))) with
  | .ok i => some i
  | .error _ => none

/-! ### The encoder -/

def bodyF3 (o : F3) : BitVec 45 := o.rd ++ o.ra ++ o.ea ++ o.rb ++ o.eb ++ o.rc ++ o.ec ++ BitVec.ofBool o.x

def bodyFI (o : FI) : BitVec 45 := o.rd ++ o.ra ++ o.ea ++ o.imm ++ BitVec.ofBool o.x

def bodyFK (o : FK) : BitVec 45 := o.rd ++ o.sub ++ o.imm

def bodyFM (o : FM) : BitVec 45 := o.rd ++ o.base ++ o.off ++ o.sz ++ o.cc ++ o.scope ++ BitVec.ofBool o.sx

def bodyFB (o : FB) : BitVec 45 := o.off ++ o.ra ++ o.kind

def bodyFA (o : FA) : BitVec 45 := o.rd ++ o.ra ++ o.rb ++ o.h ++ o.bar ++ o.sub

def bodyFX (o : FX) : BitVec 45 :=
  o.shape ++ o.tile ++ o.abase ++ o.bh ++ o.boff ++ o.pl ++ o.ssel ++ o.sreg ++ BitVec.ofBool o.ru ++
    BitVec.ofBool o.rsv ++ o.am

/-- A word from its guard, opcode and operand bits (R34). -/
def mkWord (g : Guard) (opc : BitVec 10) (body : BitVec 45) : DWord :=
  BitVec.ofBool g.sw ++ g.pred ++ BitVec.ofBool g.pn ++ opc ++ body

/-- OPC of a word row (R103 to R105); an event has none. -/
def opcOf (i : Instr) : Option (BitVec 10) :=
  match i with
  | .iadd _ => some 0x000
  | .iaddImm _ => some 0x020
  | .isub _ => some 0x001
  | .isubImm _ => some 0x021
  | .imul _ => some 0x002
  | .imulImm _ => some 0x022
  | .imulh _ => some 0x003
  | .imulhImm _ => some 0x023
  | .imad _ => some 0x004
  | .idiv _ => some 0x005
  | .idivImm _ => some 0x025
  | .irem _ => some 0x006
  | .iremImm _ => some 0x026
  | .imin _ => some 0x007
  | .iminImm _ => some 0x027
  | .imax _ => some 0x008
  | .imaxImm _ => some 0x028
  | .iabs _ => some 0x009
  | .ineg _ => some 0x00A
  | .and _ => some 0x00B
  | .andImm _ => some 0x02B
  | .or _ => some 0x00C
  | .orImm _ => some 0x02C
  | .xor _ => some 0x00D
  | .xorImm _ => some 0x02D
  | .not _ => some 0x00E
  | .mov _ => some 0x00F
  | .movImm _ => some 0x02F
  | .iadd64 _ => some 0x010
  | .iadd64Imm _ => some 0x030
  | .isub64 _ => some 0x011
  | .isub64Imm _ => some 0x031
  | .imul64 _ => some 0x012
  | .imul64Imm _ => some 0x032
  | .imad64 _ => some 0x013
  | .movk _ => some 0x03F
  | .movk64 _ => some 0x03F
  | .shl _ => some 0x040
  | .shlImm _ => some 0x060
  | .shr _ => some 0x041
  | .shrImm _ => some 0x061
  | .rol _ => some 0x042
  | .rolImm _ => some 0x062
  | .bfe _ => some 0x043
  | .bfeImm _ => some 0x063
  | .bfi _ => some 0x044
  | .popc _ => some 0x045
  | .clz _ => some 0x046
  | .brev _ => some 0x047
  | .shf _ => some 0x048
  | .padd8 _ => some 0x049
  | .padd8Imm _ => some 0x069
  | .padd16 _ => some 0x04A
  | .padd16Imm _ => some 0x06A
  | .pdot4 _ => some 0x04B
  | .pdot8 _ => some 0x04C
  | .bpx _ => some 0x04D
  | .bpi _ => some 0x04E
  | .bmsk _ => some 0x04F
  | .bmskImm _ => some 0x06F
  | .fadd _ => some 0x080
  | .faddImm _ => some 0x0A0
  | .fsub _ => some 0x081
  | .fsubImm _ => some 0x0A1
  | .fmul _ => some 0x082
  | .fmulImm _ => some 0x0A2
  | .ffma _ => some 0x083
  | .ffms _ => some 0x084
  | .fmin _ => some 0x085
  | .fminImm _ => some 0x0A5
  | .fmax _ => some 0x086
  | .fmaxImm _ => some 0x0A6
  | .fabs _ => some 0x087
  | .fneg _ => some 0x088
  | .fcpys _ => some 0x089
  | .fcpysImm _ => some 0x0A9
  | .fdiv _ => some 0x08A
  | .fdivImm _ => some 0x0AA
  | .fsqrt _ => some 0x08B
  | .frnd _ => some 0x08C
  | .ffrac _ => some 0x08D
  | .fscale _ => some 0x08E
  | .fscaleImm _ => some 0x0AE
  | .fclamp _ => some 0x08F
  | .fsat _ => some 0x090
  | .hadd _ => some 0x0C0
  | .haddImm _ => some 0x0E0
  | .hsub _ => some 0x0C1
  | .hsubImm _ => some 0x0E1
  | .hmul _ => some 0x0C2
  | .hmulImm _ => some 0x0E2
  | .hfma _ => some 0x0C3
  | .hfms _ => some 0x0C4
  | .hmin _ => some 0x0C5
  | .hminImm _ => some 0x0E5
  | .hmax _ => some 0x0C6
  | .hmaxImm _ => some 0x0E6
  | .habs _ => some 0x0C7
  | .hneg _ => some 0x0C8
  | .hcpys _ => some 0x0C9
  | .hcpysImm _ => some 0x0E9
  | .hdot2 _ => some 0x0CA
  | .hrnd _ => some 0x0CB
  | .hscale _ => some 0x0CC
  | .hscaleImm _ => some 0x0EC
  | .hclamp _ => some 0x0CD
  | .f2f _ => some 0x100
  | .f2i _ => some 0x101
  | .i2f _ => some 0x102
  | .f2f8 _ => some 0x103
  | .f8f _ => some 0x104
  | .h2f _ => some 0x105
  | .bscale _ => some 0x106
  | .qnt8 _ => some 0x107
  | .qnt8Err _ => some 0x107
  | .dq8 _ => some 0x108
  | .fxpn _ => some 0x109
  | .fmnt _ => some 0x10A
  | .exp2 _ => some 0x10B
  | .log2 _ => some 0x10C
  | .rcp _ => some 0x10D
  | .rsqrt _ => some 0x10E
  | .sqrt _ => some 0x10F
  | .sin _ => some 0x110
  | .cos _ => some 0x111
  | .filt _ => some 0x112
  | .filtl _ => some 0x113
  | .alrnd _ => some 0x115
  | .icmp _ => some 0x140
  | .icmpImm _ => some 0x160
  | .icmp64 _ => some 0x141
  | .icmp64Imm _ => some 0x161
  | .fcmp _ => some 0x142
  | .fcmpImm _ => some 0x162
  | .hcmp _ => some 0x143
  | .hcmpImm _ => some 0x163
  | .pand _ => some 0x144
  | .por _ => some 0x145
  | .pxor _ => some 0x146
  | .pnot _ => some 0x147
  | .sel _ => some 0x148
  | .selImm _ => some 0x168
  | .sel64 _ => some 0x149
  | .p2g _ => some 0x14A
  | .g2p _ => some 0x14B
  | .fclass _ => some 0x14C
  | .fclassImm _ => some 0x16C
  | .btest _ => some 0x14D
  | .btestImm _ => some 0x16D
  | .bra _ => some 0x180
  | .call _ => some 0x181
  | .calli _ => some 0x182
  | .jmpi _ => some 0x185
  | .ld _ => some 0x1C0
  | .st _ => some 0x1C1
  | .ldw _ => some 0x1C2
  | .pref _ => some 0x1C3
  | .wback _ => some 0x1C4
  | .atomAdd _ => some 0x200
  | .atomMin _ => some 0x201
  | .atomMax _ => some 0x202
  | .atomAnd _ => some 0x203
  | .atomOr _ => some 0x204
  | .atomXor _ => some 0x205
  | .atomExch _ => some 0x206
  | .atomFadd _ => some 0x207
  | .atomFmin _ => some 0x208
  | .atomFmax _ => some 0x209
  | .cas _ => some 0x20A
  | .fence _ => some 0x20B
  | .acqRemote _ => some 0x20C
  | .mwait _ => some 0x20D
  | .barr _ => some 0x20E
  | .bwait _ => some 0x20F
  | .btxn _ => some 0x210
  | .bgenRead _ => some 0x211
  | .bgenInit _ => some 0x211
  | .qswap _ => some 0x240
  | .qddx _ => some 0x241
  | .qddy _ => some 0x242
  | .qbcast _ => some 0x243
  | .wshfl _ => some 0x244
  | .wvote _ => some 0x245
  | .wballot _ => some 0x246
  | .wred _ => some 0x247
  | .wred64 _ => some 0x248
  | .wredf _ => some 0x249
  | .wscan _ => some 0x24A
  | .wscanf _ => some 0x24B
  | .wmatch _ => some 0x24D
  | .wfirst _ => some 0x24E
  | .wsyncm _ => some 0x24F
  | .cpyT _ => some 0x280
  | .cpyL _ => some 0x281
  | .obres _ => some 0x282
  | .obstateRead _ => some 0x284
  | .obstatePend _ => some 0x284
  | .obstateRefill _ => some 0x284
  | .prset _ => some 0x285
  | .prclr _ => some 0x286
  | .prtest _ => some 0x287
  | .waitc _ => some 0x288
  | .mxI8 _ => some 0x2C0
  | .mxE4 _ => some 0x2C1
  | .mxE5 _ => some 0x2C2
  | .mxH _ => some 0x2C3
  | .mxBf _ => some 0x2C4
  | .accld _ => some 0x2C5
  | .accst _ => some 0x2C6
  | .accstNi8 _ => some 0x2C6
  | .alset _ => some 0x2C8
  | .alsetLim _ => some 0x2C8
  | .alget _ => some 0x2C9
  | .diceRun _ => some 0x300
  | .diceBind _ => some 0x300
  | .patchq _ => some 0x301
  | .gemit _ => some 0x303
  | .samp _ => some 0x305
  | .sampl _ => some 0x306
  | .sampd _ => some 0x307
  | .sampg _ => some 0x308
  | .resq _ => some 0x309
  | .trace _ => some 0x340
  | .tresume _ => some 0x341
  | .taccept _ => some 0x342
  | .tstateRead _ => some 0x343
  | .tstateEnd _ => some 0x343
  | .rdsr _ => some 0x380
  | .wrsr _ => some 0x381
  | .stpred _ => some 0x382
  | .ldpred _ => some 0x383
  | .trap _ => some 0x384
  | .bkpt _ => some 0x385
  | .splrd _ => some 0x387
  | .splwr _ => some 0x388
  | .barsv _ => some 0x389
  | .barld _ => some 0x38A
  | .ctxrd _ => some 0x38B
  | .ctxwr _ => some 0x38C
  | .mbrecv _ => some 0x38D
  | .mbsend _ => some 0x38E
  | .spawnRange _ => some 0x38F
  | .fwd _ => some 0x390
  | .dump _ => some 0x391
  | .spawnTrim _ => some 0x38F
  | .srgen => some 0x114
  | .ret => some 0x183
  | .rett => some 0x184
  | .exit => some 0x186
  | .yield => some 0x187
  | .syncw => some 0x188
  | .elect => some 0x24C
  | .obrel => some 0x283
  | .obstateFull => some 0x284
  | .accz => some 0x2C7
  | .diceUnbind => some 0x300
  | .patchdq => some 0x302
  | .wmarkRel => some 0x304
  | .wmarkGlob => some 0x304
  | .wmarkDie => some 0x304
  | .nop => some 0x386
  | .moduleReset => none
  | .fwgo => none
  | .sqtailWrite => none
  | .launch => none
  | .frame => none
  | .endframe => none
  | .teamClaim => none
  | .rangeSteal => none
  | .pick => none
  | .switchMarkerResume => none
  | .trapEntry => none
  | .loadResultReturn => none
  | .storePerformed => none
  | .cacheEviction => none
  | .teamEnd => none
  | .teamFatalEnd => none
  | .tlbsyncWrite => none
  | .tlbSyncComplete => none
  | .fqcmdReplay => none
  | .fqcmdCancel => none
  | .fqcmdAck => none
  | .preqPreempt => none
  | .preqResume => none
  | .teamFlush => none
  | .drainTimeout => none
  | .timeSlice => none
  | .teamSave => none
  | .teamRestore => none
  | .dbgcmdResume => none
  | .dbgcmdStep => none
  | .dbgcmdKill => none
  | .pmTick => none
  | .pmctlWrite => none
  | .qctlWrite => none
  | .clockChange => none
  | .thermalThrottle => none
  | .bskcmdSpill => none
  | .bskcmdReturn => none
  | .ownmove => none
  | .tileHandoff => none
  | .registerWrite => none
  | .hostMemoryAccess => none
  | .copyLineArrival => none
  | .copyComplete => none
  | .shuttleOpPerform => none
  | .mxStart => none
  | .mxFinish => none
  | .mangleOpPerform => none
  | .textureComplete => none
  | .rayReturn => none
  | .shearsDelivery => none
  | .gemitRetire => none
  | .watermarkDelivery => none
  | .gridCopyArrival => none
  | .copySampling => none
  | .mwaitWake => none
  | .commitTokenPass => none
  | .badpacket => none
  | .mailboxPacketFromHost => none
  | .eqtailWrite => none
  | .hostBarAssignment => none
  | .pageWalkComplete => none

/-- Operand bits [44:0] of a word: its fields, or `raw` for the words that are bare names. -/
def bodyOf (raw : BitVec 45) (i : Instr) : BitVec 45 :=
  match i with
  | .iadd o => bodyF3 o
  | .iaddImm o => bodyFI o
  | .isub o => bodyF3 o
  | .isubImm o => bodyFI o
  | .imul o => bodyF3 o
  | .imulImm o => bodyFI o
  | .imulh o => bodyF3 o
  | .imulhImm o => bodyFI o
  | .imad o => bodyF3 o
  | .idiv o => bodyF3 o
  | .idivImm o => bodyFI o
  | .irem o => bodyF3 o
  | .iremImm o => bodyFI o
  | .imin o => bodyF3 o
  | .iminImm o => bodyFI o
  | .imax o => bodyF3 o
  | .imaxImm o => bodyFI o
  | .iabs o => bodyF3 o
  | .ineg o => bodyF3 o
  | .and o => bodyF3 o
  | .andImm o => bodyFI o
  | .or o => bodyF3 o
  | .orImm o => bodyFI o
  | .xor o => bodyF3 o
  | .xorImm o => bodyFI o
  | .not o => bodyF3 o
  | .mov o => bodyF3 o
  | .movImm o => bodyFI o
  | .iadd64 o => bodyF3 o
  | .iadd64Imm o => bodyFI o
  | .isub64 o => bodyF3 o
  | .isub64Imm o => bodyFI o
  | .imul64 o => bodyF3 o
  | .imul64Imm o => bodyFI o
  | .imad64 o => bodyF3 o
  | .movk o => bodyFK o
  | .movk64 o => bodyFK o
  | .shl o => bodyF3 o
  | .shlImm o => bodyFI o
  | .shr o => bodyF3 o
  | .shrImm o => bodyFI o
  | .rol o => bodyF3 o
  | .rolImm o => bodyFI o
  | .bfe o => bodyF3 o
  | .bfeImm o => bodyFI o
  | .bfi o => bodyF3 o
  | .popc o => bodyF3 o
  | .clz o => bodyF3 o
  | .brev o => bodyF3 o
  | .shf o => bodyF3 o
  | .padd8 o => bodyF3 o
  | .padd8Imm o => bodyFI o
  | .padd16 o => bodyF3 o
  | .padd16Imm o => bodyFI o
  | .pdot4 o => bodyF3 o
  | .pdot8 o => bodyF3 o
  | .bpx o => bodyF3 o
  | .bpi o => bodyF3 o
  | .bmsk o => bodyF3 o
  | .bmskImm o => bodyFI o
  | .fadd o => bodyF3 o
  | .faddImm o => bodyFI o
  | .fsub o => bodyF3 o
  | .fsubImm o => bodyFI o
  | .fmul o => bodyF3 o
  | .fmulImm o => bodyFI o
  | .ffma o => bodyF3 o
  | .ffms o => bodyF3 o
  | .fmin o => bodyF3 o
  | .fminImm o => bodyFI o
  | .fmax o => bodyF3 o
  | .fmaxImm o => bodyFI o
  | .fabs o => bodyF3 o
  | .fneg o => bodyF3 o
  | .fcpys o => bodyF3 o
  | .fcpysImm o => bodyFI o
  | .fdiv o => bodyF3 o
  | .fdivImm o => bodyFI o
  | .fsqrt o => bodyF3 o
  | .frnd o => bodyF3 o
  | .ffrac o => bodyF3 o
  | .fscale o => bodyF3 o
  | .fscaleImm o => bodyFI o
  | .fclamp o => bodyF3 o
  | .fsat o => bodyF3 o
  | .hadd o => bodyF3 o
  | .haddImm o => bodyFI o
  | .hsub o => bodyF3 o
  | .hsubImm o => bodyFI o
  | .hmul o => bodyF3 o
  | .hmulImm o => bodyFI o
  | .hfma o => bodyF3 o
  | .hfms o => bodyF3 o
  | .hmin o => bodyF3 o
  | .hminImm o => bodyFI o
  | .hmax o => bodyF3 o
  | .hmaxImm o => bodyFI o
  | .habs o => bodyF3 o
  | .hneg o => bodyF3 o
  | .hcpys o => bodyF3 o
  | .hcpysImm o => bodyFI o
  | .hdot2 o => bodyF3 o
  | .hrnd o => bodyF3 o
  | .hscale o => bodyF3 o
  | .hscaleImm o => bodyFI o
  | .hclamp o => bodyF3 o
  | .f2f o => bodyF3 o
  | .f2i o => bodyF3 o
  | .i2f o => bodyF3 o
  | .f2f8 o => bodyF3 o
  | .f8f o => bodyF3 o
  | .h2f o => bodyF3 o
  | .bscale o => bodyF3 o
  | .qnt8 o => bodyF3 o
  | .qnt8Err o => bodyF3 o
  | .dq8 o => bodyF3 o
  | .fxpn o => bodyF3 o
  | .fmnt o => bodyF3 o
  | .exp2 o => bodyF3 o
  | .log2 o => bodyF3 o
  | .rcp o => bodyF3 o
  | .rsqrt o => bodyF3 o
  | .sqrt o => bodyF3 o
  | .sin o => bodyF3 o
  | .cos o => bodyF3 o
  | .filt o => bodyF3 o
  | .filtl o => bodyF3 o
  | .alrnd o => bodyF3 o
  | .icmp o => bodyF3 o
  | .icmpImm o => bodyFI o
  | .icmp64 o => bodyF3 o
  | .icmp64Imm o => bodyFI o
  | .fcmp o => bodyF3 o
  | .fcmpImm o => bodyFI o
  | .hcmp o => bodyF3 o
  | .hcmpImm o => bodyFI o
  | .pand o => bodyF3 o
  | .por o => bodyF3 o
  | .pxor o => bodyF3 o
  | .pnot o => bodyF3 o
  | .sel o => bodyF3 o
  | .selImm o => bodyFI o
  | .sel64 o => bodyF3 o
  | .p2g o => bodyF3 o
  | .g2p o => bodyF3 o
  | .fclass o => bodyF3 o
  | .fclassImm o => bodyFI o
  | .btest o => bodyF3 o
  | .btestImm o => bodyFI o
  | .bra o => bodyFB o
  | .call o => bodyFB o
  | .calli o => bodyFB o
  | .jmpi o => bodyFB o
  | .ld o => bodyFM o
  | .st o => bodyFM o
  | .ldw o => bodyFM o
  | .pref o => bodyFM o
  | .wback o => bodyFM o
  | .atomAdd o => bodyFM o
  | .atomMin o => bodyFM o
  | .atomMax o => bodyFM o
  | .atomAnd o => bodyFM o
  | .atomOr o => bodyFM o
  | .atomXor o => bodyFM o
  | .atomExch o => bodyFM o
  | .atomFadd o => bodyFM o
  | .atomFmin o => bodyFM o
  | .atomFmax o => bodyFM o
  | .cas o => bodyFM o
  | .fence o => bodyFM o
  | .acqRemote o => bodyFM o
  | .mwait o => bodyFM o
  | .barr o => bodyFA o
  | .bwait o => bodyFA o
  | .btxn o => bodyFA o
  | .bgenRead o => bodyFA o
  | .bgenInit o => bodyFA o
  | .qswap o => bodyF3 o
  | .qddx o => bodyF3 o
  | .qddy o => bodyF3 o
  | .qbcast o => bodyF3 o
  | .wshfl o => bodyF3 o
  | .wvote o => bodyF3 o
  | .wballot o => bodyF3 o
  | .wred o => bodyF3 o
  | .wred64 o => bodyF3 o
  | .wredf o => bodyF3 o
  | .wscan o => bodyF3 o
  | .wscanf o => bodyF3 o
  | .wmatch o => bodyF3 o
  | .wfirst o => bodyF3 o
  | .wsyncm o => bodyF3 o
  | .cpyT o => bodyFA o
  | .cpyL o => bodyFA o
  | .obres o => bodyFA o
  | .obstateRead o => bodyFA o
  | .obstatePend o => bodyFA o
  | .obstateRefill o => bodyFA o
  | .prset o => bodyFA o
  | .prclr o => bodyFA o
  | .prtest o => bodyFA o
  | .waitc o => bodyFA o
  | .mxI8 o => bodyFX o
  | .mxE4 o => bodyFX o
  | .mxE5 o => bodyFX o
  | .mxH o => bodyFX o
  | .mxBf o => bodyFX o
  | .accld o => bodyFA o
  | .accst o => bodyFA o
  | .accstNi8 o => bodyFA o
  | .alset o => bodyFA o
  | .alsetLim o => bodyFA o
  | .alget o => bodyFA o
  | .diceRun o => bodyFA o
  | .diceBind o => bodyFA o
  | .patchq o => bodyFA o
  | .gemit o => bodyFA o
  | .samp o => bodyFA o
  | .sampl o => bodyFA o
  | .sampd o => bodyFA o
  | .sampg o => bodyFA o
  | .resq o => bodyFA o
  | .trace o => bodyFA o
  | .tresume o => bodyFA o
  | .taccept o => bodyFA o
  | .tstateRead o => bodyFA o
  | .tstateEnd o => bodyFA o
  | .rdsr o => bodyF3 o
  | .wrsr o => bodyF3 o
  | .stpred o => bodyF3 o
  | .ldpred o => bodyF3 o
  | .trap o => bodyFK o
  | .bkpt o => bodyFK o
  | .splrd o => bodyF3 o
  | .splwr o => bodyF3 o
  | .barsv o => bodyFA o
  | .barld o => bodyFA o
  | .ctxrd o => bodyF3 o
  | .ctxwr o => bodyF3 o
  | .mbrecv o => bodyFA o
  | .mbsend o => bodyFA o
  | .spawnRange o => bodyFA o
  | .fwd o => bodyFA o
  | .dump o => bodyFA o
  | .spawnTrim o => bodyFA o
  | _ => raw

/-- The encoding of a word under a guard; an event has none. `raw` holds the operand bits of a bare name. -/
def encode (g : Guard) (raw : BitVec 45) (i : Instr) : Option DWord :=
  (opcOf i).map fun opc => mkWord g opc (bodyOf raw i)

/-- Engine class of an opcode (R105). -/
def clsOfOpc (n : Nat) : Cls :=
  if (0x180 ≤ n ∧ n ≤ 0x188) ∨ n = 0x20D ∨ n = 0x20F ∨ n = 0x24F ∨ n = 0x288 then .ctl
  else if n = 0x1C0 ∨ n = 0x1C2 ∨ n = 0x1C3 ∨ n = 0x20C ∨ n = 0x38D ∨ (0x200 ≤ n ∧ n ≤ 0x20A) then .ld
  else if n = 0x1C1 ∨ n = 0x1C4 ∨ n = 0x20B ∨ (0x38E ≤ n ∧ n ≤ 0x391) then .st
  else if 0x280 ≤ n ∧ n ≤ 0x286 then .cp
  else if 0x2C0 ≤ n ∧ n ≤ 0x2C9 then .mx
  else if 0x300 ≤ n ∧ n ≤ 0x304 then .gm
  else if 0x305 ≤ n ∧ n ≤ 0x309 then .tx
  else if 0x340 ≤ n ∧ n ≤ 0x343 then .nd
  else .alu

/-- Engine class of a word (R105). -/
def clsOf (i : Instr) : Cls :=
  match opcOf i with
  | none => .alu
  | some o => clsOfOpc o.toNat

/-- The privileged words (R105). -/
def privOf (i : Instr) : Bool :=
  match opcOf i with
  | none => false
  | some o => 0x387 ≤ o.toNat && o.toNat ≤ 0x391

end Sys2Proof
end

