-- ==== Sys2Proof/Machine/State.lean ====
section
/-! DEFINITION. Sys2Proof/Machine/State.lean: everything the spec gives the module, as plain data, and the state right
after reset. -/

namespace Sys2Proof.Machine

/-- Why the machine stops. -/
inductive Fault where
  /-- An access by the hub or a die unit to a physical address at or above 2^52, which R524 does not map: raised by the
  ring and table accesses whose base a register gives. Safe: the machine stops. -/
  | physicalHole
  deriving DecidableEq, Repr

/-- Why the model answers nothing. -/
inductive Refusal where
  /-- The instruction has no meaning in this model yet: raised by `exec`'s own arms only. Safe: the machine stops. -/
  | notModelled (mnemonic : String)
  deriving DecidableEq, Repr

/-- Trap causes (R55). -/
inductive Cause where
  | badclause | illop | rsvd | priv | misalign | window | notmapped | perm | ecc | syncmask | layout | allowance
  | brk | watch | remoteperm | stackovf | user
  deriving DecidableEq, Repr

/-- Code of a cause (R55). -/
def Cause.code (c : Cause) : Nat :=
  match c with
  | .badclause => 1 | .illop => 2 | .rsvd => 3 | .priv => 4 | .misalign => 5 | .window => 6 | .notmapped => 7
  | .perm => 8 | .ecc => 9 | .syncmask => 10 | .layout => 11 | .allowance => 12 | .brk => 13 | .watch => 14
  | .remoteperm => 15 | .stackovf => 16 | .user => 17

/-- One 16-byte slot of a call stack held on chip (R48, R49). -/
structure Slot where
  lo : DWord
  hi : DWord
  /-- the slot belongs to a trap frame, which is always read from memory -/
  frame : Bool
  deriving DecidableEq, Repr

/-- What a faulting lane of a word reports (R426). -/
structure Report where
  team : Nat
  wave : Nat
  lane : Nat
  cause : Cause
  addr : DWord
  write : Bool
  fetch : Bool
  deferred : Bool
  clause : DWord
  idx : Nat
  deriving DecidableEq, Repr

/-- What a trap frame will say (R57, R58). -/
structure Trap where
  cause : Cause
  clause : DWord
  idx : Nat
  addr : DWord := 0
  write : Bool := false
  fetch : Bool := false
  deferred : Bool := false
  rclause : DWord
  ridx : Nat
  /-- the reported cause of the word, which a team without a handler ends with (R426, R445) -/
  told : Option Report := none
  deriving DecidableEq, Repr

/-- A recorded word: a deferred cause or an engine report (R430). -/
structure WordRec where
  clause : DWord
  idx : Nat
  addr : DWord := 0
  /-- the lane whose write was refused (R433) -/
  lane : Nat := 0
  deriving DecidableEq, Repr

/-- Engine classes' counters, in the order of R28: ld st cp mx tx nd gm. -/
inductive Ctr where
  | ld | st | cp | mx | tx | nd | gm
  deriving DecidableEq, Repr

def Ctr.index (c : Ctr) : Nat :=
  match c with
  | .ld => 0 | .st => 1 | .cp => 2 | .mx => 3 | .tx => 4 | .nd => 5 | .gm => 6

/-- A deferred ECC record of a lane (R430): the word, the counter whose wait delivers it, and the operation's number among
those of its wave on that counter. -/
structure EccRec where
  word : WordRec
  ctr : Ctr
  seq : Nat
  deriving DecidableEq, Repr

/-- Where an access that passed its checks goes. -/
inductive Target where
  /-- scratchpad of a team, at an offset -/
  | spad (team off : Nat)
  /-- physical memory -/
  | phys (pa : Nat)
  /-- the firmware store -/
  | fw (off : Nat)
  /-- the hub register block, at an offset; `live` for a privileged launch (R527) -/
  | hub (off : Nat) (live : Bool)
  deriving DecidableEq, Repr

/-- A monitor of a parked MWAIT (R291, R453). -/
structure Monitor where
  addr : DWord
  seen : DWord
  /-- where the location stands, and the bytes read -/
  tgt : Target
  n : Nat
  /-- a wake has come: the next execution makes the final read -/
  woken : Bool
  deriving DecidableEq, Repr

/-- An arrival at SYNCW or WSYNCM (R211). -/
structure Arrival where
  clause : DWord
  idx : Nat
  /-- mask of WSYNCM; none at SYNCW -/
  mask : Option (BitVec 32)
  deriving DecidableEq, Repr

/-- One thread (R18, R52). -/
structure Lane where
  absent : Bool
  /-- helper from launch (R173) -/
  helper : Bool
  /-- helper by DICE.bind (R377) -/
  bound : Bool
  ended : Bool
  g : List Word
  p : BitVec 96
  clause : DWord
  idx : Nat
  sp : DWord
  chip : List Slot
  flags : BitVec 5
  gen : DWord
  latchClock : Option Word
  latchGtime : Option Word
  latchSeed : Option Word
  latchSp : Option Word
  trap : Option Trap
  ecc : Option EccRec
  mon : Option Monitor
  arrival : Option Arrival
  /-- parked in the fault queue at this entry (R440); an index at or above 256 waits for a free one (R442) -/
  fq : Option Nat
  /-- target generation of the BWAIT in which the lane is parked (R216, R220) -/
  target : Option (BitVec 32)
  /-- becomes a bound helper, or an ordinary lane again, at the end of its bundle's clause (R377) -/
  pend : Option Bool
  deriving DecidableEq, Repr

/-- Why an entry is parked, beside PARK (R178, R183): what it waits for. -/
inductive Why where
  | none
  /-- BWAIT on a barrier -/
  | barrier (b : Nat)
  /-- MWAIT, with its word -/
  | monitor (word : DWord)
  /-- SYNCW or WSYNCM -/
  | sync
  /-- a scratchpad line whose presence bit is clear, of the team of a cluster rank -/
  | presence (team line : Nat)
  /-- WAITC, with its word -/
  | waitc (ctr : Nat) (t : Nat) (word : DWord)
  /-- a handle, to leave the states that park the word (R321) -/
  | handle (h : Nat) (parks : List Nat)
  /-- PATCHQ: room for an entry of depth 0 in the split queue -/
  | splitQueue
  /-- PATCHDQ: an entry, or the end of the grid's holds -/
  | splitPop
  /-- MBRECV -/
  | mailbox
  /-- a spawn request without an answer (R198); SPAWN answers at its retirement, so that no word parks so -/
  | spawn
  /-- the fault queue -/
  | faultQueue
  /-- the commit token of a deterministic grid -/
  | token
  /-- outstanding register results, behind a switch marker on a word that let the entry pass (R44) -/
  | results
  deriving DecidableEq, Repr

/-- A split-table entry (R178); VALID is its presence in the wave's list, WSLOT the wave's slot. -/
structure Entry where
  slot : Nat
  stamp : BitVec 32
  runs : Nat
  clause : DWord
  idx : Nat
  depth : Nat
  path : BitVec 16
  park : Nat
  why : Why
  yh : Bool
  defer : BitVec 32
  mask : BitVec 32
  /-- the bundle in flight that holds the entry -/
  flight : Option Nat
  deriving DecidableEq, Repr

/-- Fault summary of a wave (R427). -/
structure FSum where
  cause : BitVec 5
  lane : BitVec 5
  clause : DWord
  idx : BitVec 4
  deferred : Bool
  valid : Bool
  deriving DecidableEq, Repr

/-- One wave (R171, R427). -/
structure Wave where
  w : List Word
  lanes : List Lane
  /-- ld st cp mx tx nd gm -/
  ctrs : List Nat
  /-- operations issued on each counter, in the same order (R430) -/
  issued : List Nat
  part : Nat
  wslot : Nat
  stamp : BitVec 32
  entries : List Entry
  fsum : FSum
  lcause : List (BitVec 5)
  allow : Option WordRec
  rperm : Option WordRec
  deriving DecidableEq, Repr

/-- A team barrier (R215). -/
structure Barrier where
  gen : BitVec 32
  expect : BitVec 16
  arrived : BitVec 16
  txpend : BitVec 32
  deriving DecidableEq, Repr

/-- An operand-buffer handle (R320): STATE 0 free, 1 filling, 2 full, 3 draining. -/
structure Handle where
  state : Nat
  next : Bool
  fmt : Nat
  baxis : Bool
  gcnt : Nat
  scoff : Nat
  plf : Nat
  mxout : Nat
  pend : BitVec 32
  /-- refill amount of OBSTATE.refill that waits for draining to end -/
  refill : BitVec 32
  /-- OBSTATE.full waits for the copies in flight (R321) -/
  full : Bool
  data : List Host.Cell
  deriving DecidableEq, Repr

/-- An accumulator tile with its type and allowance register (R327, R328). -/
structure Tile where
  /-- 4,096 elements, row by row; an empty list is all zeros -/
  elems : List Word
  int : Bool
  limit : BitVec 16
  value : BitVec 16
  deriving DecidableEq, Repr

/-- The operand collector latch of a team (R332). -/
structure Latch where
  /-- A type: 0 i8, 1 e4, 2 e5, 3 h, 4 bf -/
  aty : Nat
  rows : Nat
  /-- captured A words of each row, and its scale -/
  data : List (List Word)
  scales : List (Option Nat)
  deriving DecidableEq, Repr

/-- A matrix operation as its word captured it (R330 to R347). -/
structure MxJob where
  lane : Nat
  aty : Nat
  /-- rows on each tile, columns -/
  m : Nat
  n : Nat
  handle : Nat
  /-- byte O of the handle at which B starts -/
  off : Nat
  tile : Nat
  am : Nat
  /-- A rows, 16 register words each, and their scale codes; rows 64 to 127 are the partner's -/
  rows : List (List Word)
  scales : List (Option Nat)
  /-- partner team of a paired operation -/
  mate : Option Nat
  /-- integer form (R338) -/
  int : Bool
  /-- planes of B that the attempt reads -/
  planes : Nat
  started : Bool
  /-- shadow tiles held by a checked operation (R340): the issuer's, then the partner's -/
  shadows : List Tile
  /-- FNMODE.ALW as it stood when the shadows were taken (R457) -/
  alw : Bool
  deriving DecidableEq, Repr

/-- What an operation on one tile does (R349 to R355). -/
inductive TileAct where
  | load (int : Bool)
  /-- format code of R349, and .cols -/
  | store (fmt : Nat) (cols : Bool)
  | zero (int : Bool)
  | setAll (v : Word)
  | setLim (v : Word)
  /-- destination and lanes that take the value -/
  | get (rd : Nat) (lanes : List Nat)
  deriving DecidableEq, Repr

/-- Where a team stands. -/
inductive Place where
  /-- waits in its die's queue, to start anew (flushed) -/
  | waiting
  | resident
  /-- saved in a slot of its die's pool -/
  | saved (slot : Nat)
  | ended
  deriving DecidableEq, Repr

/-- How a resident team is being taken off its core (R446 to R450, R476). -/
inductive Leaving where
  | no
  | flush
  | drain (since : Nat)
  /-- REASON of the save area -/
  | save (reason : Nat)
  deriving DecidableEq, Repr

/-- The cause with which a team ends (R445). -/
structure Fatal where
  cause : Nat
  wave : Nat
  lane : Nat
  clause : DWord
  idx : Nat
  addr : DWord
  write : Bool
  fetch : Bool
  /-- a record pending at exit (KIND 4) -/
  atExit : Bool
  deriving DecidableEq, Repr

/-- A debug record to come (R481). -/
structure DbgHit where
  kind : Nat
  n : Nat
  wave : Nat
  lane : Nat
  clause : DWord
  idx : Nat
  code : Nat
  addr : DWord
  parked : Bool
  gtime : DWord
  deriving DecidableEq, Repr

/-- A team (R171). -/
structure Team where
  grid : Nat
  t : Nat
  die : Nat
  core : Nat
  place : Place
  waves : List Wave
  bars : List Barrier
  handles : List Handle
  tiles : List Tile
  latch : Option Latch
  spad : List Host.Cell
  /-- lines whose presence bit is clear, rising -/
  absentLines : List Nat
  hold : Option DWord
  /-- held split entry: its four registers, or none -/
  held : Option (List Word)
  nu : BitVec 5
  nv : BitVec 5
  retc : Nat
  /-- race-detection vectors V, P and A (R470, R471); an empty V is the starting stamp, an empty P or A all zeros -/
  stampV : List (BitVec 32)
  stampP : List (BitVec 32)
  stampA : List (BitVec 32)
  /-- sectors written by copies, for the acquire at a cp wait: wave, operation and sector (R471) -/
  acqKeys : List (Nat × Nat × Nat)
  placedAt : Nat
  blockedSince : Option Nat
  leaving : Leaving
  fatal : Option Fatal
  /-- why it was saved; the team waits in the die's queue of swapped-out teams unless saved by debug -/
  reason : Nat
  /-- saved by the last slice: new indices come first (R198) -/
  sliced : Bool
  /-- a debugger's single step: wave and lane (R482) -/
  step : Option (Nat × Nat)
  /-- the team takes no picks while a DUMP gathers it (R484) -/
  frozen : Bool
  /-- debug records that wait for the save slot's number (R480, R481) -/
  hits : List DbgHit
  deriving DecidableEq, Repr

/-- An extent of a grid with its physical pages (R437 to R439). -/
structure Extent where
  base : DWord
  len : Nat
  w : Bool
  /-- physical page base of each 64 KiB page touched, in order -/
  pages : List Nat
  deriving DecidableEq, Repr

/-- How far a grid has come. -/
inductive GridPhase where
  /-- admitted; its extents wait for translation -/
  | extents
  | running
  | complete
  deriving DecidableEq, Repr

/-- An admitted grid (R191, R530). -/
structure Grid where
  slot : Nat
  gid : Nat
  root : Nat
  /-- runs in the firmware's private space (R505, R535) -/
  firmware : Bool
  entry : DWord
  handler : DWord
  seed : DWord
  stkBase : DWord
  stkSize : Nat
  gx : Nat
  gy : Nat
  gz : Nat
  tx : Nat
  ty : Nat
  tz : Nat
  regs : Nat
  scr : Nat
  acct : Nat
  cl2 : Bool
  qmap : Bool
  priv : Bool
  det : Bool
  idem : Bool
  shape : Nat
  lrec : DWord
  winit : List Word
  extents : List Extent
  /-- dies that have translated the extents (R438) -/
  extOk : List Nat
  /-- the extents as each of them has translated them, kept until the grid has ended (R439) -/
  dieExtents : List (Nat × List Extent)
  dbase : Nat
  dcnt : Nat
  /-- physical address of the completion record -/
  crec : Option Nat
  phase : GridPhase
  fatals : Nat
  /-- DSHR0 to DSHR7 as at admission (R461) -/
  dshr : List DWord
  /-- index counter of a deterministic grid (R200) -/
  detNext : Nat
  /-- holder of the commit token: t, wave and lane, and the turn's operation count (R462, R463) -/
  token : Option (Nat × Nat × Nat)
  tokenOps : Nat
  /-- dies that have reported the grid exhausted (R195) -/
  exhausted : List Nat
  deriving DecidableEq, Repr

/-- A TLB entry: the address space, the virtual page of 64 KiB, its physical page and the leaf's rights (R434): bit 0 R,
bit 1 W, bit 2 X, bit 3 PRIVO; bit 4 stands for a page of a 512 MiB leaf. -/
structure Tlbe where
  grid : Nat
  vpn : Nat
  ppn : Nat
  rights : Nat
  deriving DecidableEq, Repr

/-- An L1 sector that is Valid or Owned (R234), the SRAM slice in which its line stands (R233), and whether the line is a
first candidate for eviction (R136). -/
structure L1Sector where
  die : Nat
  core : Nat
  sector : Nat
  owned : Bool
  data : BitVec 128
  slice : Nat
  strm : Bool
  deriving DecidableEq, Repr

/-- A die L2 sector: its owner core and its data (R234), and whether its line is a first candidate for eviction (R136). -/
structure L2Sector where
  die : Nat
  sector : Nat
  owner : Option Nat
  data : BitVec 128
  strm : Bool
  deriving DecidableEq, Repr

/-- A line that one die holds dirty, the sectors it has written, and the guard's verdict (R239, R432). -/
structure DirLine where
  line : Nat
  die : Nat
  mask : BitVec 8
  okOrd : Bool
  okPrv : Bool
  deriving DecidableEq, Repr

/-- An SRAM slice of a core that serves as scratchpad, and its team (R233). -/
structure Slice where
  die : Nat
  core : Nat
  slice : Nat
  team : Nat
  deriving DecidableEq, Repr

/-- Memory: the listed bytes, the uncorrectable code words and those with an error that a read will correct (R532), and the
caches (R226 to R239, R524). -/
structure Memory where
  cells : List Host.Cell
  poison : List Nat
  flips : List Nat
  l1 : List L1Sector
  l2 : List L2Sector
  dir : List DirLine
  /-- slices that serve as scratchpad; every other slice serves as L1 (R233) -/
  scratch : List Slice
  /-- the hub's firmware store (R535) -/
  fw : List Host.Cell
  deriving DecidableEq, Repr

/-- A register result of an operation: lane, selector and value (R43). -/
structure RegRes where
  lane : Nat
  sel : Nat
  val : Word
  deriving DecidableEq, Repr

/-- A predicate result of an operation. -/
structure PredRes where
  lane : Nat
  p : Nat
  val : Bool
  deriving DecidableEq, Repr

/-- An operation on one tile: its bytes lie at the places, in order (R353 to R355). -/
structure TileJob where
  lane : Nat
  tile : Nat
  act : TileAct
  places : List (DWord × Target × Nat)
  deriving DecidableEq, Repr

/-- One lane's part of a store not yet performed. -/
structure StAcc where
  lane : Nat
  va : DWord
  tgt : Target
  bytes : List Byte
  cc : Nat
  deriving DecidableEq, Repr

/-- One contiguous piece of a copy: where it is read and where it goes (R317, R318). -/
structure Piece where
  /-- none: every byte is `fill` (an element outside the tensor; a scale or bound without an array) -/
  src : Option Target
  fill : Byte
  /-- virtual address of the destination -/
  va : DWord
  dst : Target
  /-- handle destination, in place of `dst`: handle and offset -/
  hnd : Option (Nat × Nat)
  n : Nat
  deriving DecidableEq, Repr

/-- One lane's copy (R315 to R319); in flight while it has pieces. -/
structure Copy where
  lane : Nat
  bar : Option Nat
  pieces : List Piece
  /-- scratchpad lines still owed: team and line -/
  lines : List (Nat × Nat)
  hnd : Option Nat
  /-- sectors stamped at issue (R471) -/
  keys : List Nat
  deriving DecidableEq, Repr

/-- A ray state record (R403). -/
structure RayRec where
  /-- binary32 codes of the origin and the direction -/
  o : List Nat
  d : List Nat
  tmin : Nat
  tmax : Nat
  root : DWord
  trail : Nat
  depth : Nat
  slot : Nat
  hit : Bool
  hback : Bool
  hslot : Nat
  phase : Nat
  cback : Bool
  malf : Bool
  hprim : Nat
  hu : Nat
  hv : Nat
  rflags : Nat
  reason : Nat
  deriving DecidableEq, Repr

/-- A RAY operation of one lane (R396 to R417). -/
structure Ray where
  lane : Nat
  rd : Nat
  va : DWord
  tgt : Target
  rcd : RayRec
  /-- goes on along TRAIL (R407) -/
  resume : Bool
  /-- a result block that needs no traversal -/
  fixed : Option (List Word)
  done : Bool
  /-- parked on a fault-queue entry, or, the queue being full, still to post one: cause and address -/
  fq : Option Nat
  want : Option (Nat × DWord)
  /-- a TRACE that waits inside the Needle to begin, for an earlier operation of its lane or for its record's presence bit
  (R412) -/
  todo : Bool
  /-- recorded in the save area of its team (R417, R453) -/
  kept : Bool
  deriving DecidableEq, Repr

/-- A range of team indices in a die's queue (R193, R510). -/
structure Range where
  grid : Nat
  next : Nat
  stop : Nat
  deriving DecidableEq, Repr

/-- A feedback bit that a lane of a texture word sets: the byte's address, where it goes, and the bit (R247). -/
structure FeedbackBit where
  lane : Nat
  va : DWord
  dst : Target
  bit : Nat
  deriving DecidableEq, Repr

/-- What an outstanding operation has still to do. -/
inductive OpBody where
  /-- results only -/
  | plain
  | store (accs : List StAcc)
  | copies (cs : List Copy)
  /-- OBRES, OBREL, OBSTATE, PRSET or PRCLR: presence lines to change (team, first line, count, set) and handles that
  OBSTATE.full waits for -/
  | shuttle (lines : List (Nat × Nat × Nat × Bool)) (waits : List Nat)
  | mx (j : MxJob)
  | mangle (j : TileJob)
  | rays (rs : List Ray)
  /-- DICE.run: destination, held entry, record bytes as read at the word -/
  | dice (lane : Nat) (dst : Nat × Nat) (ent : List Word) (record : List Byte)
  /-- GEMIT: the entry that the team held at the word, block in a scratchpad, ticket, OPQ, OI, NU and NV -/
  | gemit (lane : Nat) (ent : Option (List Word)) (blk : Nat × Nat) (ticket : DWord) (opq oi : Bool) (nu nv : Nat)
  /-- a texture word's feedback bits -/
  | texture (fb : List FeedbackBit)
  | dump (lane : Nat) (buf : DWord) (size : Nat)
  /-- a packet to the hub mailbox, or to a die -/
  | packet (dst : Option Nat) (pkt : List DWord)
  /-- SPAWN, and the range that stands in the die's queue once it retires (R510) -/
  | spawn (pkt : List Word) (range : Option Range)
  /-- DICE.bind and .unbind: bundles whose clause must end first -/
  | bind
  deriving DecidableEq, Repr

/-- An outstanding operation of a wave (R43, R134, R308). -/
structure Op where
  id : Nat
  team : Nat
  wave : Nat
  ctr : Ctr
  clause : DWord
  idx : Nat
  /-- its number among the wave's operations on the counter (R430) -/
  seq : Nat
  /-- finished for every lane; retires once every earlier one of its wave and class has (R308) -/
  done : Bool
  /-- the counter falls when the operation retires; of several operations of one word in a wave, the last (R308) -/
  counts : Bool
  /-- a register or predicate result is outstanding (R44) -/
  writes : Bool
  regs : List RegRes
  preds : List PredRes
  /-- lanes whose result an uncorrectable error withholds, with the address (R430) -/
  eccs : List (Nat × DWord)
  body : OpBody
  deriving DecidableEq, Repr

/-- One entry of a bundle (R185). -/
structure Member where
  team : Nat
  wave : Nat
  slot : Nat
  mask : BitVec 32
  deriving DecidableEq, Repr

/-- What a walk finds (R245): a leaf, its physical page of 64 KiB and rights, or NOTMAPPED. -/
inductive Walk where
  | leaf (ppn : Nat) (rights : Nat)
  | none
  deriving DecidableEq, Repr

/-- One lane: team, wave of the team, lane of the wave. -/
structure Ref where
  team : Nat
  wave : Nat
  lane : Nat
  deriving DecidableEq, Repr

/-- A DICE.run as its word found it: its lane, the destination's team and offset, the entry and the record (R376). -/
structure DiceJob where
  r : Ref
  dst : Nat × Nat
  ent : List Word
  record : List Byte
  deriving DecidableEq, Repr

/-- A bundle in flight (R185, R188). -/
structure Bundle where
  id : Nat
  die : Nat
  core : Nat
  part : Nat
  members : List Member
  clause : DWord
  idx : Nat
  n : Nat
  words : List DWord
  /-- a decode cause raised when its word is reached (R53) -/
  bad : Option (Cause × Nat)
  /-- Y of the header (R32) -/
  yh : Bool
  /-- parked on a switch marker (R44) -/
  marker : Bool
  /-- next PCs of the lanes that the last word transfers: team, wave, lane, clause and index (R128, R180) -/
  targets : List (Nat × Nat × Nat × DWord × Nat)
  /-- entry images of SPLWR words of this clause: wave's team and wave, mask, image (R224) -/
  images : List (Nat × Nat × List Word)
  /-- translations its word waits for: grid and virtual page -/
  walks : List (Nat × Nat)
  /-- walks made for its word: grid, virtual page and what the walk found -/
  walked : List (Nat × Nat × Walk)
  /-- what the lanes of its word have reported (R426) -/
  told : List Report
  /-- a DICE.run that has been judged and waits for its Shears unit (R376) -/
  diced : Option (List DiceJob)
  /-- its word waits for an engine, a count or a walk, and nothing has changed since (R188) -/
  stalled : Bool
  deriving DecidableEq, Repr

/-- A fault-queue entry (R441): STATE 1 pending, 2 replaying, 3 report; absent when free. With an index at or above 256 the
fault still waits for a free entry (R442). -/
structure FqEntry where
  index : Nat
  state : Nat
  kind : Nat
  saved : Bool
  fetch : Bool
  write : Bool
  cause : Nat
  idx : Nat
  lane : Nat
  wave : Nat
  core : Nat
  grid : Nat
  team : Nat
  /-- the team, when one is concerned -/
  tid : Option Nat
  lanes : BitVec 32
  addr : DWord
  clause : DWord
  deriving DecidableEq, Repr

/-- A ring of a die or of the hub: BASE, SIZE, HEAD, TAIL, LOST (R474). -/
structure Ring where
  base : DWord
  size : BitVec 64
  head : BitVec 64
  tail : BitVec 64
  lost : BitVec 32
  deriving DecidableEq, Repr

/-- A split-queue entry (R362). -/
structure SplitEntry where
  grid : Nat
  regs : List Word
  deriving DecidableEq, Repr

/-- A grid copy in the exchange, a Basket or a spill area (R380, R381, R515). -/
structure GridCopy where
  ticket : DWord
  nu : Nat
  nv : Nat
  opq : Bool
  oi : Bool
  /-- vertices, row by row: sx, sy, iz at both times, then the colour words RG and BA; none when invalid -/
  verts : List (Option (List Word))
  /-- tiles to sample from it -/
  tiles : List Nat
  /-- stands in a reserved slot -/
  resv : Bool
  /-- place in the spill area, in units of a copy, while it is spilled (R519; log 46) -/
  place : Nat
  deriving DecidableEq, Repr

/-- What the hub sends down a die's link, in hub order (R500): a grid copy, the value V of a die (R515, R516), a packet for the
mailbox (R502), or the handoff of a tile (R514). -/
inductive Msg where
  | copy (c : GridCopy)
  | mark (die : Nat) (v : DWord)
  | packet (p : List DWord)
  | handoff (tile : Nat)
  deriving DecidableEq, Repr

/-- A cut range in a transit slot (R511), or behind a transit charge (R516): the die that is charged, and whether its
SPAWN has retired or its steal has landed. -/
structure Transit where
  gid : Nat
  lo : Nat
  hi : Nat
  dbase : Nat
  die : Nat
  landed : Bool
  deriving DecidableEq, Repr

/-- A record of a lint shadow (R472). -/
structure ShadowRec where
  grid : Nat
  team : Nat
  clock : BitVec 32
  mask : BitVec 16
  clause : DWord
  idx : Nat
  wave : Nat
  lane : Nat
  atomic : Bool
  deriving DecidableEq, Repr

/-- Lint shadow of a 16-byte sector: the last write and the last read (R472). -/
structure Shadow where
  sector : Nat
  wr : Option ShadowRec
  rd : Option ShadowRec
  deriving DecidableEq, Repr

/-- Sync vector of a sector (R471). -/
structure SyncVec where
  sector : Nat
  v : List (BitVec 32)
  deriving DecidableEq, Repr

/-- A compute die (R2). -/
structure Die where
  tslice : BitVec 32
  preq : BitVec 32
  pctl : BitVec 64
  spbase : BitVec 64
  spsize : BitVec 32
  lost : BitVec 8
  faultQ : List FqEntry
  lintctl : BitVec 32
  dbgctl : BitVec 32
  /-- SLOT of DBGCMD as it was last written (R482) -/
  dbgSlot : BitVec 16
  bps : List (BitVec 64)
  wps : List (BitVec 64)
  lint : Ring
  dbg : Ring
  pm : Ring
  mailbox : List (List DWord)
  /-- the hub's buffer for this mailbox -/
  hubBuf : List (List DWord)
  ranges : List Range
  /-- grids that have a slot on the die, with the launch record's address (R510) -/
  known : List (Nat × DWord)
  transit : List Transit
  splitQ : List SplitEntry
  basket : List GridCopy
  spill : List GridCopy
  /-- messages on their way in, in hub order -/
  inbound : List Msg
  /-- copies that have arrived and found no slot (R381) -/
  exchange : List GridCopy
  /-- last value V received for each die; all ones is none (R515) -/
  vrecv : List DWord
  /-- last watermark sent -/
  vsent : DWord
  /-- tiles given to this die whose handoff has not arrived (R514) -/
  blocked : List Nat
  /-- the SPILL packet of a full spill area is posted (R519) -/
  spillTold : Bool
  /-- waiting teams in order: flushed and swapped-out -/
  queue : List Nat
  /-- running average of placement-to-end clocks per grid -/
  avg : List (Nat × Nat)
  /-- grid slots pre-empted -/
  preempted : List Nat
  shadows : List Shadow
  syncs : List SyncVec
  /-- pick numbers of partitions other than 0: core, partition, number -/
  picks : List (Nat × Nat × BitVec 32)
  tlbs : List (Nat × Tlbe)
  /-- clocks for which a core was not clocked: core, count -/
  lag : List (Nat × Nat)
  deriving DecidableEq, Repr

/-- A write-guard entry (R432, R534). -/
structure Guard64 where
  w0 : BitVec 64
  w1 : BitVec 64
  deriving DecidableEq, Repr

/-- Error registers of a memory die (R533). -/
structure MdErr where
  ce : BitVec 32
  ue : BitVec 32
  last : BitVec 64
  deriving DecidableEq, Repr

/-- The open frame (R384 to R393, R513, R531). -/
structure Frame where
  record : List Byte
  pattern : List Byte
  owners : List Byte
  root : Nat
  /-- translated ranges: virtual base, length, physical pages -/
  ranges : List Extent
  seq : Nat
  dataErr : Bool
  /-- tiles whose completion record is written -/
  doneTiles : List Nat
  /-- tiles that have a new owner (R514) -/
  moves : List (Nat × Nat)
  /-- a move whose handoff is not complete: tile, old owner, new owner -/
  handoff : Option (Nat × Nat × Nat)
  /-- ENDFRAME has been taken: its completion record's physical address, if any -/
  ending : Option (Option Nat)
  crec : Option Nat
  deriving DecidableEq, Repr

/-- The hub (R2). -/
structure Hub where
  gtime : BitVec 64
  bootstat : Nat
  fnmode : BitVec 32
  tlbsync : BitVec 64
  pmctl : BitVec 32
  ownmove : BitVec 32
  qctl : BitVec 64
  qstat : BitVec 64
  /-- the hottest junction that the firmware has last read, in °C (R537; log 15) -/
  heat : Nat
  hbar : BitVec 64
  dshr : List DWord
  fwaddr : BitVec 64
  fwlen : BitVec 64
  fwgo : BitVec 64
  sq : Ring
  /-- DSHR0 to DSHR7 as they stood when SQTAIL released the packets that wait, with the number released together (R459) -/
  sqDshr : List (Nat × List DWord)
  eq : Ring
  guards : List Guard64
  guardLog : List Guard64
  glhead : BitVec 64
  mderr : List MdErr
  /-- packets waiting for EQ, in hub order -/
  eqWait : List (List DWord)
  nextGid : Nat
  frame : Option Frame
  /-- transit charges (R516) -/
  charges : List Transit
  /-- last watermark taken from each die -/
  vtaken : List DWord
  /-- last value V delivered for each die -/
  vlast : List DWord
  floor : BitVec 32
  /-- overflow vector of evicted sync vectors (R473); an empty list is all zeros -/
  overflow : List (BitVec 32)
  /-- words and copies whose checks used a translation that a TLB sync drops: operations awaited -/
  syncOps : List Nat
  /-- walks in flight when the sync was started: bundle, grid and virtual page (R436) -/
  syncWalks : List (Nat × Nat × Nat)
  /-- PMCTL as the dies act on it since the last tick, and whether the next record covers a partial period (R487) -/
  pmact : BitVec 32
  pmpart : Bool
  deriving DecidableEq, Repr

/-- Who acts in a step. -/
inductive Turn where
  /-- the next word of a bundle -/
  | word (bundle : Nat)
  /-- an event of the table, with its operands -/
  | ev (i : Instr) (a : EvArgs)
  /-- an error in a code word of GDDR7, correctable or not (R532; log 71) -/
  | upset (codeWord : Nat) (correctable : Bool)
  deriving DecidableEq, Repr

/-- The module. -/
structure State where
  mem : Memory
  hub : Hub
  dies : List Die
  grids : List Grid
  teams : List Team
  ops : List Op
  bundles : List Bundle
  nextOp : Nat
  nextBundle : Nat
  /-- who acts next, in order; when empty the choice is free (log 2) -/
  agenda : List Turn
  /-- counter of free values (log 2) -/
  free : Nat
  /-- the bundle whose word issues in this step -/
  issue : Option Bundle
  /-- operands of the event that acts in this step -/
  args : EvArgs
  deriving DecidableEq, Repr

def Ring.reset : Ring := { base := 0, size := 0, head := 0, tail := 0, lost := 0 }

def Die.reset : Die :=
  { tslice := 0x1000, preq := 0, pctl := 0x0001000000000400, spbase := 0, spsize := 0, lost := 0, faultQ := [],
    lintctl := 0, dbgctl := 0, dbgSlot := 0, bps := List.replicate 8 0, wps := List.replicate 4 0,
    lint := Ring.reset, dbg := Ring.reset, pm := Ring.reset, mailbox := [], hubBuf := [], ranges := [],
    known := [], transit := [], splitQ := [], basket := [], spill := [], inbound := [], exchange := [],
    vrecv := List.replicate 8 0xFFFFFFFFFFFFFFFF, vsent := 0xFFFFFFFFFFFFFFFF, blocked := [], spillTold := false,
    queue := [], avg := [], preempted := [], shadows := [], syncs := [], picks := [], tlbs := [],
    lag := [] }

def Hub.reset : Hub :=
  { gtime := 0, bootstat := 0, fnmode := 0, tlbsync := 0, pmctl := 16, ownmove := 0,
    qctl := 0x38044C, qstat := 0x380000, heat := 0, hbar := 0, dshr := List.replicate 8 0, fwaddr := 0, fwlen := 0, fwgo := 0,
    sq := Ring.reset, sqDshr := [], eq := Ring.reset, guards := List.replicate 32 { w0 := 0, w1 := 0 },
    guardLog := List.replicate 16 { w0 := 0, w1 := 0 }, glhead := 0,
    mderr := List.replicate 4 { ce := 0, ue := 0, last := 0 }, eqWait := [], nextGid := 1, frame := none,
    charges := [], vtaken := List.replicate 8 0xFFFFFFFFFFFFFFFF, vlast := List.replicate 8 0xFFFFFFFFFFFFFFFF,
    floor := 0, overflow := [], syncOps := [], syncWalks := [], pmact := 16, pmpart := false }

def Memory.reset : Memory := { cells := [], poison := [], flips := [], l1 := [], l2 := [], dir := [], scratch := [], fw := [] }

/-- The module right after reset: nothing runs until the firmware has booted (R535). -/
def State.reset : State :=
  { mem := Memory.reset, hub := Hub.reset, dies := List.replicate 8 Die.reset, grids := [], teams := [], ops := [],
    bundles := [], nextOp := 0, nextBundle := 0, agenda := [], free := 0, issue := none, args := {} }

end Sys2Proof.Machine
end

