-- ==== Sys2Proof/Machine/Mem.lean ====
section
/-! DEFINITION. Sys2Proof/Machine/Mem.lean: bytes, sectors, the two cache levels and the hub directory (R226 to R239), the
write guard (R432, R433) and uncorrectable code words (R430, R532). -/

namespace Sys2Proof.Machine

/-! ### Sparse bytes: addresses strictly rising, no listed zero -/

/-- What an unlisted byte reads as (log 1). -/
def unlisted : Byte := 0

/-- The byte at an address. -/
def cellsRead : List Host.Cell → Nat → Byte
  | [], _ => unlisted
  | (k, b) :: t, a => if a < k then unlisted else if a = k then b else cellsRead t a

/-- One byte written; writing what an unlisted byte reads as removes the entry. -/
def cellsWrite : List Host.Cell → Nat → Byte → List Host.Cell
  | [], a, v => if v = unlisted then [] else [(a, v)]
  | (k, b) :: t, a, v =>
    if a < k then (if v = unlisted then (k, b) :: t else (a, v) :: (k, b) :: t)
    else if a = k then (if v = unlisted then t else (a, v) :: t)
    else (k, b) :: cellsWrite t a v

/-- `n` bytes from an address. -/
def cellsReadN (c : List Host.Cell) : Nat → Nat → List Byte
  | _, 0 => []
  | a, n + 1 => cellsRead c a :: cellsReadN c (a + 1) n

/-- Bytes written from an address up. -/
def cellsWriteN (c : List Host.Cell) : Nat → List Byte → List Host.Cell
  | _, [] => c
  | a, b :: bs => cellsWriteN (cellsWrite c a b) (a + 1) bs

/-- Canonical form of a list of bytes: every key at or above `lo`, strictly rising, no listed zero. -/
def cellsWfFrom : Nat → List Host.Cell → Bool
  | _, [] => true
  | lo, (k, b) :: t => lo ≤ k && b != unlisted && cellsWfFrom (k + 1) t

def cellsWf (c : List Host.Cell) : Bool := cellsWfFrom 0 c

/-- The memory's canonical form: device and host bytes, and the firmware store. -/
def Memory.wf (m : Memory) : Bool := cellsWf m.cells && cellsWf m.fw

/-! ### Sectors -/

/-- 16 bytes as a sector value (R7, R234). -/
def sectorOf (b : List Byte) : BitVec 128 := BitVec.ofNat 128 (leNat b)

/-- The bytes of a sector value. -/
def sectorBytes (d : BitVec 128) : List Byte := leBytes 16 d.toNat

/-- A sector as GDDR7 or host memory holds it. -/
def Memory.raw (m : Memory) (sec : Nat) : BitVec 128 := sectorOf (cellsReadN m.cells (16 * sec) 16)

/-- Sector 2k and 2k + 1 share code word k (R430). -/
def Memory.poisoned (m : Memory) (sec : Nat) : Bool := m.poison.contains (sec / 2)

def Memory.l1Find (m : Memory) (die core sec : Nat) : Option L1Sector :=
  m.l1.find? fun x => x.die == die && x.core == core && x.sector == sec

def Memory.l2Find (m : Memory) (die sec : Nat) : Option L2Sector :=
  m.l2.find? fun x => x.die == die && x.sector == sec

def Memory.l1Drop (m : Memory) (die core sec : Nat) : Memory :=
  { m with l1 := m.l1.filter fun x => !(x.die == die && x.core == core && x.sector == sec) }

def Memory.l2Drop (m : Memory) (die sec : Nat) : Memory :=
  { m with l2 := m.l2.filter fun x => !(x.die == die && x.sector == sec) }

/-- A die L2 sector is written; it stands first in the list. -/
def Memory.l2Put (m : Memory) (x : L2Sector) : Memory :=
  let m := m.l2Drop x.die x.sector
  { m with l2 := x :: m.l2 }

/-! ### The slices of a core's SRAM (R233) -/

/-- A slice of a core serves as scratchpad. -/
def Memory.isScratch (m : Memory) (die core k : Nat) : Bool :=
  m.scratch.any fun x => x.die == die && x.core == core && x.slice == k

/-- Lines of a list of sectors. -/
def linesOf (secs : List Nat) : List Nat := (secs.map (· / 8)).eraseDups

/-- A slice that serves as L1 has room for another line. -/
def Memory.sliceRoom (m : Memory) (die core k : Nat) : Bool :=
  let secs := (m.l1.filter fun x => x.die == die && x.core == core && x.slice == k).map (·.sector)
  !m.isScratch die core k && (decide (secs.length < Config.sliceLines) || decide ((linesOf secs).length < Config.sliceLines))

/-- An L1 line is evicted: Owned sectors are written to the die L2 with no core owner, Valid ones are dropped (R238). -/
def Memory.evictL1 (m : Memory) (die core line : Nat) : Memory :=
  let mine := m.l1.filter fun x => x.die == die && x.core == core && x.sector / 8 == line
  let m := mine.foldl (fun m x =>
    if x.owned then m.l2Put { die, sector := x.sector, owner := none, data := x.data, strm := x.strm } else m) m
  { m with l1 := m.l1.filter fun x => !(x.die == die && x.core == core && x.sector / 8 == line) }

/-- The sector of a list whose line makes room: a first candidate for eviction, or else the one that has stood longest
(R136; log 72). -/
def victim {α : Type} (strm : α → Bool) (xs : List α) : Option α :=
  match (xs.filter strm).getLast? with
  | some x => some x
  | none => xs.getLast?

/-- Room for a line of a core: the slice in which it stands, the lowest-numbered with room, or that of a line evicted
(R233, R238; log 72). -/
def Memory.l1Room (m : Memory) (die core line : Nat) : Memory × Nat :=
  match m.l1.find? fun x => x.die == die && x.core == core && x.sector / 8 == line with
  | some x => (m, x.slice)
  | none =>
    match (List.range Config.coreSlices).find? fun k => m.sliceRoom die core k with
    | some k => (m, k)
    | none =>
      match victim L1Sector.strm (m.l1.filter fun x => x.die == die && x.core == core) with
      | some v => (m.evictL1 die core (v.sector / 8), v.slice)
      | none => (m, 0)

/-- An L1 sector is written; it stands first in the list. -/
def Memory.l1Put (m : Memory) (die core sec : Nat) (owned : Bool) (data : BitVec 128) (strm : Bool) : Memory :=
  let (m, slice) := m.l1Room die core (sec / 8)
  let m := m.l1Drop die core sec
  { m with l1 := { die, core, sector := sec, owned, data, slice, strm } :: m.l1 }

/-- A slice moves from L1 to scratchpad: its owned sectors go to the die L2, and it holds no line (R233). -/
def Memory.giveSlice (m : Memory) (die core k team : Nat) : Memory :=
  let lines := linesOf ((m.l1.filter fun x => x.die == die && x.core == core && x.slice == k).map (·.sector))
  let m := lines.foldl (fun m l => m.evictL1 die core l) m
  { m with scratch := { die, core, slice := k, team } :: m.scratch }

/-- The `n` lowest-numbered slices that serve as L1 become the scratchpad of a team (R233; log 72). -/
def Memory.giveSlices (m : Memory) (die core team n : Nat) : Memory :=
  (((List.range Config.coreSlices).filter fun k => !m.isScratch die core k).take n).foldl
    (fun m k => m.giveSlice die core k team) m

/-- A team's slices rejoin the L1 empty (R233). -/
def Memory.takeSlices (m : Memory) (team : Nat) : Memory := { m with scratch := m.scratch.filter fun x => x.team != team }

def Memory.dirFind (m : Memory) (line : Nat) : Option DirLine := m.dir.find? fun x => x.line == line

/-- A sector lies in GDDR7 and so may be cached (R524). -/
def cacheable (sec : Nat) : Bool := 16 * sec < Config.gddrTop

/-- The data of a sector as a die holds it: from its owner core, or from the L2. -/
def Memory.dieData (m : Memory) (die sec : Nat) : Option (BitVec 128) :=
  match m.l2Find die sec with
  | none => none
  | some x =>
    match x.owner with
    | some c => some ((m.l1Find die c sec).map (·.data) |>.getD x.data)
    | none => some x.data

/-- The current data of a sector is what GDDR7 or host memory holds (R239). -/
def Memory.atMemory (m : Memory) (sec : Nat) : Bool :=
  match m.dirFind (sec / 8) with
  | some d => !(d.mask.getLsbD (sec % 8)) || (m.dieData d.die sec).isNone
  | none => true

/-- The current data of a sector in the module: of the die that has written it, or of memory (R239); none for an
uncorrectable code word. -/
def Memory.current (m : Memory) (sec : Nat) : Option (BitVec 128) :=
  let fromMem := if m.poisoned sec then none else some (m.raw sec)
  match m.dirFind (sec / 8) with
  | some d => if d.mask.getLsbD (sec % 8) then (match m.dieData d.die sec with | some v => some v | none => fromMem) else fromMem
  | none => fromMem

/-- A die L2 read of a sector (R236, R239): a miss goes to the hub and leaves an unowned copy. -/
def Memory.dieRead (m : Memory) (die sec : Nat) (strm : Bool) : Memory × Option (BitVec 128) :=
  match m.dieData die sec with
  | some v => (m, some v)
  | none =>
    match m.current sec with
    | none => (m, none)
    | some v => (m.l2Put { die, sector := sec, owner := none, data := v, strm }, some v)

/-- A load's read of a sector (R236); host memory is not cached (R523). -/
def Memory.coreRead (m : Memory) (die core sec : Nat) (strm : Bool) : Memory × Option (BitVec 128) :=
  if !cacheable sec then (m, if m.poisoned sec then none else some (m.raw sec))
  else
    match m.l1Find die core sec with
    | some x => (m, some x.data)
    | none =>
      match m.dieRead die sec strm with
      | (m, none) => (m, none)
      | (m, some v) => (m.l1Put die core sec false v strm, some v)

/-- A core gives up its L1 copy of a sector: an Owned one goes to the die L2, with no core owner (R238). -/
def Memory.giveUp (m : Memory) (die core sec : Nat) : Memory :=
  match m.l1Find die core sec with
  | some x =>
    let m := m.l1Drop die core sec
    if x.owned then m.l2Put { die, sector := sec, owner := none, data := x.data, strm := x.strm } else m
  | none => m

/-- A load that bypasses L1 reads the die L2 and leaves no L1 copy (R136, R238). -/
def Memory.bypassRead (m : Memory) (die core sec : Nat) : Memory × Option (BitVec 128) :=
  if !cacheable sec then (m, if m.poisoned sec then none else some (m.raw sec))
  else (m.giveUp die core sec).dieRead die sec false

/-- A read at the hub directory: the current data, with the core's and the die's older unowned copies given up. -/
def Memory.hubRead (m : Memory) (die core sec : Nat) : Memory × Option (BitVec 128) :=
  if !cacheable sec then (m, if m.poisoned sec then none else some (m.raw sec))
  else
    match m.current sec with
    | none => (m, none)
    | some v =>
      let keep := fun (x : L1Sector) => x.owned || !(x.die == die && x.core == core && x.sector == sec)
      let own := (m.dirFind (sec / 8)).map (·.die) == some die
      let m := { m with l1 := m.l1.filter keep }
      ((if own then m else m.l2Drop die sec), some v)

/-- A read at the die L2, with the core's older unowned copy given up. -/
def Memory.dieReadFresh (m : Memory) (die core sec : Nat) : Memory × Option (BitVec 128) :=
  if !cacheable sec then (m, if m.poisoned sec then none else some (m.raw sec))
  else
    let keep := fun (x : L1Sector) => x.owned || !(x.die == die && x.core == core && x.sector == sec)
    { m with l1 := m.l1.filter keep }.dieRead die sec false

/-- Write guard: lowest-numbered enabled entry that covers the address decides (R432, R534). -/
def guardVerdict (gs : List Guard64) (pa : Nat) : Bool × Bool :=
  match gs.find? fun g => g.w0.getLsbD 2 && (bitsOf g.w0.toNat 16 36 ≤ pa / 65536) && (pa / 65536 ≤ bitsOf g.w1.toNat 16 36) with
  | some g => (g.w0.getLsbD 0, g.w0.getLsbD 1)
  | none => (true, true)

/-- One sector of a line moves from the die that wrote it to the die that takes the line (R239). -/
def Memory.moveSector (m : Memory) (src dst sec : Nat) : Memory :=
  match m.dieData src sec with
  | none => m
  | some v => m.l2Put { die := dst, sector := sec, owner := none, data := v, strm := false }

/-- A die takes a line for writing from the hub (R239, R432): the old owner's written sectors travel, its L2 keeps the data of
its cores, whose copies become Valid, the new die's own unowned copies of the line are given up, and the guard's verdict is kept with the line. -/
def Memory.takeLine (m : Memory) (gs : List Guard64) (die line : Nat) : Memory :=
  match m.dirFind line with
  | some d =>
    if d.die == die then m
    else
      let m : Memory := { m with l2 := m.l2.filter fun x => !(x.die == die && x.sector / 8 == line) }
      let m : Memory := (List.range 8).foldl (fun m k => if d.mask.getLsbD k then m.moveSector d.die die (8 * line + k) else m) m
      let m : Memory := { m with
        l1 := m.l1.map (fun x => if x.die == d.die && x.sector / 8 == line then { x with owned := false } else x),
        l2 := m.l2.map (fun x => if x.die == d.die && x.sector / 8 == line then
          { x with owner := none, data := (m.dieData d.die x.sector).getD x.data } else x) }
      let v := guardVerdict gs (128 * line)
      { m with dir := m.dir.map fun x => if x.line == line then { line, die, mask := d.mask, okOrd := v.1, okPrv := v.2 } else x }
  | none =>
    let v := guardVerdict gs (128 * line)
    { m with
      l2 := m.l2.filter (fun x => !(x.die == die && x.sector / 8 == line)),
      dir := { line, die, mask := 0, okOrd := v.1, okPrv := v.2 } :: m.dir }

/-- The line's directory entry records a written sector. -/
def Memory.markDirty (m : Memory) (sec : Nat) : Memory :=
  { m with dir := m.dir.map fun x => if x.line == sec / 8 then { x with mask := x.mask ||| (1 <<< (sec % 8)) } else x }

/-- The bytes of a sector with new bytes merged in at an offset. -/
def mergeSector (d : BitVec 128) (off : Nat) (b : List Byte) : BitVec 128 := sectorOf (patchBytes (sectorBytes d) off b)

/-- Bytes of one sector change in memory and in every copy, without an access. -/
def Memory.poke (m : Memory) (pa : Nat) (b : List Byte) : Memory :=
  { m with
    cells := cellsWriteN m.cells pa b
    l1 := m.l1.map fun x => if x.sector == pa / 16 then { x with data := mergeSector x.data (pa % 16) b } else x
    l2 := m.l2.map fun x => if x.sector == pa / 16 then { x with data := mergeSector x.data (pa % 16) b } else x }

/-- The verdict the die keeps with a line. -/
def Memory.lineOk (m : Memory) (line : Nat) (priv : Bool) : Bool :=
  match m.dirFind line with
  | some d => if priv then d.okPrv else d.okOrd
  | none => true

/-- Makes a core's copies of a sector Valid, other than `but` (R235, R238). -/
def Memory.disown (m : Memory) (die sec : Nat) : Memory :=
  { m with l1 := m.l1.map fun x => if x.die == die && x.sector == sec then { x with owned := false } else x }

/-- Outcome of a write of part of one sector. -/
inductive WriteOut where
  | done
  /-- refused by the write guard (R433) -/
  | refused
  /-- the code word is uncorrectable and the write is partial (R430) -/
  | partialPoison
  deriving DecidableEq, Repr

/-- Registration of a store at the die L2 and the hub, then the merge (R235, R239); acknowledged at once (log 5). -/
def Memory.register (m : Memory) (gs : List Guard64) (die core sec off : Nat) (b : List Byte) (priv atL2 strm : Bool) :
    Memory × WriteOut :=
  let m := m.takeLine gs die (sec / 8)
  if !m.lineOk (sec / 8) priv then (m, .refused)
  else
    match m.dieRead die sec strm with
    | (m, none) => (m, .partialPoison)
    | (m, some v) =>
      let d := mergeSector v off b
      let m := (m.disown die sec).markDirty sec
      if atL2 then ((m.l1Drop die core sec).l2Put { die, sector := sec, owner := none, data := d, strm }, .done)
      else ((m.l2Put { die, sector := sec, owner := some core, data := v, strm }).l1Put die core sec true d strm, .done)

/-- A store to a sector in L1 (R235): registration, then the merge. `atL2` performs it at the die L2 instead, with no
core owner and no L1 copy left (R238, R282). -/
def Memory.sectorWrite (m : Memory) (gs : List Guard64) (die core sec off : Nat) (b : List Byte)
    (priv atL2 strm : Bool) : Memory × WriteOut :=
  if !cacheable sec then
    let v := guardVerdict gs (16 * sec)
    if !(if priv then v.2 else v.1) then (m, .refused)
    else if m.poisoned sec then (m, .partialPoison)
    else ({ m with cells := cellsWriteN m.cells (16 * sec + off) b }, .done)
  else
    match (if atL2 then none else m.l1Find die core sec) with
    | some x =>
      if x.owned then
        if m.lineOk (sec / 8) priv then (m.l1Put die core sec true (mergeSector x.data off b) x.strm, .done) else (m, .refused)
      else m.register gs die core sec off b priv atL2 strm
    | none => m.register gs die core sec off b priv atL2 strm

/-- Makes every Valid sector of a core's L1 Invalid, and at device scope the die L2's unowned sectors of lines that this
die does not own at the hub (R237). -/
def Memory.acquire (m : Memory) (die core : Nat) (device : Bool) : Memory :=
  let m := { m with l1 := m.l1.filter fun x => x.owned || !(x.die == die && x.core == core) }
  if !device then m
  else
    { m with l2 := m.l2.filter fun x =>
        x.die != die || x.owner.isSome || (m.dirFind (x.sector / 8)).map (·.die) == some die }

/-- A sector as memory holds it is replaced. -/
def Memory.putRaw (m : Memory) (sec : Nat) (v : BitVec 128) : Memory :=
  { m with cells := cellsWriteN m.cells (16 * sec) (sectorBytes v) }

/-- A code word holds no error any longer. -/
def Memory.cure (m : Memory) (code : Nat) : Memory :=
  { m with poison := m.poison.filter (fun c => c != code), flips := m.flips.filter fun c => c != code }

/-- One code word of a write-back (R430): both its sectors written make a fresh code word; one alone is a partial write of that
sector, which leaves an uncorrectable code word as it is. The partial writes are answered. -/
def Memory.writeCode (m : Memory) (code : Nat) (a b : Option (BitVec 128)) : Memory × List Nat :=
  match a, b with
  | some x, some y => (((m.cure code).putRaw (2 * code) x).putRaw (2 * code + 1) y, [])
  | some x, none => (if m.poison.contains code then m else m.putRaw (2 * code) x, [2 * code])
  | none, some y => (if m.poison.contains code then m else m.putRaw (2 * code + 1) y, [2 * code + 1])
  | none, none => (m, [])

/-- What a die has written of sector `k` of a line. -/
def Memory.wrote (m : Memory) (die line k : Nat) : Option (BitVec 128) :=
  match m.dirFind line with
  | some d => if d.die == die && d.mask.getLsbD k then m.dieData die (8 * line + k) else none
  | none => none

/-- The sectors of a line are written back, code word by code word; those that are written alone. -/
def Memory.writeLine (m : Memory) (line : Nat) (wrote : Nat → Option (BitVec 128)) : Memory × List Nat :=
  (List.range 4).foldl (fun (p : Memory × List Nat) j =>
    let x := p.1.writeCode (4 * line + j) (wrote (2 * j)) (wrote (2 * j + 1))
    (x.1, p.2 ++ x.2)) (m, [])

/-- A die L2 holds a line no longer, its cores' copies become Valid, and the directory clears the entry. -/
def Memory.dropLine (m : Memory) (die line : Nat) : Memory :=
  let m := (List.range 8).foldl (fun (acc : Memory) k => acc.disown die (8 * line + k)) m
  { m with
    l2 := m.l2.filter (fun x => !(x.die == die && x.sector / 8 == line)),
    dir := m.dir.filter (fun x => !(x.line == line && x.die == die)) }

/-- A die L2 line is evicted: owned data is recalled, the written sectors go to GDDR7, and the directory clears the entry
(R238, R239); the partial writes that this makes (R430). -/
def Memory.evictL2 (m : Memory) (die line : Nat) : Memory × List Nat :=
  let x := m.writeLine line (m.wrote die line)
  (x.1.dropLine die line, x.2)

/-- Owned sectors of a line of one core are written back to the die L2 and stay in L1 as Valid copies (R138). -/
def Memory.wbackL1 (m : Memory) (die core line : Nat) : Memory :=
  let mine := m.l1.filter fun x => x.die == die && x.core == core && x.sector / 8 == line && x.owned
  let m := mine.foldl (fun m x => m.l2Put { die, sector := x.sector, owner := none, data := x.data, strm := x.strm }) m
  { m with l1 := m.l1.map fun x =>
      if x.die == die && x.core == core && x.sector / 8 == line then { x with owned := false } else x }

/-- The owned and dirty sectors of a die L2 line reach memory; the line stays (R138). -/
def Memory.flushL2 (m : Memory) (die line : Nat) : Memory × List Nat :=
  let kept := (m.l2.filter fun x => x.die == die && x.sector / 8 == line).map fun x =>
    { x with owner := none, data := (m.dieData die x.sector).getD x.data }
  let (m, bad) := m.evictL2 die line
  (kept.foldl Memory.l2Put m, bad)

/-- The line by which a die L2 that holds more than its lines makes room (R5; log 72): a first candidate for eviction, or else
the one that has stood longest, other than `but`. -/
def Memory.l2Over (m : Memory) (die but : Nat) : Option Nat :=
  let mine := m.l2.filter fun x => x.die == die
  if mine.length ≤ Config.dieL2Lines || (linesOf (mine.map (·.sector))).length ≤ Config.dieL2Lines then none
  else (victim L2Sector.strm (mine.filter fun x => x.sector / 8 != but)).map fun x => x.sector / 8

end Sys2Proof.Machine
end

