-- ==== Sys2Proof/Machine/Access.lean ====
section
/-! DEFINITION. Sys2Proof/Machine/Access.lean: reading and changing the parts of the state, and the lanes of the word that
issues. -/

namespace Sys2Proof.Machine

def Lane.blank : Lane :=
  { absent := true, helper := false, bound := false, ended := true, g := [], p := 0, clause := 0, idx := 0, sp := 0,
    chip := [], flags := 0, gen := 0, latchClock := none, latchGtime := none, latchSeed := none, latchSp := none,
    trap := none, ecc := none, mon := none, arrival := none, fq := none, target := none, pend := none }

def Wave.blank : Wave :=
  { w := [], lanes := [], ctrs := List.replicate 7 0, issued := List.replicate 7 0, part := 0, wslot := 0, stamp := 0, entries := [],
    fsum := { cause := 0, lane := 0, clause := 0, idx := 0, deferred := false, valid := false },
    lcause := List.replicate 32 0, allow := none, rperm := none }

def Barrier.init (nt : Nat) : Barrier := { gen := 0, expect := BitVec.ofNat 16 nt, arrived := 0, txpend := 0 }

def Handle.blank : Handle :=
  { state := 0, next := false, fmt := 0, baxis := false, gcnt := 0, scoff := 0, plf := 8, mxout := 0, pend := 0,
    refill := 0, full := false, data := [] }

def Tile.blank : Tile := { elems := [], int := false, limit := 0xFFFF, value := 0 }

def Team.blank : Team :=
  { grid := 0, t := 0, die := 0, core := 0, place := .ended, waves := [], bars := [], handles := [], tiles := [],
    latch := none, spad := [], absentLines := [], hold := none, held := none, nu := 0, nv := 0, retc := 0,
    stampV := [], stampP := [], stampA := [], acqKeys := [], placedAt := 0, blockedSince := none, leaving := .no, fatal := none,
    reason := 0, sliced := false, step := none, frozen := false, hits := [] }

def Grid.blank : Grid :=
  { slot := 0, gid := 0, root := 0, firmware := false, entry := 0, handler := 0, seed := 0, stkBase := 0, stkSize := 64,
    gx := 1, gy := 1, gz := 1, tx := 1, ty := 1, tz := 1, regs := 32, scr := 0, acct := 0, cl2 := false, qmap := false,
    priv := false, det := false, idem := false, shape := 0, lrec := 0, winit := [], extents := [], extOk := [], dieExtents := [],
    dbase := 0, dcnt := 0, crec := none, phase := .complete, fatals := 0, dshr := [], detNext := 0, token := none, tokenOps := 0,
    exhausted := [] }

def Bundle.blank : Bundle :=
  { id := 0, die := 0, core := 0, part := 0, members := [], clause := 0, idx := 0, n := 0, words := [], bad := none,
    yh := false, marker := false, targets := [], images := [], walks := [], walked := [], told := [], diced := none, stalled := false }

def State.team (s : State) (t : Nat) : Team := s.teams.getD t Team.blank
def State.wave (s : State) (t w : Nat) : Wave := (s.team t).waves.getD w Wave.blank
def State.lane (s : State) (r : Ref) : Lane := (s.wave r.team r.wave).lanes.getD r.lane Lane.blank
def State.die (s : State) (d : Nat) : Die := s.dies.getD d Die.reset
def State.gridOf (s : State) (t : Nat) : Grid := s.grids.getD (s.team t).grid Grid.blank

def State.modTeam (s : State) (t : Nat) (f : Team → Team) : State := { s with teams := s.teams.modify t f }

def State.modWave (s : State) (t w : Nat) (f : Wave → Wave) : State :=
  s.modTeam t fun x => { x with waves := x.waves.modify w f }

def State.modLane (s : State) (r : Ref) (f : Lane → Lane) : State :=
  s.modWave r.team r.wave fun x => { x with lanes := x.lanes.modify r.lane f }

def State.modDie (s : State) (d : Nat) (f : Die → Die) : State := { s with dies := s.dies.modify d f }

def State.modGrid (s : State) (g : Nat) (f : Grid → Grid) : State := { s with grids := s.grids.modify g f }

def State.modHub (s : State) (f : Hub → Hub) : State := { s with hub := f s.hub }

def State.modMem (s : State) (f : Memory → Memory) : State := { s with mem := f s.mem }

/-- The team stands in a slot of its die's pool. -/
def Team.isSaved (t : Team) : Bool :=
  match t.place with
  | .saved _ => true
  | _ => false

/-- The entry of a slot in a wave. -/
def Wave.entry (w : Wave) (slot : Nat) : Option Entry := w.entries.find? fun e => e.slot == slot

def Wave.modEntry (w : Wave) (slot : Nat) (f : Entry → Entry) : Wave :=
  { w with entries := w.entries.map fun e => if e.slot == slot then f e else e }

def Wave.dropEntry (w : Wave) (slot : Nat) : Wave := { w with entries := w.entries.filter fun e => e.slot != slot }

/-- Entries stand in slot order. -/
def insertEntry (e : Entry) : List Entry → List Entry
  | [] => [e]
  | x :: xs => if e.slot < x.slot then e :: x :: xs else x :: insertEntry e xs

def Wave.addEntry (w : Wave) (e : Entry) : Wave := { w with entries := insertEntry e w.entries }

def State.modEntry (s : State) (t w slot : Nat) (f : Entry → Entry) : State := s.modWave t w fun x => x.modEntry slot f

/-- A fresh free value (log 2). -/
def State.draw (s : State) : State × DWord := ({ s with free := s.free + 1 }, Config.freeWord s.free)

/-- Helper from launch or by DICE.bind (R173, R377). -/
def Lane.isHelper (l : Lane) : Bool := l.helper || l.bound

/-- Lanes of a mask, ascending. -/
def maskLanes (m : BitVec 32) : List Nat := (List.range 32).filter fun k => m.getLsbD k

/-- A mask from lanes. -/
def maskOf (ls : List Nat) : BitVec 32 := ls.foldl (fun m k => m ||| (1 <<< k)) 0

/-! ### The word that issues -/

/-- The bundle whose word issues in this step; without one, no lane takes part. -/
def State.bundle (s : State) : Bundle := s.issue.getD Bundle.blank

/-- The word that issues. -/
def State.word (s : State) : DWord := s.bundle.words.getD s.bundle.idx 0

/-- The common fields of the word that issues (R34). -/
def State.guard (s : State) : Guard := guardOfWord s.word

/-- R35: the guard holds for a lane. -/
def guardHolds (g : Guard) (l : Lane) : Bool :=
  if g.pred.toNat < 96 then l.p.getLsbD g.pred.toNat != g.pn else !g.pn

/-- Lanes of one member of the bundle. -/
def memberRefs (m : Member) : List Ref := (maskLanes m.mask).map fun k => ⟨m.team, m.wave, k⟩

/-- Lanes of one member for which the guard holds: the active lanes of its entry (R201). -/
def State.activeOf (s : State) (m : Member) : List Ref :=
  (memberRefs m).filter fun r => !(s.lane r).ended && guardHolds s.guard (s.lane r)

/-- Active lanes of the word, over the bundle's members. -/
def State.active (s : State) : List Ref := s.bundle.members.flatMap s.activeOf

/-- Active lanes that are not helpers: the contributing lanes of R203. -/
def State.contribOf (s : State) (m : Member) : List Ref := (s.activeOf m).filter fun r => !(s.lane r).isHelper

/-- The lane that performs a word made once per entry: the lowest-numbered active lane that is no helper. -/
def State.performer (s : State) (m : Member) : Option Ref := (s.contribOf m).head?

/-- The grid of the lanes that issue (R185: one grid per bundle). -/
def State.issueGrid (s : State) : Grid :=
  match s.bundle.members with
  | m :: _ => s.gridOf m.team
  | [] => Grid.blank

/-! ### Positions and indices -/

/-- Linear index to team coordinates (R193). -/
def teamCoords (g : Grid) (t : Nat) : Nat × Nat × Nat := (t % g.gx, t / g.gx % g.gy, t / (g.gx * g.gy))

/-- Position of a thread to its indices (R172, R173). -/
def threadCoords (g : Grid) (l : Nat) : Nat × Nat × Nat :=
  if g.qmap then
    let q := l / 4
    let hx := g.tx / 2
    let hy := g.ty / 2
    (2 * (q % hx) + l % 2, 2 * (q / hx % hy) + l / 2 % 2, q / (hx * hy))
  else (l % g.tx, l / g.tx % g.ty, l / (g.tx * g.ty))

/-- Threads of a team (R172). -/
def Grid.nt (g : Grid) : Nat := g.tx * g.ty * g.tz

/-- Waves of a team (R173). -/
def Grid.waves (g : Grid) : Nat := ((g.nt + 3) / 4 * 4 + 31) / 32

/-- Teams of a grid (R193). -/
def Grid.teams (g : Grid) : Nat := g.gx * g.gy * g.gz

/-- Scratchpad bytes of a team (R228). -/
def Grid.spad (g : Grid) : Nat := g.scr * 32768

/-- The global thread index of R72. -/
def threadG (g : Grid) (t l : Nat) : Nat :=
  let (x, y, z) := teamCoords g t
  let (i, j, k) := threadCoords g l
  ((z * g.gy + y) * g.gx + x) * 1024 + (k * g.ty + j) * g.tx + i

/-- Call-stack region of a position (R47, R191). -/
def stackBase (g : Grid) (t l : Nat) : DWord := g.stkBase + BitVec.ofNat 64 ((1024 * t + l) * g.stkSize)

def State.stackBase (s : State) (r : Ref) : DWord :=
  Machine.stackBase (s.gridOf r.team) (s.team r.team).t (32 * r.wave + r.lane)

/-- The other team of a cluster, when it is resident (R230). -/
def State.partner (s : State) (t : Nat) : Option Nat :=
  let x := s.team t
  if !(s.gridOf t).cl2 then none
  else
    (List.range s.teams.length).find? fun k =>
      let y := s.team k
      y.grid == x.grid && y.t / 2 == x.t / 2 && y.t != x.t && y.place != .ended

/-- Rank in the cluster (R194). -/
def State.clRank (s : State) (t : Nat) : Nat := if (s.gridOf t).cl2 then (s.team t).t % 2 else 0

/-- sr_clock of a core (R25): the timebase less the clocks for which the core was not clocked. -/
def State.coreClock (s : State) (die core : Nat) : DWord :=
  s.hub.gtime - BitVec.ofNat 64 (((s.die die).lag.find? fun x => x.1 == core).map (·.2) |>.getD 0)

/-! ### General registers of a lane -/

/-- g register of a lane. -/
def Lane.gr (l : Lane) (k : Nat) : Word := l.g.getD k 0

/-- A g or w register by selector, for a lane (R37). -/
def State.rawReg (s : State) (r : Ref) (sel : Nat) : Word :=
  if sel < 128 then (s.lane r).gr sel else (s.wave r.team r.wave).w.getD (sel - 128) 0

/-- A g or w register written by selector (R37); any other selector is no destination. -/
def State.setReg (s : State) (r : Ref) (sel : Nat) (v : Word) : State :=
  if sel < 128 then s.modLane r fun l => { l with g := l.g.set sel v }
  else s.modWave r.team r.wave fun w => { w with w := w.w.set (sel - 128) v }

/-- Predicate of a lane. -/
def Lane.pr (l : Lane) (k : Nat) : Bool := l.p.getLsbD k

/-- A predicate written. -/
def setPred (p : BitVec 96) (k : Nat) (v : Bool) : BitVec 96 :=
  if v then p ||| ((1 : BitVec 96) <<< k) else p &&& ~~~((1 : BitVec 96) <<< k)

def State.setP (s : State) (r : Ref) (k : Nat) (v : Bool) : State := s.modLane r fun l => { l with p := setPred l.p k v }

/-- 64-bit value of an even/odd pair (R20). -/
def State.rawPair (s : State) (r : Ref) (sel : Nat) : DWord := pair64 (s.rawReg r sel) (s.rawReg r (sel + 1))

end Sys2Proof.Machine
end

