-- ==== Sys2Proof/Machine/HubRegs.lean ====
section
/-! DEFINITION. Sys2Proof/Machine/HubRegs.lean: what the registers of the hub register block read (R525 to R527). -/

namespace Sys2Proof.Machine

/-- Bytes of the hub register block (R525). -/
def hubBlock : Nat := 0x1000000

/-- Physical address of the block for device accesses (R527). -/
def Hub.base (h : Hub) : Nat := Config.gddrTop + h.hbar.toNat

/-- The doubleword that an access of `n` bytes at `off` makes of a register (R527). -/
def mergeReg (old : DWord) (off n : Nat) (v : DWord) : DWord :=
  if n = 8 then v
  else if off % 8 = 0 then old &&& 0xFFFFFFFF00000000 ||| v &&& 0xFFFFFFFF
  else old &&& 0xFFFFFFFF ||| v <<< 32

/-- The four doublewords of a fault-queue entry (R441). -/
def FqEntry.dword (e : FqEntry) (k : Nat) : DWord :=
  let b (c : Bool) (n : Nat) : Nat := if c then 2 ^ n else 0
  match k with
  | 0 => BitVec.ofNat 64 (e.state + e.kind * 2 ^ 24 + b e.saved 28 + b e.fetch 29 + b e.write 30 + e.cause * 2 ^ 31 +
      e.idx * 2 ^ 36 + e.lane * 2 ^ 40 + e.wave * 2 ^ 45 + e.core * 2 ^ 50 + e.grid * 2 ^ 56)
  | 1 => BitVec.ofNat 64 (e.lanes.toNat * 2 ^ 32 + e.team)
  | 2 => e.addr
  | _ => e.clause

/-- FQSTAT (R443). -/
def Die.fqstat (d : Die) : DWord :=
  let n := (d.faultQ.filter fun e => decide (e.index < Config.faultEntries)).length
  BitVec.ofNat 64 (d.lost.toNat * 2 ^ 24 + (if Config.faultEntries ≤ n then 2 ^ 16 else 0) + n)

/-- Registers of a ring, by number (R474). -/
def Ring.reg (r : Ring) (k : Nat) : DWord :=
  match k with
  | 0 => r.base
  | 1 => r.size
  | 2 => r.head
  | 3 => r.tail
  | 4 => r.lost.setWidth 64
  | _ => 0

/-- A register of a die's window (R526); `off` is a multiple of 8. -/
def Die.reg (d : Die) (off : Nat) : DWord :=
  if off = 0x000 then d.tslice.setWidth 64
  else if off = 0x008 then d.preq.setWidth 64
  else if off = 0x010 then d.pctl
  else if off = 0x018 then d.spbase
  else if off = 0x020 then d.spsize.setWidth 64
  else if off = 0x028 then d.fqstat
  else if off = 0x038 then d.lintctl.setWidth 64
  else if off = 0x040 then d.dbgctl.setWidth 64
  else if 0x080 ≤ off ∧ off < 0x0C0 then d.bps.getD ((off - 0x080) / 8) 0
  else if 0x0C0 ≤ off ∧ off < 0x0E0 then d.wps.getD ((off - 0x0C0) / 8) 0
  else if 0x100 ≤ off ∧ off < 0x128 then d.lint.reg ((off - 0x100) / 8)
  else if 0x140 ≤ off ∧ off < 0x168 then d.dbg.reg ((off - 0x140) / 8)
  else if 0x180 ≤ off ∧ off < 0x1A8 then d.pm.reg ((off - 0x180) / 8)
  else if 0x8000 ≤ off ∧ off < 0xA000 then
    match d.faultQ.find? fun e => e.index == (off - 0x8000) / 32 with
    | some e => e.dword (off / 8 % 4)
    | none => 0
  else 0

/-- A register of the hub itself (R525); `off` is a multiple of 8. -/
def Hub.reg (h : Hub) (off : Nat) : DWord :=
  if off = 0x0000 then BitVec.ofNat 64 h.bootstat
  else if off = 0x0080 then h.fwaddr
  else if off = 0x0088 then h.fwlen
  else if off = 0x0090 then h.fwgo
  else if h.bootstat ≠ 1 then 0
  else if off = 0x0008 then h.fnmode.setWidth 64
  else if off = 0x0010 then h.tlbsync
  else if off = 0x0018 then h.pmctl.setWidth 64
  else if off = 0x0020 then h.ownmove.setWidth 64
  else if off = 0x0028 then h.qctl
  else if off = 0x0030 then h.qstat
  else if off = 0x0038 then h.hbar
  else if 0x0040 ≤ off ∧ off < 0x0080 then h.dshr.getD ((off - 0x40) / 8) 0
  else if 0x0100 ≤ off ∧ off < 0x0120 then h.sq.reg ((off - 0x100) / 8)
  else if 0x0140 ≤ off ∧ off < 0x0160 then h.eq.reg ((off - 0x140) / 8)
  else if 0x1000 ≤ off ∧ off < 0x1200 then
    let g := h.guards.getD ((off - 0x1000) / 16) ⟨0, 0⟩
    if off / 8 % 2 = 0 then g.w0 else g.w1
  else if 0x1200 ≤ off ∧ off < 0x1400 then
    let g := h.guardLog.getD ((off - 0x1200) / 32) ⟨0, 0⟩
    if off / 8 % 4 = 0 then g.w0 else if off / 8 % 4 = 1 then g.w1 else 0
  else if off = 0x1400 then h.glhead
  else if 0x4000 ≤ off ∧ off < 0x4080 then
    let e := h.mderr.getD ((off - 0x4000) / 32) ⟨0, 0, 0⟩
    if off / 8 % 4 = 0 then e.ce ++ e.ue else if off / 8 % 4 = 1 then e.last else 0
  else 0

/-- A whole register of the block. -/
def State.hubReg (s : State) (off : Nat) : DWord :=
  if 0x100000 ≤ off ∧ off < 0x180000 then
    if s.hub.bootstat ≠ 1 then 0 else (s.die ((off - 0x100000) / 0x10000)).reg (off % 0x10000)
  else s.hub.reg off

/-- An access of the block: 4 or 8 bytes, naturally aligned; any other reads as zero (R527). -/
def State.hubBlockRead (s : State) (off n : Nat) : List Byte :=
  if n = 8 ∧ off % 8 = 0 then leBytes 8 (s.hubReg off).toNat
  else if n = 4 ∧ off % 4 = 0 then leBytes 4 ((s.hubReg (off / 8 * 8)).toNat / 2 ^ (8 * (off % 8)))
  else List.replicate n 0

end Sys2Proof.Machine
end

