-- ==== Sys2Proof/Machine/Marks.lean ====
section
/-! DEFINITION. Sys2Proof/Machine/Marks.lean: the watermarks of the dies (R382), the values and charges of the hub (R516), and
what comes down a die's link in hub order (R500, R502). -/

namespace Sys2Proof.Machine

/-! ### The watermark of a die (R382) -/

/-- The watermark that no ticket takes (R382). -/
def noMark : DWord := 0xFFFFFFFFFFFFFFFF

def minMark (xs : List DWord) : DWord := xs.foldl (fun m x => if x.toNat < m.toNat then x else m) noMark

/-- DBASE · 2^24. -/
def baseTicket (dbase : Nat) : DWord := BitVec.ofNat 64 (dbase * 2 ^ 24)

/-- The grid has team indices that no core has claimed yet, on a die (R193, R200). -/
def State.unclaimed (s : State) (d k : Nat) : Bool :=
  let g := s.grids.getD k Grid.blank
  g.phase != .complete && g.dcnt != 0 &&
    ((g.det && decide (g.detNext < g.teams)) || (s.die d).ranges.any fun r => r.grid == k && decide (r.next < r.stop))

/-- A die's own watermark (R382, R516); none outside an open frame and once the frame ends (R393). -/
def State.watermark (s : State) (d : Nat) : DWord :=
  match s.hub.frame with
  | none => noMark
  | some f =>
    if f.ending.isSome then noMark
    else
      let geo := fun k => (s.grids.getD k Grid.blank).dcnt != 0
      let holds := s.teams.filterMap fun t => if t.die == d && t.place != .ended && geo t.grid then t.hold else none
      let queue := (s.die d).splitQ.map fun e => pair64 (e.regs.getD 0 0) (e.regs.getD 1 0)
      let ranges := ((List.range s.grids.length).filter fun k => s.unclaimed d k).map fun k =>
        baseTicket (s.grids.getD k Grid.blank).dbase
      minMark (holds ++ queue ++ ranges ++ (s.die d).transit.map fun x => baseTicket x.dbase)

/-! ### What comes down a die's link (R500, R502) -/

/-- Messages at the head of a link that a die takes without a further event: packets for its mailbox, and handoffs. -/
def takeLink : List Msg → List (List DWord) × List Nat × List Msg
  | .packet p :: ms => let (ps, hs, rest) := takeLink ms; (p :: ps, hs, rest)
  | .handoff t :: ms => let (ps, hs, rest) := takeLink ms; (ps, t :: hs, rest)
  | ms => ([], [], ms)

/-- Packets move from the hub's buffer into the mailbox while it has entries free (R502). -/
def Die.refillMail (d : Die) : Die :=
  { d with mailbox := d.mailbox ++ d.hubBuf.take (256 - d.mailbox.length), hubBuf := d.hubBuf.drop (256 - d.mailbox.length) }

/-- What stands at the head of a die's link arrives, up to the next copy or value (R500, R502, R514). -/
def Die.settleLink (d : Die) : Die :=
  let (ps, hs, rest) := takeLink d.inbound
  { d with inbound := rest, hubBuf := d.hubBuf ++ ps, blocked := d.blocked.filter fun t => !hs.contains t }.refillMail

/-- Insertion by ticket (R381). -/
def insertCopy (c : GridCopy) : List GridCopy → List GridCopy
  | [] => [c]
  | x :: xs => if c.ticket.toNat < x.ticket.toNat then c :: x :: xs else x :: insertCopy c xs

/-- One message arrives; a copy waits in the exchange for its slot (R381). -/
def Die.takeMsg (d : Die) (m : Msg) : Die :=
  match m with
  | .copy c => { d with exchange := insertCopy c d.exchange }
  | .mark k v => { d with vrecv := d.vrecv.set k v }
  | .packet p => { d with hubBuf := d.hubBuf ++ [p] }
  | .handoff t => { d with blocked := d.blocked.filter fun x => x != t }

/-- Everything on a die's link arrives, ahead of an answer of the hub to that die (R500). -/
def Die.takeIn (d : Die) : Die := if d.inbound.isEmpty then d else (d.inbound.foldl Die.takeMsg { d with inbound := [] }).refillMail

/-- The head of a link has arrived. -/
def Die.popLink (d : Die) : Die := { d with inbound := d.inbound.drop 1 }.settleLink

/-- The hub sends a message down a die's link (R500). -/
def State.linkPut (s : State) (d : Nat) (m : Msg) : State :=
  s.modDie d fun x => { x with inbound := x.inbound ++ [m] }.settleLink

/-! ### Values and charges (R515, R516) -/

/-- The hub delivers the value of each die that has changed, to every die (R516). -/
def State.hubMarks (s : State) : State :=
  (List.range Config.dies).foldl (fun s d =>
    let v := minMark (s.hub.vtaken.getD d noMark ::
      (s.hub.charges.filter fun x => x.die == d).map fun x => baseTicket x.dbase)
    if v == s.hub.vlast.getD d noMark then s
    else
      let s := s.modHub fun h => { h with vlast := h.vlast.set d v }
      (List.range Config.dies).foldl (fun s a => s.linkPut a (.mark d v)) s) s

/-- A die sends its watermark when it has changed, and once a SPAWN has retired or a steal has landed, which ends that charge
(R515, R516, R521; log 75). -/
def State.sendMark (s : State) (d : Nat) : State :=
  let v := s.watermark d
  if v == (s.die d).vsent && !(s.hub.charges.any fun x => x.die == d && x.landed) then s
  else
    (s.modDie d fun x => { x with vsent := v }).modHub fun h =>
      { h with vtaken := h.vtaken.set d v, charges := h.charges.filter fun x => !(x.die == d && x.landed) }

/-- After every turn each die sends what has changed, behind what it has sent before (R500, R515). -/
def State.sendMarks (s : State) : State :=
  let s := (List.range Config.dies).foldl State.sendMark s
  s.hubMarks

end Sys2Proof.Machine
end

