-- ==== Sys2Proof/Machine/Path.lean ====
section
/-! DEFINITION. Sys2Proof/Machine/Path.lean: the path of one access: windows (R226 to R232), extents and walks (R242 to
R245, R434), the hub register block (R527), then memory, with the write guard (R432, R433), what a read counts at the
memory dies (R532) and the error logs (R533). -/

namespace Sys2Proof.Machine

/-! ### Walks -/

/-- Physical addresses that the hub's own block serves (R524). -/
def State.inHub (s : State) (pa : Nat) : Bool := decide (s.hub.base ≤ pa) && decide (pa < s.hub.base + hubBlock)

/-- Bytes of physical memory as they stand now, touching no cache: none at an uncorrectable code word. -/
def Memory.nowRead (m : Memory) (pa n : Nat) : Option (List Byte) :=
  let secs := (List.range ((pa % 16 + n + 15) / 16)).map fun k => m.current (pa / 16 + k)
  if secs.any Option.isNone then none
  else some (sliceBytes (secs.flatMap fun x => sectorBytes (x.getD 0)) (pa % 16) n)

/-- Bytes at a physical address as they stand now: of the hub's block, or of memory (R524). -/
def State.nowRead (s : State) (pa n : Nat) : Option (List Byte) :=
  if s.inHub pa then some (s.hubBlockRead (pa - s.hub.base) n) else s.mem.nowRead pa n

/-- A page-table entry, read as one aligned 8-byte read (R435). -/
def State.pte (s : State) (table idx : Nat) : Option Nat :=
  if Config.physTop < table + 8 * idx + 8 then none else (s.nowRead (table + 8 * idx) 8).map leNat

/-- A valid entry without reserved bits (R244, R245). -/
def pteOk (e : Nat) : Bool := bitOf e 0 && bitsOf e 52 12 == 0 && bitsOf e 7 9 == 0 && !bitOf e 2

/-- ADDR of an entry, as a byte address. -/
def pteAddr (e : Nat) : Nat := bitsOf e 16 36 * 65536

/-- R, W, X and PRIVO of a leaf, as bits 0 to 3. -/
def pteRights (e : Nat) : Nat := bitsOf e 3 4

/-- The three-level walk of R243 to R245 for the virtual address `va`. -/
def State.walk (s : State) (root va : Nat) : Walk :=
  match s.pte root (bitsOf va 40 12) with
  | none => .none
  | some e1 =>
    if !pteOk e1 || bitOf e1 1 then .none
    else
      match s.pte (pteAddr e1) (bitsOf va 29 11) with
      | none => .none
      | some e2 =>
        if !pteOk e2 then .none
        else if bitOf e2 1 then
          if bitsOf e2 16 13 ≠ 0 then .none
          else .leaf (pteAddr e2 / 65536 + bitsOf va 16 13) (pteRights e2 + 16)
        else
          match s.pte (pteAddr e2) (bitsOf va 16 13) with
          | none => .none
          | some e3 => if !pteOk e3 || !bitOf e3 1 then .none else .leaf (pteAddr e3 / 65536) (pteRights e3)

/-! ### Translation of an access -/

/-- Rights an access needs, as R, W and X. -/
def needR : Nat := 1
def needW : Nat := 2
def needRW : Nat := 3
def needX : Nat := 4

/-- A leaf's rights allow an access (R245). -/
def rightsOk (need rights : Nat) (priv : Bool) : Bool := (rights % 8 &&& need) == need && (!bitOf rights 3 || priv)

/-- Result of an access's checks. -/
inductive Res where
  | ok (t : Target)
  /-- the TLB misses: grid and virtual page -/
  | miss (grid vpn : Nat)
  /-- a cause, and whether a walk found it (R440) -/
  | bad (c : Cause) (walk : Bool)
  deriving DecidableEq, Repr

def winCluster : Nat := 0xFFFFFD0000000000
def winTeam : Nat := 0xFFFFFE0000000000
def winEnd : Nat := 0xFFFFFF0000000000

/-- R135: bits [63:52] are copies of bit 51. -/
def canonical (a : DWord) : Bool := a.toNat < 2 ^ 51 || 2 ^ 64 - 2 ^ 51 ≤ a.toNat

/-- The other team of a cluster, ended or not: its scratchpad stays until both have ended (R445). -/
def State.mate (s : State) (t : Nat) : Option Nat :=
  (List.range s.teams.length).find? fun k =>
    (s.team k).grid == (s.team t).grid && (s.team k).t / 2 == (s.team t).t / 2 && (s.team k).t != (s.team t).t

/-- An address in a window (R228, R229): none outside the windows, and no place inside for WINDOW. -/
def State.window (s : State) (tid : Nat) (a : DWord) (n : Nat) : Option (Option (Nat × Nat)) :=
  let A := a.toNat
  let g := s.gridOf tid
  if winTeam ≤ A ∧ A < winEnd then
    some (if A - winTeam + n ≤ g.spad then some (tid, A - winTeam) else none)
  else if winCluster ≤ A ∧ A < winTeam then
    let o := A - winCluster
    if g.cl2 ∧ o / 2 ^ 21 = 0 ∧ o % 2 ^ 20 + n ≤ g.spad then
      if o / 2 ^ 20 % 2 = s.clRank tid then some (some (tid, o % 2 ^ 20))
      else some ((s.mate tid).map fun m => (m, o % 2 ^ 20))
    else some none
  else none

/-- Physical address of a byte of an extent. -/
def Extent.phys (e : Extent) (a : Nat) : Nat := e.pages.getD (a / 65536 - e.base.toNat / 65536) 0 * 65536 + a % 65536

/-- A grid's extents as a die has translated them (R439). -/
def Grid.extentsOn (g : Grid) (d : Nat) : List Extent := ((g.dieExtents.find? fun x => x.1 == d).map (·.2)).getD []

/-- R242: an extent that holds the whole access and grants the rights. -/
def extentOf (es : List Extent) (a n need : Nat) : Option Nat :=
  (es.find? fun e => e.base.toNat ≤ a && a + n ≤ e.base.toNat + e.len && (need == needR || e.w)).map fun e => e.phys a

/-- The place of a physical address: memory, or the hub's own block (R524, R527). -/
def State.physTarget (s : State) (priv : Bool) (pa : Nat) : Target :=
  if s.inHub pa then .hub (pa - s.hub.base) priv else .phys pa

/-- The TLB of the core that holds a team (R434). -/
def State.tlbFind (s : State) (tid vpn : Nat) : Option Walk :=
  let t := s.team tid
  ((s.die t.die).tlbs.find? fun x => x.1 == t.core && x.2.grid == t.grid && x.2.vpn == vpn).map fun x =>
    .leaf x.2.ppn x.2.rights

/-- A page's translation: from the TLB, from a walk already made for the word, or by a walk at once. -/
def State.page (s : State) (tid : Nat) (va : Nat) (inline : Bool) : Option Walk :=
  let vpn := va / 65536
  match s.tlbFind tid vpn with
  | some w => some w
  | none =>
    match s.bundle.walked.find? fun x => x.1 == (s.team tid).grid && x.2.1 == vpn with
    | some x => some x.2.2
    | none => if inline then some (s.walk (s.gridOf tid).root (va % 2 ^ 52)) else none

/-- R135 after the alignment check: window, canonical form, extent, translation and rights for bytes a to a + n - 1. -/
def State.resolve (s : State) (tid : Nat) (a : DWord) (n need : Nat) (inline : Bool) : Res :=
  match s.window tid a n with
  | some none => .bad .window false
  | some (some (t, o)) => if need = needX then .bad .window false else .ok (.spad t o)
  | none =>
    if !canonical a then .bad .notmapped false
    else
      let g := s.gridOf tid
      if g.firmware then (if a.toNat + n ≤ 0x800000 then .ok (.fw a.toNat) else .bad .notmapped true)
      else
        match (if need = needX then none else extentOf (g.extentsOn (s.team tid).die) a.toNat n need) with
        | some pa => .ok (s.physTarget g.priv pa)
        | none =>
          match s.page tid a.toNat inline with
          | none => .miss (s.team tid).grid (a.toNat / 65536)
          | some .none => .bad .notmapped true
          | some (.leaf ppn rights) =>
            if rightsOk need rights g.priv then .ok (s.physTarget g.priv (ppn * 65536 + a.toNat % 65536)) else .bad .perm true

/-- The checks of R135 for an access of `n` bytes aligned to `al`. -/
def State.check (s : State) (tid : Nat) (a : DWord) (n al need : Nat) (inline : Bool) : Res :=
  if a.toNat % al ≠ 0 then .bad .misalign false else s.resolve tid a n need inline

/-! ### Error and guard logs -/

/-- An uncorrectable error met by the memory die that owns a physical address (R532, R533). -/
def State.logUE (s : State) (pa : Nat) (part : Bool) : State :=
  s.modHub fun h => { h with mderr := h.mderr.modify (pa / 256 % 24 / 6) fun e =>
    { e with ue := if e.ue == 0xFFFFFFFF then e.ue else e.ue + 1,
             last := BitVec.ofNat 64 (pa / 32 % 2 ^ 47 * 32 + (if part then 1 else 0)) } }

/-- An error in a code word of GDDR7 arises: one that the next read corrects, or an uncorrectable one (R532; log 71). -/
def State.upset (s : State) (codeWord : Nat) (correctable : Bool) : State :=
  if Config.gddrTop ≤ 32 * codeWord || s.mem.poison.contains codeWord then s
  else if correctable then
    (if s.mem.flips.contains codeWord then s else s.modMem fun m => { m with flips := codeWord :: m.flips })
  else s.modMem fun m => { m with poison := codeWord :: m.poison, flips := m.flips.filter fun c => c != codeWord }

/-- The controller reads a code word: an uncorrectable error is logged, a correctable one corrected, written back and counted
(R532, R533). -/
def State.noteWord (s : State) (code : Nat) (part : Bool) : State :=
  if s.mem.poison.contains code then s.logUE (32 * code) part
  else if s.mem.flips.contains code then
    (s.modMem fun m => m.cure code).modHub fun h => { h with mderr := h.mderr.modify (32 * code / 256 % 24 / 6) fun e =>
      { e with ce := if e.ce == 0xFFFFFFFF then e.ce else e.ce + 1 } }
  else s

/-- The code words of sectors, each once. -/
def codesOf (secs : List Nat) : List Nat := (secs.map (· / 2)).eraseDups

/-- Sectors of a range of physical bytes. -/
def sectorsOf (pa n : Nat) : List Nat := (List.range ((pa % 16 + n + 15) / 16)).map fun k => pa / 16 + k

/-- A read at the hub directory of physical bytes that stand in memory: each of their code words is read once. -/
def State.noteRead (s : State) (pa n : Nat) : State :=
  if s.inHub pa then s else (codesOf ((sectorsOf pa n).filter s.mem.atMemory)).foldl (fun s c => s.noteWord c false) s

/-- The reads of a walk (R243 to R245, R435): the entries that it visits. -/
def State.noteWalk (s : State) (root va : Nat) : State :=
  let s := s.noteRead (root + 8 * bitsOf va 40 12) 8
  match s.pte root (bitsOf va 40 12) with
  | none => s
  | some e1 =>
    if !pteOk e1 || bitOf e1 1 then s
    else
      let s := s.noteRead (pteAddr e1 + 8 * bitsOf va 29 11) 8
      match s.pte (pteAddr e1) (bitsOf va 29 11) with
      | none => s
      | some e2 => if !pteOk e2 || bitOf e2 1 then s else s.noteRead (pteAddr e2 + 8 * bitsOf va 16 13) 8

/-- The reads of the walks that an access of a team by its own die makes, if it makes one; what the hub has sent down the die's link
before their answers arrives first (R500). -/
def State.noteAccess (s : State) (tid : Nat) (a : DWord) (n need : Nat) : State :=
  match s.resolve tid a n need false with
  | .miss _ _ => (s.modDie (s.team tid).die Die.takeIn).noteWalk (s.gridOf tid).root (a.toNat % 2 ^ 52)
  | _ => s

/-- A range of bytes cut at its pages: address and length. -/
def pageCuts (a n : Nat) : List (Nat × Nat) :=
  (List.range ((a % 65536 + n + 65535) / 65536)).map fun k =>
    let lo := max a ((a / 65536 + k) * 65536)
    (lo, min (a + n) ((a / 65536 + k + 1) * 65536) - lo)

/-- The walks that a die makes for a team's access to a range of bytes. -/
def State.noteRange (s : State) (tid : Nat) (a : DWord) (n need : Nat) : State :=
  (pageCuts a.toNat n).foldl (fun s p => s.noteAccess tid (BitVec.ofNat 64 p.1) p.2 need) s

/-- A refused write enters the guard log (R433, R534). -/
def State.logGuard (s : State) (pa die core slot : Nat) : State :=
  s.modHub fun h => { h with
    guardLog := h.guardLog.set (h.glhead.toNat % 16)
      { w0 := BitVec.ofNat 64 pa, w1 := BitVec.ofNat 64 (die + core * 256 + slot * 65536 + 2 ^ 31) },
    glhead := h.glhead + 1 }

/-- REMOTEPERM recorded against a wave's word, unless one is pending (R430, R431). -/
def State.recordRperm (s : State) (team wave : Nat) (rec : WordRec) : State :=
  s.modWave team wave fun w => if w.rperm.isNone then { w with rperm := some rec } else w

/-! ### Memory accesses -/

/-- Who makes an access: die, core, grid slot and privilege. -/
structure Writer where
  die : Nat
  core : Nat
  slot : Nat
  priv : Bool
  /-- the line is placed as a first candidate for eviction (R136) -/
  strm : Bool := false
  deriving DecidableEq, Repr

/-- The writer that a team's lanes are. -/
def State.writer (s : State) (tid : Nat) : Writer :=
  { die := (s.team tid).die, core := (s.team tid).core, slot := (s.gridOf tid).slot, priv := (s.gridOf tid).priv }

/-- Which level a read is made at. -/
inductive Via where
  | l1
  /-- placed as a first candidate for eviction (R136) -/
  | strm
  | bypass
  | die
  | hub
  deriving DecidableEq, Repr

/-- One sector read at a level. -/
def Memory.sectorRead (m : Memory) (die core sec : Nat) (via : Via) : Memory × Option (BitVec 128) :=
  match via with
  | .l1 => m.coreRead die core sec false
  | .strm => m.coreRead die core sec true
  | .bypass => m.bypassRead die core sec
  | .die => m.dieReadFresh die core sec
  | .hub => m.hubRead die core sec

/-- The maximum clock by clock (R471). -/
def joinVec (a b : List (BitVec 32)) : List (BitVec 32) :=
  (List.range 64).map fun k => if (a.getD k 0).toNat < (b.getD k 0).toNat then b.getD k 0 else a.getD k 0

/-- Sync vectors and shadows of a die's line are evicted: the vectors join the overflow vector (R473). -/
def State.evictLint (s : State) (die line : Nat) : State :=
  let mine := (s.die die).syncs.filter fun x => x.sector / 8 == line
  let s := mine.foldl (fun s x => s.modHub fun h => { h with overflow := joinVec h.overflow x.v }) s
  s.modDie die fun d => { d with
    syncs := d.syncs.filter fun x => x.sector / 8 != line, shadows := d.shadows.filter fun x => x.sector / 8 != line }

/-- Memory after a write-back, whose partial writes have read their code words first (R430, R532). -/
def State.wroteBack (s : State) (p : Memory × List Nat) : State :=
  p.2.foldl (fun s sec => s.noteWord (sec / 2) true) { s with mem := p.1 }

/-- A die L2 line is evicted (R238, R239, R430). -/
def State.evictL2 (s : State) (die line : Nat) : State := s.wroteBack (s.mem.evictL2 die line)

/-- A die L2 holds no more than its lines: another line makes room for the line `but` (R5, R238, R473; log 72). -/
def State.fitL2 (s : State) (die but : Nat) : State :=
  match s.mem.l2Over die but with
  | some l => (s.evictL2 die l).evictLint die l
  | none => s

/-- A read of a sector by a die does not leave it: its core's L1, or its L2, answers (R236). -/
def Memory.onDie (m : Memory) (die core sec : Nat) (via : Via) : Bool :=
  cacheable sec &&
    (match via with
     | .l1 => (m.l1Find die core sec).isSome || (m.dieData die sec).isSome
     | .strm => (m.l1Find die core sec).isSome || (m.dieData die sec).isSome
     | .bypass => (m.dieData die sec).isSome
     | .die => (m.dieData die sec).isSome
     | .hub => false)

/-- Sectors that a die reads at the hub: what the hub has sent down the die's link before its answer arrives first (R500), and of
what stands in memory each code word is read once (R532, R533). -/
def State.hubAnswers (s : State) (die : Nat) (secs : List Nat) : State :=
  if secs.isEmpty then s
  else (codesOf (secs.filter s.mem.atMemory)).foldl (fun s c => s.noteWord c false) (s.modDie die Die.takeIn)

/-- The read of a checked place by an engine of a die, which finds the newest data at the hub. -/
def State.noteTarget (s : State) (die : Nat) (t : Target) (n : Nat) : State :=
  match t with
  | .phys pa => s.hubAnswers die (sectorsOf pa n)
  | .hub .. => s.modDie die Die.takeIn
  | _ => s

/-- The reads that a die makes for a team's read of a range of bytes: its walks, and the bytes. -/
def State.noteBytes (s : State) (tid : Nat) (a : DWord) (n need : Nat) : State :=
  (pageCuts a.toNat n).foldl (fun s p =>
    let va := BitVec.ofNat 64 p.1
    let s := s.noteAccess tid va p.2 need
    match s.resolve tid va p.2 need true with
    | .ok t => s.noteTarget (s.team tid).die t p.2
    | _ => s) s

/-- Bytes of physical memory read sector by sector; an uncorrectable code word answers none. -/
def State.physRead (s : State) (die core pa n : Nat) (via : Via) : State × Option (List Byte) :=
  let s := s.hubAnswers die ((sectorsOf pa n).filter fun k => !s.mem.onDie die core k via)
  let (s, acc) := (sectorsOf pa n).foldl (fun (p : State × Option (List Byte)) sec =>
    match p.1.mem.sectorRead die core sec via with
    | (m, some d) => (({ p.1 with mem := m } : State).fitL2 die (sec / 8), p.2.map (· ++ sectorBytes d))
    | (m, none) => ({ p.1 with mem := m }, none)) (s, some [])
  (s, acc.map fun b => sliceBytes b (pa % 16) n)

/-- The part of one sector of a write to physical memory: the guard, the caches, the code word (R235, R430, R433). -/
def State.physWriteSector (s : State) (w : Writer) (pa : Nat) (b : List Byte) (atL2 : Bool) (sec : Nat) : State × WriteOut :=
  let lo := max pa (16 * sec)
  let hi := min (pa + b.length) (16 * sec + 16)
  let whole : Bool := pa ≤ sec / 2 * 32 && sec / 2 * 32 + 32 ≤ pa + b.length
  let m : Memory := if whole then s.mem.cure (sec / 2) else s.mem
  match m.sectorWrite s.hub.guards w.die w.core sec (lo - 16 * sec) ((b.drop (lo - pa)).take (hi - lo)) w.priv atL2 w.strm with
  | (m, .done) => (({ s with mem := m } : State).fitL2 w.die (sec / 8), .done)
  | (_, o) => (s, o)

/-- A write to a sector of memory that does not cover its code word and finds no copy of it on its die reads the code word
(R430). -/
def Memory.mergesAt (m : Memory) (die pa n sec : Nat) : Bool :=
  !(decide (pa ≤ sec / 2 * 32) && decide (sec / 2 * 32 + 32 ≤ pa + n)) && m.atMemory sec &&
    !(cacheable sec && (m.dieData die sec).isSome)

/-- A store to a sector asks the hub: for a line that the die does not own there, for data that the die lacks, or for memory that no
cache holds (R235, R239). -/
def Memory.asksHub (m : Memory) (die sec : Nat) : Bool :=
  !cacheable sec || (m.dirFind (sec / 8)).map (·.die) != some die || (m.dieData die sec).isNone

/-- Bytes written to physical memory; what the hub has sent down the die's link before its answers arrives first (R500). True when the write guard refused a part, which makes one entry of the log (R433). A code
word that a partial write reads, and that the guard lets it read, is noted once (R430, R532, R533). -/
def State.physWrite (s : State) (w : Writer) (pa : Nat) (b : List Byte) (atL2 : Bool) : State × Bool :=
  let s := if (sectorsOf pa b.length).any (s.mem.asksHub w.die) then s.modDie w.die Die.takeIn else s
  let reads := (sectorsOf pa b.length).filter fun k => s.mem.mergesAt w.die pa b.length k
  let (s, outs) := (sectorsOf pa b.length).foldl (fun (p : State × List (Nat × WriteOut)) k =>
    let (s, o) := p.1.physWriteSector w pa b atL2 k
    (s, p.2 ++ [(k, o)])) (s, [])
  let s := (codesOf (reads.filter fun k => outs.any fun x => x.1 == k && x.2 != .refused)).foldl (fun s c => s.noteWord c true) s
  match outs.find? fun x => x.2 == .refused with
  | none => (s, false)
  | some x => (s.logGuard (max pa (16 * x.1)) w.die w.core w.slot, true)

/-- Bytes read where a checked access goes. -/
def State.readTarget (s : State) (die core : Nat) (t : Target) (n : Nat) (via : Via) : State × Option (List Byte) :=
  match t with
  | .spad tid off => (s, some (cellsReadN (s.team tid).spad off n))
  | .fw off => (s, some (cellsReadN s.mem.fw off n))
  | .hub off live => (s.modDie die Die.takeIn, some (if live then s.hubBlockRead off n else List.replicate n 0))
  | .phys pa => s.physRead die core pa n via

/-- Two places share a byte. -/
def Target.overlaps (t u : Target) (n m : Nat) : Bool :=
  match t, u with
  | .spad a x, .spad b y => a == b && decide (x < y + m) && decide (y < x + n)
  | .phys x, .phys y => decide (x < y + m) && decide (y < x + n)
  | .fw x, .fw y => decide (x < y + m) && decide (y < x + n)
  | .hub x _, .hub y _ => decide (x < y + m) && decide (y < x + n)
  | _, _ => false

/-- The watched sector of a monitor shares a byte with a write (R291, R292). -/
def Monitor.hit (m : Monitor) (t : Target) (n : Nat) : Bool :=
  let sector : Target := match m.tgt with
    | .spad a o => .spad a (o / 16 * 16)
    | .phys a => .phys (a / 16 * 16)
    | .fw a => .fw (a / 16 * 16)
    | .hub a l => .hub (a / 16 * 16) l
  sector.overlaps t 16 n

/-- A write wakes the lanes that watch a sector of it (R292). -/
def Lane.wake (l : Lane) (t : Target) (n : Nat) : Lane :=
  match l.mon with
  | some m => if m.hit t n then { l with mon := some { m with woken := true } } else l
  | none => l

/-- A write wakes the monitors of its sectors, of every team (R292). -/
def State.wakeMonitors (s : State) (t : Target) (n : Nat) : State :=
  { s with teams := s.teams.map fun x => { x with waves := x.waves.map fun w => { w with lanes := w.lanes.map fun l => l.wake t n } } }

/-- The turn that a device's write to the hub register block becomes (R525, R527). -/
def hubWriteTurn (off : Nat) (b : List Byte) : List Turn :=
  if (b.length = 8 ∧ off % 8 = 0) ∨ (b.length = 4 ∧ off % 4 = 0) then
    [.ev .registerWrite { a := off, b := b.length, v := BitVec.ofNat 64 (leNat b) }]
  else []

/-- A device's write to the hub register block waits behind those made before it, and comes before any other turn (R527). -/
def putHubTurn (new : List Turn) : List Turn → List Turn
  | .ev .registerWrite a :: rest => .ev .registerWrite a :: putHubTurn new rest
  | ts => new ++ ts

/-- Bytes written where a checked access goes, which wakes the monitors of their sectors (R292; log 77); true when the write guard
refused them. -/
def State.writeTarget (s : State) (w : Writer) (t : Target) (b : List Byte) (atL2 : Bool) : State × Bool :=
  let s := s.wakeMonitors t b.length
  match t with
  | .spad tid off => (s.modTeam tid fun x => { x with spad := cellsWriteN x.spad off b }, false)
  | .fw off => ({ s with mem := { s.mem with fw := cellsWriteN s.mem.fw off b } }, false)
  | .hub off live => ((if live then { s with agenda := putHubTurn (hubWriteTurn off b) s.agenda } else s), false)
  | .phys pa => s.physWrite w pa b atL2

/-- A doubleword where a checked access would go changes without an access. -/
def State.poke (s : State) (t : Target) (v : DWord) : State :=
  match t with
  | .spad tid off => s.modTeam tid fun x => { x with spad := cellsWriteN x.spad off (leBytes 8 v.toNat) }
  | .fw off => s.modMem fun m => { m with fw := cellsWriteN m.fw off (leBytes 8 v.toNat) }
  | .phys pa => s.modMem fun m => m.poke pa (leBytes 8 v.toNat)
  | .hub .. => s

/-- The place `k` bytes further on. -/
def Target.plus (t : Target) (k : Nat) : Target :=
  match t with
  | .spad tid off => .spad tid (off + k)
  | .phys pa => .phys (pa + k)
  | .fw off => .fw (off + k)
  | .hub off live => .hub (off + k) live

/-! ### Stores that wait to be performed (R45, R134) -/

/-- One lane's part of a store is performed at team scope (R251); a refusal is recorded (R433). -/
def State.performStore (s : State) (op : Op) (a : StAcc) : State :=
  let (s, refused) := s.writeTarget { s.writer op.team with strm := a.cc == 1 } a.tgt a.bytes (a.cc == 2)
  if refused then s.recordRperm op.team op.wave { clause := op.clause, idx := op.idx, addr := a.va, lane := a.lane } else s

/-- The waiting parts of a store are performed in descending lane order, so that the lowest lane's bytes stay (R139). -/
def State.drainOp (s : State) (id : Nat) : State :=
  match s.ops.find? fun o => o.id == id with
  | none => s
  | some op =>
    match op.body with
    | .store accs =>
      let s := accs.reverse.foldl (fun s a => s.performStore op a) s
      { s with ops := s.ops.map fun o => if o.id == id then { o with body := .store [] } else o }
    | _ => s

/-- Waiting parts of an operation. -/
def Op.accs (o : Op) : List StAcc :=
  match o.body with
  | .store accs => accs
  | _ => []

/-- An earlier store of the same lane touches the same bytes (R45). -/
def Op.before (o later : Op) : Bool :=
  o.team == later.team && o.wave == later.wave &&
    o.accs.any fun a => later.accs.any fun b => a.lane == b.lane && Target.overlaps a.tgt b.tgt a.bytes.length b.bytes.length

/-- The stores that a test chooses, with every earlier store that must be performed before one of them; oldest first. -/
def storeClosure (ops : List Op) (p : Op → Bool) : List Op :=
  ops.foldr (fun o acc => if p o || acc.any fun l => o.before l then o :: acc else acc) []

/-- Waiting stores of the operations that a test chooses are performed in issue order. -/
def State.drainWhere (s : State) (p : Op → Bool) : State :=
  (storeClosure s.ops p).foldl (fun s o => s.drainOp o.id) s

/-- A lane's own earlier stores to bytes it now accesses are performed first (R45). -/
def State.drainOwn (s : State) (r : Ref) (t : Target) (n : Nat) : State :=
  s.drainWhere fun o => o.team == r.team && o.wave == r.wave &&
    o.accs.any fun a => a.lane == r.lane && Target.overlaps a.tgt t a.bytes.length n

/-- An operation on a tile that has still to be performed. -/
def Op.tileJob (o : Op) : Option TileJob :=
  match o.body with
  | .mangle j => if o.done then none else some j
  | _ => none

/-- The operation writes memory: an ACCST. -/
def TileJob.stores (j : TileJob) : Bool :=
  match j.act with
  | .store .. => true
  | _ => false

/-- An ACCLD or ACCST of a lane has still to be performed on bytes that the lane now accesses, one of the two writing them: the
accesses of one lane are performed in program order (R45, R254, R273), so the later one waits. -/
def State.tileClash (s : State) (r : Ref) (t : Target) (n : Nat) (write : Bool) : Bool :=
  s.ops.any fun o => o.team == r.team && o.wave == r.wave && o.tileJob.any fun j =>
    j.lane == r.lane && (write || j.stores) && j.places.any fun p => Target.overlaps p.2.1 t p.2.2 n

/-- An ACCST of one of the lanes has still to be performed, so that a release of theirs cannot complete (R253, R254, R273). -/
def State.tileStores (s : State) (rs : List Ref) : Bool :=
  s.ops.any fun o => o.tileJob.any fun j => j.stores && rs.contains ⟨o.team, o.wave, j.lane⟩

/-- An earlier operation of the same lane on a tile touches the same bytes, one of the two writing them (R254, R273). -/
def Op.tileBefore (o later : Op) : Bool :=
  o.team == later.team && o.wave == later.wave && o.tileJob.any fun a => later.tileJob.any fun b =>
    a.lane == b.lane && (a.stores || b.stores) &&
      a.places.any fun p => b.places.any fun q => Target.overlaps p.2.1 q.2.1 p.2.2 q.2.2

/-- The release of R253 at a scope: at wave and team scope the wave's earlier stores reach L1; at wider scopes every
store of the core has been registered, which the hub acknowledges at once (log 5). -/
def State.release (s : State) (tid wave scope : Nat) : State :=
  let t := s.team tid
  if scope ≤ 2 then s.drainWhere (fun o => o.team == tid && o.wave == wave)
  else s.drainWhere (fun o => (s.team o.team).die == t.die && (s.team o.team).core == t.core)

/-- The acquire of R253 at a scope. -/
def State.acquire (s : State) (tid scope : Nat) : State :=
  if scope ≤ 2 then s else s.modMem fun m => m.acquire (s.team tid).die (s.team tid).core (decide (5 ≤ scope))

/-- A lane's load of bytes that passed their checks (R45, R136). -/
def State.laneRead (s : State) (r : Ref) (t : Target) (n : Nat) (via : Via) : State × Option (List Byte) :=
  (s.drainOwn r t n).readTarget (s.team r.team).die (s.team r.team).core t n via

/-- A lane's write that is made at once: trap frames, spills, STPRED, BARSV (R49, R59, R142). -/
def State.laneWrite (s : State) (r : Ref) (va : DWord) (t : Target) (b : List Byte) (rec : WordRec) : State :=
  let s := s.drainOwn r t b.length
  let (s, refused) := s.writeTarget (s.writer r.team) t b false
  if refused then s.recordRperm r.team r.wave { rec with addr := va, lane := r.lane } else s

/-- A line of scratchpad under an access has its presence bit clear (R240, R241). -/
def State.absentAt (s : State) (t : Target) (n : Nat) : Option (Nat × Nat) :=
  match t with
  | .spad tid off =>
    ((s.team tid).absentLines.find? fun l => decide (off / 128 ≤ l) && decide (l ≤ (off + n - 1) / 128)).map fun l => (tid, l)
  | _ => none

end Sys2Proof.Machine
end

