-- ==== Sys2Proof/Machine/Groups.lean ====
section
/-! DEFINITION. Sys2Proof/Machine/Groups.lean: the split table (R178 to R183): lanes that leave a group, groups that split,
overflow, rotate and fuse, and lanes that end. -/

namespace Sys2Proof.Machine

/-- A register- or predicate-writing result of the wave is outstanding (R44, R59). -/
def State.outstanding (s : State) (t w : Nat) : Bool := s.ops.any fun o => o.team == t && o.wave == w && o.writes && !o.done

/-! ### The issuing bundle -/

def State.modIssue (s : State) (f : Bundle → Bundle) : State := { s with issue := s.issue.map f }

/-- The issuing bundle goes back among the bundles in flight; without members it frees its slot (R188). -/
def State.putIssue (s : State) : State :=
  match s.issue with
  | none => s
  | some b =>
    { s with
      issue := none,
      bundles := if b.members.isEmpty then s.bundles.filter (fun x => x.id != b.id)
                 else s.bundles.map fun x => if x.id == b.id then b else x }

/-- A change to every bundle in flight, the issuing one included. -/
def State.modBundles (s : State) (f : Bundle → Bundle) : State :=
  { s with bundles := s.bundles.map f, issue := s.issue.map f }

/-- A member's mask changes in whichever bundle holds it; an empty member leaves. -/
def Bundle.cut (b : Bundle) (t w : Nat) (mask : BitVec 32) : Bundle :=
  { b with members := (b.members.map fun m =>
      if m.team == t && m.wave == w then { m with mask := m.mask &&& ~~~mask } else m).filter fun m => m.mask != 0 }

def Bundle.without (b : Bundle) (t w slot : Nat) : Bundle :=
  { b with members := b.members.filter fun m => !(m.team == t && m.wave == w && m.slot == slot) }

/-- Bundles left without members are gone; the issuing one stays until its word is finished. -/
def State.sweepBundles (s : State) : State :=
  { s with bundles := s.bundles.filter fun b => !b.members.isEmpty || s.issue.any fun i => i.id == b.id }

/-! ### Slots -/

/-- Split-table slots in use on a partition (R178). -/
def State.slotsUsed (s : State) (die core part : Nat) : List Nat :=
  s.teams.flatMap fun t =>
    if t.die == die && t.core == core && t.place == .resident then
      t.waves.flatMap fun w => if w.part == part then w.entries.map (·.slot) else []
    else []

/-- The slot of a new entry of a wave (R179). -/
def State.freeSlot (s : State) (t w : Nat) : Option Nat :=
  let wv := s.wave t w
  let used := s.slotsUsed (s.team t).die (s.team t).core wv.part
  if !used.contains wv.wslot then some wv.wslot
  else (List.range Config.splitSlots).find? fun k => decide (Config.waveSlots ≤ k) && !used.contains k

/-- Identifiers of the two sides of a split (R180). -/
def childIds (e : Entry) : Nat × BitVec 16 × BitVec 16 :=
  if e.depth ≥ 16 then (16, e.path, e.path) else (e.depth + 1, e.path, e.path ||| (1 <<< e.depth))

/-- The lanes of a mask record their own PC. -/
def State.setPcs (s : State) (t w : Nat) (mask : BitVec 32) (clause : DWord) (idx : Nat) : State :=
  (maskLanes mask).foldl (fun s k => s.modLane ⟨t, w, k⟩ fun l => { l with clause, idx }) s

/-! ### Clause boundaries -/

/-- A lane that is deferred leaves its wait: its monitor has woken, and BWAIT compares afresh (R182, R292). -/
def Lane.unwait (l : Lane) : Lane := { l with mon := l.mon.map fun x => { x with woken := true }, target := none }

/-- Lanes of a mask leave their waits. -/
def State.unwait (s : State) (t w : Nat) (mask : BitVec 32) : State :=
  (maskLanes mask).foldl (fun s k => s.modLane ⟨t, w, k⟩ Lane.unwait) s

/-- Deferred lanes that stand at the PC of a lane. -/
def peers (w : Wave) (mask : BitVec 32) (lead : Nat) : BitVec 32 :=
  let l := w.lanes.getD lead Lane.blank
  maskOf ((maskLanes mask).filter fun k => ((w.lanes.getD k Lane.blank).clause, (w.lanes.getD k Lane.blank).idx) == (l.clause, l.idx))

/-- The lowest lane of a mask at or above `from'`, wrapping past lane 31. -/
def nextLane (mask : BitVec 32) (from' : Nat) : Option Nat :=
  match (maskLanes mask).find? fun k => decide (from' ≤ k) with
  | some k => some k
  | none => (maskLanes mask).head?

/-- Highest lane of a mask. -/
def highLane (m : BitVec 32) : Nat := (maskLanes m).getLast?.getD 31

/-- The group of an overflowed entry rotates (R182 step 4). A parked lane leaves its wait, and a monitor wakes (R292); lanes in
the fault queue stay there until they are replayed (R440, R444). -/
def State.rotate (s : State) (t w slot : Nat) (old : BitVec 32) : State :=
  match (s.wave t w).entry slot with
  | none => s
  | some e =>
    let s := s.setPcs t w e.mask e.clause e.idx
    let s := s.unwait t w e.mask
    let all := e.mask ||| e.defer
    let run := maskOf ((maskLanes all).filter fun k => (s.lane ⟨t, w, k⟩).fq.isNone)
    let from' := if run == 0 then all else run
    match nextLane from' (highLane old + 1) with
    | none => s
    | some lead =>
      let g := peers (s.wave t w) from' lead
      let l := s.lane ⟨t, w, lead⟩
      s.modEntry t w slot fun e =>
        { e with
          mask := g, defer := all &&& ~~~g, clause := l.clause, idx := l.idx, runs := 0,
          park := if run == 0 then 4 else 0, why := if run == 0 then .faultQueue else .none }

/-- A clause boundary of an entry that is in no bundle (R180 last sentence, R182 steps 2 to 4). -/
def State.settle (s : State) (t w slot : Nat) (old : BitVec 32) : State :=
  match (s.wave t w).entry slot with
  | none => s
  | some e =>
    if e.flight.isSome then s
    else if e.defer == 0 then (if e.mask == 0 then s.modWave t w fun x => x.dropEntry slot else s)
    else
      let wv := s.wave t w
      let same := maskOf ((maskLanes e.defer).filter fun k =>
        e.mask != 0 && ((wv.lanes.getD k Lane.blank).clause, (wv.lanes.getD k Lane.blank).idx) == (e.clause, e.idx))
      let s := if same == 0 then s else s.modEntry t w slot fun e =>
        { e with mask := e.mask ||| same, defer := e.defer &&& ~~~same, runs := 0 }
      let d := e.defer &&& ~~~same
      let (s, d) : State × BitVec 32 :=
        match (maskLanes d).head?, s.freeSlot t w with
        | some lead, some k =>
          let g := peers (s.wave t w) d lead
          let l := s.lane ⟨t, w, lead⟩
          let s := s.modWave t w fun x => x.addEntry
            { e with slot := k, mask := g, defer := 0, clause := l.clause, idx := l.idx, park := 0, why := .none, runs := 0 }
          (s.modEntry t w slot fun e => { e with defer := e.defer &&& ~~~g, runs := 0 }, d &&& ~~~g)
        | _, _ => (s, d)
      match (s.wave t w).entry slot with
      | none => s
      | some e =>
        if d != 0 && (e.mask == 0 || e.park != 0 || decide (64 ≤ e.runs)) then s.rotate t w slot old
        else if e.mask == 0 && e.defer == 0 then s.modWave t w fun x => x.dropEntry slot
        else s

/-- Lanes leave a group of the issuing bundle to a PC of their own, parked or not (R180, R182, R183); `same` keeps the old
identifier on both sides (R462, R480). -/
def State.leave (s : State) (m : Member) (mask : BitVec 32) (clause : DWord) (idx park : Nat) (why : Why) (same : Bool) :
    State :=
  match (s.wave m.team m.wave).entry m.slot with
  | none => s
  | some e =>
    let mask := mask &&& e.mask
    if mask == 0 then s
    else
      let s := s.setPcs m.team m.wave mask clause idx
      if mask == e.mask then
        ((s.modEntry m.team m.wave m.slot fun e => { e with clause, idx, park, why, flight := none }).modBundles
          (fun b => b.without m.team m.wave m.slot)).settle m.team m.wave m.slot mask
      else
        let s := s.modBundles fun b => b.cut m.team m.wave mask
        match s.freeSlot m.team m.wave with
        | some k =>
          let (d, p0, p1) := if same then (e.depth, e.path, e.path) else childIds e
          let s := s.modEntry m.team m.wave m.slot fun e => { e with mask := e.mask &&& ~~~mask, depth := d, path := p0 }
          s.modWave m.team m.wave fun w =>
            w.addEntry { e with slot := k, mask, defer := 0, depth := d, path := p1, clause, idx, park, why, flight := none }
        | none =>
          (s.unwait m.team m.wave mask).modEntry m.team m.wave m.slot fun e =>
            { e with mask := e.mask &&& ~~~mask, defer := e.defer ||| mask, runs := 0 }

/-- A group of lanes at one PC. -/
structure Grp where
  mask : BitVec 32
  clause : DWord
  idx : Nat
  deriving DecidableEq, Repr

/-- R180 step 2: groups by next PC, the lowest lane's first. -/
def groupsOf (pc : Nat → DWord × Nat) : Nat → List Nat → List Grp
  | 0, _ => []
  | _, [] => []
  | fuel + 1, l :: ls =>
    let same := (l :: ls).filter fun k => pc k == pc l
    let rest := (l :: ls).filter fun k => pc k != pc l
    { mask := maskOf same, clause := (pc l).1, idx := (pc l).2 } :: groupsOf pc fuel rest

/-- The groups of a split are placed: side 0 keeps the slot, side 1 takes a new one and splits again (R180); without a
free slot side 1 joins DEFER (R182 step 1). -/
def State.place (s : State) (t w : Nat) (slot : Nat) (gs : List Grp) : State :=
  match gs with
  | [] => s.modEntry t w slot fun e => { e with mask := 0 }
  | g :: rest =>
    let s := s.modEntry t w slot fun e => { e with mask := g.mask, clause := g.clause, idx := g.idx }
    if rest.isEmpty then s
    else
      let side := rest.foldl (fun m x => m ||| x.mask) 0
      match (s.wave t w).entry slot, s.freeSlot t w with
      | some e, some k =>
        let (d, p0, p1) := childIds e
        let s := s.modEntry t w slot fun e => { e with depth := d, path := p0 }
        let s := s.modWave t w fun x => x.addEntry { e with slot := k, mask := side, defer := 0, depth := d, path := p1 }
        s.place t w k rest
      | _, _ => s.modEntry t w slot fun e => { e with defer := e.defer ||| side, runs := 0 }

/-! ### Lanes that end -/

/-- Helpers of a wave whose quad has no unended lane that is no helper (R174). -/
def Wave.idleHelpers (w : Wave) : BitVec 32 :=
  maskOf ((List.range 32).filter fun k =>
    let l := w.lanes.getD k Lane.blank
    !l.ended && (List.range 4).all fun j =>
      let q := w.lanes.getD (k / 4 * 4 + j) Lane.blank
      q.ended || q.isHelper)

/-- A lane ends. -/
def Lane.finished (l : Lane) : Lane := { l with ended := true, trap := none, mon := none, arrival := none, target := none }

/-- Lanes of a mask are marked ended. -/
def Wave.markEnded (m : BitVec 32) (x : Wave) : Wave :=
  { x with lanes := x.lanes.zipIdx.map fun p => if m.getLsbD p.2 then p.1.finished else p.1 }

/-- Lanes of a mask end and leave their groups (R131, R174, R180). -/
def State.endLanes (s : State) (t w : Nat) (mask : BitVec 32) : State :=
  let before := (s.wave t w).entries
  let s := s.modWave t w (Wave.markEnded mask)
  let hs := (s.wave t w).idleHelpers
  let s := s.modWave t w (Wave.markEnded hs)
  let gone := mask ||| hs
  let s := (s.modBundles fun b => b.cut t w gone).sweepBundles
  let s := s.modWave t w fun x => { x with entries := x.entries.map fun e =>
    { e with mask := e.mask &&& ~~~gone, defer := e.defer &&& ~~~gone,
             flight := if e.mask &&& ~~~gone == 0 then none else e.flight } }
  before.foldl (fun s e => if e.mask &&& ~~~gone == 0 then s.settle t w e.slot e.mask else s) s

/-! ### Readiness and fusion -/

/-- Bytes of code as a fetch would find them now. -/
def State.peek (s : State) (tid : Nat) (a : DWord) (n : Nat) : Option (List Byte) :=
  match s.resolve tid a n needX true with
  | .ok (.phys pa) => s.nowRead pa n
  | .ok (.hub off live) => some (if live then s.hubBlockRead off n else List.replicate n 0)
  | .ok (.fw off) => some (cellsReadN s.mem.fw off n)
  | _ => none

/-- A wait field of a clause header, for the counter of an index (R28). -/
def waitField (hdr : DWord) (k : Nat) : Nat := bitsOf hdr.toNat (8 + 4 * k) 4

/-- The counter waits of a header are met (R31). -/
def waitsMet (hdr : DWord) (ctrs : List Nat) : Bool :=
  (List.range 7).all fun k => waitField hdr k == 15 || decide (ctrs.getD k 0 ≤ waitField hdr k)

/-- The lanes of an entry may run: none waits for its trap entry or in the fault queue. -/
def Wave.lanesFree (w : Wave) (e : Entry) : Bool :=
  (maskLanes e.mask).all fun k => (w.lanes.getD k Lane.blank).trap.isNone && (w.lanes.getD k Lane.blank).fq.isNone

/-- The team may be picked: it is resident and nothing takes it off its core. -/
def Team.pickable (t : Team) : Bool :=
  t.place == .resident && t.fatal.isNone && !t.frozen &&
    (match t.leaving with
     | .no => true
     | .drain _ => true
     | _ => false)

/-- Under a single step only the named lane, alone in its entry, issues (R482). -/
def Team.mayStep (t : Team) (w : Nat) (mask : BitVec 32) : Bool :=
  match t.step with
  | none => true
  | some (sw, sl) => sw == w && mask == (1 <<< sl)

/-- An entry that is in no bundle may issue a word: its team takes picks, and a single step lets it be the one (R482). -/
def State.mayGo (s : State) (t w : Nat) (e : Entry) : Bool :=
  e.flight.isNone && (s.team t).pickable && (s.team t).mayStep w e.mask

/-- R184: an entry is ready. -/
def State.entryReady (s : State) (t w : Nat) (e : Entry) : Bool :=
  let wv := s.wave t w
  e.mask != 0 && e.park == 0 && s.mayGo t w e && wv.lanesFree e &&
    (match s.peek t e.clause 8 with
     | some b => waitsMet (dwordOfBytes b) wv.ctrs
     | none => true)

/-- R181: the identifiers are equal, or siblings. -/
def kin (a b : Entry) : Bool :=
  (a.depth == b.depth && a.path == b.path) ||
    (a.depth == b.depth && a.depth != 0 &&
      (a.path &&& ~~~((1 : BitVec 16) <<< (a.depth - 1))) == (b.path &&& ~~~((1 : BitVec 16) <<< (b.depth - 1))))

/-- `a` is older than `b` in modular order. -/
def stampOlder (a b : BitVec 32) : Bool := (a - b).getLsbD 31

/-- The entry that two entries fuse into, in the slot of the first (R181). -/
def fuse2 (a b : Entry) : Entry :=
  let sib := !(a.path == b.path)
  { a with
    mask := a.mask ||| b.mask, defer := a.defer ||| b.defer,
    stamp := if stampOlder b.stamp a.stamp then b.stamp else a.stamp,
    yh := a.yh && b.yh, runs := 0,
    depth := if sib then a.depth - 1 else a.depth,
    path := if sib then a.path &&& ~~~((1 : BitVec 16) <<< (a.depth - 1)) else a.path }

/-- The first pair of ready entries of a wave that fuses. DESIGN CHOICE (log 105): of several pairs, that of the lowest slots (R181). -/
def State.fusePair (s : State) (t w : Nat) : Option (Entry × Entry) :=
  let ready := (s.wave t w).entries.filter fun e => s.entryReady t w e
  let pairs := ready.flatMap fun a => ready.filterMap fun b =>
    if a.slot < b.slot ∧ a.clause = b.clause ∧ a.idx = b.idx ∧ kin a b then some (a, b) else none
  pairs.head?

/-- Fusion is repeated until no further pair qualifies (R181). -/
def State.fuseGo (s : State) (t w : Nat) : Nat → State
  | 0 => s
  | fuel + 1 =>
    match s.fusePair t w with
    | none => s
    | some (a, b) =>
      State.fuseGo (s.modWave t w fun x => (x.dropEntry b.slot).modEntry a.slot fun _ => fuse2 a b) t w fuel

def State.fuse (s : State) (t w : Nat) : State := s.fuseGo t w 64

/-! ### Blocked teams (R198) -/

/-- An entry is parked on what makes a team blocked (R198). -/
def Entry.blocks (e : Entry) : Bool :=
  e.park != 0 &&
    (match e.why with
     | .barrier _ => true
     | .monitor _ => true
     | .mailbox => true
     | .spawn => true
     | .token => true
     | _ => false)

/-- Every unended lane of a wave that is no helper is parked so. -/
def Wave.blocked (w : Wave) : Bool :=
  let free := (List.range 32).filter fun k => let l := w.lanes.getD k Lane.blank; !l.ended && !l.isHelper
  free.all fun k => w.entries.any fun e => e.blocks && e.mask.getLsbD k

/-- R198: the team is blocked. -/
def Team.blocked (t : Team) : Bool :=
  t.place == .resident && t.waves.all Wave.blocked && t.waves.any fun w => !w.entries.isEmpty

/-- When the team became blocked. -/
def Team.noteBlocked (t : Team) (now : Nat) : Team :=
  { t with blockedSince := if t.blocked then some (t.blockedSince.getD now) else none }

end Sys2Proof.Machine
end

