-- ==== Sys2Proof/Machine/Agent.lean ====
section
/-! DEFINITION. Sys2Proof/Machine/Agent.lean: accesses made by the hub, the GCP and the host at system scope (R239, R277),
the record rings (R474) and the lint filter (R469 to R473, R475). -/

namespace Sys2Proof.Machine

/-! ### Accesses at the hub directory -/

/-- A line comes back to memory from the die that owns it, before an agent writes it (R239). -/
def State.recall (s : State) (line : Nat) : State :=
  match s.mem.dirFind line with
  | some d => s.evictL2 d.die line
  | none => s

/-- One sector's part of an agent's write. -/
def State.agentWriteSector (s : State) (pa : Nat) (b : List Byte) (sec : Nat) : State :=
  let lo := max pa (16 * sec)
  let hi := min (pa + b.length) (16 * sec + 16)
  let whole : Bool := pa ≤ sec / 2 * 32 && sec / 2 * 32 + 32 ≤ pa + b.length
  let s := s.recall (sec / 8)
  let s := if whole then s.modMem fun m => m.cure (sec / 2) else s
  if s.mem.poisoned sec then s
  else s.modMem fun m => { m with cells := cellsWriteN m.cells lo ((b.drop (lo - pa)).take (hi - lo)) }

/-- Bytes written by the hub, the GCP or the host at system scope; the hub's own block takes a write of its registers
(R524). -/
def State.agentWrite (s : State) (pa : Nat) (b : List Byte) : State :=
  if s.inHub pa then { s with agenda := putHubTurn (hubWriteTurn (pa - s.hub.base) b) s.agenda }
  else
    let s := (sectorsOf pa b.length).foldl (fun s k => s.agentWriteSector pa b k) (s.wakeMonitors (.phys pa) b.length)
    (codesOf ((sectorsOf pa b.length).filter fun k =>
      !(decide (pa ≤ k / 2 * 32) && decide (k / 2 * 32 + 32 ≤ pa + b.length)))).foldl (fun s c => s.noteWord c true) s

/-- Bytes read by the hub, the GCP or the host at system scope. -/
def State.agentRead (s : State) (pa n : Nat) : Option (List Byte) := s.nowRead pa n

/-- Physical address of `n` bytes within one page under a root, for an agent's access with rights `need`. -/
def State.agentPhys (s : State) (root : Nat) (priv : Bool) (va : DWord) (need : Nat) : Option Nat :=
  if !canonical va || (winCluster ≤ va.toNat && decide (va.toNat < winEnd)) then none
  else
    match s.walk root (va.toNat % 2 ^ 52) with
    | .leaf ppn rights => if rightsOk need rights priv then some (ppn * 65536 + va.toNat % 65536) else none
    | .none => none

/-- The walk that an agent makes for a virtual address. -/
def State.noteAgent (s : State) (root : Nat) (va : DWord) : State :=
  if !canonical va || (winCluster ≤ va.toNat && decide (va.toNat < winEnd)) then s else s.noteWalk root (va.toNat % 2 ^ 52)

/-- An agent's read of a range of bytes under a root, as it counts at the memory dies: its walks, and the bytes. -/
def State.noteRoot (s : State) (root : Nat) (va : DWord) (n : Nat) : State :=
  (pageCuts va.toNat n).foldl (fun s p =>
    let a := BitVec.ofNat 64 p.1
    match s.agentPhys root true a needR with
    | some pa => (s.noteAgent root a).noteRead pa p.2
    | none => s.noteAgent root a) s

/-! ### Record rings -/

/-- Which ring of a die. -/
inductive RingName where
  | lint
  | dbg
  | pm
  deriving DecidableEq, Repr

def Die.ring (d : Die) (n : RingName) : Ring :=
  match n with
  | .lint => d.lint
  | .dbg => d.dbg
  | .pm => d.pm

def Die.setRing (d : Die) (n : RingName) (r : Ring) : Die :=
  match n with
  | .lint => { d with lint := r }
  | .dbg => { d with dbg := r }
  | .pm => { d with pm := r }

/-- A dropped record counts in LOST, saturating (R474). -/
def Ring.lose (r : Ring) : Ring := { r with lost := if r.lost == 0xFFFFFFFF then r.lost else r.lost + 1 }

/-- Room for a record: HEAD + 1 differs from TAIL modulo SIZE (R474). -/
def Ring.room (r : Ring) : Bool :=
  let n := r.size.toNat % 2 ^ 32
  n != 0 && (r.head.toNat % 2 ^ 32 + 1) % n != r.tail.toNat % 2 ^ 32 % n

/-- HEAD moves on, modulo SIZE. -/
def Ring.step (r : Ring) : Ring :=
  { r with head := BitVec.ofNat 64 ((r.head.toNat % 2 ^ 32 + 1) % (r.size.toNat % 2 ^ 32)) }

/-- A record written to a ring of a die, its pages translated by `phys` (R474, log 16). -/
def State.ringPost (s : State) (die : Nat) (n : RingName) (rec : List Byte) (phys : DWord → Option Nat) : State :=
  let r := (s.die die).ring n
  if r.size.toNat % 2 ^ 32 = 0 then s
  else if !r.room then s.modDie die fun d => d.setRing n r.lose
  else
    let va := r.base + BitVec.ofNat 64 (r.head.toNat % 2 ^ 32 * rec.length)
    let at' := (List.range (rec.length / 64)).map fun k => phys (va + BitVec.ofNat 64 (64 * k))
    if at'.any Option.isNone then s.modDie die fun d => d.setRing n r.lose
    else
      let s := at'.zipIdx.foldl (fun s p => s.agentWrite (p.1.getD 0) (sliceBytes rec (64 * p.2) 64)) s
      s.modDie die fun d => d.setRing n r.step

/-! ### The lint filter -/

/-- The filter of a die checks a team's grid (R469). -/
def State.lintOn (s : State) (tid : Nat) : Bool :=
  let c := (s.die (s.team tid).die).lintctl.toNat
  bitOf c 0 && bitsOf c 8 8 == (s.gridOf tid).slot

def Team.comp (t : Team) : Nat := t.t % 64

/-- The stamp of a team; it starts with its own clock at 1 (R470). -/
def Team.stamp (t : Team) : List (BitVec 32) :=
  if t.stampV.isEmpty then (List.replicate 64 0).set t.comp 1 else t.stampV

def tickVec (v : List (BitVec 32)) (c : Nat) : List (BitVec 32) := v.set c (v.getD c 0 + 1)

/-- The key of a sector in the filter: physical memory, or scratchpad of a team. -/
def lintKey (t : Target) : Option Nat :=
  match t with
  | .phys pa => some (pa / 16)
  | .spad tid off => some (2 ^ 60 + tid * 2 ^ 20 + off / 16)
  | _ => none

/-- The shadow of a sector, on whichever die holds its line (R473). -/
def State.shadowOf (s : State) (key : Nat) : Shadow :=
  match s.dies.findSome? fun d => d.shadows.find? fun x => x.sector == key with
  | some x => x
  | none => { sector := key, wr := none, rd := none }

def Die.dropShadow (d : Die) (key : Nat) : Die := { d with shadows := d.shadows.filter fun y => y.sector != key }

def Die.dropSync (d : Die) (key : Nat) : Die := { d with syncs := d.syncs.filter fun y => y.sector != key }

/-- A shadow now stands with the die that made the access. -/
def State.putShadow (s : State) (die : Nat) (x : Shadow) : State :=
  let s : State := { s with dies := s.dies.map fun d => d.dropShadow x.sector }
  s.modDie die fun d => { d with shadows := x :: d.shadows }

/-- The sync vector of a sector, or the overflow vector (R473). -/
def State.syncOf (s : State) (key : Nat) : List (BitVec 32) :=
  match s.dies.findSome? fun d => d.syncs.find? fun x => x.sector == key with
  | some x => x.v
  | none => s.hub.overflow

def State.putSync (s : State) (die key : Nat) (v : List (BitVec 32)) : State :=
  let s : State := { s with dies := s.dies.map fun d => d.dropSync key }
  s.modDie die fun d => { d with syncs := { sector := key, v } :: d.syncs }

/-- A race report of two accesses (R475). -/
def lintReport (gtime : DWord) (slot sec kind : Nat) (a b : ShadowRec) : List Byte :=
  let f (c : Bool) (n : Nat) : Nat := if c then 2 ^ n else 0
  let w20 := a.idx % 16 + b.idx % 16 * 2 ^ 4 + a.lane * 2 ^ 8 + b.lane * 2 ^ 13 + a.wave * 2 ^ 18 + b.wave * 2 ^ 23 +
    kind * 2 ^ 28 + f a.atomic 30 + f b.atomic 31 + (a.mask &&& b.mask).toNat * 2 ^ 32 + slot * 2 ^ 48
  leBytes 8 (a.team + b.team * 2 ^ 32) ++ leBytes 8 (16 * sec) ++ leBytes 8 a.clause.toNat ++ leBytes 8 b.clause.toNat ++
    leBytes 8 w20 ++ leBytes 8 gtime.toNat ++ leBytes 16 0

/-- A record of the same grid is checked against an access (R472). -/
def raceWith (V : List (BitVec 32)) (old new : ShadowRec) : Bool :=
  old.grid == new.grid && old.team % 64 != new.team % 64 && (old.mask &&& new.mask) != 0 &&
    decide ((V.getD (old.team % 64) 0).toNat < old.clock.toNat) && !(old.atomic && new.atomic)

/-- One plain or atomic access is checked and replaces its record (R472); a helper lane's is party to no race (R258). -/
def State.lintAccess (s : State) (r : Ref) (t : Target) (n : Nat) (write atomic : Bool) : State :=
  if !s.lintOn r.team || (s.lane r).isHelper then s
  else
    match t with
    | .phys pa =>
      let tm := s.team r.team
      (List.range ((pa % 16 + n + 15) / 16)).foldl (fun s k =>
        let sec := pa / 16 + k
        let lo := max pa (16 * sec) - 16 * sec
        let hi := min (pa + n) (16 * sec + 16) - 16 * sec
        let rec' : ShadowRec :=
          { grid := tm.grid, team := tm.t, clock := tm.stamp.getD tm.comp 0, mask := BitVec.ofNat 16 (2 ^ hi - 2 ^ lo),
            clause := s.bundle.clause, idx := s.bundle.idx, wave := r.wave, lane := r.lane, atomic }
        let sh := s.shadowOf sec
        let report := fun (s : State) (old : Option ShadowRec) (kind : Nat) =>
          match old with
          | some o =>
            if raceWith tm.stamp o rec' then
              s.ringPost tm.die .lint (lintReport s.hub.gtime (s.gridOf r.team).slot sec kind o rec')
                (fun va => s.agentPhys (s.gridOf r.team).root (s.gridOf r.team).priv va needW)
            else s
          | none => s
        let s := report s sh.wr (if write then 0 else 1)
        let s := if write then report s sh.rd 2 else s
        s.putShadow tm.die (if write then { sh with wr := some rec' } else { sh with rd := some rec' })) s
    | _ => s

/-- The filter stamps operations of cluster scope or wider on memory or the cluster window (R471). -/
def State.lintScope (s : State) (r : Ref) (va : DWord) (scope : Nat) : Bool :=
  s.lintOn r.team && decide (3 ≤ scope) && !(winTeam ≤ va.toNat && va.toNat < winEnd)

/-- Write part of an atomic (R471): a release joins V into the sync vector, a relaxed one joins P. -/
def State.lintAtomicWrite (s : State) (r : Ref) (t : Target) (rel : Bool) : State :=
  match lintKey t with
  | none => s
  | some key =>
    let tm := s.team r.team
    if rel then
      (s.putSync tm.die key (joinVec (s.syncOf key) tm.stamp)).modTeam r.team fun x => { x with stampV := tickVec x.stamp x.comp }
    else if tm.stampP.isEmpty then s
    else s.putSync tm.die key (joinVec (s.syncOf key) tm.stampP)

/-- Read part of an atomic (R471): an acquire joins the sync vector into V, a relaxed one into A. -/
def State.lintAtomicRead (s : State) (r : Ref) (t : Target) (acq : Bool) : State :=
  match lintKey t with
  | none => s
  | some key =>
    let v := s.syncOf key
    s.modTeam r.team fun x =>
      if acq then { x with stampV := joinVec x.stamp v } else { x with stampA := joinVec x.stampA v }

/-- FENCE (R471). -/
def State.lintFence (s : State) (tid : Nat) (acq rel : Bool) : State :=
  if !s.lintOn tid then s
  else
    let s := if acq then s.modTeam tid fun x => { x with stampV := joinVec x.stamp x.stampA, stampA := [] } else s
    if rel then s.modTeam tid fun x => { x with stampP := x.stamp, stampV := tickVec x.stamp x.comp } else s

end Sys2Proof.Machine
end

