-- ==== Sys2Proof/Machine/Ops.lean ====
section
/-! DEFINITION. Sys2Proof/Machine/Ops.lean: the call stack (R47 to R51), taking a trap and returning from one (R57 to R60),
how a word's causes act on its lanes (R426, R427, R440 to R442), a team that ends as fatal (R445), deferred causes (R430, R431),
and how a word, its clause and a wait end (R30, R44, R180 to R183). -/

namespace Sys2Proof.Machine

/-- Outcome of a step. -/
abbrev Out := Host.Outcome State Fault Refusal

/-! ### A team that ends as fatal -/

/-- A team ends as fatal: every lane ends and no word issues further; HOLD becomes none (R445 steps 1 and 3). The rest is
TEAM_FATAL_END, once its operations have completed. -/
def State.endFatal (s : State) (tid : Nat) (f : Fatal) : State :=
  if (s.team tid).fatal.isSome then s
  else
    let s := s.modTeam tid fun t => { t with
      fatal := some f, hold := none, held := none,
      waves := t.waves.map fun w => { w with entries := [], lanes := w.lanes.map Lane.finished } }
    (s.modBundles fun b => { b with members := b.members.filter fun m => m.team != tid }).sweepBundles

/-! ### The call stack -/

/-- Top of a lane's region: base + size (R47). -/
def State.stackTop (s : State) (r : Ref) : DWord := s.stackBase r + BitVec.ofNat 64 (s.gridOf r.team).stkSize

/-- A cause found by a check: the cause, the address and whether a walk found it. -/
structure Bad where
  cause : Cause
  addr : DWord
  walk : Bool
  deriving DecidableEq, Repr

/-- The first cause among `n` doubleword accesses from an address. -/
def State.checkDwords (s : State) (tid : Nat) (a : DWord) (n need : Nat) : Option Bad :=
  (List.range n).findSome? fun k =>
    match s.check tid (a + BitVec.ofNat 64 (8 * k)) 8 8 need true with
    | .bad c w => some { cause := c, addr := a + BitVec.ofNat 64 (8 * k), walk := w }
    | _ => none

/-- Doublewords written by a lane at once, as far as their checks hold. -/
def State.writeDwords (s : State) (r : Ref) (a : DWord) (vs : List DWord) (rec : WordRec) : State :=
  vs.zipIdx.foldl (fun s p =>
    let va := a + BitVec.ofNat 64 (8 * p.2)
    match s.check r.team va 8 8 needW true with
    | .ok t => (s.lintAccess r t 8 true false).laneWrite r va t (leBytes 8 p.1.toNat) rec
    | _ => s) s

/-- Doublewords read by a lane at once; a cause, or ECC, names the address of the access that met it. -/
def State.readDwords (s : State) (r : Ref) (a : DWord) : Nat → State × Except Bad (List DWord)
  | 0 => (s, .ok [])
  | n + 1 =>
    match s.check r.team a 8 8 needR true with
    | .bad c w => (s, .error { cause := c, addr := a, walk := w })
    | .miss _ _ => (s, .ok [])
    | .ok t =>
      match (s.lintAccess r t 8 false false).laneRead r t 8 .l1 with
      | (s, none) => (s, .error { cause := .ecc, addr := a, walk := false })
      | (s, some b) =>
        match s.readDwords r (a + 8) n with
        | (s, .error e) => (s, .error e)
        | (s, .ok vs) => (s, .ok (BitVec.ofNat 64 (leNat b) :: vs))

/-- Call entries that a push of `k` slots moves below the top four: address and slot (R49). -/
def spills (sp : DWord) (chip : List Slot) (k : Nat) : List (DWord × Slot) :=
  ((chip.drop (4 - k)).zipIdx.filter fun p => !p.1.frame).map fun p => (sp + BitVec.ofNat 64 (16 * (4 - k + p.2)), p.1)

/-- The check of the spill writes (R49): the first cause, its address being the slot's. -/
def State.spillCheck (s : State) (r : Ref) (k : Nat) : Option Bad :=
  (spills (s.lane r).sp (s.lane r).chip k).findSome? fun p =>
    (s.checkDwords r.team p.1 2 needW).map fun b => { b with addr := p.1 }

/-- `n` doublewords from an address have no defined value: each takes a free one (R49; log 12). -/
def State.undefine (s : State) (tid : Nat) (a : DWord) : Nat → State
  | 0 => s
  | n + 1 =>
    match s.check tid a 8 8 needR true with
    | .ok t => (s.draw.1.poke t s.draw.2).undefine tid (a + 8) n
    | _ => s.undefine tid (a + 8) n

/-- Places of the slots that a push spills (R49). -/
def State.spillPlaces (s : State) (r : Ref) (k : Nat) : List (DWord × Nat) :=
  (spills (s.lane r).sp (s.lane r).chip k).map fun p => (p.1, 16)

/-- Places of the accesses that a push makes: each spilled slot's, then the new slots' (R48, R49). -/
def State.pushPlaces (s : State) (r : Ref) (k : Nat) : List (DWord × Nat) :=
  s.spillPlaces r k ++ [((s.lane r).sp - BitVec.ofNat 64 (16 * k), 16 * k)]

/-- A line of scratchpad under a lane's stack accesses has its presence bit clear (R241). -/
def State.stackAbsent (s : State) (r : Ref) (xs : List (DWord × Nat)) : Option (Nat × Nat) :=
  xs.findSome? fun x => (List.range (x.2 / 8)).findSome? fun k =>
    match s.check r.team (x.1 + BitVec.ofNat 64 (8 * k)) 8 8 needR true with
    | .ok t => s.absentAt t 8
    | _ => none

/-- Stack accesses of a lane must come after its own operation on a tile (R45, R254, R273). -/
def State.stackClash (s : State) (r : Ref) (xs : List (DWord × Nat)) (write : Bool) : Bool :=
  xs.any fun x => (List.range (x.2 / 8)).any fun k =>
    match s.check r.team (x.1 + BitVec.ofNat 64 (8 * k)) 8 8 needR true with
    | .ok t => s.tileClash r t 8 write
    | _ => false

/-- Slots are pushed: the spilled ones are written, sr_sp falls, and the memory of a call entry has no defined value until it
is spilled (R48, R49). -/
def State.pushSlots (s : State) (r : Ref) (new : List Slot) (rec : WordRec) : State :=
  let l := s.lane r
  let s := (spills l.sp l.chip new.length).foldl (fun s p => s.writeDwords r p.1 [p.2.lo, p.2.hi] rec) s
  let sp := l.sp - BitVec.ofNat 64 (16 * new.length)
  let s := s.modLane r fun l => { l with sp, chip := (new ++ l.chip).take 4 }
  if new.any (·.frame) then s else s.undefine r.team sp (2 * new.length)

/-- The slots read back by a pop that leaves the top at `sp` with `chip` on chip (R49): as many as bring the top four, or
all there are below base + size, on chip again. -/
def refillCount (sp top : DWord) (chip : List Slot) : Nat := min 4 ((top.toNat - sp.toNat) / 16) - chip.length

/-- Slots that start at an entry or a frame end within a frame: the next one down is its upper half. -/
def midFrame (chip : List Slot) : Bool := chip.foldl (fun h x => x.frame && !h) false

/-- The refill reads of a pop (R49, R60, R130): the slots read, or a cause at the slot's address. `mid` says that the first is
the upper half of a frame, which carries no KIND (R48). -/
def State.refill (s : State) (r : Ref) (a : DWord) (mid : Bool) : Nat → State × Except Bad (List Slot)
  | 0 => (s, .ok [])
  | n + 1 =>
    match s.readDwords r a 2 with
    | (s, .error e) => (s, .error { e with addr := a })
    | (s, .ok vs) =>
      let lo := vs.getD 0 0
      match s.refill r (a + 16) (!mid && lo.toNat % 8 == 2) n with
      | (s, .error e) => (s, .error e)
      | (s, .ok rest) => (s, .ok ({ lo, hi := vs.getD 1 0, frame := mid || lo.toNat % 8 != 1 } :: rest))

/-- Places of the accesses that a pop makes: the entry at the top, or the two doublewords of a frame that RETT loads, then each
refilled slot (R49, R60, R130). -/
def State.popPlaces (s : State) (r : Ref) (k : Nat) : List (DWord × Nat) :=
  let l := s.lane r
  let sp := l.sp + BitVec.ofNat 64 (16 * k)
  let chip := l.chip.drop k
  (l.sp, 16) :: (List.range (refillCount sp (s.stackTop r) chip)).map fun j =>
    (sp + BitVec.ofNat 64 (16 * (chip.length + j)), 16)

/-- Pops `k` slots: the refill reads, then sr_sp rises; a cause leaves stack and sr_sp unchanged (R49). -/
def State.popSlots (s : State) (r : Ref) (k : Nat) : State × Option Bad :=
  let l := s.lane r
  let sp := l.sp + BitVec.ofNat 64 (16 * k)
  let chip := l.chip.drop k
  match s.refill r (sp + BitVec.ofNat 64 (16 * chip.length)) (midFrame chip) (refillCount sp (s.stackTop r) chip) with
  | (s, .error e) => (s, some e)
  | (s, .ok more) => (s.modLane r fun l => { l with sp, chip := chip ++ more }, none)

/-! ### Taking a trap -/

/-- The four doublewords of a trap frame (R57). -/
def frameDwords (t : Trap) (lane : Nat) : List DWord :=
  let b (c : Bool) (n : Nat) : Nat := if c then 2 ^ n else 0
  [t.rclause &&& ~~~7 ||| 2,
   BitVec.ofNat 64 (t.ridx + t.idx * 2 ^ 4 + t.cause.code * 2 ^ 8 + b t.fetch 13 + b t.write 14 + b t.deferred 15 + lane * 2 ^ 16),
   t.addr,
   t.clause &&& ~~~7]

/-- The fatal report of a trap that cannot be taken. -/
def Trap.fatal (t : Trap) (r : Ref) (cause : Cause) : Fatal :=
  { cause := cause.code, wave := r.wave, lane := r.lane, clause := t.clause, idx := t.idx, addr := t.addr, write := t.write,
    fetch := t.fetch, atExit := false }

/-- The fatal report of a word whose team has no handler: its reported cause and lane (R426). -/
def Trap.fatalWord (t : Trap) (r : Ref) : Fatal :=
  match t.told with
  | some x => { cause := x.cause.code, wave := x.wave, lane := x.lane, clause := x.clause, idx := x.idx, addr := x.addr,
                write := x.write, fetch := x.fetch, atExit := false }
  | none => t.fatal r t.cause

/-- TrapEntry (R59): the frame is pushed and the lane stands at the handler; a handler of zero, a stack without room, or a
write that fails its checks ends the team as fatal (R50, R445). -/
def State.takeTrap (s : State) (r : Ref) (t : Trap) : State :=
  let l := s.lane r
  let g := s.gridOf r.team
  if g.handler == 0 then s.endFatal r.team (t.fatalWord r)
  else if l.sp.toNat < (s.stackBase r).toNat + 32 then s.endFatal r.team (t.fatal r .stackovf)
  else
    let sp := l.sp - 32
    match s.spillCheck r 2 with
    | some b => s.endFatal r.team { t.fatal r b.cause with addr := b.addr, write := true, fetch := false }
    | none =>
      match s.checkDwords r.team sp 4 needW with
      | some b => s.endFatal r.team { t.fatal r b.cause with addr := b.addr, write := true, fetch := false }
      | none =>
        let wrec : WordRec := { clause := t.clause, idx := t.idx }
        let s := s.pushSlots r [{ lo := 0, hi := 0, frame := true }, { lo := 0, hi := 0, frame := true }] wrec
        let s := s.writeDwords r sp (frameDwords t r.lane) wrec
        s.modLane r fun l => { l with trap := none, clause := g.handler, idx := 0 }

/-- A line under the stores of a trap entry that would be made, the frame's and the spills', has its presence bit clear
(R241). -/
def State.frameAbsent (s : State) (r : Ref) : Option (Nat × Nat) :=
  if (s.gridOf r.team).handler == 0 || decide ((s.lane r).sp.toNat < (s.stackBase r).toNat + 32) ||
      (s.spillCheck r 2).isSome || (s.checkDwords r.team ((s.lane r).sp - 32) 4 needW).isSome then none
  else s.stackAbsent r (s.pushPlaces r 2)

/-- The entry of a lane waits for a line of a scratchpad. -/
def Wave.awaitLine (w : Wave) (lane : Nat) (l : Nat × Nat) : Wave :=
  { w with entries := w.entries.map fun e =>
      if e.mask.getLsbD lane then { e with park := 4, why := .presence l.1 l.2 } else e }

/-- Trap entry of a lane whose cause is pending, once no register- or predicate-writing result of its wave is outstanding (R59) and
no ACCLD or ACCST of the lane has to come before its stores (R254; log 102); before a line whose presence bit is clear the lane's
entry parks (R241; log 87). -/
def State.enterTrap (s : State) (r : Ref) : State :=
  match (s.lane r).trap with
  | none => s
  | some t =>
    if s.outstanding r.team r.wave || s.stackClash r (s.pushPlaces r 2) true then s
    else
      match s.frameAbsent r with
      | none => s.takeTrap r t
      | some l => s.modWave r.team r.wave fun w => w.awaitLine r.lane l

/-- The top of a lane's stack is a call entry, whose KIND its on-chip copy gives (R49, R51). -/
def Lane.topCall (l : Lane) : Bool :=
  match l.chip with
  | x :: _ => !x.frame
  | [] => false

/-- RETT's return (R60): the resume point from the frame in memory, and the pop; a cause leaves everything unchanged. -/
def State.returnTrap (s : State) (r : Ref) : State × Except Bad (DWord × Nat) :=
  let l := s.lane r
  if s.stackTop r == l.sp || l.topCall then (s, .error { cause := .stackovf, addr := 0, walk := false })
  else
    match s.readDwords r l.sp 2 with
    | (s, .error e) => (s, .error { e with addr := l.sp })
    | (s, .ok fs) =>
      let f0 := fs.getD 0 0
      if f0.toNat % 8 ≠ 2 then (s, .error { cause := .stackovf, addr := 0, walk := false })
      else
        match s.popSlots r 2 with
        | (s, some e) => (s, .error e)
        | (s, none) => (s, .ok (f0 &&& ~~~7, (fs.getD 1 0).toNat % 16))

/-! ### Causes of a word -/

/-- A lane's cause at the word that issues. -/
structure LaneFault where
  r : Ref
  cause : Cause
  addr : DWord := 0
  write : Bool := false
  fetch : Bool := false
  /-- found by a walk (R440) -/
  walk : Bool := false
  /-- the recorded word of a deferred cause (R430) -/
  deferred : Option WordRec := none
  /-- the resume point of an after-the-word cause (R58) -/
  resume : Option (DWord × Nat) := none
  deriving DecidableEq, Repr

/-- A lane's cause from a failed check. -/
def Bad.at (b : Bad) (r : Ref) (write : Bool) : LaneFault := { r, cause := b.cause, addr := b.addr, write, walk := b.walk }

/-- The frame that a cause will push. -/
def LaneFault.toTrap (f : LaneFault) (clause : DWord) (idx : Nat) : Trap :=
  let (fc, fi) := match f.deferred with
    | some d => (d.clause, d.idx)
    | none => (clause, idx)
  let (rc, ri) := f.resume.getD (clause, idx)
  { cause := f.cause, clause := fc, idx := fi, addr := f.addr, write := f.write, fetch := f.fetch,
    deferred := f.deferred.isSome, rclause := rc, ridx := ri }

/-- The reported cause: lowest code, then lowest lane (R426). -/
def reported : List LaneFault → Option LaneFault
  | [] => none
  | f :: fs =>
    match reported fs with
    | none => some f
    | some g => if g.cause.code < f.cause.code ∨ (g.cause.code = f.cause.code ∧ g.r.lane < f.r.lane) then some g else some f

/-- What a faulting lane reports (R426). -/
def LaneFault.report (f : LaneFault) (clause : DWord) (idx : Nat) : Report :=
  let t := f.toTrap clause idx
  { team := f.r.team, wave := f.r.wave, lane := f.r.lane, cause := f.cause, addr := f.addr, write := f.write, fetch := f.fetch,
    deferred := t.deferred, clause := t.clause, idx := t.idx }

/-- The report of a word: lowest code, then lowest lane (R426). -/
def reportOf : List Report → Option Report
  | [] => none
  | f :: fs =>
    match reportOf fs with
    | none => some f
    | some g => if g.cause.code < f.cause.code ∨ (g.cause.code = f.cause.code ∧ g.lane < f.lane) then some g else some f

/-- The lowest free index of a die's fault queue (R442). -/
def Die.fqFree (d : Die) : Option Nat :=
  (List.range Config.faultEntries).find? fun k => !(d.faultQ.any fun e => e.index == k)

/-- The index of a new entry: the lowest free one, or a number under which it waits for one (R442). -/
def Die.fqIndex (d : Die) : Nat :=
  d.fqFree.getD (((List.range (d.faultQ.length + 1)).map (· + Config.faultEntries)).find? (fun k =>
    !(d.faultQ.any fun e => e.index == k)) |>.getD Config.faultEntries)

/-- A new entry of the fault queue (R440, R442). -/
def State.fqAdd (s : State) (die : Nat) (e : FqEntry) : State := s.modDie die fun d => { d with faultQ := d.faultQ ++ [e] }

/-- Lanes of a wave parked on an entry whose index changes. -/
def Wave.fqMove (w : Wave) (old new : Nat) : Wave :=
  { w with lanes := w.lanes.map fun l => if l.fq == some old then { l with fq := some new } else l }

/-- The fault that has waited longest takes an index that is free (R442). -/
def State.fqPromote (s : State) (die : Nat) : State :=
  let d := s.die die
  match d.fqFree, d.faultQ.find? fun e => decide (Config.faultEntries ≤ e.index) with
  | some k, some e =>
    (s.modDie die fun d => { d with faultQ := d.faultQ.map fun x => if x.index == e.index then { x with index := k } else x }).modTeam
      (e.tid.getD s.teams.length) fun t => { t with waves := t.waves.map fun w => w.fqMove e.index k }
  | _, _ => s

/-- An entry is free (R442, R444). -/
def State.fqDrop (s : State) (die k : Nat) : State :=
  (s.modDie die fun d => { d with faultQ := d.faultQ.filter fun e => e.index != k }).fqPromote die

/-- Fault service is in hardware mode (R457). -/
def State.fltHw (s : State) : Bool := !s.hub.fnmode.getLsbD 0

/-- The per-lane record and the fault summary of a wave, from what its lanes have reported at a word (R427). -/
def State.summarise (s : State) (t w : Nat) (told : List Report) : State :=
  let mine := told.filter fun x => x.team == t && x.wave == w
  let s := s.modWave t w fun x => { x with
    lcause := mine.foldl (fun l f => l.set f.lane (BitVec.ofNat 5 f.cause.code)) x.lcause }
  match reportOf mine with
  | none => s
  | some f =>
    s.modWave t w fun x => { x with fsum :=
      { cause := BitVec.ofNat 5 f.cause.code, lane := BitVec.ofNat 5 f.lane, clause := f.clause,
        idx := BitVec.ofNat 4 f.idx, deferred := f.deferred, valid := true } }

/-- Lanes of one wave park on one fault-queue entry (R440, R442). -/
def State.parkFaults (s : State) (t w : Nat) (fs : List LaneFault) (clause : DWord) (idx : Nat) : State :=
  let die := (s.team t).die
  let k := (s.die die).fqIndex
  match reported fs with
  | some f =>
    let s := s.fqAdd die
      { index := k, state := 1, kind := 0, saved := false, fetch := f.fetch, write := f.write, cause := f.cause.code, idx,
        lane := f.r.lane, wave := w, core := (s.team t).core, grid := (s.gridOf t).slot, team := (s.team t).t, tid := some t,
        lanes := maskOf (fs.map (·.r.lane)), addr := f.addr, clause }
    fs.foldl (fun s f => s.modLane f.r fun l => { l with fq := some k }) s
  | none => s

/-- A cause is pending for a lane: what its frame will say, and what its word reports. An arrival ends (R211). -/
def State.setTrap (s : State) (f : LaneFault) (told : List Report) (clause : DWord) (idx : Nat) : State :=
  s.modLane f.r fun l => { l with
    arrival := none, target := none,
    trap := some { f.toTrap clause idx with told := reportOf (told.filter fun x => x.team == f.r.team) } }

/-- The lane stays parked on the fault queue: a walk's cause under hardware fault service (R440). -/
def State.queues (s : State) (f : LaneFault) : Bool := f.walk && s.fltHw && !(s.lane f.r).isHelper

/-- A word's causes act on one entry (R174, R426 to R429, R440): helper lanes end; lanes stopped by a walk under hardware fault
service park at the word; every other lane leaves for the handler, and enters it at once unless it has to wait. -/
def State.faultMember (s : State) (m : Member) (fs : List LaneFault) (told : List Report) (clause : DWord) (idx : Nat) :
    State :=
  let mine := fs.filter fun f => f.r.team == m.team && f.r.wave == m.wave && m.mask.getLsbD f.r.lane
  let helpers := mine.filter fun f => (s.lane f.r).isHelper
  let queued := mine.filter s.queues
  let traps := mine.filter fun f => !(s.lane f.r).isHelper && !s.queues f
  let s := s.leave m (maskOf (queued.map (·.r.lane))) clause idx 4 .faultQueue false
  let m := { m with mask := m.mask &&& ~~~maskOf (queued.map (·.r.lane)) }
  let s := traps.foldl (fun s f => s.setTrap f told clause idx) s
  let s := s.leave m (maskOf (traps.map (·.r.lane))) (s.gridOf m.team).handler 0 0 .none false
  let s := traps.foldl (fun s f => s.enterTrap f.r) s
  if helpers.isEmpty then s else s.endLanes m.team m.wave (maskOf (helpers.map (·.r.lane)))

/-- A lane of the issuing bundle still stands in it. -/
def State.stays (s : State) (r : Ref) : Bool :=
  s.bundle.members.any fun m => m.team == r.team && m.wave == r.wave && m.mask.getLsbD r.lane

/-- Teams and waves of lanes. -/
def wavesOf (rs : List Ref) : List (Nat × Nat) := (rs.map fun r => (r.team, r.wave)).eraseDups

/-- A word's causes act on the lanes that still stand in its bundle: the records of their waves, one fault-queue entry for the
lanes of a wave that park so, then each entry (R426, R427, R440). -/
def State.faultLanes (s : State) (fs : List LaneFault) : State :=
  let fs := fs.filter fun f => s.stays f.r
  if fs.isEmpty then s
  else
    let b := s.bundle
    let real := fs.filter fun f => !(s.lane f.r).isHelper
    let told := b.told ++ real.map fun f => f.report b.clause b.idx
    let queued := real.filter s.queues
    let s := s.modIssue fun b => { b with told }
    let s := (wavesOf (real.map (·.r))).foldl (fun s w => s.summarise w.1 w.2 told) s
    let s := (wavesOf (queued.map (·.r))).foldl (fun s w =>
      s.parkFaults w.1 w.2 (queued.filter fun f => f.r.team == w.1 && f.r.wave == w.2) b.clause b.idx) s
    b.members.foldl (fun s m => s.faultMember m fs told b.clause b.idx) s

/-- Lanes of an entry that is in no bundle take causes that no walk has found, met at a word: helper lanes end, the others leave
for the handler (R174, R426 to R429). -/
def State.trapParked (s : State) (t w slot : Nat) (clause : DWord) (idx : Nat) (fs : List LaneFault) : State :=
  match (s.wave t w).entry slot with
  | none => s
  | some e =>
    let real := fs.filter fun f => !(s.lane f.r).isHelper
    let helpers := (fs.filter fun f => (s.lane f.r).isHelper).map (·.r.lane)
    let told := real.map fun f => f.report clause idx
    let s := s.summarise t w told
    let s := real.foldl (fun s f => s.setTrap f told clause idx) s
    let s := s.leave { team := t, wave := w, slot, mask := e.mask } (maskOf (real.map (·.r.lane))) (s.gridOf t).handler 0 0 .none false
    let s := real.foldl (fun s f => s.enterTrap f.r) s
    if helpers.isEmpty then s else s.endLanes t w (maskOf helpers)

/-! ### How a word ends -/

/-- The word waits; it issues again in a later step (R134, R189 item 4). -/
def State.hold (s : State) : State := (s.modIssue fun b => { b with stalled := true }).putIssue

/-- Address of the next clause (R30). -/
def Bundle.next (b : Bundle) : DWord := b.clause + BitVec.ofNat 64 (8 * (b.n + 1))

/-- A lane's next PC once the clause has ended (R30, R128). -/
def Bundle.nextPc (b : Bundle) (t w k : Nat) : DWord × Nat :=
  match b.targets.find? fun x => x.1 == t && x.2.1 == w && x.2.2.1 == k with
  | some x => (x.2.2.2.1, x.2.2.2.2)
  | none => (b.next, 0)

/-- Where a lane stands after the word that issues (R58). -/
def Bundle.after (b : Bundle) (t w k : Nat) : DWord × Nat :=
  if b.idx + 1 < b.n then (b.clause, b.idx + 1) else b.nextPc t w k

/-- The groups in which an entry leaves its clause (R180). -/
def Bundle.groups (b : Bundle) (m : Member) : List Grp :=
  let pc := fun k => b.nextPc m.team m.wave k
  let ls := maskLanes m.mask
  let went := ls.filter fun k => b.targets.any fun x => x.1 == m.team && x.2.1 == m.wave && x.2.2.1 == k
  let stay := ls.filter fun k => !went.contains k
  match groupsOf pc 32 ls with
  | [] => []
  | [g] => [g]
  | gs => if stay.isEmpty then gs else { mask := maskOf stay, clause := b.next, idx := 0 } :: groupsOf pc 32 went

/-- An image as its four doublewords in one number (R178). -/
def imageNat (r : List Word) : Nat := packElems 32 (r.map (·.toNat))

/-- MASK of an image. -/
def imageMask (r : List Word) : BitVec 32 := BitVec.ofNat 32 (imageNat r)

/-- Lanes of a wave that images of the clause name (R224). -/
def Bundle.named (b : Bundle) (t w : Nat) : BitVec 32 :=
  (b.images.filter fun x => x.1 == t && x.2.1 == w).foldl (fun m x => m ||| imageMask x.2.2) 0

/-- Lanes of a wave that stand in the bundle. -/
def Bundle.here (b : Bundle) (t w : Nat) : BitVec 32 :=
  (b.members.filter fun m => m.team == t && m.wave == w).foldl (fun k m => k ||| m.mask) 0

/-- One entry finishes its clause (R180 to R182, R447); lanes that an image names leave it (R224). -/
def State.endMember (s : State) (b : Bundle) (m : Member) : State :=
  let s := s.modTeam m.team fun t => { t with retc := min (t.retc + 1) 0xFFFFFFFF }
  let s := s.modEntry m.team m.wave m.slot fun e =>
    { e with flight := none, yh := b.yh || e.yh, runs := min (e.runs + 1) 64, park := 0, why := .none }
  let k := { m with mask := m.mask &&& ~~~b.named m.team m.wave }
  let s := s.place k.team k.wave k.slot (b.groups k)
  let s := (b.groups k).foldl (fun s g => s.setPcs k.team k.wave g.mask g.clause g.idx) s
  let s := (maskLanes m.mask).foldl (fun s l => s.modLane ⟨m.team, m.wave, l⟩ fun x => { x with arrival := none }) s
  s.settle m.team m.wave m.slot m.mask

/-- The current pick number of a partition (R185). -/
def Die.pickNo (d : Die) (core part : Nat) : BitVec 32 :=
  ((d.picks.find? fun x => x.1 == core && x.2.1 == part).map (·.2.2)).getD 0

/-- One image becomes an entry, or its lanes join the DEFER of the reserved slot's entry (R224). DESIGN CHOICE (log 83): of
the lanes that it names the image takes those still in the issuing entry (`here`); one that has trapped, parked or ended since
the SPLWR stays where that put it. DESIGN CHOICE (log 107): a RUNS field above 64 counts as 64 (R178). -/
def State.placeImage (s : State) (t w : Nat) (img : List Word) (here : BitVec 32) : State :=
  let n := imageNat img
  let live := imageMask img &&& here
  let clause : DWord := BitVec.ofNat 64 (bitsOf n 64 64) &&& ~~~7
  let idx := bitsOf n (128 + 55) 4
  if live == 0 then s
  else
    let s := s.setPcs t w live clause idx
    match s.freeSlot t w with
    | some k => s.modWave t w fun x => x.addEntry
        { slot := k, stamp := (s.die (s.team t).die).pickNo (s.team t).core x.part, runs := min (bitsOf n 192 7) 64, clause, idx,
          depth := bitsOf n (128 + 50) 5, path := BitVec.ofNat 16 (bitsOf n (128 + 34) 16), park := 0, why := .none,
          yh := bitOf n (128 + 30), defer := 0, mask := live, flight := none }
    | none => s.modWave t w fun x => x.modEntry x.wslot fun e => { e with defer := e.defer ||| live, runs := 0 }

/-- Lanes of a wave that stand in a bundle in flight. -/
def Wave.flying (w : Wave) : BitVec 32 :=
  (w.entries.filter fun e => e.flight.isSome).foldl (fun m e => m ||| e.mask) 0

/-- Changes of DICE.bind and .unbind reach the lanes of a wave that stand in no bundle in flight (R377). -/
def Wave.settleBinds (w : Wave) : Wave :=
  let fly := w.flying
  { w with lanes := w.lanes.zipIdx.map fun p =>
      match p.1.pend with
      | some v => if fly.getLsbD p.2 then p.1 else { p.1 with bound := v, pend := none }
      | none => p.1 }

/-- Those changes of a team's waves; helpers of a quad without other lanes end (R174, R377). -/
def State.settleBinds (s : State) (t : Nat) : State :=
  if (s.team t).waves.all fun w => w.lanes.all fun l => l.pend.isNone then s
  else
    let s := s.modTeam t fun x => { x with waves := x.waves.map Wave.settleBinds }
    (List.range (s.team t).waves.length).foldl (fun s w => s.endLanes t w 0) s

/-- Every entry of a bundle finishes its clause; images become entries; the bundle frees its slot (R188). DESIGN CHOICE (log 93): an
issuing entry all of whose lanes images name has left its slot before the first image takes one (R224). DESIGN CHOICE (log 106): two
images that qualify under R181 fuse at this same moment. -/
def State.endClause (s : State) : State :=
  let b := s.bundle
  let s := { s with issue := none, bundles := s.bundles.filter fun x => x.id != b.id }
  let s := b.members.foldl (fun s m => s.endMember b m) s
  let s := b.images.foldl (fun s x => s.placeImage x.1 x.2.1 x.2.2 (b.here x.1 x.2.1)) s
  let s := b.members.foldl (fun s m => s.settleBinds m.team) s
  b.members.foldl (fun s m => s.fuse m.team m.wave) s

/-- The bundle moves on to its next word, or ends its clause. -/
def State.nextWord (s : State) : State :=
  let b := s.bundle
  if b.members.isEmpty then s.putIssue
  else if b.n ≤ b.idx + 1 then (s.modIssue fun b => { b with idx := b.idx + 1 }).endClause
  else (s.modIssue fun b => { b with idx := b.idx + 1 }).putIssue

/-! ### Deferred causes (R430, R431) -/

/-- The deferred causes that the lanes of a group take at a delivery point, one kind at a time: the lanes' own ECC records that
`ecc` covers first, then ALLOWANCE, then REMOTEPERM, which the lowest lane of `act` that is no helper takes. -/
def State.deliverable (s : State) (m : Member) (lanes act : List Ref) (ecc : EccRec → Bool) (allow rperm : Bool) :
    List LaneFault :=
  let eccs := lanes.filterMap fun r =>
    match (s.lane r).ecc with
    | some e => if ecc e then some { r, cause := .ecc, addr := e.word.addr, deferred := some e.word : LaneFault } else none
    | none => none
  if !eccs.isEmpty then eccs
  else
    match (act.filter fun r => !(s.lane r).isHelper).head? with
    | none => []
    | some r =>
      match (if allow then (s.wave m.team m.wave).allow else none), (if rperm then (s.wave m.team m.wave).rperm else none) with
      | some a, _ => [{ r, cause := .allowance, addr := 0, deferred := some a }]
      | none, some p => [{ r, cause := .remoteperm, addr := p.addr, write := true, deferred := some p }]
      | none, none => []

/-- A wait on a counter with a threshold orders the operation of a record: at most that many operations of its wave and class
have been issued after it (R31, R430). -/
def Wave.orders (w : Wave) (c t : Nat) (e : EccRec) : Bool :=
  e.ctr.index == c && decide (e.seq + t ≤ w.issued.getD c 0)

/-- The records that are delivered are no longer pending. -/
def State.dropRecords (s : State) (fs : List LaneFault) : State :=
  fs.foldl (fun s f =>
    match f.cause with
    | .ecc => s.modLane f.r fun l => { l with ecc := none }
    | .allowance => s.modWave f.r.team f.r.wave fun w => { w with allow := none }
    | .remoteperm => s.modWave f.r.team f.r.wave fun w => { w with rperm := none }
    | _ => s) s

/-- What the entries of a bundle take, one entry after the other: a record that one takes is pending for none behind it (R431;
log 101). -/
def State.deliverEach (s : State) (ms : List Member) (f : State → Member → List LaneFault) : State × List LaneFault :=
  ms.foldl (fun p m => let fs := f p.1 m; (p.1.dropRecords fs, p.2 ++ fs)) (s, [])

/-- A switch-marker park of an entry ends: its lanes' ECC records are delivered at the word where it stands (R44, R430). -/
def State.endResults (s : State) (t w slot : Nat) : State :=
  match (s.wave t w).entry slot with
  | none => s
  | some e =>
    let s := s.modEntry t w slot fun e => { e with park := 0, why := .none }
    let m : Member := { team := t, wave := w, slot, mask := e.mask }
    let fs := s.deliverable m ((memberRefs m).filter fun r => !(s.lane r).ended) [] (fun _ => true) false false
    if fs.isEmpty then s else (s.dropRecords fs).trapParked t w slot e.clause e.idx fs

/-! ### Debug hits (R476 to R480) -/

/-- A watchpoint hit of a lane: register number, lowest byte, write. -/
structure Watch where
  r : Ref
  n : Nat
  addr : DWord
  write : Bool
  deriving DecidableEq, Repr

/-- Bytes a save of a grid's team takes at most: every handle with 64 granules, and `nspl` split entries (R451, R453). -/
def Grid.saveBytes (g : Grid) (nspl nray handleData : Nat) : Nat :=
  let up := fun n => (n + 255) / 256 * 256
  let w := g.waves
  256 + up (512 * w) + up ((128 + 4 * g.regs) * 32 * w) + up (32 * nspl) + 256 + up (16392 * g.acct + 8328) +
    up (512 + handleData) + up (g.spad + g.spad / 1024) + up (64 + 16 * nray) + 256

/-- R451: the die's slots hold a team of the grid, with 64 granules of 4 KiB to every handle; the dispatcher is never saved
(R505). -/
def State.hasSaveSlot (s : State) (die : Nat) (g : Grid) : Bool :=
  let d := s.die die
  !g.firmware && d.spbase.toNat % 65536 != 0 &&
    decide (g.saveBytes g.waves 0 (32 * 64 * 4096) ≤ bitsOf d.spsize.toNat 16 16 * 65536)

/-- The debug mode that acts on a team: 0 detached, 1 trap, 2 swap-out (R452, R476). -/
def State.dbgMode (s : State) (tid : Nat) : Nat :=
  let c := (s.die (s.team tid).die).dbgctl.toNat
  if bitsOf c 8 8 ≠ (s.gridOf tid).slot then 0
  else
    match c % 4 with
    | 1 => 1
    | 2 => if s.hasSaveSlot (s.team tid).die (s.gridOf tid) then 2 else 1
    | _ => 0

/-- Sign extension of an address register's bits from bit 51. -/
def sext51 (x : Nat) : DWord := w64 (sextOf x 52)

/-- The lowest-numbered breakpoint at a word (R477). -/
def Die.bpHit (d : Die) (clause : DWord) (idx : Nat) : Option Nat :=
  (List.range 8).find? fun k =>
    let b := d.bps.getD k 0
    b.getLsbD 52 && sext51 (bitsOf b.toNat 3 49 * 8) == clause && bitsOf b.toNat 60 4 == idx

/-- The lowest-numbered watchpoint that an access hits, with its lowest overlapping byte (R478, R479). -/
def Die.wpHit (d : Die) (a : DWord) (n : Nat) (rd wr : Bool) : Option (Nat × DWord) :=
  (List.range 4).findSome? fun k =>
    let w := d.wps.getD k 0
    let l := bitsOf w.toNat 58 6
    let base := (sext51 (bitsOf w.toNat 0 52)).toNat / 2 ^ l * 2 ^ l
    if w.getLsbD 52 && decide (l ≤ 40) && ((rd && w.getLsbD 55) || (wr && w.getLsbD 54)) &&
        decide (a.toNat < base + 2 ^ l) && decide (base < a.toNat + n) then
      some (k, BitVec.ofNat 64 (max a.toNat base))
    else none

/-- A lane's access is watched (R479). -/
def State.watch (s : State) (r : Ref) (a : DWord) (n : Nat) (rd wr : Bool) : List Watch :=
  if s.dbgMode r.team = 0 || (s.lane r).isHelper then []
  else
    match (s.die (s.team r.team).die).wpHit a n rd wr with
    | some (k, lo) => [{ r, n := k, addr := lo, write := wr }]
    | none => []

/-- The pushes or the pops of a lane's stack are watched (R479). -/
def State.watchPlaces (s : State) (r : Ref) (xs : List (DWord × Nat)) (wr : Bool) : List Watch :=
  xs.flatMap fun x => s.watch r x.1 x.2 (!wr) wr

/-- The hit of the lowest-numbered watchpoint among a lane's accesses, at the lowest byte that overlaps it (R479, R481). -/
def watchOf (ws : List Watch) (r : Ref) : Option Watch :=
  (ws.filter fun w => w.r == r).foldl (fun (m : Option Watch) w =>
    match m with
    | some x => if w.n < x.n ∨ (w.n = x.n ∧ w.addr.toNat < x.addr.toNat) then some w else some x
    | none => some w) none

/-- A debug record to come for a lane at the word that issues. -/
def State.noteHit (s : State) (r : Ref) (kind n code : Nat) (addr : DWord) (parked : Bool) : State :=
  let b := s.bundle
  s.modTeam r.team fun t => { t with hits := t.hits ++
    [{ kind, n, wave := r.wave, lane := r.lane, clause := b.clause, idx := b.idx, code, addr, parked, gtime := s.hub.gtime }] }

/-- A team is to be saved; under CL2 its partner with it (R447, R480). -/
def State.askSave (s : State) (tid reason : Nat) : State :=
  let ask := fun (s : State) (t : Nat) => s.modTeam t fun x => { x with leaving :=
    match x.leaving with
    | .save r => .save (if reason = 2 then 2 else r)
    | _ => .save reason }
  let s := ask s tid
  match s.partner tid with
  | some p => ask s p
  | none => s

/-- Lanes that hit leave at their resume points, with their old identifier, and the team is swapped out (R480). -/
def State.swapHits (s : State) (rs : List Ref) : State :=
  let b := s.bundle
  let s := b.members.foldl (fun s m =>
    (groupsOf (fun k => b.after m.team m.wave k) 32
      ((rs.filter fun r => r.team == m.team && r.wave == m.wave && m.mask.getLsbD r.lane).map (·.lane))).foldl
        (fun s g =>
          match s.bundle.members.find? fun x => x.team == m.team && x.wave == m.wave && x.slot == m.slot with
          | some m => s.leave m g.mask g.clause g.idx 0 .none true
          | none => s) s) s
  rs.foldl (fun s r => s.askSave r.team 2) s

/-- Breakpoint and watchpoint hits: of the lanes that the word has issued for, and of those whose accesses it has made (R479,
R480). -/
def State.debugHits (s : State) (lanes : List Ref) (ws : List Watch) : State :=
  let b := s.bundle
  let hits := (lanes ++ ws.map (·.r)).eraseDups.filterMap fun r =>
    if s.dbgMode r.team = 0 || (s.lane r).isHelper || (s.lane r).ended || !s.stays r then none
    else
      match (if lanes.contains r then (s.die (s.team r.team).die).bpHit b.clause b.idx else none), watchOf ws r with
      | some k, _ => some (r, true, k, (0 : DWord), false)
      | none, some w => some (r, false, w.n, w.addr, w.write)
      | none, none => none
  if hits.isEmpty then s
  else
    let swap := hits.filter fun h => s.dbgMode h.1.team == 2
    let trap := hits.filter fun h => s.dbgMode h.1.team != 2
    let s := swap.foldl (fun s h => s.noteHit h.1 (if h.2.1 then 1 else 2) h.2.2.1 0 h.2.2.2.1 false) s
    let s := if swap.isEmpty then s else s.swapHits (swap.map (·.1))
    s.faultLanes (trap.map fun h =>
      { r := h.1, cause := if h.2.1 then .brk else .watch, addr := h.2.2.2.1, write := h.2.2.2.2,
        resume := some (b.after h.1.team h.1.wave h.1.lane) })

/-- A stepped lane has issued its one word: its team is saved again (R482). -/
def State.stepDone (s : State) (t w lane : Nat) (parked : Bool) : State :=
  let r : Ref := ⟨t, w, lane⟩
  let l := s.lane r
  let e := (s.wave t w).entries.find? fun e => e.mask.getLsbD lane
  let (c, i) := match e with
    | some e => (e.clause, e.idx)
    | none => (l.clause, l.idx)
  ((s.modTeam t fun x => { x with step := none, hits := x.hits ++
      [{ kind := 3, n := 0, wave := w, lane, clause := c, idx := i, code := 0, addr := 0, parked, gtime := s.hub.gtime }] }).askSave t 2)

/-- The teams of a bundle that take a single step: team, wave, lane (R482). -/
def State.steppers (s : State) (b : Bundle) : List (Nat × Nat × Nat) :=
  (b.members.filterMap fun m =>
    match (s.team m.team).step with
    | some (w, l) => some (m.team, w, l)
    | none => none).eraseDups

/-- A bundle under single step gives its entries back at their next word; behind a switch marker they wait there while a result is
outstanding (R44). -/
def State.releaseBundle (s : State) (b : Bundle) : State :=
  let s := { s with issue := none, bundles := s.bundles.filter fun x => x.id != b.id }
  b.members.foldl (fun s m =>
    let s := (s.setPcs m.team m.wave m.mask b.clause b.idx).modEntry m.team m.wave m.slot fun e =>
      { e with flight := none, idx := b.idx, park := if b.marker then 4 else 0, why := if b.marker then .results else .none }
    if b.marker && !s.outstanding m.team m.wave then s.endResults m.team m.wave m.slot else s) s

/-- After a word of a bundle with stepped lanes: unless the word waits, its entries stand at their next word or clause, and the
teams are to be saved (R482, R490). -/
def State.afterStep (s : State) (id : Nat) (steps : List (Nat × Nat × Nat)) : State :=
  if steps.isEmpty then s
  else
    let done := fun (s : State) => steps.foldl (fun s x => s.stepDone x.1 x.2.1 x.2.2
      ((s.wave x.1 x.2.1).entries.any fun e => e.mask.getLsbD x.2.2 && e.park != 0 && e.why != .results)) s
    match s.bundles.find? fun b => b.id == id with
    | none => done s
    | some b =>
      if b.stalled then s
      else if b.idx < b.n then done (s.releaseBundle b)
      else done ({ s with issue := some b }.endClause)

/-- The word has issued for `lanes`, which have its effect: debug hits, then the switch marker, the next word or the end of
the clause (R40, R44). -/
def State.finish (s : State) (lanes : List Ref) (ws : List Watch) : State :=
  let g := s.guard
  let s := s.debugHits lanes ws
  let s := s.modIssue fun b => { b with walks := [], walked := [], told := [], diced := none }
  if s.bundle.members.isEmpty then s.putIssue
  else if g.sw then (s.modIssue fun b => { b with idx := b.idx + 1, marker := true }).putIssue
  else s.nextWord

/-- The word ends without a watched access. -/
def State.advance (s : State) : State := s.finish s.active []

/-! ### Lanes that pass a word in which they were parked (R183, R212 to R214, R220) -/

/-- Address of the clause after one whose last word has index `idx`. -/
def clauseAfter (clause : DWord) (idx : Nat) : DWord := clause + BitVec.ofNat 64 (8 * (idx + 2))

/-- A word of a clause has a switch marker. -/
def State.marked (s : State) (t : Nat) (clause : DWord) (idx : Nat) : Bool :=
  ((s.peek t (clause + BitVec.ofNat 64 (8 * (idx + 1))) 8).map fun b => (guardOfWord (dwordOfBytes b)).sw).getD false

/-- Breakpoint hits of lanes that have passed a word and stand in one entry at the next clause (R479, R480). -/
def State.passHits (s : State) (t w : Nat) (mask : BitVec 32) (clause : DWord) (idx : Nat) : State :=
  match (s.wave t w).entries.find? fun e => e.mask &&& mask != 0, (s.die (s.team t).die).bpHit clause idx with
  | some e, some n =>
    let rs := ((maskLanes (e.mask &&& mask)).filter fun k => !(s.lane ⟨t, w, k⟩).isHelper).map fun k => (⟨t, w, k⟩ : Ref)
    if s.dbgMode t = 0 ∨ rs.isEmpty then s
    else if s.dbgMode t = 2 then
      let s := s.modTeam t fun x => { x with hits := x.hits ++ rs.map fun r =>
        { kind := 1, n, wave := w, lane := r.lane, clause, idx, code := 0, addr := 0, parked := false, gtime := s.hub.gtime } }
      (s.leave { team := t, wave := w, slot := e.slot, mask := e.mask } (maskOf (rs.map (·.lane))) e.clause e.idx 0 .none true).askSave t 2
    else s.trapParked t w e.slot clause idx (rs.map fun r => { r, cause := .brk, resume := some (e.clause, e.idx) })
  | _, _ => s

/-- The wait of lanes parked in a word that ends its clause is satisfied (R183): the word is executed for them to its end, in a
bundle of their own, neither fetched again nor behind the waits of its header. Lanes that find no slot are deferred, and execute
it again (R182). -/
def State.reissue (s : State) (t w : Nat) (e : Entry) (lanes : BitVec 32) (word : DWord) (f : State → Out) : State :=
  let s := if lanes == e.mask then s.modEntry t w e.slot fun e => { e with park := 0, why := .none }
    else s.leave { team := t, wave := w, slot := e.slot, mask := e.mask } lanes e.clause e.idx 0 .none false
  match (s.wave t w).entries.find? fun x => x.mask == lanes && x.park == 0 with
  | none => s
  | some x =>
    let b : Bundle := { Bundle.blank with
      id := s.nextBundle, die := (s.team t).die, core := (s.team t).core, part := (s.wave t w).part,
      members := [{ team := t, wave := w, slot := x.slot, mask := lanes }], clause := x.clause, idx := x.idx, n := x.idx + 1,
      words := List.replicate x.idx 0 ++ [word],
      yh := ((s.peek t x.clause 8).map fun b => (dwordOfBytes b).getLsbD 36).getD false }
    let u : State := { s.modEntry t w x.slot fun e => { e with flight := some b.id } with
      bundles := s.bundles ++ [b], nextBundle := s.nextBundle + 1, issue := some b }
    match f u with
    | .next v => v.afterStep b.id (u.steppers b)
    | _ => s

/-! ### At a word: REMOTEPERM, and the commit token -/

/-- REMOTEPERM is delivered at a release, fence or arrival by the lowest active lane that is no helper; that lane's part has
not been performed (R430, R431). -/
def State.deliverRperm (s : State) : State :=
  let p := s.deliverEach s.bundle.members fun s m => s.deliverable m [] (s.contribOf m) (fun _ => false) false true
  p.1.faultLanes p.2

/-- A release by the contributing lanes of the word at a scope: the earlier stores of their waves first, so that what the write guard
refuses of them is delivered here (R253, R430, R431). -/
def State.releaseWord (s : State) (scope : Nat) : State :=
  ((wavesOf (s.bundle.members.flatMap s.contribOf)).foldl (fun s w => s.release w.1 w.2 scope) s).deliverRperm

/-- The turn of a deterministic grid's token holder ends at this word (R462): the token passes next. -/
def State.endTurn (s : State) (lanes : List Ref) : State :=
  lanes.foldl (fun s r =>
    let g := s.gridOf r.team
    if g.det && g.token == some ((s.team r.team).t, r.wave, r.lane) then
      { s.modGrid (s.team r.team).grid fun g => { g with tokenOps := 64 } with
        agenda := .ev .commitTokenPass { a := (s.team r.team).grid } :: s.agenda }
    else s) s

/-! ### Word forms -/

/-- Runs a meaning only when a word issues. -/
def whenIssued (s : State) (f : State → State) : Out := if s.issue.isNone then .next s else .next (f s)

/-- The waves that have a lane with a holding guard: each counts the word once (R189 item 3). -/
def State.countingWaves (s : State) : List (Nat × Nat) :=
  ((s.active.map fun r => (r.team, r.wave)).eraseDups)

/-- A counter would pass 63 (R134, R189 item 4). -/
def State.counterFull (s : State) (c : Ctr) : Bool :=
  s.countingWaves.any fun x => decide (63 ≤ (s.wave x.1 x.2).ctrs.getD c.index 0)

/-- The counter of a wave changes. -/
def State.bump (s : State) (t w : Nat) (c : Ctr) (up : Bool) : State :=
  s.modWave t w fun x => { x with ctrs := x.ctrs.modify c.index fun n => if up then n + 1 else n - 1 }

/-- A new outstanding operation of a wave, with or without the word's count (R134, R308). -/
def State.pushOp (s : State) (t w : Nat) (c : Ctr) (counts writes : Bool) (regs : List RegRes) (preds : List PredRes)
    (eccs : List (Nat × DWord)) (body : OpBody) : State :=
  let b := s.bundle
  let seq := (s.wave t w).issued.getD c.index 0 + 1
  let s := if counts then (s.bump t w c true).modWave t w fun x => { x with issued := x.issued.set c.index seq } else s
  { s with
    nextOp := s.nextOp + 1,
    ops := s.ops ++ [{ id := s.nextOp, team := t, wave := w, ctr := c, clause := b.clause, idx := b.idx, seq, done := false,
                       counts, writes, regs, preds, eccs, body }] }

/-- A new outstanding operation of a wave, with its count (R134, R308). -/
def State.addOp (s : State) (t w : Nat) (c : Ctr) (writes : Bool) (regs : List RegRes) (preds : List PredRes)
    (eccs : List (Nat × DWord)) (body : OpBody) : State :=
  s.pushOp t w c true writes regs preds eccs body

/-- An operation has completed for every lane: the counts of completed operations retire in issue order within their wave
and class (R134, R308). -/
def retireGo : List Op → List (Nat × Nat × Ctr) → List Op × List (Nat × Nat × Ctr)
  | [], _ => ([], [])
  | o :: os, blocked =>
    let key := (o.team, o.wave, o.ctr)
    if o.done && !blocked.contains key then
      let (keep, out) := retireGo os blocked
      (keep, if o.counts then key :: out else out)
    else
      let (keep, out) := retireGo os (key :: blocked)
      (o :: keep, out)

def State.retire (s : State) : State :=
  let (keep, out) := retireGo s.ops []
  out.foldl (fun s x => s.bump x.1 x.2.1 x.2.2 false) { s with ops := keep }

/-- Marks an operation done and retires what may retire. -/
def State.opDone (s : State) (id : Nat) : State :=
  ({ s with ops := s.ops.map fun o => if o.id == id then { o with done := true } else o } : State).retire

def State.modOp (s : State) (id : Nat) (f : Op → Op) : State :=
  { s with ops := s.ops.map fun o => if o.id == id then f o else o }

/-- The causes of a privileged word in an ordinary launch (R56): its active lanes take PRIV. -/
def State.privFaults (s : State) : List LaneFault :=
  if s.issueGrid.priv then [] else s.active.map fun r => { r, cause := .priv }

/-- A privileged word: PRIV in an ordinary launch, else its effect (R56, R105). -/
def privWord (s : State) (f : State → State) : Out :=
  whenIssued s fun s =>
    match s.privFaults with
    | [] => f s
    | fs => (s.faultLanes fs).finish [] []

end Sys2Proof.Machine
end

