-- ==== Sys2Proof/Machine/Operands.lean ====
section
/-! DEFINITION. Sys2Proof/Machine/Operands.lean: the values that operands deliver (R23 to R25, R37 to R39, R92, R108) and
the frame of a word of class ALU (R41, R42, R21, R189). -/

namespace Sys2Proof.Machine

/-! ### Special registers (R23 to R25) -/

/-- The high half of a 64-bit special register: as latched, or live (R24). -/
def latched (l : Option Word) (live : DWord) : Word := l.getD (hi32 live)

/-- A special register read by selector (R23). -/
def State.srValue (s : State) (r : Ref) (sel : Nat) : Word :=
  let t := s.team r.team
  let g := s.gridOf r.team
  let l := s.lane r
  let (i, j, k) := threadCoords g (32 * r.wave + r.lane)
  let (x, y, z) := teamCoords g t.t
  let n := BitVec.ofNat 32
  match sel with
  | 192 => n r.lane
  | 193 => n (r.lane % 4)
  | 194 => n r.wave
  | 195 => n i
  | 196 => n j
  | 197 => n k
  | 198 => n x
  | 199 => n y
  | 200 => n z
  | 201 => n (s.clRank r.team)
  | 202 => n t.core
  | 203 => n t.die
  | 204 => if l.isHelper then 1 else 0
  | 205 => lo32 (s.coreClock t.die t.core)
  | 206 => latched l.latchClock (s.coreClock t.die t.core)
  | 207 => lo32 s.hub.gtime
  | 208 => latched l.latchGtime s.hub.gtime
  | 209 => l.flags.setWidth 32
  | 210 => lo32 l.gen
  | 211 => latched l.latchSeed l.gen
  | 212 => lo32 l.sp
  | 213 => latched l.latchSp l.sp
  | _ => 0

/-- The whole of a 64-bit special register, or a 32-bit one zero-extended (R140). -/
def State.srWhole (s : State) (r : Ref) (sel : Nat) : DWord :=
  match sel with
  | 205 => s.coreClock (s.team r.team).die (s.team r.team).core
  | 207 => s.hub.gtime
  | 210 => (s.lane r).gen
  | 212 => (s.lane r).sp
  | _ => (s.srValue r sel).setWidth 64

/-- Reading a low half latches its high half for the thread (R24). -/
def State.latchRead (s : State) (r : Ref) (sel : Nat) : State :=
  let t := s.team r.team
  match sel with
  | 205 => s.modLane r fun l => { l with latchClock := some (hi32 (s.coreClock t.die t.core)) }
  | 207 => s.modLane r fun l => { l with latchGtime := some (hi32 s.hub.gtime) }
  | 210 => s.modLane r fun l => { l with latchSeed := some (hi32 l.gen) }
  | 212 => s.modLane r fun l => { l with latchSp := some (hi32 l.sp) }
  | _ => s

/-! ### Constants, immediates and element selects -/

/-- Inline constants as integers and binary32 (R108): the Integer and binary32 columns. -/
def constInt (k : Nat) : Word :=
  match k with
  | 0 => 0 | 1 => 1 | 2 => 2 | 3 => 4 | 4 => 8 | 5 => 16 | 6 => 64 | 7 => 0xFFFFFFFF
  | 8 => 0x3F000000 | 9 => 0x3E800000 | 10 => 0xBF000000 | 11 => 0x7F800000
  | 12 => 0x7F7FFFFF | 13 => 0x33800000 | 14 => 0x3F317218 | 15 => 0x3FB8AA3B
  | _ => 0

def constF32 (k : Nat) : Word :=
  match k with
  | 0 => 0 | 1 => 0x3F800000 | 2 => 0x40000000 | 3 => 0x40800000 | 4 => 0x41000000 | 5 => 0x41800000
  | 6 => 0x42800000 | 7 => 0xBF800000
  | _ => constInt k

/-- The binary16 column of R108. -/
def constH16 (k : Nat) : BitVec 16 :=
  match k with
  | 0 => 0 | 1 => 0x3C00 | 2 => 0x4000 | 3 => 0x4400 | 4 => 0x4800 | 5 => 0x4C00 | 6 => 0x5400 | 7 => 0xBC00
  | 8 => 0x3800 | 9 => 0x3400 | 10 => 0xB800 | 11 => 0x7C00 | 12 => 0x7BFF | 13 => 0x0001 | 14 => 0x398C | 15 => 0x3DC5
  | _ => 0

/-- The BF16 column of R108. -/
def constB16 (k : Nat) : BitVec 16 :=
  match k with
  | 0 => 0 | 1 => 0x3F80 | 2 => 0x4000 | 3 => 0x4080 | 4 => 0x4100 | 5 => 0x4180 | 6 => 0x4280 | 7 => 0xBF80
  | 8 => 0x3F00 | 9 => 0x3E80 | 10 => 0xBF00 | 11 => 0x7F80 | 12 => 0x7F7F | 13 => 0x3380 | 14 => 0x3F31 | 15 => 0x3FB9
  | _ => 0

/-- The low `w` bits of a value in every element (R92, R108). -/
def spread (w : Nat) (v : Nat) : Word := BitVec.ofNat 32 (packElems w (List.replicate (32 / w) v))

/-- An inline constant as an operand of a type (R108). -/
def constOf (t : ETy) (k : Nat) : Word :=
  match t with
  | .i32 | .i64 => constInt k
  | .f32 => constF32 k
  | .i16 => spread 16 (constInt k).toNat
  | .i8 => spread 8 (constInt k).toNat
  | .i4 => spread 4 (constInt k).toNat
  | .h16 => constH16 k ++ constH16 k
  | .b16 => constB16 k ++ constB16 k

/-- An FI immediate as an operand of a type (R92). -/
def immOf (t : ETy) (v : BitVec 24) : Word :=
  match t with
  | .i32 | .i64 => v.signExtend 32
  | .f32 => v ++ (0 : BitVec 8)
  | .i16 | .h16 | .b16 => spread 16 v.toNat
  | .i8 => spread 8 v.toNat
  | .i4 => spread 4 v.toNat

/-- Bytes of a register in reverse order (R38). -/
def revBytes (v : Word) : Word :=
  (v.extractLsb' 0 8) ++ (v.extractLsb' 8 8) ++ (v.extractLsb' 16 8) ++ (v.extractLsb' 24 8)

/-- The element select (R38, R39). -/
def eselect (t : ETy) (e : BitVec 4) (v : Word) : Word :=
  let k := e.toNat
  match t with
  | .i4 => if k = 0 then v else spread 4 (elem 4 v (k - 1))
  | _ =>
    if k = 0 then v
    else if k = 1 then spread 16 (elem 16 v 0)
    else if k = 2 then spread 16 (elem 16 v 1)
    else if k = 3 then (v.extractLsb' 0 16) ++ (v.extractLsb' 16 16)
    else if k < 8 then spread 8 (elem 8 v (k - 4))
    else revBytes v

/-- A 32-bit source operand (R37 to R39). -/
def State.src (s : State) (r : Ref) (t : ETy) (sel : BitVec 8) (e : BitVec 4) : Word :=
  let n := sel.toNat
  if n < 192 then eselect t e (s.rawReg r n)
  else if n < 224 then eselect t e (s.srValue r n)
  else if n < 240 then constOf t (n - 224)
  else 0

/-- A 64-bit source operand: a pair, or an inline constant sign-extended (R20, R108). -/
def State.src64 (s : State) (r : Ref) (sel : BitVec 8) : DWord :=
  let n := sel.toNat
  if n < 192 then s.rawPair r n else (constInt (n - 224)).signExtend 64

/-! ### Words of class ALU -/

/-- What a word computes for one lane. -/
structure Eff where
  regs : List (Nat × Word) := []
  preds : List (Nat × Bool) := []
  flags : Flags := 0
  gen : Option DWord := none
  deriving DecidableEq, Repr

/-- One lane's effect is written (R21, R26, R42). -/
def State.apply (s : State) (r : Ref) (e : Eff) : State :=
  let s := e.regs.foldl (fun s p => s.setReg r p.1 p.2) s
  s.modLane r fun l => { l with
    p := e.preds.foldl (fun p x => setPred p x.1 x.2) l.p, flags := l.flags ||| e.flags, gen := e.gen.getD l.gen }

/-- Lane results in descending lane order, so that the lowest lane's value stays in a w register (R21, R189, R190). -/
def laneDesc {α : Type} (xs : List (Ref × α)) : List (Ref × α) :=
  ((List.range 32).flatMap fun k => xs.filter fun x => x.1.lane == 31 - k)

/-- Every lane's effect, computed from the state at issue, is written. -/
def State.applyAll (s : State) (effs : List (Ref × Eff)) : State := (laneDesc effs).foldl (fun s x => s.apply x.1 x.2) s

/-- A word of class ALU: operands are read at issue for every active lane, special-register low halves latch, results are
written before the next word (R41, R42). -/
def aluWord (s : State) (srcs : List (BitVec 8)) (f : State → Ref → Eff) : Out :=
  whenIssued s fun s =>
    let act := s.active
    let effs := act.map fun r => (r, f s r)
    let s := act.foldl (fun s r => srcs.foldl (fun s x => s.latchRead r x.toNat) s) s
    (s.applyAll effs).finish act []

/-- A register result. -/
def effReg (rd : BitVec 8) (v : Word) : Eff := { regs := [(rd.toNat, v)] }

/-- A pair result (R20). -/
def effPair (rd : BitVec 8) (v : DWord) : Eff := { regs := [(rd.toNat, lo32 v), (rd.toNat + 1, hi32 v)] }

/-- A floating result with its flags. -/
def effFlag (rd : BitVec 8) (v : Nat × Flags) : Eff := { regs := [(rd.toNat, BitVec.ofNat 32 v.1)], flags := v.2 }

/-- F3 with sources a, b, c of given types. -/
def alu3 (s : State) (o : F3) (ta tb tc : ETy) (f : Word → Word → Word → Eff) : Out :=
  aluWord s [o.ra, o.rb, o.rc] fun s r => f (s.src r ta o.ra o.ea) (s.src r tb o.rb o.eb) (s.src r tc o.rc o.ec)

/-- F3 with sources a, b. -/
def alu2 (s : State) (o : F3) (ta tb : ETy) (f : Word → Word → Eff) : Out :=
  aluWord s [o.ra, o.rb] fun s r => f (s.src r ta o.ra o.ea) (s.src r tb o.rb o.eb)

/-- F3 with source a. -/
def alu1 (s : State) (o : F3) (ta : ETy) (f : Word → Eff) : Out :=
  aluWord s [o.ra] fun s r => f (s.src r ta o.ra o.ea)

/-- FI with source a and an immediate in place of b. -/
def aluI (s : State) (o : FI) (ta tb : ETy) (f : Word → Word → Eff) : Out :=
  aluWord s [o.ra] fun s r => f (s.src r ta o.ra o.ea) (immOf tb o.imm)

/-- F3 with 64-bit sources a, b. -/
def alu64 (s : State) (o : F3) (f : DWord → DWord → Eff) : Out :=
  aluWord s [] fun s r => f (s.src64 r o.ra) (s.src64 r o.rb)

/-- F3 with 64-bit sources a, b, c. -/
def alu64c (s : State) (o : F3) (f : DWord → DWord → DWord → Eff) : Out :=
  aluWord s [] fun s r => f (s.src64 r o.ra) (s.src64 r o.rb) (s.src64 r o.rc)

/-- FI with a 64-bit source a and a sign-extended immediate. -/
def alu64I (s : State) (o : FI) (f : DWord → DWord → Eff) : Out :=
  aluWord s [] fun s r => f (s.src64 r o.ra) (o.imm.signExtend 64)

/-- A predicate operand: the constant true for 96 (R101). -/
def State.psrc (s : State) (r : Ref) (sel : BitVec 8) : Bool := sel.toNat == 96 || (s.lane r).pr sel.toNat

end Sys2Proof.Machine
end

