-- ==== Sys2Proof/Machine/Memw.lean ====
section
/-! DEFINITION. Sys2Proof/Machine/Memw.lean: what words that access memory share: addresses, the commit token (R460 to
R463), the checks of every lane (R428, R429), the park on a presence bit (R241), and the operations they leave behind. -/

namespace Sys2Proof.Machine

/-- Lanes of the issuing bundle leave to an entry parked at the word (R183). -/
def State.parkLanes (s : State) (rs : List Ref) (park : Nat) (why : Why) (same : Bool) : State :=
  let b := s.bundle
  b.members.foldl (fun s m =>
    s.leave m (maskOf ((rs.filter fun r => r.team == m.team && r.wave == m.wave && m.mask.getLsbD r.lane).map (·.lane)))
      b.clause b.idx park why same) s

/-- Every lane that stands with a lane in its entry of the issuing bundle. -/
def State.entryMates (s : State) (r : Ref) : List Ref :=
  match s.bundle.members.find? fun m => m.team == r.team && m.wave == r.wave && m.mask.getLsbD r.lane with
  | some m => memberRefs m
  | none => [r]

/-- Entries of the issuing bundle with a lane whose stack accesses meet a clear presence bit park at the word (R241). -/
def State.parkAbsent (s : State) (xs : List (Ref × List (DWord × Nat))) : State :=
  xs.foldl (fun s x =>
    match s.stackAbsent x.1 x.2 with
    | some l => if s.stays x.1 then s.parkLanes (s.entryMates x.1) 4 (.presence l.1 l.2) false else s
    | none => s) s

/-- One lane's access. -/
structure Ask where
  r : Ref
  va : DWord
  n : Nat
  al : Nat
  need : Nat
  /-- ATOM, CAS, ACQ.REMOTE or MWAIT (R460) -/
  atomic : Bool := false
  /-- made once per entry (R137) -/
  once : Bool := false
  /-- BARSV or BARLD, which need no token (R460) -/
  exempt : Bool := false
  deriving DecidableEq, Repr

/-- Bytes that touch an enabled shared range of a grid (R459, R460). -/
def inShared (g : Grid) (va : DWord) (n : Nat) : Bool :=
  g.dshr.any fun d =>
    let l := bitsOf d.toNat 58 6
    let base := (sext51 (bitsOf d.toNat 16 36 * 65536)).toNat / 2 ^ l * 2 ^ l
    d.getLsbD 52 && decide (16 ≤ l) && decide (l ≤ 40) && decide (va.toNat < base + 2 ^ l) && decide (base < va.toNat + n)

/-- The lane holds its grid's commit token and its turn goes on (R461, R462). -/
def State.holdsToken (s : State) (r : Ref) : Bool :=
  let g := s.gridOf r.team
  g.token == some ((s.team r.team).t, r.wave, r.lane) && decide (g.tokenOps < 64)

/-- R460: the access is governed. -/
def State.governed (s : State) (a : Ask) : Bool :=
  (s.gridOf a.r.team).det && !a.exempt && !(s.lane a.r).isHelper &&
    (if a.atomic then !(winTeam ≤ a.va.toNat && a.va.toNat < winEnd) else inShared (s.gridOf a.r.team) a.va a.n)

/-- The lanes of a lane's entry that issue the word without the token. -/
def State.tokenMates (s : State) (r : Ref) : List Ref :=
  let mates := s.entryMates r
  s.active.filter fun q => mates.contains q && !(s.lane q).isHelper && !s.holdsToken q

/-- The lanes that leave their entries because they issue a governed word without the token (R462): of a word made once per
entry, every lane for which it issues. -/
def State.tokenOut (s : State) (asks : List Ask) : List Ref :=
  ((asks.filter fun a => s.governed a && !s.holdsToken a.r).flatMap fun a =>
    if a.once then s.tokenMates a.r else [a.r]).eraseDups

/-- Those lanes park at the word, before any check of it (R462, R468). -/
def State.tokenGate (s : State) (asks : List Ask) : State := s.parkLanes (s.tokenOut asks) 4 .token true

/-- A governed word is performed: the turn ends with the 64th (R462). -/
def State.spendToken (s : State) (r : Ref) : State :=
  let k := (s.team r.team).grid
  let s := s.modGrid k fun g => { g with tokenOps := g.tokenOps + 1 }
  if (s.gridOf r.team).tokenOps < 64 then s
  else { s with agenda := .ev .commitTokenPass { a := k } :: s.agenda }

/-- One cause for each lane: its lowest code, the first of equals (R426). -/
def oneEach (fs : List LaneFault) : List LaneFault :=
  ((fs.map (·.r)).eraseDups).filterMap fun r => reported (fs.filter fun f => f.r == r)

/-- What the checks of a word answer. -/
structure Gate where
  s : State
  /-- a translation is missing: the word waits (R428) -/
  hold : Bool
  go : List (Ask × Target)
  /-- helper lanes that met a cause (R139) -/
  zero : List Ask
  /-- lanes that parked -/
  parked : List Ref
  deriving DecidableEq, Repr

/-- A write is part of the access. -/
def Ask.writes (a : Ask) : Bool := a.need != needR

/-- A lane's own store to a hub register under a read has still to be performed (R45, R139). -/
def State.ownHubStore (s : State) (a : Ask) (t : Target) : Bool :=
  match t with
  | .hub .. => bitOf a.need 0 && s.ops.any fun o => o.team == a.r.team && o.wave == a.r.wave &&
      o.accs.any fun x => x.lane == a.r.lane && Target.overlaps x.tgt t x.bytes.length a.n
  | _ => false

/-- The checks of every lane's access (R428, R429): governed lanes without the token park, faulting lanes leave with those of
`more`, entries with a lane before a clear presence bit park (R241), and a missing translation, a lane's own store to the hub
register that it reads, or its own operation on a tile that it must not pass, holds the word. -/
def State.gateWith (s : State) (asks : List Ask) (more : List LaneFault) : Gate :=
  let tok := s.tokenOut asks
  let rest := asks.filter fun a => !tok.contains a.r
  let res := rest.map fun a => (a, s.check a.r.team a.va a.n a.al a.need false)
  let misses := res.filterMap fun p => match p.2 with
    | .miss g v => some (g, v)
    | _ => none
  if !misses.isEmpty then
    { s := (s.modIssue fun b => { b with walks := misses.eraseDups }).hold, hold := true, go := [], zero := [], parked := [] }
  else
    let faults : List LaneFault := res.filterMap fun p => match p.2 with
      | .bad c w => if (s.lane p.1.r).isHelper then none
          else some { r := p.1.r, cause := c, addr := p.1.va, write := p.1.writes, walk := w }
      | _ => none
    let zero := res.filterMap fun p => match p.2 with
      | .bad _ _ => if (s.lane p.1.r).isHelper then some p.1 else none
      | _ => none
    let oks := res.filterMap fun p => match p.2 with
      | .ok t => some (p.1, t)
      | _ => none
    let waits := oks.filterMap fun p => (s.absentAt p.2 p.1.n).map fun l => (s.entryMates p.1.r, l)
    let parked := waits.flatMap (·.1)
    let go := oks.filter fun p => !parked.contains p.1.r
    let spent := (go.filter fun p => s.governed p.1).map fun p => p.1.r
    if oks.any fun p => s.ownHubStore p.1 p.2 || s.tileClash p.1.r p.2 p.1.n p.1.writes then
      { s := (oks.foldl (fun s p => s.drainOwn p.1.r p.2 p.1.n) s).hold, hold := true, go := [], zero := [], parked := [] }
    else
      let s' := s.parkLanes tok 4 .token true
      let s' := s'.faultLanes (oneEach (more ++ faults))
      let s' := waits.foldl (fun s w => s.parkLanes w.1 4 (.presence w.2.1 w.2.2) false) s'
      let s' := spent.foldl State.spendToken s'
      { s := s', hold := false, go, zero := zero.filter fun a => !parked.contains a.r, parked := tok ++ parked }

def State.gate (s : State) (asks : List Ask) : Gate := s.gateWith asks []

/-- An address operand with its offset (R94, R135). -/
def State.address (s : State) (r : Ref) (o : FM) : DWord := s.src64 r o.base + o.off.signExtend 64

/-- One access of each active lane of an FM word. -/
def fmAsks (s : State) (act : List Ref) (o : FM) (need : Nat) (atomic : Bool) : List Ask :=
  act.map fun r => { r, va := s.address r o, n := 2 ^ o.sz.toNat, al := 2 ^ o.sz.toNat, need, atomic }

/-- Registers written by a value of `n` bytes (R135): the lowest address in `rd`, bytes and halves extended. -/
def loadRegs (rd n : Nat) (sx : Bool) (b : List Byte) : List (Nat × Word) :=
  let v := leNat b
  if n < 4 then [(rd, if sx then w32 (sextOf v (8 * n)) else BitVec.ofNat 32 v)]
  else (List.range (n / 4)).map fun k => (rd + k, BitVec.ofNat 32 (v / 2 ^ (32 * k)))

/-- Register results of lanes. -/
def laneRegs (r : Ref) (xs : List (Nat × Word)) : List (Ref × RegRes) := xs.map fun x => (r, { lane := r.lane, sel := x.1, val := x.2 })

/-- One operation for each wave that counts the word, with the results of its lanes (R43, R189). -/
def State.postOpsP (s : State) (ws : List (Nat × Nat)) (c : Ctr) (writes : Bool) (res : List (Ref × RegRes))
    (preds : List (Ref × PredRes)) (eccs : List (Ref × DWord)) (body : Nat × Nat → OpBody) : State :=
  ws.foldl (fun s w => s.addOp w.1 w.2 c writes
    ((res.filter fun x => x.1.team == w.1 && x.1.wave == w.2).map (·.2))
    ((preds.filter fun x => x.1.team == w.1 && x.1.wave == w.2).map (·.2))
    ((eccs.filter fun x => x.1.team == w.1 && x.1.wave == w.2).map fun x => (x.1.lane, x.2)) (body w)) s

def State.postOps (s : State) (ws : List (Nat × Nat)) (c : Ctr) (writes : Bool) (res : List (Ref × RegRes))
    (eccs : List (Ref × DWord)) (body : Nat × Nat → OpBody) : State := s.postOpsP ws c writes res [] eccs body

/-- Insertion by a key. -/
def insertKey {α : Type} (key : α → Nat) (x : α) : List α → List α
  | [] => [x]
  | y :: ys => if key x ≤ key y then x :: y :: ys else y :: insertKey key x ys

/-- A list in ascending order of a key. -/
def sortKey {α : Type} (key : α → Nat) (xs : List α) : List α := xs.foldr (insertKey key) []

/-- The performing lanes of a word made once per entry, by wave number, then slot (R330). -/
def State.performers (s : State) : List Ref :=
  (sortKey (fun x : Nat × Ref => x.1) (s.bundle.members.filterMap fun m =>
    (s.performer m).map fun r => (m.wave * 64 + m.slot, r))).map (·.2)

/-- The performing lanes of a word made once per entry, by wave slot, then slot (R507, R512). -/
def State.performersBySlot (s : State) : List Ref :=
  (sortKey (fun x : Nat × Ref => x.1) (s.bundle.members.filterMap fun m =>
    (s.performer m).map fun r => ((s.wave m.team m.wave).wslot * 64 + m.slot, r))).map (·.2)

/-- One operation for each job of a wave, the last of which carries the word's count; a wave without a job counts and
retires at once (R308, R346). Waves come by number (R330). -/
def State.postEach (s : State) (ws : List (Nat × Nat)) (c : Ctr) (writes : Bool)
    (jobs : List (Ref × List RegRes × OpBody)) : State :=
  (sortKey (fun w : Nat × Nat => w.2) ws).foldl (fun s w =>
    let mine := jobs.filter fun x => x.1.team == w.1 && x.1.wave == w.2
    if mine.isEmpty then (s.addOp w.1 w.2 c false [] [] [] .plain).opDone s.nextOp
    else mine.zipIdx.foldl (fun (s : State) x =>
      s.pushOp w.1 w.2 c (x.2 + 1 == mine.length) writes x.1.2.1 [] [] x.1.2.2) s) s

/-- The fault of an access made at once. -/
def eccFault (r : Ref) (a : DWord) : LaneFault := { r, cause := .ecc, addr := a }

/-! ### Reads made by an engine during its word's checks -/

/-- What an engine's read answers. -/
inductive EngRd where
  | ok (b : List Byte)
  | bad (c : Cause) (walk : Bool)
  /-- the first uncorrectable sector, at its physical address -/
  | ecc (pa : Nat)
  deriving DecidableEq, Repr

/-- Bytes where a checked access goes, as they stand now, touching no cache. -/
def State.nowTarget (s : State) (t : Target) (n : Nat) : Option (List Byte) :=
  match t with
  | .spad tid off => some (cellsReadN (s.team tid).spad off n)
  | .fw off => some (cellsReadN s.mem.fw off n)
  | .hub off live => some (if live then s.hubBlockRead off n else List.replicate n 0)
  | .phys pa => s.nowRead pa n

/-- First uncorrectable sector of a range, as a physical address. -/
def State.badSector (s : State) (t : Target) (n : Nat) : DWord :=
  match t with
  | .phys pa =>
    match (List.range ((pa % 16 + n + 15) / 16)).find? fun k => (s.mem.current (pa / 16 + k)).isNone with
    | some k => BitVec.ofNat 64 (16 * (pa / 16 + k))
    | none => 0
  | _ => 0

/-- A window address (R226). -/
def inWindow (a : DWord) : Bool := decide (winCluster ≤ a.toNat) && decide (a.toNat < winEnd)

/-- A read by an engine whose description names no window (R231), of the newest data. DEDUCED (logs 31 and 51): a plain load of the
same lane may then answer the older copy of its L1, until an acquire (R260, R275). -/
def State.engRead (s : State) (tid : Nat) (a : DWord) (n : Nat) : EngRd :=
  if inWindow a then .bad .window false
  else
    match s.resolve tid a n needR true with
    | .bad c w => .bad c w
    | .miss _ _ => .bad .notmapped true
    | .ok t =>
      match s.nowTarget t n with
      | some b => .ok b
      | none => .ecc (s.badSector t n).toNat

end Sys2Proof.Machine
end

