-- ==== Sys2Proof/Machine/Fetch.lean ====
section
/-! DEFINITION. Sys2Proof/Machine/Fetch.lean: the decode of a clause (R53, R54), its fetch (R33), and an entry whose parked word
issues at last (R183). -/

namespace Sys2Proof.Machine

/-! ### Decode of a clause (R53, R54) -/

/-- The row of R53 that a failed check counts under: a reserved field, or a selector. DESIGN CHOICE (log 89): a field that must be
zero and a reserved code of a field or an immediate count as a reserved field; a field that names a register, barrier, predicate
or tile and is out of range counts as a selector. -/
def Chk.row (c : Chk) : Nat :=
  match c with
  | .must _ => 8
  | .imm _ _ => 8
  | .optDst on _ => if on then 10 else 8
  | .sreg ssel _ => if ssel == 2 then 8 else 10
  | _ => 10

/-- The first row of R53 that a word meets, and its cause. -/
def wordRow (regs acct : Nat) (w : DWord) : Option (Nat × Cause) :=
  match decodeRaw w with
  | .error .illop => some (7, .illop)
  | .error .rsvd => some (8, .rsvd)
  | .ok i =>
    let bad := ((wordChecks i w).filter fun c => !c.ok || !c.inLaunch regs acct).map Chk.row
    if bad.contains 8 then some (8, .rsvd)
    else if !(guardOfWord w).ok then some (9, .rsvd)
    else if !bad.isEmpty then some (10, .rsvd)
    else none

/-- The class of a word whose OPC is assigned, whatever its other fields. -/
def wordClass (w : DWord) : Option Nat :=
  match decodeRaw w with
  | .ok i => some (clsOf i).code
  | .error .rsvd => some (clsOfOpc (opcOfWord w).toNat).code
  | .error .illop => none

/-- The cause of a clause as a whole (the first six rows of R53). -/
def clauseCause (hdr : DWord) (ws : List DWord) (idx : Nat) : Option Cause :=
  let n := ws.length
  let h := hdr.toNat
  let cls := ws.map wordClass
  if bitsOf h 56 8 ≠ 0xC7 then some .badclause
  else if 9 ≤ bitsOf h 4 4 then some .badclause
  else if cls.any fun c => c.isSome && c != some 0 && c != some (bitsOf h 4 4) then some .badclause
  else if (cls.take (n - 1)).contains (some Cls.ctl.code) then some .badclause
  else if n ≤ idx then some .badclause
  else if bitsOf h 37 19 ≠ 0 then some .rsvd
  else none

/-- The word that a clause reports, when its header is sound: the first row, then the earliest word (R54). -/
def wordCause (regs acct : Nat) (ws : List DWord) (idx : Nat) : Option (Cause × Nat) :=
  let rows := (ws.zipIdx.filter fun p => decide (idx ≤ p.2)).filterMap fun p =>
    (wordRow regs acct p.1).map fun r => (r.1, r.2, p.2)
  [7, 8, 9, 10].findSome? fun k => (rows.find? fun x => x.1 == k).map fun x => (x.2.1, x.2.2)

/-! ### The fetch of a clause (R33) -/

/-- A word of code: its value, or a cause and whether a walk found it. -/
def State.fetchWord (s : State) (tid : Nat) (a : DWord) : Except (Cause × Bool) DWord :=
  match s.resolve tid a 8 needX true with
  | .ok t =>
    match s.nowTarget t 8 with
    | some b => .ok (dwordOfBytes b)
    | none => .error (.ecc, false)
  | .bad c w => .error (c, w)
  | .miss _ _ => .error (.notmapped, true)

/-- `n` words from an address. -/
def State.fetchWords (s : State) (tid : Nat) (a : DWord) : Nat → Except (Cause × Bool) (List DWord)
  | 0 => .ok []
  | n + 1 =>
    match s.fetchWord tid a with
    | .error e => .error e
    | .ok w =>
      match s.fetchWords tid (a + 8) n with
      | .ok ws => .ok (w :: ws)
      | .error e => .error e

/-- What stands for a word that cannot be fetched: an unassigned OPC, which has no class. -/
def unfetched : DWord := 0xFFFFFFFFFFFFFFFF

/-- The words of a clause as far as they can be fetched: the rows of R53 for the whole clause are judged on them, so that the
lowest code among what the clause meets is raised (R426). -/
def State.fetchKnown (s : State) (tid : Nat) (a : DWord) (n : Nat) : List DWord :=
  (List.range n).map fun k =>
    match s.fetchWord tid (a + BitVec.ofNat 64 (8 * k)) with
    | .ok w => w
    | .error _ => unfetched

/-- The cause of a fetch of which some word met `x`: the lowest code among those that its words meet (R426). -/
def State.fetchFault (s : State) (tid : Nat) (a : DWord) (n : Nat) (x : Cause × Bool) : Cause × Bool :=
  (List.range n).foldl (fun y k =>
    match s.fetchWord tid (a + BitVec.ofNat 64 (8 * k)) with
    | .error z => if z.1.code < y.1.code then z else y
    | .ok _ => y) x

/-! ### A parked word that issues at last (R183) -/

/-- A parked entry stands again at its word. -/
def State.unpark (s : State) (t w : Nat) (e : Entry) : State :=
  s.modEntry t w e.slot fun e => { e with park := 0, why := .none }

/-- The clause of an entry, fetched where the entry stands, as a bundle of it alone; none when the fetch meets a cause. -/
def State.ownBundle (s : State) (t w : Nat) (e : Entry) : Option Bundle :=
  let g := s.gridOf t
  match s.fetchWord t e.clause with
  | .error _ => none
  | .ok hdr =>
    match s.fetchWords t (e.clause + 8) (bitsOf hdr.toNat 0 4 + 1) with
    | .error _ => none
    | .ok ws =>
      if (clauseCause hdr ws e.idx).isSome then none
      else some { Bundle.blank with
        id := s.nextBundle, die := (s.team t).die, core := (s.team t).core, part := (s.wave t w).part,
        members := [{ team := t, wave := w, slot := e.slot, mask := e.mask }], clause := e.clause, idx := e.idx, n := ws.length,
        words := ws, bad := wordCause g.regs g.acct ws e.idx, yh := hdr.getLsbD 36 }

/-- What a parked entry waits for has come, and its word has had no effect yet (R183, R241, R321): the word issues before anything
else happens, in a bundle of the entry alone that then goes on with the clause, behind no further wait of the header; a trap entry
that waited is made. A clause that no longer can be fetched is picked afresh, and an entry that may issue no word stays as it is
until it may (log 40). -/
def State.goOn (s : State) (t w : Nat) (e : Entry) : State :=
  if !s.mayGo t w e then s
  else
    match (maskLanes e.mask).filter fun k => (s.lane ⟨t, w, k⟩).trap.isSome with
    | [] =>
      match s.ownBundle t w e with
      | none => s.unpark t w e
      | some b =>
        { (s.unpark t w e).modEntry t w e.slot fun e => { e with flight := some b.id } with
          bundles := s.bundles ++ [b], nextBundle := s.nextBundle + 1, agenda := .word b.id :: s.agenda }
    | ks =>
      let s := s.unpark t w e
      { s with agenda := ks.map (fun k => .ev .trapEntry { a := t, b := w, c := k }) ++ s.agenda }

/-- The entries of a team that wait for what a test says go on, by wave and slot. -/
def State.goOnWhere (s : State) (t : Nat) (p : Why → Bool) : State :=
  ((List.range (s.team t).waves.length).flatMap fun w =>
    ((s.wave t w).entries.filter fun e => e.park != 0 && p e.why).map fun e => (w, e)).foldr (fun x s => s.goOn t x.1 x.2) s

end Sys2Proof.Machine
end

