-- ==== Sys2Proof/Machine/Barrier.lean ====
section
/-! DEFINITION. Sys2Proof/Machine/Barrier.lean: team barriers (R215 to R222, R225). -/

namespace Sys2Proof.Machine

def State.barrier (s : State) (tid b : Nat) : Barrier := (s.team tid).bars.getD b (Barrier.init 0)

def State.modBarrier (s : State) (tid b : Nat) (f : Barrier → Barrier) : State :=
  s.modTeam tid fun t => { t with bars := t.bars.modify b f }

/-- R220: the generation has been reached. -/
def reached (gen t : BitVec 32) : Bool := decide (0 ≤ (gen - t).toInt)

/-- Lanes of an entry parked in BWAIT whose generation has been reached. -/
def State.metLanes (s : State) (t w b : Nat) (e : Entry) : BitVec 32 :=
  maskOf ((maskLanes e.mask).filter fun k =>
    match (s.lane ⟨t, w, k⟩).target with
    | some x => reached (s.barrier t b).gen x
    | none => false)

/-- Those lanes go on at the next clause (R183, R220): their clause has ended, and a switch marker on the word holds (R44). -/
def State.passBwait (s : State) (t w : Nat) (e : Entry) (met : BitVec 32) : State :=
  let yh := ((s.peek t e.clause 8).map fun b => (dwordOfBytes b).getLsbD 36).getD false
  let marked := s.marked t e.clause e.idx
  let s := (maskLanes met).foldl (fun s k => s.modLane ⟨t, w, k⟩ fun l => { l with target := none }) s
  let s := s.modTeam t fun x => { x with retc := min (x.retc + 1) 0xFFFFFFFF }
  let s := if met == e.mask then s.modEntry t w e.slot fun e => { e with yh := yh || e.yh, runs := min (e.runs + 1) 64 } else s
  let s := s.leave { team := t, wave := w, slot := e.slot, mask := e.mask } met (clauseAfter e.clause e.idx) 0
    (if marked then 4 else 0) (if marked then .results else .none) false
  s.passHits t w met e.clause e.idx

/-- Lanes parked in BWAIT on a barrier compare again (R216). -/
def State.recompare (s : State) (tid b : Nat) : State :=
  (List.range (s.team tid).waves.length).foldl (fun s w =>
    ((s.wave tid w).entries.filter fun e => e.park != 0 && e.why == .barrier b).foldl (fun s e =>
      let met := s.metLanes tid w b e
      if met == 0 then s else s.passBwait tid w e met) s) s

/-- R216: a phase completes when ARRIVED ≥ EXPECT and TXPEND = 0; waiting lanes compare again. -/
def State.phase (s : State) (tid b : Nat) : State :=
  let x := s.barrier tid b
  if x.expect.toNat ≤ x.arrived.toNat ∧ x.txpend = 0 then
    (s.modBarrier tid b fun x => { x with gen := x.gen + 1, arrived := 0 }).recompare tid b
  else s

/-- Bytes that arrive lower TXPEND (R216). -/
def State.barrierBytes (s : State) (tid b n : Nat) : State :=
  (s.modBarrier tid b fun x => { x with txpend := x.txpend - BitVec.ofNat 32 n }).phase tid b

/-- One arrival, or one drop (R217). -/
def Barrier.arrive (x : Barrier) (drop : Bool) : Barrier :=
  if drop then { x with expect := if x.expect = 0 then 0 else x.expect - 1 }
  else { x with arrived := if x.arrived = 0xFFFF then x.arrived else x.arrived + 1 }

/-- A word that arrives (R217, R218, R221): the release of each wave, with REMOTEPERM delivered at it, then the
contributing lanes in ascending order and the helpers' generations. -/
def arriveWord (s : State) (o : FA) (drop arr : Bool) (bytes : Bool) : Out :=
  whenIssued s fun s =>
    if arr && s.tileStores s.active then s.hold else
    let s := if arr then s.releaseWord 2 else s
    let act := s.active
    let n := o.bar.toNat
    let vals := act.map fun r => (r, s.src r .i32 o.rb 0)
    let s := if bytes then act.foldl (fun s r => s.latchRead r o.rb.toNat) s else s
    let help := (act.filter fun r => (s.lane r).isHelper).map fun r => (r, (s.barrier r.team n).gen + 1)
    let (s, got) := (vals.filter fun x => !(s.lane x.1).isHelper).foldl (fun (p : State × List (Ref × Word)) x =>
      let s := if bytes then p.1.modBarrier x.1.team n fun b => { b with txpend := b.txpend + x.2 } else p.1
      let s := if arr then s.modBarrier x.1.team n fun b => b.arrive drop else s
      let d := (s.barrier x.1.team n).gen + 1
      (s.phase x.1.team n, p.2 ++ [(x.1, d)])) (s, [])
    let s := if arr then (laneDesc (got ++ help)).foldl (fun s x => s.setReg x.1 o.rd.toNat x.2) s else s
    let s := s.finish act []
    if arr then s.endTurn act else s

/-- BARR (R217). -/
def execBarr (o : FA) (s : State) : Out := arriveWord s o (o.sub.getLsbD 0) true false

/-- BTXN and BTXN.arr (R218). -/
def execBtxn (o : FA) (s : State) : Out := arriveWord s o false (o.sub.getLsbD 0) true

/-- BGEN.read (R219). -/
def execBgenRead (o : FA) (s : State) : Out :=
  aluWord s [] fun s r => effReg o.rd (s.barrier r.team o.bar.toNat).gen

/-- BGEN.init (R219): once per entry. -/
def execBgenInit (o : FA) (s : State) : Out :=
  whenIssued s fun s =>
    let act := s.active
    let s := (s.bundle.members.filterMap s.performer).foldl (fun s r =>
      let b := s.src r .i32 o.rb 0
      let nt := BitVec.ofNat 16 (s.gridOf r.team).nt
      (s.latchRead r o.rb.toNat).modBarrier r.team o.bar.toNat fun x =>
        { x with expect := if b.extractLsb' 0 16 = 0 then nt else b.extractLsb' 0 16, arrived := 0, txpend := 0 }) s
    s.finish act []

/-- BWAIT (R220, R221): a lane that waits keeps its target. -/
def execBwait (o : FA) (s : State) : Out :=
  whenIssued s fun s =>
    let act := s.active
    let ok := fun r => reached (s.barrier r.team o.bar.toNat).gen (s.src r .i32 o.rb 0)
    let pass := act.filter ok
    let wait := act.filter fun r => !ok r
    let s := act.foldl (fun s r => s.latchRead r o.rb.toNat) s
    let s := wait.foldl (fun s r => s.modLane r fun l => { l with target := some (s.src r .i32 o.rb 0) }) s
    let s := s.parkLanes wait 1 (.barrier o.bar.toNat) false
    let s := (wavesOf pass).foldl (fun s w => s.acquire w.1 2) s
    (s.finish pass []).endTurn act

/-- The 16-byte image of a barrier (R225). -/
def Barrier.image (b : Barrier) : List Byte :=
  leBytes 8 (b.gen.toNat + b.expect.toNat * 2 ^ 32) ++ leBytes 8 (b.arrived.toNat + b.txpend.toNat * 2 ^ 32)

/-- A barrier from its image (R225). -/
def barrierOf (i : List Byte) : Barrier :=
  { gen := BitVec.ofNat 32 (recU32 i 0), expect := BitVec.ofNat 16 (recU16 i 4), arrived := BitVec.ofNat 16 (recU16 i 8),
    txpend := BitVec.ofNat 32 (recU32 i 12) }

/-- Barriers that BARSV and BARLD move. -/
def barsMoved (o : FA) : List Nat := if o.sub.getLsbD 0 then List.range 16 else [o.bar.toNat]

/-- One access for each entry's performing lane and each barrier (R225). -/
def barAsks (s : State) (o : FA) (need : Nat) : List Ask :=
  (s.bundle.members.filterMap s.performer).flatMap fun r =>
    (List.range (barsMoved o).length).map fun k =>
      { r, va := s.src64 r o.ra + BitVec.ofNat 64 (16 * k), n := 16, al := 16, need, once := true, exempt := true }

/-- Asks whose lane has every one of its `n` accesses granted, in order. -/
def fullGrants (n : Nat) (go : List (Ask × Target)) : List (Ref × List (Ask × Target)) :=
  ((go.map fun p => p.1.r).eraseDups.map fun r => (r, go.filter fun p => p.1.r == r)).filter fun x => x.2.length == n

/-- BARSV (R225). -/
def execBarsv (o : FA) (s : State) : Out :=
  privWord s fun s =>
    let act := s.active
    let g := s.gate (barAsks s o needW)
    if g.hold then g.s
    else
      let b := s.bundle
      let s := (fullGrants (barsMoved o).length g.go).foldl (fun s x =>
        (x.2.zip (barsMoved o)).foldl (fun s p =>
          (s.lintAccess x.1 p.1.2 16 true false).laneWrite x.1 p.1.1.va p.1.2 (s.barrier x.1.team p.2).image
            { clause := b.clause, idx := b.idx }) s) g.s
      s.finish (act.filter fun r => s.stays r) (g.go.flatMap fun p => s.watch p.1.r p.1.va 16 false true)

/-- BARLD's reads for one lane: the images, or the address of an uncorrectable one. -/
def barReads (s : State) (r : Ref) : List (Ask × Target) → State × Except DWord (List (List Byte))
  | [] => (s, .ok [])
  | p :: ps =>
    match (s.lintAccess r p.2 16 false false).laneRead r p.2 16 .l1 with
    | (s, none) => (s, .error p.1.va)
    | (s, some b) =>
      match barReads s r ps with
      | (s, .ok bs) => (s, .ok (b :: bs))
      | (s, .error e) => (s, .error e)

/-- BARLD (R225, R430). -/
def execBarld (o : FA) (s : State) : Out :=
  privWord s fun s =>
    let act := s.active
    let g := s.gate (barAsks s o needR)
    if g.hold then g.s
    else
      let s := (fullGrants (barsMoved o).length g.go).foldl (fun s x =>
        match barReads s x.1 x.2 with
        | (s, .error a) => s.faultLanes [eccFault x.1 a]
        | (s, .ok bs) =>
          (bs.zip (barsMoved o)).foldl (fun s p =>
            ((s.modBarrier x.1.team p.2 fun _ => barrierOf p.1).phase x.1.team p.2).recompare x.1.team p.2) s) g.s
      s.finish (act.filter fun r => s.stays r) (g.go.flatMap fun p => s.watch p.1.r p.1.va 16 true false)

end Sys2Proof.Machine
end

