-- ==== Sys2Proof/Machine/Flags.lean ====
section
/-! DEFINITION. Sys2Proof/Machine/Flags.lean: the relations that compares write as predicates (R124), the conditions they
set in sr_fpflags, and the draws of stochastic rounding (R72). -/

namespace Sys2Proof.Machine

/-- ICMP's run of three predicates: less, equal, greater (R124). -/
def intPreds (pn : Nat) (a b : Int) : List (Nat × Bool) := [(pn, a < b), (pn + 1, a == b), (pn + 2, b < a)]

/-- An integer operand under .uns (R118, R124). -/
def intOf {w : Nat} (uns : Bool) (v : BitVec w) : Int := if uns then (v.toNat : Int) else v.toInt

/-- FCMP's run of four predicates: less, equal, greater, unordered (R124). -/
def floatPreds (pn : Nat) (a b : FV) : List (Nat × Bool) :=
  let u := a.isNan || b.isNan
  let c := cmpFV a b
  [(pn, !u && c == .lt), (pn + 1, !u && c == .eq), (pn + 2, !u && c == .gt), (pn + 3, u)]

/-- NV of a compare: a signalling NaN, or any NaN under .sig (R124). -/
def cmpFlags (sig : Bool) (a b : FV) : Flags := if a.isSig || b.isSig || (sig && (a.isNan || b.isNan)) then flagNV else 0

/-- SR is mode 4 (R66). -/
def isSR (mode : Nat) : Bool := mode == 4

/-- The draw of one rounding, with the generator after it; no draw in any other mode (R72). -/
def drawIf (mode : Nat) (gen : DWord) : DWord × Nat := if isSR mode then draw32 gen else (gen, 0)

/-- MOD[2:0] of an F3 word (R66, R91). -/
def modeOf (rc : BitVec 8) : Nat := rc.toNat % 8

/-- One rounded result of a lane: the value under a draw of its generator, and the generator after it. -/
def rounded (F : Fmt) (mode : Nat) (sat : Bool) (gen : DWord) (x : Exact) : (Nat × Flags) × DWord :=
  let (g, d) := drawIf mode gen
  (deliver F mode sat d x, g)

end Sys2Proof.Machine
end

