-- ==== Sys2Proof/Machine/Bit.lean ====
section
/-! DEFINITION. Sys2Proof/Machine/Bit.lean: bit manipulation and packed integers (R121 to R123). -/

namespace Sys2Proof.Machine

/-- SHL (R121). -/
def shlRes (a b : Word) : Word := a <<< (b.toNat % 256)

/-- SHR, logical or arithmetic (R121). -/
def shrRes (sgn : Bool) (a b : Word) : Word := if sgn then a.sshiftRight (b.toNat % 256) else a >>> (b.toNat % 256)

/-- The part of a field of width `w` at offset `off` that lies inside the register (R121). -/
def fieldWidth (off w : Nat) : Nat := min w (32 - off)

/-- BFE (R121). -/
def bfeRes (sgn : Bool) (a b : Word) : Word :=
  let off := b.toNat % 32
  let w := fieldWidth off (b.toNat / 256 % 64)
  let v := bitsOf a.toNat off w
  if w = 0 then 0 else if sgn then w32 (sextOf v w) else BitVec.ofNat 32 v

/-- BFI (R121). -/
def bfiRes (a b c : Word) : Word :=
  let off := c.toNat % 32
  let w := fieldWidth off (c.toNat / 256 % 64)
  let m : Word := BitVec.ofNat 32 ((2 ^ w - 1) * 2 ^ off)
  (a &&& ~~~m) ||| ((b <<< off) &&& m)

/-- BMSK (R121). -/
def bmskRes (a b : Word) : Word :=
  let off := a.toNat % 32
  BitVec.ofNat 32 ((2 ^ fieldWidth off (b.toNat % 256) - 1) * 2 ^ off)

/-- Number of one bits (R121). -/
def onesOf (a : Word) : Nat := (maskLanes a).length

/-- Leading bits equal to bit 31 (R121): zeros from the top. -/
def leadZeros (a : Word) : Nat :=
  match (maskLanes a).getLast? with
  | some k => 31 - k
  | none => 32

/-- CLZ (R121). -/
def clzRes (sgn : Bool) (a : Word) : Nat :=
  if sgn then leadZeros (if a.getLsbD 31 then ~~~a else a) - 1 else leadZeros a

/-- BREV (R121). -/
def brevRes (a : Word) : Word := maskOf ((List.range 32).filter fun k => a.getLsbD (31 - k))

/-- One element of PADD8 or PADD16 (R122). -/
def paddElem (w : Nat) (sub sat usat : Bool) (a b : Nat) : Nat :=
  let x : Int := if sat && !usat then (if sub then sextOf a w - sextOf b w else sextOf a w + sextOf b w)
    else (if sub then (a : Int) - b else (a : Int) + b)
  let y := if sat then (if usat then satU w x else satS w x) else x
  (y % (2 ^ w : Nat)).toNat

/-- PADD8 and PADD16 (R122). -/
def paddRes (w : Nat) (sub sat usat : Bool) (a b : Word) : Word :=
  BitVec.ofNat 32 (packElems w ((List.range (32 / w)).map fun k => paddElem w sub sat usat (elem w a k) (elem w b k)))

/-- PDOT4 and PDOT8 (R121). -/
def pdotRes (w : Nat) (uns : Bool) (a b c : Word) : Word :=
  let e := fun (v : Word) k => if uns then (elem w v k : Int) else sextOf (elem w v k) w
  w32 ((List.range (32 / w)).foldl (fun acc k => acc + e a k * e b k) (c.toNat : Int))

/-- BPX (R123). -/
def bpxRes (a : Word) : Word := maskOf ((List.range 32).filter fun i => a.getLsbD (8 * (i % 4) + i / 4))

/-- BPI (R123). -/
def bpiRes (a : Word) : Word := maskOf ((List.range 32).filter fun i => a.getLsbD (4 * (i % 8) + i / 8))

/-- SHL (R121). -/
def execShl (o : F3) (s : State) : Out :=
  alu2 s o .i32 .i32 fun a b => effReg o.rd (shlRes a b)

/-- SHL_IMM (R121). -/
def execShlImm (o : FI) (s : State) : Out :=
  aluI s o .i32 .i32 fun a b => effReg o.rd (shlRes a b)

/-- SHR (R121). -/
def execShr (o : F3) (s : State) : Out :=
  alu2 s o .i32 .i32 fun a b => effReg o.rd (shrRes o.x a b)

/-- SHR_IMM (R121). -/
def execShrImm (o : FI) (s : State) : Out :=
  aluI s o .i32 .i32 fun a b => effReg o.rd (shrRes o.x a b)

/-- ROL (R121). -/
def execRol (o : F3) (s : State) : Out :=
  alu2 s o .i32 .i32 fun a b => effReg o.rd (a.rotateLeft (b.toNat % 32))

/-- ROL_IMM (R121). -/
def execRolImm (o : FI) (s : State) : Out :=
  aluI s o .i32 .i32 fun a b => effReg o.rd (a.rotateLeft (b.toNat % 32))

/-- BFE (R121). -/
def execBfe (o : F3) (s : State) : Out :=
  alu2 s o .i32 .i32 fun a b => effReg o.rd (bfeRes o.x a b)

/-- BFE_IMM (R121). -/
def execBfeImm (o : FI) (s : State) : Out :=
  aluI s o .i32 .i32 fun a b => effReg o.rd (bfeRes o.x a b)

/-- BFI (R121). -/
def execBfi (o : F3) (s : State) : Out :=
  alu3 s o .i32 .i32 .i32 fun a b c => effReg o.rd (bfiRes a b c)

/-- POPC (R121). -/
def execPopc (o : F3) (s : State) : Out :=
  alu1 s o .i32 fun a => effReg o.rd (BitVec.ofNat 32 (onesOf a))

/-- CLZ (R121). -/
def execClz (o : F3) (s : State) : Out :=
  alu1 s o .i32 fun a => effReg o.rd (BitVec.ofNat 32 (clzRes o.x a))

/-- BREV (R121). -/
def execBrev (o : F3) (s : State) : Out :=
  alu1 s o .i32 fun a => effReg o.rd (brevRes a)

/-- SHF (R121). -/
def execShf (o : F3) (s : State) : Out :=
  alu3 s o .i32 .i32 .i32 fun a b c => effReg o.rd (((b ++ a) >>> (c.toNat % 64)).setWidth 32)

/-- PADD8 (R122). -/
def execPadd8 (o : F3) (s : State) : Out :=
  alu2 s o .i8 .i8 fun a b => effReg o.rd (paddRes 8 (o.rc.getLsbD 0) o.x (o.rc.getLsbD 1) a b)

/-- PADD8_IMM (R122). -/
def execPadd8Imm (o : FI) (s : State) : Out :=
  aluI s o .i8 .i8 fun a b => effReg o.rd (paddRes 8 false o.x false a b)

/-- PADD16 (R122). -/
def execPadd16 (o : F3) (s : State) : Out :=
  alu2 s o .i16 .i16 fun a b => effReg o.rd (paddRes 16 (o.rc.getLsbD 0) o.x (o.rc.getLsbD 1) a b)

/-- PADD16_IMM (R122). -/
def execPadd16Imm (o : FI) (s : State) : Out :=
  aluI s o .i16 .i16 fun a b => effReg o.rd (paddRes 16 false o.x false a b)

/-- PDOT4 (R121). -/
def execPdot4 (o : F3) (s : State) : Out :=
  alu3 s o .i8 .i8 .i32 fun a b c => effReg o.rd (pdotRes 8 o.x a b c)

/-- PDOT8 (R121). -/
def execPdot8 (o : F3) (s : State) : Out :=
  alu3 s o .i4 .i4 .i32 fun a b c => effReg o.rd (pdotRes 4 o.x a b c)

/-- BPX (R123). -/
def execBpx (o : F3) (s : State) : Out :=
  alu1 s o .i32 fun a => effReg o.rd (bpxRes a)

/-- BPI (R123). -/
def execBpi (o : F3) (s : State) : Out :=
  alu1 s o .i32 fun a => effReg o.rd (bpiRes a)

/-- BMSK (R121). -/
def execBmsk (o : F3) (s : State) : Out :=
  alu2 s o .i32 .i32 fun a b => effReg o.rd (bmskRes a b)

/-- BMSK_IMM (R121). -/
def execBmskImm (o : FI) (s : State) : Out :=
  aluI s o .i32 .i32 fun a b => effReg o.rd (bmskRes a b)


end Sys2Proof.Machine
end

