-- ==== Sys2Proof/Machine/Cmp.lean ====
section
/-! DEFINITION. Sys2Proof/Machine/Cmp.lean: compares, predicates and selects (R124 to R126). -/

namespace Sys2Proof.Machine

/-- Elements 0 and 1 of a 16-bit operand as numbers (R61, R153). -/
def halfVal (F : Fmt) (v : Word) (k : Nat) : FV := F.value (elem 16 v k)

/-- The 16-bit format that X chooses (R153). -/
def fmt16 (x : Bool) : Fmt := if x then Fmt.bf16 else Fmt.b16

/-- ICMP's effect. -/
def effIcmp {w : Nat} (uns : Bool) (rd : BitVec 8) (a b : BitVec w) : Eff := { preds := intPreds rd.toNat (intOf uns a) (intOf uns b) }

/-- FCMP's effect. -/
def effFcmp (sig : Bool) (rd : BitVec 8) (a b : Word) : Eff :=
  let x := f32Val a.toNat
  let y := f32Val b.toNat
  { preds := floatPreds rd.toNat x y, flags := cmpFlags sig x y }

/-- HCMP's effect. -/
def effHcmp (bf : Bool) (rd : BitVec 8) (a b : Word) : Eff :=
  let F := fmt16 bf
  { preds := floatPreds rd.toNat (halfVal F a 0) (halfVal F b 0) ++ floatPreds (rd.toNat + 4) (halfVal F a 1) (halfVal F b 1),
    flags := cmpFlags false (halfVal F a 0) (halfVal F b 0) ||| cmpFlags false (halfVal F a 1) (halfVal F b 1) }

/-- FCLASS (R125, R126). -/
def effClass (half : Bool) (rd : BitVec 8) (a b : Word) : Eff :=
  { preds := [(rd.toNat, b.getLsbD (if half then fclass Fmt.b16 (elem 16 a 0) else fclass Fmt.b32 a.toNat))] }

/-- A predicate result. -/
def effP (rd : BitVec 8) (v : Bool) : Eff := { preds := [(rd.toNat, v)] }

/-- ICMP (R124). -/
def execIcmp (o : F3) (s : State) : Out :=
  alu2 s o .i32 .i32 fun a b => effIcmp o.x o.rd a b

/-- ICMP_IMM (R124). -/
def execIcmpImm (o : FI) (s : State) : Out :=
  aluI s o .i32 .i32 fun a b => effIcmp o.x o.rd a b

/-- FCMP (R124). -/
def execFcmp (o : F3) (s : State) : Out :=
  alu2 s o .f32 .f32 fun a b => effFcmp o.x o.rd a b

/-- FCMP_IMM (R124). -/
def execFcmpImm (o : FI) (s : State) : Out :=
  aluI s o .f32 .f32 fun a b => effFcmp o.x o.rd a b

/-- HCMP (R124). -/
def execHcmp (o : F3) (s : State) : Out :=
  alu2 s o (f16 o.x) (f16 o.x) fun a b => effHcmp o.x o.rd a b

/-- HCMP_IMM (R124). -/
def execHcmpImm (o : FI) (s : State) : Out :=
  aluI s o (f16 o.x) (f16 o.x) fun a b => effHcmp o.x o.rd a b

/-- ICMP64 (R124). -/
def execIcmp64 (o : F3) (s : State) : Out :=
  alu64 s o fun a b => effIcmp o.x o.rd a b

/-- ICMP64_IMM (R124). -/
def execIcmp64Imm (o : FI) (s : State) : Out :=
  alu64I s o fun a b => effIcmp o.x o.rd a b

/-- PAND (R125). -/
def execPand (o : F3) (s : State) : Out :=
  aluWord s [] fun s r => effP o.rd (s.psrc r o.ra && s.psrc r o.rb)

/-- POR (R125). -/
def execPor (o : F3) (s : State) : Out :=
  aluWord s [] fun s r => effP o.rd (s.psrc r o.ra || s.psrc r o.rb)

/-- PXOR (R125). -/
def execPxor (o : F3) (s : State) : Out :=
  aluWord s [] fun s r => effP o.rd (s.psrc r o.ra != s.psrc r o.rb)

/-- PNOT (R125). -/
def execPnot (o : F3) (s : State) : Out :=
  aluWord s [] fun s r => effP o.rd (!s.psrc r o.ra)

/-- SEL (R125). -/
def execSel (o : F3) (s : State) : Out :=
  aluWord s [o.ra, o.rb] fun s r => effReg o.rd (if s.psrc r o.rc then s.src r .i32 o.ra o.ea else s.src r .i32 o.rb o.eb)

/-- SEL_IMM (R125). -/
def execSelImm (o : FI) (s : State) : Out :=
  aluI s o .i32 .i32 fun a b => effReg o.rd (if a != 0 then a else b)

/-- SEL64 (R125). -/
def execSel64 (o : F3) (s : State) : Out :=
  aluWord s [] fun s r => effPair o.rd (if s.psrc r o.rc then s.src64 r o.ra else s.src64 r o.rb)

/-- P2G (R125). -/
def execP2g (o : F3) (s : State) : Out :=
  aluWord s [] fun s r => effReg o.rd ((s.lane r).p.extractLsb' (32 * o.rc.toNat) 32)

/-- G2P (R125). -/
def execG2p (o : F3) (s : State) : Out :=
  alu1 s { o with rd := 0 } .i32 fun a => { preds := (List.range 32).map fun i => (32 * o.rc.toNat + i, a.getLsbD i) }

/-- FCLASS (R125, R126). -/
def execFclass (o : F3) (s : State) : Out :=
  alu2 s o (f32h16 o.x) .i32 fun a b => effClass o.x o.rd a b

/-- FCLASS_IMM (R125, R126). -/
def execFclassImm (o : FI) (s : State) : Out :=
  aluI s o (f32h16 o.x) .i32 fun a b => effClass o.x o.rd a b

/-- BTEST (R125). -/
def execBtest (o : F3) (s : State) : Out :=
  alu2 s o .i32 .i32 fun a b => effP o.rd (a.getLsbD (b.toNat % 32))

/-- BTEST_IMM (R125). -/
def execBtestImm (o : FI) (s : State) : Out :=
  aluI s o .i32 .i32 fun a b => effP o.rd (a.getLsbD (b.toNat % 32))


end Sys2Proof.Machine
end

