-- ==== Sys2Proof/Machine/Ctl.lean ====
section
/-! DEFINITION. Sys2Proof/Machine/Ctl.lean: control transfers (R127 to R132, R60), reconvergence (R211 to R214), the end of a
switch-marker park (R44) and trap entry (R59). -/

namespace Sys2Proof.Machine

/-- Lanes of one entry that transfer (R128). -/
def State.transfers (s : State) (kind : Nat) (m : Member) : List Ref :=
  let g := (memberRefs m).filter fun r => !(s.lane r).ended
  let act := s.activeOf m
  let own := g.filter fun r => !(s.lane r).isHelper
  let held := own.filter fun r => act.contains r
  match kind with
  | 0 => act
  | 1 => if held.isEmpty then [] else g
  | 2 => if held.length = own.length then g else []
  | _ => if held.isEmpty then g else []

/-- Next PCs of lanes, taken up when the clause ends (R128). -/
def State.sendTo (s : State) (xs : List (Ref × DWord × Nat)) : State :=
  s.modIssue fun b => { b with targets := b.targets ++ xs.map fun x => (x.1.team, x.1.wave, x.1.lane, x.2.1, x.2.2) }

/-- Target of BRA and CALL (R95, R129). -/
def branchTarget (b : Bundle) (off : BitVec 32) : DWord := b.clause + 8 * off.signExtend 64

/-- BRA (R129). -/
def execBra (o : FB) (s : State) : Out :=
  whenIssued s fun s =>
    let act := s.active
    let go := s.bundle.members.flatMap (s.transfers o.kind.toNat)
    (s.sendTo (go.map fun r => (r, branchTarget s.bundle o.off, 0))).finish act []

/-- JMPI (R129). -/
def execJmpi (o : FB) (s : State) : Out :=
  whenIssued s fun s =>
    let act := s.active
    let goes := act.map fun r => (r, s.src64 r o.ra)
    let bad := goes.filter fun x => x.2.toNat % 8 != 0
    let s := s.sendTo ((goes.filter fun x => x.2.toNat % 8 == 0).map fun x => (x.1, x.2, 0))
    (s.faultLanes (bad.map fun x => { r := x.1, cause := .misalign, addr := x.2 })).finish act []

/-- The cause of one lane's call, or none (R49, R50, R129). -/
def State.callCause (s : State) (r : Ref) (target : DWord) : Option LaneFault :=
  if target.toNat % 8 ≠ 0 then some { r, cause := .misalign, addr := target }
  else if (s.lane r).sp.toNat < (s.stackBase r).toNat + 48 then some { r, cause := .stackovf }
  else (s.spillCheck r 1).map fun b => b.at r true

/-- CALL and CALLI for lanes with their targets (R129): causes first, then the parks before a line to which a slot spills
(R241). -/
def State.callLanes (s : State) (xs : List (Ref × DWord)) : State :=
  let b := s.bundle
  let bad := xs.filterMap fun x => s.callCause x.1 x.2
  let good := xs.filter fun x => (s.callCause x.1 x.2).isNone
  let s := (s.faultLanes bad).parkAbsent (good.map fun x => (x.1, s.spillPlaces x.1 1))
  let good := good.filter fun x => s.stays x.1
  let s := good.foldl (fun s x =>
    s.pushSlots x.1 [{ lo := b.next &&& ~~~7 ||| 1, hi := b.clause &&& ~~~7, frame := false }] { clause := b.clause, idx := b.idx }) s
  s.sendTo (good.map fun x => (x.1, x.2, 0))

/-- The watched push of a call (R479). -/
def State.pushWatch (s : State) (r : Ref) : List Watch := s.watchPlaces r (s.pushPlaces r 1) true

/-- A slot that a call of one of the lanes spills goes where an operation on a tile must come first (R45, R254). -/
def State.callWaits (s : State) (rs : List Ref) : Bool := rs.any fun r => s.stackClash r (s.spillPlaces r 1) true

/-- CALL (R129). -/
def execCall (o : FB) (s : State) : Out :=
  whenIssued s fun s =>
    let act := s.active
    let go := s.bundle.members.flatMap (s.transfers o.kind.toNat)
    if s.callWaits go then s.hold
    else (s.callLanes (go.map fun r => (r, branchTarget s.bundle o.off))).finish act (go.flatMap s.pushWatch)

/-- CALLI (R129). -/
def execCalli (o : FB) (s : State) : Out :=
  whenIssued s fun s =>
    let act := s.active
    if s.callWaits act then s.hold
    else (s.callLanes (act.map fun r => (r, s.src64 r o.ra))).finish act (act.flatMap s.pushWatch)

/-- RET for one lane: the return clause, or a cause (R51, R129, R130). -/
def State.retLane (s : State) (r : Ref) : State × Except Bad DWord :=
  let l := s.lane r
  match (if s.stackTop r == l.sp then none else l.chip.head?) with
  | none => (s, .error { cause := .stackovf, addr := 0, walk := false })
  | some top =>
    if top.frame then (s, .error { cause := .stackovf, addr := 0, walk := false })
    else
      match s.popSlots r 1 with
      | (s, some e) => (s, .error e)
      | (s, none) => (s, .ok (top.lo &&& ~~~7))

/-- Places of the reads of RET (R49, R130): none when it returns nothing. -/
def State.retPlaces (s : State) (r : Ref) : List (DWord × Nat) :=
  if s.stackTop r == (s.lane r).sp || !(s.lane r).topCall then [] else (s.popPlaces r 1).drop 1

/-- Places of the reads of RETT (R60): none when there is no frame to read; the refill follows once the frame, being there, is a
trap frame. -/
def State.rettPlaces (s : State) (r : Ref) : List (DWord × Nat) :=
  let l := s.lane r
  if s.stackTop r == l.sp || l.topCall then []
  else if (s.stackAbsent r [(l.sp, 16)]).isSome then [(l.sp, 16)]
  else
    match s.check r.team l.sp 8 8 needR true with
    | .ok t => if (s.nowTarget t 8).any fun b => (dwordOfBytes b).toNat % 8 == 2 then s.popPlaces r 2 else []
    | _ => []

/-- A return by each active lane (R60, R129): `pop` is a lane's return, `places` what it reads. Causes come first, then the parks
before a line whose presence bit is clear (R241), then the returns of the lanes that stay. -/
def returnWord (s : State) (pop : State → Ref → State × Except Bad (DWord × Nat)) (places : State → Ref → List (DWord × Nat))
    (k : Nat) : Out :=
  whenIssued s fun s =>
    let act := s.active
    if act.any fun r => s.stackClash r (places s r) false then s.hold else
    let waits := act.filter fun r => (s.stackAbsent r (places s r)).isSome
    let (s, bad) := (act.filter fun r => !waits.contains r).foldl (fun (p : State × List LaneFault) r =>
      match pop p.1 r with
      | (s, .error e) => (s, p.2 ++ [e.at r false])
      | (_, .ok _) => p) (s, [])
    let s := (s.faultLanes bad).parkAbsent (waits.map fun r => (r, places s r))
    let go := act.filter fun r => s.stays r
    let ws := go.flatMap fun r => s.watchPlaces r (s.popPlaces r k) false
    let (s, goes) := go.foldl (fun (p : State × List (Ref × DWord × Nat)) r =>
      match pop p.1 r with
      | (s, .ok a) => (s, p.2 ++ [(r, a)])
      | (_, .error _) => p) (s, [])
    (s.sendTo goes).finish act ws

/-- RET (R129, R130). -/
def execRet (s : State) : Out :=
  returnWord s (fun s r => match s.retLane r with
    | (s, .ok a) => (s, .ok (a, 0))
    | (s, .error e) => (s, .error e)) State.retPlaces 1

/-- RETT (R60). -/
def execRett (s : State) : Out := returnWord s State.returnTrap State.rettPlaces 2

/-! ### Reconvergence -/

/-- Lanes of a wave that waits at SYNCW and WSYNCM count: unended and no helpers. -/
def Wave.counted (w : Wave) : List Nat :=
  (List.range 32).filter fun k => let l := w.lanes.getD k Lane.blank; !l.ended && !l.isHelper

/-- Lanes with a standing arrival (R211). -/
def Wave.arrived (w : Wave) : List (Nat × Arrival) :=
  (List.range 32).filterMap fun k =>
    let l := w.lanes.getD k Lane.blank
    if l.ended then none else l.arrival.map fun a => (k, a)

/-- A lane passes: every lane waited for has arrived (R212, R213 step 3). -/
def Wave.passes (w : Wave) (a : Arrival) : Bool :=
  let arr := w.arrived
  match a.mask with
  | none => w.counted.all fun k => arr.any fun x => x.1 == k && x.2 == a
  | some m => (w.counted.filter fun k => m.getLsbD k).all fun k => arr.any fun x => x.1 == k && x.2.mask == some m

/-- The common ancestor of identifiers (R214): `d` counts down to the largest depth at which all paths agree. -/
def commonDepth (ps : List (BitVec 16)) : Nat → Nat
  | 0 => 0
  | d + 1 => if (ps.map fun p => p.toNat % 2 ^ (d + 1)).eraseDups.length ≤ 1 then d + 1 else commonDepth ps d

/-- The entry that entries passing a word fuse into, in the first's slot (R214). DESIGN CHOICE (log 92): YH is that of the entries as
they parked, whatever Y their clause's header has. -/
def joinEntries (e : Entry) (es : List Entry) (mask defer : BitVec 32) (clause : DWord) (marked : Bool) : Entry :=
  let d := commonDepth ((e :: es).map (·.path)) (es.foldl (fun n x => min n x.depth) e.depth)
  { e with
    stamp := es.foldl (fun n x => if stampOlder x.stamp n then x.stamp else n) e.stamp,
    runs := 0, clause, idx := 0, depth := d, path := BitVec.ofNat 16 (e.path.toNat % 2 ^ d),
    park := if marked then 4 else 0, why := if marked then .results else .none,
    yh := (e :: es).all (·.yh), defer, mask, flight := none }

/-- The lanes of a wave that pass one word go on (R212 to R214), those of an entry in flight that executes the word again too
(R211). DESIGN CHOICE (log 108): so does a lane in the fault queue, whose entry is ready only after its REPLAY. DESIGN CHOICE (log 92): lanes of an entry that do not pass stay behind with its identifier, and passing lanes that are all
deferred stay so, at the next clause. -/
def State.passWord (s : State) (t w : Nat) (clause : DWord) (idx : Nat) (pass : BitVec 32) : State :=
  let next := clauseAfter clause idx
  let marked := s.marked t clause idx
  let s := s.release t w 1
  let s := (maskLanes pass).foldl (fun s k => s.modLane ⟨t, w, k⟩ fun l => { l with arrival := none, clause := next, idx := 0 }) s
  let es := (s.wave t w).entries.filter fun e => e.mask &&& pass != 0
  match es with
  | [] => s
  | e :: rest =>
    let apart := fun (s : State) (x : Entry) =>
      s.leave { team := t, wave := w, slot := x.slot, mask := x.mask } (x.mask &&& ~~~pass) x.clause x.idx x.park x.why true
    let s := es.foldl apart s
    let s := (es.foldl (fun s x => s.modBundles fun b => b.without t w x.slot) s).sweepBundles
    let deferred := ((s.wave t w).entries.map fun x => x.defer &&& pass).foldl (· ||| ·) 0
    let kept := (s.wave t w).entries.filter fun x => es.any fun y => y.slot == x.slot
    let mask := kept.foldl (fun m x => m ||| (x.mask &&& pass)) deferred
    let defer := kept.foldl (fun m x => m ||| (x.defer &&& ~~~pass)) 0
    let s := s.modTeam t fun x => { x with retc := min (x.retc + es.length) 0xFFFFFFFF }
    let put : Entry → List Entry := fun y =>
      if y.slot == e.slot then [joinEntries y rest mask defer next marked]
      else if rest.any (fun z => z.slot == y.slot) then []
      else [{ y with defer := y.defer &&& ~~~pass }]
    let s := s.modWave t w fun x => { x with entries := x.entries.flatMap put }
    let s := s.settle t w e.slot mask
    (s.passHits t w mask clause idx).fuse t w

/-- Every group of a wave whose wait is over passes. -/
def State.syncPass (s : State) (t w : Nat) : State :=
  let wv := s.wave t w
  let go := wv.arrived.filter fun x => wv.passes x.2
  let words := (go.map fun x => (x.2.clause, x.2.idx)).eraseDups
  words.foldl (fun s c =>
    s.passWord t w c.1 c.2 (maskOf ((go.filter fun x => (x.2.clause, x.2.idx) == c).map (·.1)))) s

/-- Lanes arrive at the word that issues and park (R211). -/
def State.arriveLanes (s : State) (rs : List (Ref × Option (BitVec 32))) : State :=
  let b := s.bundle
  let s := rs.foldl (fun s x =>
    s.modLane x.1 fun l => { l with arrival := some { clause := b.clause, idx := b.idx, mask := x.2 } }) s
  s.parkLanes (rs.map (·.1)) 3 .sync false

/-- SYNCW (R212). -/
def execSyncw (s : State) : Out :=
  whenIssued s fun s =>
    if s.tileStores s.active then s.hold else
    let s := s.releaseWord 1
    let act := s.active
    let s := s.arriveLanes (act.map fun r => (r, none))
    let s := (wavesOf act).foldl (fun s w => s.syncPass w.1 w.2) s
    (s.finish [] []).endTurn act

/-- The lanes of a wave that WSYNCM faults when it issues for `now`: both lanes of a conflicting pair that has a lane of `now` in it
(R213 step 1, and the first row of its table). -/
def Wave.syncBad (w : Wave) (now : List (Nat × BitVec 32)) : List Nat :=
  let absent := maskOf ((List.range 32).filter fun k => (w.lanes.getD k Lane.blank).absent)
  let old := w.arrived.filterMap fun x => match x.2.mask with
    | some m => if now.any fun y => y.1 == x.1 then none else some (x.1, m)
    | none => none
  let all := (now ++ old).filter fun x => !(w.lanes.getD x.1 Lane.blank).isHelper
  let clash := fun (a b : Nat × BitVec 32) => a.1 != b.1 && (a.2.getLsbD b.1 || b.2.getLsbD a.1) && a.2 != b.2
  (now.filter fun x => !x.2.getLsbD x.1 || x.2 &&& absent != 0).map (·.1) ++
    (all.filter fun a => all.any fun b => clash a b && now.any fun x => x.1 == a.1 || x.1 == b.1).map (·.1)

/-- Lanes that had arrived earlier take SYNCMASK at their own words, those of one entry together; a deferred lane goes to the handler
by itself (R180, R213 step 1). DESIGN CHOICE (log 92): the word that issues leaves its own summary, after theirs. -/
def State.syncFaults (s : State) (t w : Nat) (ks : List Nat) : State :=
  let fault := fun (k : Nat) => ({ r := ⟨t, w, k⟩, cause := .syncmask } : LaneFault)
  let es := (s.wave t w).entries
  let s := es.foldl (fun s e => match ks.filter fun k => e.mask.getLsbD k with
    | [] => s
    | ls => s.trapParked t w e.slot e.clause e.idx (ls.map fault)) s
  let s := (ks.filter fun k => !es.any fun e => e.mask.getLsbD k).foldl (fun s k =>
    let l := s.lane ⟨t, w, k⟩
    let told := [(fault k).report l.clause l.idx]
    (((s.summarise t w told).setTrap (fault k) told l.clause l.idx).setPcs t w (1 <<< k) (s.gridOf t).handler 0).enterTrap ⟨t, w, k⟩) s
  s.sweepBundles

/-- WSYNCM (R213). -/
def execWsyncm (o : F3) (s : State) : Out :=
  whenIssued s fun s =>
    if s.tileStores s.active then s.hold else
    let s := s.releaseWord 1
    let act := s.active
    let own := act.filter fun r => !(s.lane r).isHelper
    let mask := fun r => s.src r .i32 o.ra o.ea
    let ws := wavesOf own
    let bad := ws.map fun w =>
      (w, (s.wave w.1 w.2).syncBad ((own.filter fun r => (r.team, r.wave) == w).map fun r => (r.lane, mask r)))
    let isBad := fun (r : Ref) => bad.any fun x => x.1 == (r.team, r.wave) && x.2.contains r.lane
    let arrive := (own.filter fun r => !isBad r).map fun r => (r, some (mask r))
    let s := act.foldl (fun s r => s.latchRead r o.ra.toNat) s
    let s := bad.foldl (fun s x =>
      s.syncFaults x.1.1 x.1.2 (x.2.filter fun k => !(own.contains ⟨x.1.1, x.1.2, k⟩)).eraseDups) s
    let s := (own.filter isBad).foldl (fun s r => s.modLane r fun l => { l with arrival := none }) s
    let s := s.faultLanes ((own.filter isBad).map fun r => { r, cause := .syncmask })
    let s := s.arriveLanes arrive
    let s := ws.foldl (fun s w => s.syncPass w.1 w.2) s
    (s.finish act []).endTurn act

/-! ### EXIT and YIELD -/

/-- EXIT (R131). -/
def execExit (s : State) : Out :=
  whenIssued s fun s =>
    let act := s.active
    let b := s.bundle
    let s := b.members.foldl (fun s m =>
      let gone := maskOf ((act.filter fun r => r.team == m.team && r.wave == m.wave && m.mask.getLsbD r.lane).map (·.lane))
      let s := if gone == m.mask then s.modTeam m.team fun t => { t with retc := min (t.retc + 1) 0xFFFFFFFF } else s
      if gone == 0 then s else (s.endLanes m.team m.wave gone).syncPass m.team m.wave) s
    (s.finish [] []).endTurn act

/-- YIELD (R132): the clause ends as though Y were set. -/
def execYield (s : State) : Out :=
  whenIssued s fun s =>
    let act := s.active
    let s := s.bundle.members.foldl (fun s m =>
      if (s.activeOf m).isEmpty then s else s.modEntry m.team m.wave m.slot fun e => { e with yh := true }) s
    (s.finish act []).endTurn act

/-! ### Events -/

/-- SWITCH_MARKER_RESUME (R44): once no result of its waves is outstanding, the bundle of the event goes on; ECC records are
delivered at the next word (R430). -/
def execSwitchMarkerResume (s : State) : Out :=
  match s.bundles.find? fun b => b.id == s.args.a && b.marker with
  | none => .next s
  | some b =>
    if (b.members.any fun m => s.outstanding m.team m.wave || (s.team m.team).leaving == .flush) then .next s
    else
      let b := { b with marker := false }
      let s : State := { s with issue := some b }
      let fs : List LaneFault := b.members.flatMap fun m =>
        (s.deliverable m ((memberRefs m).filter fun r => !(s.lane r).ended) [] (fun _ => true) false false).map fun f =>
          { f with resume := some (if decide (b.idx < b.n) then (b.clause, b.idx) else b.nextPc m.team m.wave f.r.lane) }
      let s := (s.dropRecords fs).faultLanes fs
      .next (if s.bundle.members.isEmpty || decide (s.bundle.idx < s.bundle.n) then s.putIssue else s.endClause)

/-- TRAP_ENTRY (R59). -/
def execTrapEntry (s : State) : Out :=
  .next (if (s.team s.args.a).place == .resident then s.enterTrap ⟨s.args.a, s.args.b, s.args.c⟩ else s)

end Sys2Proof.Machine
end

