-- ==== Sys2Proof/Machine/F32.lean ====
section
/-! DEFINITION. Sys2Proof/Machine/F32.lean: binary32 arithmetic (R145 to R152). -/

namespace Sys2Proof.Machine

/-- A rounded binary32 result in a lane's register, with its flags and the generator (R148). -/
def effRound (rd : BitVec 8) (mode : Nat) (sat : Bool) (gen : DWord) (x : Exact) : Eff :=
  let (v, g) := rounded Fmt.b32 mode sat gen x
  { regs := [(rd.toNat, BitVec.ofNat 32 v.1)], flags := v.2, gen := if isSR mode then some g else none }

/-- F3 of binary32 a, b with one rounded result (R150). -/
def f32Word2 (s : State) (o : F3) (f : Nat → FV → FV → Exact) : Out :=
  aluWord s [o.ra, o.rb] fun s r =>
    effRound o.rd (modeOf o.rc) o.x (s.lane r).gen
      (f (modeOf o.rc) (f32Val (s.src r .f32 o.ra o.ea).toNat) (f32Val (s.src r .f32 o.rb o.eb).toNat))

/-- The immediate form, which rounds RNE (R146). -/
def f32WordI (s : State) (o : FI) (f : Nat → FV → FV → Exact) : Out :=
  aluI s o .f32 .f32 fun a b => effRound o.rd 0 o.x 0 (f 0 (f32Val a.toNat) (f32Val b.toNat))

/-- A bitwise sign operation leaves every other bit alone. -/
def setSign (a : Word) (neg : Bool) : Word := (a &&& 0x7FFFFFFF) ||| (if neg then 0x80000000 else 0)

/-- MinNum(MaxNum(a, b), c) with the flags of both (R150, R151). -/
def clampNum (F : Fmt) (a b c : Nat) : Nat × Flags :=
  let m := minMaxNum F true a b
  let n := minMaxNum F false m.1 c
  (n.1, m.2 ||| n.2)

/-- FADD (R150). -/
def execFadd (o : F3) (s : State) : Out :=
  f32Word2 s o fun m a b => addE m a b

/-- FADD_IMM (R146, R150). -/
def execFaddImm (o : FI) (s : State) : Out :=
  f32WordI s o fun m a b => addE m a b

/-- FSUB (R150). -/
def execFsub (o : F3) (s : State) : Out :=
  f32Word2 s o fun m a b => addE m a b.negate

/-- FSUB_IMM (R146, R150). -/
def execFsubImm (o : FI) (s : State) : Out :=
  f32WordI s o fun m a b => addE m a b.negate

/-- FMUL (R150). -/
def execFmul (o : F3) (s : State) : Out :=
  f32Word2 s o fun _ a b => mulE a b

/-- FMUL_IMM (R146, R150). -/
def execFmulImm (o : FI) (s : State) : Out :=
  f32WordI s o fun _ a b => mulE a b

/-- FFMA (R150). -/
def execFfma (o : F3) (s : State) : Out :=
  alu3 s o .f32 .f32 .f32 fun a b c => effRound o.rd 0 o.x 0 (fmaE 0 (f32Val a.toNat) (f32Val b.toNat) (f32Val c.toNat))

/-- FFMS (R150). -/
def execFfms (o : F3) (s : State) : Out :=
  alu3 s o .f32 .f32 .f32 fun a b c => effRound o.rd 0 o.x 0 (fmaE 0 (f32Val a.toNat) (f32Val b.toNat) (f32Val c.toNat).negate)

/-- FMIN (R150, R151). -/
def execFmin (o : F3) (s : State) : Out :=
  alu2 s o .f32 .f32 fun a b => effFlag o.rd (minMaxNum Fmt.b32 false a.toNat b.toNat)

/-- FMIN_IMM (R150, R151). -/
def execFminImm (o : FI) (s : State) : Out :=
  aluI s o .f32 .f32 fun a b => effFlag o.rd (minMaxNum Fmt.b32 false a.toNat b.toNat)

/-- FMAX (R150, R151). -/
def execFmax (o : F3) (s : State) : Out :=
  alu2 s o .f32 .f32 fun a b => effFlag o.rd (minMaxNum Fmt.b32 true a.toNat b.toNat)

/-- FMAX_IMM (R150, R151). -/
def execFmaxImm (o : FI) (s : State) : Out :=
  aluI s o .f32 .f32 fun a b => effFlag o.rd (minMaxNum Fmt.b32 true a.toNat b.toNat)

/-- FABS (R150). -/
def execFabs (o : F3) (s : State) : Out :=
  alu1 s o .f32 fun a => effReg o.rd (setSign a false)

/-- FNEG (R150). -/
def execFneg (o : F3) (s : State) : Out :=
  alu1 s o .f32 fun a => effReg o.rd (setSign a (!a.getLsbD 31))

/-- FCPYS (R150). -/
def execFcpys (o : F3) (s : State) : Out :=
  alu2 s o .f32 .f32 fun a b => effReg o.rd (setSign a (b.getLsbD 31))

/-- FCPYS_IMM (R150). -/
def execFcpysImm (o : FI) (s : State) : Out :=
  aluI s o .f32 .f32 fun a b => effReg o.rd (setSign a (b.getLsbD 31))

/-- FDIV (R150). -/
def execFdiv (o : F3) (s : State) : Out :=
  f32Word2 s o fun _ a b => divE a b

/-- FDIV_IMM (R146, R150). -/
def execFdivImm (o : FI) (s : State) : Out :=
  f32WordI s o fun _ a b => divE a b

/-- FSQRT (R150). -/
def execFsqrt (o : F3) (s : State) : Out :=
  aluWord s [o.ra] fun s r => effRound o.rd (modeOf o.rc) false (s.lane r).gen (sqrtE (f32Val (s.src r .f32 o.ra o.ea).toNat))

/-- FRND of one value, with its draw (R152). -/
def frndDraw (F : Fmt) (mode : Nat) (gen : DWord) (c : Nat) : (Nat × Flags) × DWord :=
  let (g, dr) := drawIf mode gen
  (frnd F mode dr c, g)

/-- FRND (R152). -/
def execFrnd (o : F3) (s : State) : Out :=
  aluWord s [o.ra] fun s r =>
    let (v, g) := frndDraw Fmt.b32 (modeOf o.rc) (s.lane r).gen (s.src r .f32 o.ra o.ea).toNat
    { effFlag o.rd v with gen := if isSR (modeOf o.rc) then some g else none }

/-- FFRAC (R152). -/
def execFfrac (o : F3) (s : State) : Out :=
  alu1 s o .f32 fun a => effFlag o.rd (ffrac a.toNat)

/-- FSCALE (R150). -/
def execFscale (o : F3) (s : State) : Out :=
  aluWord s [o.ra, o.rb] fun s r =>
    effRound o.rd (modeOf o.rc) o.x (s.lane r).gen
      (scaleE (f32Val (s.src r .f32 o.ra o.ea).toNat) (s.src r .i32 o.rb o.eb).toInt)

/-- FSCALE_IMM (R146, R150). -/
def execFscaleImm (o : FI) (s : State) : Out :=
  aluI s o .f32 .i32 fun a b => effRound o.rd 0 o.x 0 (scaleE (f32Val a.toNat) b.toInt)

/-- FCLAMP (R150). -/
def execFclamp (o : F3) (s : State) : Out :=
  alu3 s o .f32 .f32 .f32 fun a b c => effFlag o.rd (clampNum Fmt.b32 a.toNat b.toNat c.toNat)

/-- FSAT (R150). -/
def execFsat (o : F3) (s : State) : Out :=
  alu1 s o .f32 fun a => effFlag o.rd (clampNum Fmt.b32 a.toNat 0 f32One)


end Sys2Proof.Machine
end

