-- ==== Sys2Proof/Machine/F16.lean ====
section
/-! DEFINITION. Sys2Proof/Machine/F16.lean: packed 16-bit arithmetic (R153). -/

namespace Sys2Proof.Machine

/-- Elements 0 and 1 of a result, in that order, with their flags and the generator after both (R148, R153). -/
def effHalves (rd : BitVec 8) (sr : Bool) (gen : DWord) (f : DWord → Nat → (Nat × Flags) × DWord) : Eff :=
  let (x, g) := f gen 0
  let (y, g) := f g 1
  { regs := [(rd.toNat, BitVec.ofNat 32 (packElems 16 [x.1, y.1]))], flags := x.2 ||| y.2, gen := if sr then some g else none }

/-- F3 of packed a, b with one rounded result per element (R153). -/
def f16Word2 (s : State) (o : F3) (f : Nat → FV → FV → Exact) : Out :=
  aluWord s [o.ra, o.rb] fun s r =>
    let F := fmt16 o.x
    let a := s.src r (f16 o.x) o.ra o.ea
    let b := s.src r (f16 o.x) o.rb o.eb
    effHalves o.rd (isSR (modeOf o.rc)) (s.lane r).gen fun g k =>
      rounded F (modeOf o.rc) false g (f (modeOf o.rc) (halfVal F a k) (halfVal F b k))

/-- The immediate form, which rounds RNE (R146). -/
def f16WordI (s : State) (o : FI) (f : Nat → FV → FV → Exact) : Out :=
  aluI s o (f16 o.x) (f16 o.x) fun a b =>
    let F := fmt16 o.x
    effHalves o.rd false 0 fun g k => rounded F 0 false g (f 0 (halfVal F a k) (halfVal F b k))

/-- An element function without draws. -/
def effEach (rd : BitVec 8) (f : Nat → Nat × Flags) : Eff := effHalves rd false 0 fun g k => (f k, g)

/-- Element `k` with a given sign bit. -/
def halfSign (a : Word) (k : Nat) (neg : Bool) : Nat × Flags := (elem 16 a k % 32768 + (if neg then 32768 else 0), 0)

/-- HADD (R153). -/
def execHadd (o : F3) (s : State) : Out :=
  f16Word2 s o fun m a b => addE m a b

/-- HADD_IMM (R153). -/
def execHaddImm (o : FI) (s : State) : Out :=
  f16WordI s o fun m a b => addE m a b

/-- HSUB (R153). -/
def execHsub (o : F3) (s : State) : Out :=
  f16Word2 s o fun m a b => addE m a b.negate

/-- HSUB_IMM (R153). -/
def execHsubImm (o : FI) (s : State) : Out :=
  f16WordI s o fun m a b => addE m a b.negate

/-- HMUL (R153). -/
def execHmul (o : F3) (s : State) : Out :=
  f16Word2 s o fun _ a b => mulE a b

/-- HMUL_IMM (R153). -/
def execHmulImm (o : FI) (s : State) : Out :=
  f16WordI s o fun _ a b => mulE a b

/-- HFMA (R153). -/
def execHfma (o : F3) (s : State) : Out :=
  alu3 s o (f16 o.x) (f16 o.x) (f16 o.x) fun a b c =>
    let F := fmt16 o.x
    effHalves o.rd false 0 fun g k => rounded F 0 false g (fmaE 0 (halfVal F a k) (halfVal F b k) (halfVal F c k))

/-- HFMS (R153). -/
def execHfms (o : F3) (s : State) : Out :=
  alu3 s o (f16 o.x) (f16 o.x) (f16 o.x) fun a b c =>
    let F := fmt16 o.x
    effHalves o.rd false 0 fun g k => rounded F 0 false g (fmaE 0 (halfVal F a k) (halfVal F b k) (halfVal F c k).negate)

/-- HMIN (R153). -/
def execHmin (o : F3) (s : State) : Out :=
  alu2 s o (f16 o.x) (f16 o.x) fun a b => effEach o.rd fun k => minMaxNum (fmt16 o.x) false (elem 16 a k) (elem 16 b k)

/-- HMIN_IMM (R153). -/
def execHminImm (o : FI) (s : State) : Out :=
  aluI s o (f16 o.x) (f16 o.x) fun a b => effEach o.rd fun k => minMaxNum (fmt16 o.x) false (elem 16 a k) (elem 16 b k)

/-- HMAX (R153). -/
def execHmax (o : F3) (s : State) : Out :=
  alu2 s o (f16 o.x) (f16 o.x) fun a b => effEach o.rd fun k => minMaxNum (fmt16 o.x) true (elem 16 a k) (elem 16 b k)

/-- HMAX_IMM (R153). -/
def execHmaxImm (o : FI) (s : State) : Out :=
  aluI s o (f16 o.x) (f16 o.x) fun a b => effEach o.rd fun k => minMaxNum (fmt16 o.x) true (elem 16 a k) (elem 16 b k)

/-- HABS (R153). -/
def execHabs (o : F3) (s : State) : Out :=
  alu1 s o (f16 o.x) fun a => effEach o.rd fun k => halfSign a k false

/-- HNEG (R153). -/
def execHneg (o : F3) (s : State) : Out :=
  alu1 s o (f16 o.x) fun a => effEach o.rd fun k => halfSign a k (elem 16 a k < 32768)

/-- HCPYS (R153). -/
def execHcpys (o : F3) (s : State) : Out :=
  alu2 s o (f16 o.x) (f16 o.x) fun a b => effEach o.rd fun k => halfSign a k (32768 ≤ elem 16 b k)

/-- HCPYS_IMM (R153). -/
def execHcpysImm (o : FI) (s : State) : Out :=
  aluI s o (f16 o.x) (f16 o.x) fun a b => effEach o.rd fun k => halfSign a k (32768 ≤ elem 16 b k)

/-- HDOT2 (R153). -/
def execHdot2 (o : F3) (s : State) : Out :=
  alu3 s o (f16 o.x) (f16 o.x) .f32 fun a b c =>
    let F := fmt16 o.x
    effRound o.rd 0 false 0 (dot2E (halfVal F a 0) (halfVal F b 0) (halfVal F a 1) (halfVal F b 1) (f32Val c.toNat))

/-- HRND (R153). -/
def execHrnd (o : F3) (s : State) : Out :=
  aluWord s [o.ra] fun s r =>
    let a := s.src r (f16 o.x) o.ra o.ea
    effHalves o.rd (isSR (modeOf o.rc)) (s.lane r).gen fun g k => frndDraw (fmt16 o.x) (modeOf o.rc) g (elem 16 a k)

/-- HSCALE (R153). -/
def execHscale (o : F3) (s : State) : Out :=
  aluWord s [o.ra, o.rb] fun s r =>
    let F := fmt16 o.x
    let a := s.src r (f16 o.x) o.ra o.ea
    let b := s.src r .i16 o.rb o.eb
    effHalves o.rd (isSR (modeOf o.rc)) (s.lane r).gen fun g k =>
      rounded F (modeOf o.rc) false g (scaleE (halfVal F a k) (sextOf (elem 16 b k) 16))

/-- HSCALE_IMM (R153). -/
def execHscaleImm (o : FI) (s : State) : Out :=
  aluI s o (f16 o.x) .i16 fun a b =>
    let F := fmt16 o.x
    effHalves o.rd false 0 fun g k => rounded F 0 false g (scaleE (halfVal F a k) (sextOf (elem 16 b k) 16))

/-- HCLAMP (R153). -/
def execHclamp (o : F3) (s : State) : Out :=
  alu3 s o (f16 o.x) (f16 o.x) (f16 o.x) fun a b c =>
    effEach o.rd fun k => clampNum (fmt16 o.x) (elem 16 a k) (elem 16 b k) (elem 16 c k)


end Sys2Proof.Machine
end

