-- ==== Sys2Proof/Machine/Transc.lean ====
section
/-! DEFINITION. Sys2Proof/Machine/Transc.lean: the frozen transcendentals (R81 to R84). The sample values of R82 are
formed in fixed point by square roots, squarings and products, far below the last place that the rounding of R82 keeps. -/

namespace Sys2Proof.Machine

/-- Working precision of the sample values, in bits below the point. -/
def txP : Nat := 140

/-- floor(√(x · 2^-P)) in units of 2^-P. -/
def fxSqrt (x : Nat) : Nat := isqrt (x * 2 ^ txP)

def fxMul (a b : Nat) : Nat := a * b / 2 ^ txP

/-- 2^(j/512), as a product of the roots 2^(1/2), 2^(1/4), … over the bits of j from the highest. -/
def exp2Go : Nat → Nat → Nat → Nat → Nat
  | 0, _, _, acc => acc
  | k + 1, j, root, acc =>
    let root' := fxSqrt root
    exp2Go k j root' (if bitOf j k then fxMul acc root' else acc)

/-- 2^(j/512) for j from 0 to 512. -/
def exp2At (j : Nat) : Nat := if j = 512 then 2 ^ (txP + 1) else exp2Go 9 j (2 ^ (txP + 1)) (2 ^ txP)

/-- Bits of log2 of a number in [1, 2) by repeated squaring. -/
def log2Go : Nat → Nat → Nat → Nat
  | 0, _, acc => acc
  | k + 1, x, acc =>
    let y := x * x / 2 ^ 300
    if 2 ^ 301 ≤ y then log2Go k (y / 2) (2 * acc + 1) else log2Go k y (2 * acc)

/-- log2(1 + j/512) for j from 0 to 512. -/
def log2At (j : Nat) : Nat := if j = 512 then 2 ^ txP else log2Go txP ((512 + j) * 2 ^ 291) 0

/-- Cosines and sines of a turn / 2^(k+1), …, combined over the bits of an angle: the product of unit rotations. -/
def rotGo : Nat → Nat → Nat → Int → Int → Int × Int
  | 0, _, _, x, y => (x, y)
  | k + 1, j, c, x, y =>
    let c' := fxSqrt ((2 ^ txP + c) / 2)
    let s' := fxSqrt ((2 ^ txP - c) / 2)
    let (x', y') := if bitOf j k then (asr (x * c' - y * s') txP, asr (x * s' + y * c') txP) else (x, y)
    rotGo k j c' x' y'

/-- sin(2πj/512) for j from 0 to 512, in units of 2^-P: quarter turns exactly, the rest by half-angle rotations. -/
def sinAt (j : Nat) : Int :=
  let q := j / 128 % 4
  let (c, s) := rotGo 7 (j % 128) 0 (2 ^ txP) 0
  match q with
  | 0 => s
  | 1 => c
  | 2 => -s
  | _ => -c

/-- RNE of x · 2^-P · 2^30 (R82). -/
def rneFx (x : Int) : Int :=
  let r : Int := rneDiv x.natAbs (2 ^ (txP - 30))
  if x < 0 then -r else r

/-- K0, K1 and K2 from the three samples (R82). -/
def coeffs (g0 g1 g2 : Int) : Int × Int × Int :=
  (rneFx g0, rneFx (4 * g1 - 3 * g0 - g2), rneFx (2 * g0 - 4 * g1 + 2 * g2))

/-- R83: Y from the coefficients, the offset and its width. -/
def quadEval (K : Int × Int × Int) (d D : Nat) : Int :=
  let t2 := asr (K.2.2 * d) D
  let t1 := asr ((K.2.1 + t2) * d) D
  K.1 + t1

inductive TFn where
  | exp2 | log2 | rcp | rsqrt | sqrt | sin | cos
  deriving DecidableEq, Repr

/-- g(u) of R81 at the sample 2i + k (k from 0 to 2) of segment i, in units of 2^-P. -/
def sampleOf (f : TFn) (i k : Nat) : Int :=
  let j := 2 * i + k
  match f with
  | .exp2 => exp2At j
  | .log2 => log2At j
  | .rcp => (2 ^ (txP + 9) / (512 + j) : Nat)
  | .rsqrt =>
    -- u is (256 + j) / 256 in the first half and j / 128 in the second
    if i < 128 then (isqrt (2 ^ (2 * txP + 8) / (256 + j)) : Nat) else (isqrt (2 ^ (2 * txP + 7) / j) : Nat)
  | .sqrt =>
    if i < 128 then (isqrt ((256 + j) * 2 ^ (2 * txP - 8)) : Nat) else (isqrt (j * 2 ^ (2 * txP - 7)) : Nat)
  | .sin | .cos => sinAt j

/-- Y for segment i and offset d of width D (R82, R83). -/
def segEval (f : TFn) (i d D : Nat) : Int :=
  quadEval (coeffs (sampleOf f i 0) (sampleOf f i 1) (sampleOf f i 2)) d D

/-- An integer times 2^e as an exact result; zero is +0. -/
def intExact (y : Int) (e : Int) : Exact := if y = 0 then .zero false else .real ⟨y < 0, y.natAbs, e, false⟩

/-- floor(x · 2^32) of a finite value, modulo nothing (R81); the caller bounds the exponent. -/
def floor32 (neg : Bool) (m : Nat) (e : Int) : Int :=
  let up := e + 32
  if up ≥ 0 then (let v : Int := (m * 2 ^ up.toNat : Nat); if neg then -v else v)
  else
    let v : Int := if neg then -(m : Int) else m
    if (ilog2 m : Int) < -up then (if m = 0 then 0 else if neg then -1 else 0) else v / (2 ^ (-up).toNat : Nat)

/-- x is a power of two: its odd part is one. -/
def isPow2 (m : Nat) : Bool := m != 0 && m == 2 ^ ilog2 m

/-- NX joined to a delivered inexact case (R84). -/
def withNX (r : Nat × Flags) : Nat × Flags := (r.1, r.2 ||| flagNX)

/-- EXP2 on a finite non-zero value (R81, R84). -/
def exp2Fin (F : Fmt) (neg : Bool) (m : Nat) (e : Int) : Nat × Flags :=
  let l := (ilog2 m : Int) + e
  if !neg && l ≥ 7 then (F.infCode, flagOF ||| flagNX)
  else if neg && (l ≥ 8 || !dyLe m e 160 0) then (0, flagUF ||| flagNX)
  else
    let fx := floor32 neg m e
    let n := fx / (2 ^ 32 : Nat)
    let fr := (fx % (2 ^ 32 : Nat)).toNat
    let y := segEval .exp2 (fr / 2 ^ 24) (fr % 2 ^ 24) 24
    let integral := e ≥ 0 || m % 2 ^ (-e).toNat == 0
    let r := deliver F 0 false 0 (intExact y (n - 30))
    if integral then r else withNX r

/-- n and f of R81: the unbiased exponent and the 23-bit fraction of m · 2^e, normalised. -/
def normalise (m : Nat) (e : Int) : Int × Nat :=
  let l := ilog2 m
  ((l : Int) + e, (shiftInt m (23 - (l : Int))) - 2 ^ 23)

/-- The functions that split the fraction into 8 and 15 bits (LOG2, RCP) or, with the parity of n, 7 and 16 (RSQRT, SQRT). -/
def powFin (F : Fmt) (fn : TFn) (neg : Bool) (m : Nat) (e : Int) : Nat × Flags :=
  let (n, f) := normalise m e
  let i := f / 2 ^ 15
  let d := f % 2 ^ 15
  let t := n % 2
  let n' := n - t
  let i2 := t.toNat * 128 + f / 2 ^ 16
  let d2 := f % 2 ^ 16
  let p2 := isPow2 m
  match fn with
  | .log2 =>
    let y := segEval .log2 i d 15
    let r := deliver F 0 false 0 (intExact (n * (2 ^ 30 : Nat) + y) (-30))
    if p2 then r else withNX r
  | .rcp =>
    let y := segEval .rcp i d 15
    let r := deliver F 0 false 0 (intExact (if neg then -y else y) (-n - 30))
    if p2 then r else withNX r
  | .rsqrt =>
    let y := segEval .rsqrt i2 d2 16
    let r := deliver F 0 false 0 (intExact y (-n' / 2 - 30))
    if p2 && t == 0 then r else withNX r
  | _ =>
    let y := segEval .sqrt i2 d2 16
    let r := deliver F 0 false 0 (intExact y (n' / 2 - 30))
    if p2 && t == 0 then r else withNX r

/-- SIN and COS on a finite value (R81, R84). -/
def sinCosFin (F : Fmt) (cos : Bool) (neg : Bool) (m : Nat) (e : Int) : Nat × Flags :=
  let fx := (if e ≥ 0 then 0 else floor32 neg m e) + (if cos then 2 ^ 30 else 0)
  let fr := (fx % (2 ^ 32 : Nat)).toNat
  let y := segEval .sin (fr / 2 ^ 24) (fr % 2 ^ 24) 24
  let quarter := e + 2 ≥ 0 || (if (ilog2 m : Int) < -(e + 2) then m == 0 else m % 2 ^ (-(e + 2)).toNat == 0)
  let r := deliver F 0 false 0 (intExact y (-30))
  if quarter then r else withNX r

/-- A transcendental on a binary32 value, delivered in format `F` (R81 to R84, R162). -/
def transc (fn : TFn) (F : Fmt) (v : FV) : Nat × Flags :=
  match v with
  | .nan s => (F.nan, if s then flagNV else 0)
  | .inf neg =>
    match fn with
    | .exp2 => if neg then (0, 0) else (F.infCode, 0)
    | .log2 => if neg then (F.nan, flagNV) else (F.infCode, 0)
    | .rcp => (F.signed neg 0, 0)
    | .rsqrt => if neg then (F.nan, flagNV) else (0, 0)
    | .sqrt => if neg then (F.nan, flagNV) else (F.infCode, 0)
    | .sin | .cos => (F.nan, flagNV)
  | .fin neg m e =>
    if m = 0 then
      match fn with
      | .exp2 | .cos => deliver F 0 false 0 (exactOf false 1 0)
      | .log2 => (F.signed true F.infCode, flagDZ)
      | .rcp | .rsqrt => (F.signed neg F.infCode, flagDZ)
      | .sqrt => (F.signed neg 0, 0)
      | .sin => (0, 0)
    else
      match fn with
      | .exp2 => exp2Fin F neg m e
      | .sin => sinCosFin F false neg m e
      | .cos => sinCosFin F true neg m e
      | .rcp => powFin F .rcp neg m e
      | fn => if neg then (F.nan, flagNV) else powFin F fn neg m e

end Sys2Proof.Machine
end

