-- ==== Sys2Proof/Machine/Cvt.lean ====
section
/-! DEFINITION. Sys2Proof/Machine/Cvt.lean: conversions, block helpers, frozen transcendentals, filtering and the generator (R154 to R165). -/

namespace Sys2Proof.Machine

/-- A conversion's exact real from an integer (R155). -/
def intToExact (x : Int) : Exact := intExact x 0

/-- F2I's integer type: width by MOD[4:3] (R155). -/
def f2iWidth (rc : BitVec 8) : Nat := if rc.toNat / 8 % 4 = 0 then 32 else if rc.toNat / 8 % 4 = 1 then 16 else 8

/-- F2I (R69, R155). -/
def f2iRes (rc : BitVec 8) (uns : Bool) (dr : Nat) (a : Word) : Word × Flags :=
  let w := f2iWidth rc
  let lo : Int := if uns then 0 else -(2 ^ (w - 1) : Nat)
  let hi : Int := if uns then (2 ^ w : Nat) - 1 else (2 ^ (w - 1) : Nat) - 1
  let r := toIntE (modeOf rc) dr lo hi (f32Val a.toNat)
  (w32 r.1, r.2)

/-- The 8-bit format of MOD[3] (R156). -/
def fmt8 (rc : BitVec 8) : Fmt := if rc.getLsbD 3 then Fmt.e5m2 else Fmt.e4m3

/-- Widening to binary32, which is exact; a NaN gives the default NaN (R154, R156). -/
def widen (F : Fmt) (c : Nat) : Nat × Flags := f32Round (F.value c).exact

/-- QNT8 (R158). -/
def qnt8Res (mode dr : Nat) (a b : Word) : Word × Flags :=
  let E := b.toNat % 256
  if E = 255 then (0, 0)
  else
    match f32Val a.toNat with
    | .nan _ => (0, flagNV)
    | .inf neg => (w32 (if neg then -128 else 127), flagNV ||| flagNX)
    | .fin neg m e =>
      let x : XR := { neg, n := m, e := e + 127 - E, st := false }
      let k : Int := if m = 0 then 0 else roundInt mode dr x
      let q := clampInt (if neg then -k else k) (-128) 127
      let same := m = 0 || (!x.inexactAt 0 && k == (x.floorAt 0 : Int) && q == (if neg then -k else k))
      (w32 q, if same then 0 else flagNX)

/-- QNT8.err (R158). -/
def qnt8ErrRes (a b : Word) : Word :=
  let E := b.toNat % 256
  if E = 255 then 0
  else
    match f32Val a.toNat with
    | .fin neg m e =>
      let q := sextOf (b.toNat / 256) 8
      let (y, ex) := finSum neg m (e + 127 - E) (0 < q) q.natAbs 0
      BitVec.ofNat 32 (deliver Fmt.b32 2 false 0 (intExact (y.natAbs : Int) ex)).1
    | _ => 0x7F800000

/-- DQ8 (R75, R159). -/
def dq8Res (rc : BitVec 8) (a b : Word) : Nat × Flags :=
  let E := b.toNat % 256
  if E = 255 then (Fmt.b32.nan, 0)
  else f32Round (intExact (planeRead (if rc = 0 then 8 else rc.toNat) (sextOf (elem 8 a 0) 8)) ((E : Int) - 127))

/-- FXPN (R160). -/
def fxpnRes (a : Word) : Word × Flags :=
  match f32Val a.toNat with
  | .nan sg => (0x7FFFFFFF, if sg then flagNV else 0)
  | .inf _ => (0x7FFFFFFF, 0)
  | .fin _ m e => if m = 0 then (0x80000000, 0) else (w32 ((ilog2 m : Int) + e), 0)

/-- FMNT (R160). -/
def fmntRes (a : Word) : Nat × Flags :=
  match f32Val a.toNat with
  | .nan sg => (Fmt.b32.nan, if sg then flagNV else 0)
  | .inf _ => (a.toNat, 0)
  | .fin neg m _ => if m = 0 then (a.toNat, 0) else f32Round (intExact (if neg then -(m : Int) else m) (-(ilog2 m : Int)))

/-- ALRND (R161). -/
def alrndRes (al8 : Bool) (a b : Word) : Word :=
  let p := if al8 then al8Val (a.toNat % 256) else al16Val (a.toNat % 65536)
  let q : Bound := match f32Val b.toNat with
    | .fin _ m e => .val m e
    | _ => .unb
  BitVec.ofNat 32 (if al8 then (p.add q).al8 else (p.add q).al16)

/-- A frozen transcendental (R81 to R84, R162). -/
def transcWord (s : State) (o : F3) (fn : TFn) : Out :=
  alu1 s o (f32h16 o.x) fun a =>
    if o.x then effFlag o.rd (transc fn Fmt.b16 (Fmt.b16.value (elem 16 a 0)))
    else effFlag o.rd (transc fn Fmt.b32 (f32Val a.toNat))

/-- The destination format of FILT and FILTL (R163). -/
def filtFmt (x : Bool) : Fmt := if x then Fmt.b16 else Fmt.b32

/-- F2F (R154). -/
def execF2f (o : F3) (s : State) : Out :=
  aluWord s [o.ra, o.rb] fun s r =>
    let F := fmt16 (o.rc.getLsbD 3)
    let a := s.src r .f32 o.ra o.ea
    let b := s.src r .f32 o.rb o.eb
    effHalves o.rd (isSR (modeOf o.rc)) (s.lane r).gen fun g k =>
      rounded F (modeOf o.rc) o.x g (f32Val (if k = 0 then a else b).toNat).exact

/-- F2I (R155). -/
def execF2i (o : F3) (s : State) : Out :=
  aluWord s [o.ra] fun s r =>
    let (g, dr) := drawIf (modeOf o.rc) (s.lane r).gen
    let v := f2iRes o.rc o.x dr (s.src r .f32 o.ra o.ea)
    { regs := [(o.rd.toNat, v.1)], flags := v.2, gen := if isSR (modeOf o.rc) then some g else none }

/-- I2F (R155). -/
def execI2f (o : F3) (s : State) : Out :=
  aluWord s [o.ra] fun s r =>
    let x := if o.rc.getLsbD 3 then intOf o.x (s.src64 r o.ra) else intOf o.x (s.src r .i32 o.ra o.ea)
    effRound o.rd (modeOf o.rc) false (s.lane r).gen (intToExact x)

/-- F2F8 (R156). -/
def execF2f8 (o : F3) (s : State) : Out :=
  aluWord s [o.ra, o.rb] fun s r =>
    let F := fmt8 o.rc
    let (x, g) := rounded F (modeOf o.rc) o.x (s.lane r).gen (f32Val (s.src r .f32 o.ra o.ea).toNat).exact
    let (y, g) := rounded F (modeOf o.rc) o.x g (f32Val (s.src r .f32 o.rb o.eb).toNat).exact
    { regs := [(o.rd.toNat, BitVec.ofNat 32 ((x.1 + 256 * y.1) * (if o.rc.getLsbD 4 then 65536 else 1)))],
      flags := x.2 ||| y.2, gen := if isSR (modeOf o.rc) then some g else none }

/-- F8F (R156). -/
def execF8f (o : F3) (s : State) : Out :=
  alu1 s o .i8 fun a => { effFlag o.rd (widen (fmt8 o.rc) (elem 8 a 0)) with flags := 0 }

/-- H2F (R154). -/
def execH2f (o : F3) (s : State) : Out :=
  alu1 s o (f16 o.x) fun a => effFlag o.rd (widen (fmt16 o.x) (elem 16 a 0))

/-- BSCALE (R157). -/
def execBscale (o : F3) (s : State) : Out :=
  alu2 s o .f32 .i32 fun a b => effReg o.rd (BitVec.ofNat 32 (bscaleStep (b.toNat % 256) (f32Val a.toNat)))

/-- QNT8 (R158). -/
def execQnt8 (o : F3) (s : State) : Out :=
  aluWord s [o.ra, o.rb] fun s r =>
    let (g, dr) := drawIf (modeOf o.rc) (s.lane r).gen
    let v := qnt8Res (modeOf o.rc) dr (s.src r .f32 o.ra o.ea) (s.src r .i32 o.rb o.eb)
    { regs := [(o.rd.toNat, v.1)], flags := v.2, gen := if isSR (modeOf o.rc) then some g else none }

/-- QNT8_ERR (R158). -/
def execQnt8Err (o : F3) (s : State) : Out :=
  alu2 s o .f32 .i32 fun a b => effReg o.rd (qnt8ErrRes a b)

/-- DQ8 (R159). -/
def execDq8 (o : F3) (s : State) : Out :=
  alu2 s o .i8 .i32 fun a b => effFlag o.rd (dq8Res o.rc a b)

/-- FXPN (R160). -/
def execFxpn (o : F3) (s : State) : Out :=
  alu1 s o .f32 fun a => { regs := [(o.rd.toNat, (fxpnRes a).1)], flags := (fxpnRes a).2 }

/-- FMNT (R160). -/
def execFmnt (o : F3) (s : State) : Out :=
  alu1 s o .f32 fun a => effFlag o.rd (fmntRes a)

/-- EXP2 (R162). -/
def execExp2 (o : F3) (s : State) : Out :=
  transcWord s o .exp2

/-- LOG2 (R162). -/
def execLog2 (o : F3) (s : State) : Out :=
  transcWord s o .log2

/-- RCP (R162). -/
def execRcp (o : F3) (s : State) : Out :=
  transcWord s o .rcp

/-- RSQRT (R162). -/
def execRsqrt (o : F3) (s : State) : Out :=
  transcWord s o .rsqrt

/-- SQRT (R162). -/
def execSqrt (o : F3) (s : State) : Out :=
  transcWord s o .sqrt

/-- SIN (R162). -/
def execSin (o : F3) (s : State) : Out :=
  transcWord s o .sin

/-- COS (R162). -/
def execCos (o : F3) (s : State) : Out :=
  transcWord s o .cos

/-- FILT (R86, R163). -/
def execFilt (o : F3) (s : State) : Out :=
  aluWord s [o.rb, o.rc] fun s r =>
    let t := fun k => ((s.lane r).gr (o.ra.toNat + k)).toNat
    effFlag o.rd (bilinear (filtFmt o.x) (t 0) (t 1) (t 2) (t 3) (s.src r .f32 o.rb o.eb).toNat (s.src r .f32 o.rc o.ec).toNat)

/-- FILTL (R87, R164). -/
def execFiltl (o : F3) (s : State) : Out :=
  alu3 s o .f32 .f32 .f32 fun a b c => effFlag o.rd (trilinear (filtFmt o.x) a.toNat b.toNat c.toNat)

/-- ALRND (R161). -/
def execAlrnd (o : F3) (s : State) : Out :=
  alu2 s o .i32 .f32 fun a b => effReg o.rd (alrndRes (o.rc.getLsbD 3) a b)

/-- SRGEN (R165): rd is read from the issuing word. -/
def execSrgen (s : State) : Out :=
  aluWord s [] fun s r =>
    let (g, d) := draw32 (s.lane r).gen
    { regs := [((s.word.extractLsb' 37 8).toNat, BitVec.ofNat 32 d)], gen := some g }


end Sys2Proof.Machine
end

