-- ==== Sys2Proof/Machine/Packets.lean ====
section
/-! DEFINITION. Sys2Proof/Machine/Packets.lean: packets (R503), the mailboxes of the dies (R502), and the packets that the hub
posts to EQ (R504, R508, R528). -/

namespace Sys2Proof.Machine

/-- Fields of a packet (R503). -/
def pktKind (p : List DWord) : Nat := bitsOf (p.getD 0 0).toNat 0 8
def pktSrc (p : List DWord) : Nat := bitsOf (p.getD 0 0).toNat 8 8
def pktDst (p : List DWord) : Nat := bitsOf (p.getD 0 0).toNat 16 8
def pktGid (p : List DWord) : Nat := bitsOf (p.getD 0 0).toNat 32 16
def pktLo (p : List DWord) : Nat := bitsOf (p.getD 1 0).toNat 0 32
def pktHi (p : List DWord) : Nat := bitsOf (p.getD 1 0).toNat 32 32
def pktLrec (p : List DWord) : DWord := p.getD 2 0
def pktNewend (p : List DWord) : Nat := bitsOf (p.getD 3 0).toNat 0 32
def pktDbase (p : List DWord) : Nat := bitsOf (p.getD 4 0).toNat 0 40
def pktDcnt (p : List DWord) : Nat := bitsOf (p.getD 4 0).toNat 40 24

/-- A packet from its fields; the others are zero. -/
def packet (kind src dst gid lo hi : Nat) (lrec : DWord) (dbase dcnt : Nat) : List DWord :=
  [BitVec.ofNat 64 (kind + src * 2 ^ 8 + dst * 2 ^ 16 + gid * 2 ^ 32), BitVec.ofNat 64 (lo + hi * 2 ^ 32), lrec, 0,
   BitVec.ofNat 64 (dbase + dcnt * 2 ^ 40), 0, 0, 0]

/-- SRC as the device writes it (R508, R509). -/
def withSrc (p : List DWord) (src : Nat) : List DWord :=
  match p with
  | [] => []
  | d :: ds => BitVec.ofNat 64 (d.toNat / 2 ^ 16 * 2 ^ 16 + src * 2 ^ 8 + d.toNat % 2 ^ 8) :: ds

/-- The bytes of a packet. -/
def packetBytes (p : List DWord) : List Byte := (List.range 8).flatMap fun k => leBytes 8 (p.getD k 0).toNat

/-- A packet from its 16 registers (R503). -/
def packetOfRegs (r : List Word) : List DWord := (List.range 8).map fun k => pair64 (r.getD (2 * k) 0) (r.getD (2 * k + 1) 0)

/-! ### Mailboxes of the dies -/

/-- A message is a packet. -/
def Msg.isPacket (m : Msg) : Bool :=
  match m with
  | .packet _ => true
  | _ => false

/-- Packets that the hub keeps for a die, or that stand on its link or in its mailbox. -/
def Die.mail (d : Die) : Nat := d.mailbox.length + d.hubBuf.length + (d.inbound.filter Msg.isPacket).length

/-- The hub and the mailbox have room for `n` packets to a die (R502). -/
def State.mailFits (s : State) (d n : Nat) : Bool := decide ((s.die d).mail + n ≤ 768)

/-- The hub has room for a packet to a die (R502). -/
def State.mailRoom (s : State) (d : Nat) : Bool := s.mailFits d 1

/-- A packet goes down the link to the mailbox of a die, in hub order (R500, R502). -/
def State.mailPut (s : State) (d : Nat) (p : List DWord) : State := s.linkPut d (.packet p)

/-- The head packet of a mailbox is taken (R502, R507). -/
def State.mailTake (s : State) (d : Nat) : State × Option (List DWord) :=
  match (s.die d).mailbox with
  | [] => (s, none)
  | p :: ps => (s.modDie d fun x => { x with mailbox := ps }.refillMail, some p)

/-! ### EQ -/

/-- Packets that wait for EQ stand in die order (R528). -/
def insertPacket (p : List DWord) : List (List DWord) → List (List DWord)
  | [] => [p]
  | q :: qs => if pktSrc p < pktSrc q then p :: q :: qs else q :: insertPacket p qs

/-- A packet for the hub mailbox waits in the hub. -/
def State.eqAdd (s : State) (p : List DWord) : State := s.modHub fun h => { h with eqWait := insertPacket p h.eqWait }

/-- Waiting packets enter EQ while it has room, each performed at system scope before EQHEAD advances (R528); a slot outside
the physical map is a hole (R524). -/
def eqFlushGo : Nat → State → Out
  | 0, s => .next s
  | n + 1, s =>
    match s.hub.eqWait with
    | [] => .next s
    | p :: ps =>
      if !s.hub.eq.room then .next s
      else
        let pa := s.hub.eq.base.toNat + 64 * (s.hub.eq.head.toNat % 2 ^ 32)
        if Config.physTop < pa + 64 then .fault .physicalHole
        else eqFlushGo n ((s.agentWrite pa (packetBytes p)).modHub fun h => { h with eqWait := ps, eq := h.eq.step })

def State.eqFlush (s : State) : Out := eqFlushGo s.hub.eqWait.length s

end Sys2Proof.Machine
end

