-- ==== Sys2Proof/Machine/MemI.lean ====
section
/-! DEFINITION. Sys2Proof/Machine/MemI.lean: plain memory words (R133 to R139) and the events that finish them: results that
return, stores that are performed, walks that complete (R428) and lines that the caches give up (R238, R473). -/

namespace Sys2Proof.Machine

/-- Reads of the granted lanes: register results, and the lanes whose read met an uncorrectable error (R430); a helper lane
takes zero there (R139). -/
def State.loadPart (s : State) (via : Via) (go : List (Ask × Target)) (rd : Nat) (sx : Bool) :
    State × List (Ref × RegRes) × List (Ref × DWord) :=
  go.foldl (fun p x =>
    let r := x.1.r
    match (p.1.lintAccess r x.2 x.1.n false x.1.atomic).laneRead r x.2 x.1.n via with
    | (s, some b) => (s, p.2.1 ++ laneRegs r (loadRegs rd x.1.n sx b), p.2.2)
    | (s, none) =>
      if (p.1.lane r).isHelper then (s, p.2.1 ++ laneRegs r (loadRegs rd x.1.n sx []), p.2.2)
      else (s, p.2.1, p.2.2 ++ [(r, x.1.va)])) (s, [], [])

/-- Zero results of helper lanes that met a cause (R139). -/
def zeroRegs (zs : List Ask) (rd : Nat) (sx : Bool) : List (Ref × RegRes) :=
  zs.flatMap fun a => laneRegs a.r (loadRegs rd a.n sx [])

/-- Level at which a load reads (R136). -/
def viaOf (cc : BitVec 2) : Via := if cc == 2 then .bypass else if cc == 1 then .strm else .l1

/-- Lanes that did not park. -/
def Gate.counted (g : Gate) (act : List Ref) : List Ref := act.filter fun r => !g.parked.contains r

/-- LD (R135, R136, R139). -/
def execLd (o : FM) (s : State) : Out :=
  whenIssued s fun s =>
    if s.counterFull .ld then s.hold
    else
      let act := s.active
      let g := s.gate (fmAsks s act o needR false)
      if g.hold then g.s
      else
        let (s, res, eccs) := g.s.loadPart (viaOf o.cc) g.go o.rd.toNat o.sx
        let s := s.postOps (wavesOf (g.counted act)) .ld true (res ++ zeroRegs g.zero o.rd.toNat o.sx) eccs fun _ => .plain
        s.finish act (g.go.flatMap fun x => s.watch x.1.r x.1.va x.1.n true false)

/-- Bytes that a lane stores (R135): registers from `rd`, lowest address first. -/
def State.storeBytes (s : State) (r : Ref) (rd : BitVec 8) (n : Nat) : List Byte :=
  if n ≤ 4 then leBytes n (s.src r .i32 rd 0).toNat
  else (List.range (n / 4)).flatMap fun k => leBytes 4 (s.rawReg r (rd.toNat + k)).toNat

/-- Values in ascending lane order. -/
def laneAsc {α : Type} (xs : List (Ref × α)) : List (Ref × α) :=
  (List.range 32).flatMap fun k => xs.filter fun x => x.1.lane == k

/-- ST (R135, R136, R139). -/
def execSt (o : FM) (s : State) : Out :=
  whenIssued s fun s =>
    if s.counterFull .st then s.hold
    else
      let act := s.active
      let vals := act.map fun r => (r, s.storeBytes r o.rd (2 ^ o.sz.toNat))
      let g := s.gate (fmAsks s (act.filter fun r => !(s.lane r).isHelper) o needW false)
      if g.hold then g.s
      else
        let s := act.foldl (fun s r => s.latchRead r o.rd.toNat) g.s
        let s := g.go.foldl (fun s x => s.lintAccess x.1.r x.2 x.1.n true false) s
        let accs := laneAsc (g.go.map fun x => (x.1.r,
          ({ lane := x.1.r.lane, va := x.1.va, tgt := x.2, cc := o.cc.toNat,
             bytes := ((vals.find? fun v => v.1 == x.1.r).map (·.2)).getD [] } : StAcc)))
        let s := s.postOps (wavesOf (g.counted act)) .st false [] [] fun w =>
          .store ((accs.filter fun x => x.1.team == w.1 && x.1.wave == w.2).map (·.2))
        s.finish act (g.go.flatMap fun x => s.watch x.1.r x.1.va x.1.n false true)

/-- A count that retires at once: nothing was performed for the wave (R137). -/
def State.emptyOps (s : State) (ws : List (Nat × Nat)) (c : Ctr) : State :=
  ws.foldl (fun s w => (s.addOp w.1 w.2 c false [] [] [] .plain).opDone s.nextOp) s

/-- Of the results that entries of one wave bring to the wave's registers, those of the lowest lane stay (R21, R190 item 2); lane 32
stands for the wave. -/
def waveRegs (res : List (Ref × RegRes)) : List (Ref × RegRes) :=
  (res.filter fun x => !(res.any fun y => y.1.team == x.1.team && y.1.wave == x.1.wave && decide (y.1.lane < x.1.lane))).map
    fun x => (x.1, { x.2 with lane := 32 })

/-- LDW (R137): one access per entry; its result is the wave's. -/
def execLdw (o : FM) (s : State) : Out :=
  whenIssued s fun s =>
    if s.counterFull .ld then s.hold
    else
      let asks := fun (s : State) =>
        (fmAsks s (s.bundle.members.filterMap s.performer) o needR false).map fun a => { a with once := true }
      let s := s.tokenGate (asks s)
      let act := s.active
      let lead := s.bundle.members.filterMap s.performer
      let g := s.gate (asks s)
      if g.hold then g.s
      else
        let (s, res, eccs) := g.s.loadPart (viaOf o.cc) g.go o.rd.toNat o.sx
        let ws := wavesOf (g.counted act)
        let busy := wavesOf (lead.filter fun r => !g.parked.contains r)
        let s := s.postOps (ws.filter busy.contains) .ld true (waveRegs res) eccs fun _ => .plain
        let s := s.emptyOps (ws.filter fun w => !busy.contains w) .ld
        s.finish act (g.go.flatMap fun x => s.watch x.1.r x.1.va x.1.n true false)

/-- PREF (R138): the line is brought in; an address that fails any check does nothing. -/
def execPref (o : FM) (s : State) : Out :=
  whenIssued s fun s =>
    let act := s.active
    let s := (act.filter fun r => !(s.lane r).isHelper).foldl (fun s r =>
      match s.resolve r.team (s.address r o) 1 needR true with
      | .ok (.phys pa) =>
        ((s.noteAccess r.team (s.address r o) 1 needR).physRead (s.team r.team).die (s.team r.team).core (pa / 128 * 128) 128
          (viaOf o.cc)).1
      | _ => s) s
    s.finish act []

/-- The check of WBACK (R138, R231): where the line is, a missing translation, or a cause that it raises. -/
def State.wbackCheck (s : State) (tid : Nat) (a : DWord) : Res :=
  if winCluster ≤ a.toNat ∧ a.toNat < winEnd then .bad .window false
  else
    match s.resolve tid a 1 needR false with
    | .bad .perm w =>
      match s.page tid a.toNat false with
      | some (.leaf ppn _) => .ok (s.physTarget (s.gridOf tid).priv (ppn * 65536 + a.toNat % 65536))
      | _ => .bad .perm w
    | x => x

/-- WBACK of one lane's line. -/
def State.wbackLine (s : State) (r : Ref) (t : Target) (scope : Nat) : State :=
  match t with
  | .phys pa =>
    let line := pa / 128
    let s := s.drainOwn r (.phys (128 * line)) 128
    let die := (s.team r.team).die
    let s := s.modMem fun m => m.wbackL1 die (s.team r.team).core line
    if 5 ≤ scope then s.wroteBack (s.mem.flushL2 die line) else s
  | _ => s

/-- WBACK (R138). -/
def execWback (o : FM) (s : State) : Out :=
  whenIssued s fun s =>
    if s.counterFull .st then s.hold
    else
      let act := s.active
      let res := (act.filter fun r => !(s.lane r).isHelper).map fun r => (r, s.wbackCheck r.team (s.address r o))
      let misses := res.filterMap fun p => match p.2 with
        | .miss g v => some (g, v)
        | _ => none
      let clash := res.any fun p => match p.2 with
        | .ok (.phys pa) => s.tileClash p.1 (.phys (pa / 128 * 128)) 128 false
        | _ => false
      if !misses.isEmpty then (s.modIssue fun b => { b with walks := misses.eraseDups }).hold
      else if clash then s.hold
      else
        let faults : List LaneFault := res.filterMap fun p => match p.2 with
          | .bad .perm _ => none
          | .bad c w => some { r := p.1, cause := c, addr := s.address p.1 o, walk := w }
          | _ => none
        let s := res.foldl (fun s p => match p.2 with
          | .ok t => s.wbackLine p.1 t o.scope.toNat
          | _ => s) s
        let s := s.faultLanes faults
        let s := s.postOps (wavesOf act) .st false [] [] fun _ => .store []
        s.finish act []

/-! ### Events -/

/-- Results of an operation are written: descending lanes, so that a w register keeps the lowest lane's; a lane that has
ended takes none (R131); lane 32 stands for the wave (R137). -/
def State.writeResults (s : State) (op : Op) : State :=
  let s := ((List.range 33).flatMap fun k => op.regs.filter fun x => x.lane == 32 - k).foldl (fun s x =>
    let r : Ref := ⟨op.team, op.wave, x.lane⟩
    if x.lane < 32 && (s.lane r).ended then s else s.setReg r x.sel x.val) s
  let s := op.preds.foldl (fun s x =>
    let r : Ref := ⟨op.team, op.wave, x.lane⟩
    if (s.lane r).ended then s else s.setP r x.p x.val) s
  op.eccs.foldl (fun s x => s.modLane ⟨op.team, op.wave, x.1⟩ fun l =>
    if l.ecc.isNone && !l.isHelper then
      { l with ecc := some { word := { clause := op.clause, idx := op.idx, addr := x.2 }, ctr := op.ctr, seq := op.seq } }
    else l) s

/-- The operation that an event names, while it is not finished. -/
def State.liveOp (s : State) (id : Nat) : Option Op := s.ops.find? fun o => o.id == id && !o.done

/-- A lane's part of a destination; lane 32 stands for the wave, whose w registers every lane shares. -/
def dstOf (lane sel : Nat) : Nat × Nat := (if 128 ≤ sel then 32 else lane, sel)

/-- Registers that an operation still has to write. -/
def Op.dsts (o : Op) : List (Nat × Nat) :=
  (o.regs.map fun x => dstOf x.lane x.sel) ++
    (match o.body with
     | .rays rs => (if o.writes then rs.filter fun r => !r.done else []).flatMap fun r => (List.range 8).map fun k => dstOf r.lane (r.rd + k)
     | .mangle j =>
       (match j.act with
        | .get rd ls => ls.map fun l => dstOf l rd
        | _ => [])
     | _ => [])

/-- An earlier operation of the same wave and class has still to write a destination of this one, which therefore waits: such
results return in issue order (R46). -/
def State.resultWaits (s : State) (op : Op) : Bool :=
  s.ops.any fun o => decide (o.id < op.id) && o.team == op.team && o.wave == op.wave && o.ctr == op.ctr && !o.done &&
    (o.dsts.any op.dsts.contains || o.preds.any fun p => op.preds.any fun q => p.lane == q.lane && p.p == q.p)

/-- An earlier operation of the same wave and class has still to leave its counter, so that this one's count cannot retire now
(R31). -/
def State.countWaits (s : State) (op : Op) : Bool :=
  s.ops.any fun o => decide (o.id < op.id) && o.team == op.team && o.wave == op.wave && o.ctr == op.ctr

/-- A transit charge whose SPAWN has retired (R516). -/
def Transit.land (x : Transit) (die gid lo hi : Nat) : Transit :=
  if x.die == die && x.gid == gid && x.lo == lo && x.hi == hi && !x.landed then { x with landed := true } else x

/-- The charges of a range that a SPAWN of a RANGE packet has put into its queue may end (R516). -/
def State.landCharges (s : State) (die : Nat) (p : List DWord) : State :=
  if pktKind p = 1 then s.modHub fun h => { h with charges := h.charges.map fun x => x.land die (pktGid p) (pktLo p) (pktHi p) }
  else s

/-- A range stands in a die's queue, whose dispatch of the grid goes on (R510, R512 case 3). -/
def State.installRange (s : State) (die : Nat) (r : Option Range) : State :=
  match r with
  | none => s
  | some r =>
    (s.modDie die fun x => { x with ranges := x.ranges ++ [r] }).modGrid r.grid fun g =>
      { g with exhausted := g.exhausted.filter fun x => x != die }

/-- LOAD_RESULT_RETURN (R43, R134): the range of a SPAWN stands in its queue as the count retires (R510, R522). -/
def execLoadResultReturn (s : State) : Out :=
  .next (match s.liveOp s.args.a with
    | some op =>
      if s.resultWaits op then s
      else match op.body with
      | .plain => (s.writeResults op).opDone op.id
      | .spawn p r =>
        if s.countWaits op then s
        else (((s.writeResults op).installRange (s.team op.team).die r).landCharges (s.team op.team).die (packetOfRegs p)).opDone op.id
      | _ => s
    | none => s)

/-- A packet for the hub mailbox that another die, or an earlier word, posts first (R508, R528). -/
def State.packetBefore (s : State) (op : Op) : Bool :=
  let die := fun (o : Op) => (s.team o.team).die
  s.ops.any fun o => !o.done &&
    (match o.body with
     | .packet none _ => decide (die o < die op) || (die o == die op && decide (o.id < op.id))
     | _ => false)

/-- A packet of MBSEND is accepted by the hub mailbox, or waits (R508). -/
def State.sendPacket (s : State) (op : Op) (p : List DWord) : Out :=
  if s.packetBefore op || !s.hub.eqWait.isEmpty || !s.hub.eq.room then .next s
  else ((s.eqAdd p).opDone op.id).eqFlush

/-- STORE_PERFORMED (R134): the stores that must come before it are performed first (R45). -/
def execStorePerformed (s : State) : Out :=
  match s.liveOp s.args.a with
  | none => .next s
  | some op =>
    match op.body with
    | .store _ => .next ((s.drainWhere fun o => o.id == op.id).opDone op.id)
    | .dump .. => .next (if s.resultWaits op then s else (s.writeResults op).opDone op.id)
    | .packet none p => s.sendPacket op p
    | _ => .next s

/-- CACHE_EVICTION (R238, R473): a line of a core's L1, or under `flag` of a die's L2. -/
def execCacheEviction (s : State) : Out :=
  .next (if s.args.flag then (s.evictL2 s.args.a s.args.c).evictLint s.args.a s.args.c
    else s.modMem fun m => m.evictL1 s.args.a s.args.b s.args.c)

/-- A translation enters a core's TLB, the oldest leaving a full one (R434). -/
def Die.tlbFill (d : Die) (core : Nat) (e : Tlbe) : Die :=
  let mine := d.tlbs.filter fun x => x.1 == core && !(x.2.grid == e.grid && x.2.vpn == e.vpn)
  let others := d.tlbs.filter fun x => x.1 != core
  { d with tlbs := others ++ mine.drop (mine.length + 1 - Config.tlbEntries) ++ [(core, e)] }

/-- PAGE_WALK_COMPLETE (R245, R428, R435): the translations that a bundle's word waits for; what the hub has sent down the die's link
before its answers arrives first (R500). -/
def execPageWalkComplete (s : State) : Out :=
  .next (match s.bundles.find? fun b => b.id == s.args.a with
    | none => s
    | some b =>
      b.walks.foldl (fun s x =>
        let root := (s.grids.getD x.1 Grid.blank).root
        let w := s.walk root (x.2 * 65536 % 2 ^ 52)
        let s := (s.modDie b.die Die.takeIn).noteWalk root (x.2 * 65536 % 2 ^ 52)
        let s := match w with
          | .leaf ppn rights => s.modDie b.die fun d => d.tlbFill b.core { grid := x.1, vpn := x.2, ppn, rights }
          | .none => s
        { s with bundles := s.bundles.map fun y =>
          if y.id == b.id then { y with walks := y.walks.erase x, walked := (x.1, x.2, w) :: y.walked } else y }) s)

end Sys2Proof.Machine
end

