-- ==== Sys2Proof/Machine/Syn.lean ====
section
/-! DEFINITION. Sys2Proof/Machine/Syn.lean: atomics (R278 to R286), fences (R287, R288), the remote acquire (R289) and the
monitor wait (R290 to R293). -/

namespace Sys2Proof.Machine

/-- An order field with an acquire part, and with a release part (R94, R249). -/
def orderAcq (cc : BitVec 2) : Bool := cc.getLsbD 0
def orderRel (cc : BitVec 2) : Bool := cc.getLsbD 1

/-- An acquire by the word's core (R253). -/
def State.acquireWord (s : State) (scope : Nat) : State :=
  match s.bundle.members with
  | m :: _ => s.acquire m.team scope
  | [] => s

/-- The read of an atomic at its point of performance (R282): none for an uncorrectable code word; of a hub register as a load of
its own (R527; log 30). -/
def State.atomicRead (s : State) (r : Ref) (t : Target) (n : Nat) : State × Option (List Byte) :=
  s.laneRead r t n .hub

/-- The write of an atomic at its point of performance; a refusal is recorded (R282, R433). One to a hub register takes effect behind
the reads of the word's other lanes, as a store of its own (R527; log 30). -/
def State.atomicWrite (s : State) (r : Ref) (va : DWord) (t : Target) (b : List Byte) (scope : Nat) : State :=
  let (s, refused) := s.writeTarget (s.writer r.team) t b (decide (3 ≤ scope))
  if refused then s.recordRperm r.team r.wave { clause := s.bundle.clause, idx := s.bundle.idx, addr := va, lane := r.lane } else s

/-- One lane's atomic (R280): `f` gives the new value from the old one, or none for no write. -/
def State.atomicLane (s : State) (o : FM) (r : Ref) (va : DWord) (t : Target) (n : Nat) (f : Nat → Option Nat) :
    State × Option (List Byte) :=
  match s.atomicRead r t n with
  | (s, none) => (s, none)
  | (s, some b) =>
    let scope := o.scope.toNat
    let new := f (leNat b)
    let s := if s.lintScope r va scope then s.lintAtomicRead r t (orderAcq o.cc) else s
    let s := s.lintAccess r t n new.isSome true
    match new with
    | none => (s, some b)
    | some v =>
      let s := s.atomicWrite r va t (leBytes n v) scope
      ((if s.lintScope r va scope then s.lintAtomicWrite r t (orderRel o.cc) else s), some b)

/-- A word that performs an atomic for each lane (R280, R281, R284); `f` gives a lane's new value from the old one. -/
def atomicWord (s : State) (o : FM) (f : State → Ref → Nat → Option Nat) : Out :=
  whenIssued s fun s =>
    if s.counterFull .ld || (orderRel o.cc && s.tileStores s.active) then s.hold
    else
      let asks := fun (s : State) => fmAsks s (s.active.filter fun r => !(s.lane r).isHelper) o needRW true
      let s := if orderRel o.cc then (s.tokenGate (asks s)).releaseWord o.scope.toNat else s
      let act := s.active
      let helpers := act.filter fun r => (s.lane r).isHelper
      let n := 2 ^ o.sz.toNat
      let vals := act.map fun r => (r, f s r)
      let g := s.gate (asks s)
      if g.hold then g.s
      else
        let (s, res, eccs) := g.go.foldl (fun (p : State × List (Ref × RegRes) × List (Ref × DWord)) x =>
          let r := x.1.r
          let op := ((vals.find? fun v => v.1 == r).map (·.2)).getD fun _ => none
          match p.1.atomicLane o r x.1.va x.2 n op with
          | (s, some b) => (s, p.2.1 ++ laneRegs r (loadRegs o.rd.toNat n false b), p.2.2)
          | (s, none) => (s, p.2.1, p.2.2 ++ [(r, x.1.va)])) (g.s, [], [])
        let zeros := helpers.flatMap fun r => laneRegs r (loadRegs o.rd.toNat n false [])
        let s := if orderAcq o.cc then s.acquireWord o.scope.toNat else s
        let s := s.postOps (wavesOf (g.counted act)) .ld true (res ++ zeros) eccs fun _ => .plain
        s.finish act (g.go.flatMap fun x => s.watch x.1.r x.1.va n true true)

/-- The value operand of an atomic (R279). -/
def State.atomicVal (s : State) (r : Ref) (o : FM) : Nat :=
  match o.sz.toNat with
  | 1 => (s.rawReg r o.rd.toNat).toNat % 2 ^ 16
  | 2 => (s.rawReg r o.rd.toNat).toNat
  | _ => (s.rawPair r o.rd.toNat).toNat

/-- Width of the operand in bits. -/
def atomicBits (o : FM) : Nat := 8 * 2 ^ o.sz.toNat

/-- An atomic whose new value is computed from the old value and the operand (R278). -/
def atomicOp (o : FM) (s : State) (f : Nat → Nat → Nat) : Out :=
  atomicWord s o fun s r => let v := s.atomicVal r o; fun old => some (f old v)

/-- ATOM.ADD (R278, R280). -/
def execAtomAdd (o : FM) (s : State) : Out := atomicOp o s fun old v => (old + v) % 2 ^ atomicBits o

/-- ATOM.MIN (R278, R280). -/
def execAtomMin (o : FM) (s : State) : Out :=
  atomicOp o s fun old v => if sextOf v (atomicBits o) < sextOf old (atomicBits o) then v else old

/-- ATOM.MAX (R278, R280). -/
def execAtomMax (o : FM) (s : State) : Out :=
  atomicOp o s fun old v => if sextOf old (atomicBits o) < sextOf v (atomicBits o) then v else old

/-- ATOM.AND (R278, R280). -/
def execAtomAnd (o : FM) (s : State) : Out := atomicOp o s fun old v => old &&& v

/-- ATOM.OR (R278, R280). -/
def execAtomOr (o : FM) (s : State) : Out := atomicOp o s fun old v => old ||| v

/-- ATOM.XOR (R278, R280). -/
def execAtomXor (o : FM) (s : State) : Out := atomicOp o s fun old v => old ^^^ v

/-- ATOM.EXCH (R278, R280). -/
def execAtomExch (o : FM) (s : State) : Out := atomicOp o s fun _ v => v

/-- Format of a floating atomic: binary32 or binary16 (R278). -/
def atomicFmt (o : FM) : Fmt := if o.sz.toNat = 1 then Fmt.b16 else Fmt.b32

/-- ATOM.FADD (R278, R285). -/
def execAtomFadd (o : FM) (s : State) : Out :=
  atomicOp o s fun old v =>
    let F := atomicFmt o
    (deliver F 0 false 0 (addE 0 (F.value old) (F.value v))).1

/-- ATOM.FMIN (R278, R285). -/
def execAtomFmin (o : FM) (s : State) : Out := atomicOp o s fun old v => (minMaxNum (atomicFmt o) false old v).1

/-- ATOM.FMAX (R278, R285). -/
def execAtomFmax (o : FM) (s : State) : Out := atomicOp o s fun old v => (minMaxNum (atomicFmt o) true old v).1

/-- CAS (R279, R280): a failing compare writes nothing. -/
def execCas (o : FM) (s : State) : Out :=
  atomicWord s o fun s r =>
    let rd := o.rd.toNat
    let (c, n) := if o.sz.toNat = 2 then ((s.rawReg r rd).toNat, (s.rawReg r (rd + 1)).toNat)
      else ((s.rawPair r rd).toNat, (s.rawPair r (rd + 2)).toNat)
    fun old => if old = c then some n else none

/-- FENCE (R287, R288): order 0 is acquire-release (R250). -/
def execFence (o : FM) (s : State) : Out :=
  whenIssued s fun s =>
    let rel := o.cc == 0 || orderRel o.cc
    let acq := o.cc == 0 || orderAcq o.cc
    let scope := o.scope.toNat
    if rel && s.tileStores s.active then s.hold else
    let s := if rel then s.releaseWord scope else s.deliverRperm
    let act := s.active
    let own := act.filter fun r => !(s.lane r).isHelper
    if own.isEmpty then s.finish act []
    else
      let s := if acq then s.acquireWord scope else s
      let s := if 3 ≤ scope then ((own.map (·.team)).eraseDups).foldl (fun s t => s.lintFence t acq rel) s else s
      s.finish act []

/-- ACQ.REMOTE (R289): a read at the hub directory, then a device acquire; windows raise WINDOW, on a lane that may perform the
word (R460, R468). -/
def execAcqRemote (o : FM) (s : State) : Out :=
  whenIssued s fun s =>
    if s.counterFull .ld then s.hold
    else
      let n := 2 ^ o.sz.toNat
      let s := s.tokenGate (fmAsks s s.active o needR true)
      let act := s.active
      let inWin := fun (r : Ref) =>
        !(s.lane r).isHelper && decide (winCluster ≤ (s.address r o).toNat) && decide ((s.address r o).toNat < winEnd)
      let bad : List LaneFault := (act.filter inWin).map fun r =>
        { r, cause := if (s.address r o).toNat % n = 0 then .window else .misalign, addr := s.address r o }
      let g := s.gateWith (fmAsks s (act.filter fun r => !inWin r) o needR true) bad
      if g.hold then g.s
      else
        let own := g.go.filter fun x => !(s.lane x.1.r).isHelper
        let s := own.foldl (fun s x => if s.lintScope x.1.r x.1.va 5 then s.lintAtomicRead x.1.r x.2 true else s) g.s
        let (s, res, eccs) := s.loadPart .hub g.go o.rd.toNat false
        let s := if own.isEmpty then s else s.acquireWord 5
        let s := s.postOps (wavesOf (g.counted act)) .ld true (res ++ zeroRegs g.zero o.rd.toNat false) eccs fun _ => .plain
        s.finish act (g.go.flatMap fun x => s.watch x.1.r x.1.va n true false)

/-- A lane's monitor is armed: none has woken it. -/
def Lane.armed (l : Lane) : Bool := (l.mon.map fun m => !m.woken).getD false

/-- Monitors in use on a core (R292); one that has woken is free again. -/
def State.monitors (s : State) (die core : Nat) : Nat :=
  (s.teams.map fun t => if t.die == die && t.core == core && t.place == .resident then
    (t.waves.map fun w => (w.lanes.filter Lane.armed).length).sum else 0).sum

/-- What MWAIT's read decides for a lane. -/
inductive MwaitRes where
  /-- the value is written and the lane goes on -/
  | done (v : DWord)
  | parked (seen : DWord)
  | ecc
  deriving DecidableEq, Repr

/-- MWAIT for one lane (R291 to R293). A read that leads to a park acquires nothing. -/
def State.mwaitLane (s : State) (o : FM) (x : Ask × Target) : State × MwaitRes :=
  let r := x.1.r
  let l := s.lane r
  let rd := o.rd.toNat
  match (if l.isHelper then s.laneRead r x.2 x.1.n .l1 else s.atomicRead r x.2 x.1.n) with
  | (s, none) => (s, if l.isHelper then .done 0 else .ecc)
  | (s, some b) =>
    let v : DWord := BitVec.ofNat 64 (leNat b)
    let old : DWord := if o.sz.toNat = 3 then s.rawPair r rd else (s.rawReg r rd).setWidth 64
    let seen := (l.mon.map (·.seen)).getD old
    let woken := (l.mon.map (·.woken)).getD false
    if l.isHelper || woken || v != seen ||
        (l.mon.isNone && decide (Config.coreMonitors ≤ s.monitors (s.team r.team).die (s.team r.team).core)) then
      let s := if s.lintScope r x.1.va o.scope.toNat && !l.isHelper then s.lintAtomicRead r x.2 (orderAcq o.cc) else s
      ((s.lintAccess r x.2 x.1.n false true).modLane r fun l => { l with mon := none }, .done v)
    else
      let m : Monitor := { addr := x.1.va, seen, tgt := x.2, n := x.1.n, woken := false }
      let s := if s.lintScope r x.1.va o.scope.toNat then s.lintAtomicRead r x.2 false else s
      ((s.lintAccess r x.2 x.1.n false true).modLane r fun l => { l with mon := some m }, .parked seen)

/-- MWAIT (R290 to R293): the turn of a token holder ends at it, whether it parks or not, unless it faults (R462, R468). -/
def execMwait (o : FM) (s : State) : Out :=
  whenIssued s fun s =>
    let act := s.active
    let asks := fmAsks s act o needR true
    let bad := asks.filterMap fun a => match s.check a.r.team a.va a.n a.al a.need false with
      | .bad .. => some a.r
      | _ => none
    let g := s.gate asks
    if g.hold then g.s
    else
      let rd := o.rd.toNat
      let (s, out) := g.go.foldl (fun (p : State × List (Ref × MwaitRes)) x =>
        let (s, m) := p.1.mwaitLane o x
        (s, p.2 ++ [(x.1.r, m)])) (g.s, [])
      let dones := (out.filterMap fun x => match x.2 with
        | .done v => some (x.1, v)
        | _ => none) ++ g.zero.map fun a => (a.r, (0 : DWord))
      let parks := out.filterMap fun x => match x.2 with
        | .parked _ => some x.1
        | _ => none
      let eccs := g.go.filterMap fun x => if (out.find? fun y => y.1 == x.1.r).map (·.2) == some .ecc then
        some (eccFault x.1.r x.1.va) else none
      let s := (laneDesc dones).foldl (fun s x =>
        if o.sz.toNat = 3 then (s.setReg x.1 rd (lo32 x.2)).setReg x.1 (rd + 1) (hi32 x.2) else s.setReg x.1 rd (lo32 x.2)) s
      let s := if orderAcq o.cc && dones.any (fun x => !(s.lane x.1).isHelper) then s.acquireWord o.scope.toNat else s
      let s := s.parkLanes parks 2 (.monitor s.word) false
      let s := s.faultLanes eccs
      let watches := g.go.flatMap fun x => s.watch x.1.r x.1.va x.1.n true false
      (s.finish act watches).endTurn (act.filter fun r =>
        (g.parked.contains r || g.go.any fun x => x.1.r == r) && !(bad.contains r || eccs.any fun f => f.r == r))

/-- Lanes parked in an MWAIT whose monitors have woken make their final read and go on (R183, R291). -/
def State.passMonitor (s : State) (t w : Nat) (e : Entry) : State :=
  let woken := maskOf ((maskLanes e.mask).filter fun k => ((s.lane ⟨t, w, k⟩).mon.map Monitor.woken).getD false)
  match e.why with
  | .monitor word =>
    (match decodeWord word with
     | .ok (.mwait o) => if woken == 0 then s else s.reissue t w e woken word (execMwait o)
     | _ => s)
  | _ => s

/-- MWAIT_WAKE (R291, R292): the lanes of the event's entry wake. -/
def execMwaitWake (s : State) : Out :=
  let t := s.args.a
  let w := s.args.b
  .next (match (s.wave t w).entry s.args.c with
    | none => s
    | some e =>
      if e.park ≠ 2 || !s.mayGo t w e then s
      else
        ((maskLanes e.mask).foldl (fun s k => s.modLane ⟨t, w, k⟩ fun l =>
          { l with mon := l.mon.map fun m => { m with woken := true } }) s).passMonitor t w e)

end Sys2Proof.Machine
end

