-- ==== Sys2Proof/Machine/Shuttle.lean ====
section
/-! DEFINITION. Sys2Proof/Machine/Shuttle.lean: the copy engine (R310 to R325): layout records, the probe of a copy, its
pieces and their arrival, handles, presence bits, and WAITC. -/

namespace Sys2Proof.Machine

/-! ### Handles -/

def State.handle (s : State) (tid h : Nat) : Handle := (s.team tid).handles.getD h Handle.blank

def State.modHandle (s : State) (tid h : Nat) (f : Handle → Handle) : State :=
  s.modTeam tid fun t => { t with handles := t.handles.modify h f }

/-- Copies of a team into a handle are in flight. -/
def State.copying (s : State) (tid h : Nat) : Bool :=
  s.ops.any fun o => o.team == tid && !o.done &&
    match o.body with
    | .copies cs => cs.any fun c => c.hnd == some h && !c.pieces.isEmpty
    | _ => false

/-- The line, or the state of the handle, that a parked word waits for is there (R241, R321). -/
def State.freed (s : State) (tid : Nat) (y : Why) : Bool :=
  match y with
  | .presence k l => !(s.team k).absentLines.contains l
  | .handle h parks => !parks.contains (s.handle tid h).state
  | _ => false

/-- The entries of a team that takes picks again go on where that has come meanwhile. -/
def State.goOnFreed (s : State) (tid : Nat) : State := s.goOnWhere tid (s.freed tid)

/-- Of the entries that wait for a handle, those that its state no longer parks are judged again (R321). -/
def State.wakeHandle (s : State) (tid h : Nat) : State :=
  s.goOnWhere tid fun w => match w with
    | .handle k _ => k == h && s.freed tid w
    | _ => false

/-- A filling handle becomes full (R321). -/
def State.settleHandle (s : State) (tid h : Nat) : State :=
  let x := s.handle tid h
  if x.state = 1 ∧ (x.pend = 0 ∨ x.full = true) ∧ !s.copying tid h then
    (s.modHandle tid h fun x => { x with state := 2, full := false, pend := if x.full then 0 else x.pend }).wakeHandle tid h
  else s

/-- An MX still has B bytes of a handle to read: one that MXOUT counts, or one that has passed its word and not started
(R272, R343). -/
def State.mxHolds (s : State) (tid h : Nat) : Bool :=
  (s.handle tid h).mxout != 0 || s.ops.any fun o => o.team == tid && !o.done &&
    match o.body with
    | .mx j => j.handle == h && !j.started
    | _ => false

/-- Draining ends when no MX has B bytes left to read (R272, R321). -/
def State.drainHandle (s : State) (tid h : Nat) : State :=
  let x := s.handle tid h
  if x.state = 3 ∧ !s.mxHolds tid h then
    let s := s.modHandle tid h fun x => if x.next then Handle.blank else { x with state := 1, pend := x.refill, plf := 8 }
    (s.wakeHandle tid h).settleHandle tid h
  else s

/-- Granules of a core in use (R320). -/
def State.granules (s : State) (die core : Nat) : Nat :=
  (s.teams.map fun t => if t.die == die && t.core == core && t.place == .resident then
    (t.handles.map (·.gcnt)).sum else 0).sum

/-- A format with blocks of 64 elements (R312). -/
def blockedFmt (fmt : Nat) : Bool := fmt == 3 || fmt == 4

/-- Bytes of a handle's data area (R320). -/
def Handle.area (x : Handle) : Nat := (if blockedFmt x.fmt then x.scoff else x.gcnt) * 4096

/-- The image of OBSTATE.read (R320). -/
def Handle.image (x : Handle) : Word :=
  BitVec.ofNat 32 (x.state + (if x.next then 4 else 0) + x.fmt * 2 ^ 3 + (if x.baxis then 2 ^ 6 else 0) + x.gcnt * 2 ^ 7 +
    x.scoff * 2 ^ 14 + x.plf * 2 ^ 20 + min x.mxout 255 * 2 ^ 24)

/-! ### The layout record -/

/-- A layout record (R312). -/
structure Layout where
  data : Nat
  scales : Nat
  bounds : Nat
  dim : Nat × Nat × Nat
  str1 : Nat
  str2 : Nat
  baxis : Nat
  fmt : Nat
  deriving DecidableEq, Repr

/-- Cell size CS of a format (R313). -/
def cellSize (fmt : Nat) : Nat :=
  match fmt with
  | 1 => 2
  | 2 => 4
  | 3 => 64
  | _ => 1

def get3 (v : Nat × Nat × Nat) (a : Nat) : Nat :=
  match a with
  | 0 => v.1
  | 1 => v.2.1
  | _ => v.2.2

/-- The record of 64 bytes, or none when R313 makes it LAYOUT. -/
def layoutOf (b : List Byte) : Option Layout :=
  let f := recU64 b 56
  let fmt := f % 8
  let bax := f / 16 % 4
  let x : Layout := { data := recU64 b 0, scales := recU64 b 8, bounds := recU64 b 16,
                      dim := (recU32 b 24, recU32 b 28, recU32 b 32), str1 := recU64 b 40, str2 := recU64 b 48, baxis := bax, fmt }
  if f / 64 ≠ 0 ∨ f / 8 % 2 ≠ 0 ∨ 4 < fmt ∨ bax = 3 ∨ recU32 b 36 ≠ 0 then none
  else if x.dim.1 = 0 ∨ x.dim.2.1 = 0 ∨ x.dim.2.2 = 0 then none
  else if fmt < 3 ∧ (bax ≠ 0 ∨ x.scales ≠ 0 ∨ x.bounds ≠ 0) then none
  else if 3 ≤ fmt ∧ get3 x.dim bax % 64 ≠ 0 then none
  else if fmt = 4 ∧ bax ≠ 0 then none
  else if x.data % cellSize fmt ≠ 0 ∨ x.str1 % cellSize fmt ≠ 0 ∨ x.str2 % cellSize fmt ≠ 0 then none
  else if inWindow (BitVec.ofNat 64 x.data) then none
  else some x

/-! ### What a copy moves -/

/-- A run of bytes of a copy: its source address, or none for zeros; its offset in the destination; its length. -/
structure Run where
  src : Option DWord
  off : Nat
  n : Nat
  deriving DecidableEq, Repr

/-- A scale or bound byte of a handle block: a source address, or a constant; handle offset (R317). -/
structure Side where
  src : Option DWord
  fill : Byte
  off : Nat
  deriving DecidableEq, Repr

/-- What a lane's copy asks for (R316, R317). -/
structure Plan where
  runs : List Run
  scales : List Side
  bounds : List Side
  /-- destination address, or handle offset -/
  dst : DWord
  total : Nat
  planes : Nat
  deriving DecidableEq, Repr

/-- A box in cells (R317): origin, extents, the tensor's extents. -/
structure Box where
  x : Nat × Nat × Nat
  m : Nat × Nat × Nat
  lim : Nat × Nat × Nat
  deriving DecidableEq, Repr

/-- Element coordinates to cell coordinates. -/
def toCells (l : Layout) (v : Nat × Nat × Nat) : Nat × Nat × Nat :=
  let f := fun a => if l.fmt == 3 && l.baxis == a then get3 v a / 64 else get3 v a
  (f 0, f 1, f 2)

/-- Address of a cell (R313). -/
def Layout.cell (l : Layout) (x0 x1 x2 : Nat) : DWord :=
  BitVec.ofNat 64 (l.data + x0 * cellSize l.fmt + x1 * l.str1 + x2 * l.str2)

/-- The runs of one row of a box (R317). -/
def rowRuns (l : Layout) (b : Box) (bytes y1 y2 : Nat) : List Run :=
  let cs := cellSize l.fmt
  let x1 := b.x.2.1 + y1
  let x2 := b.x.2.2 + y2
  let off := cs * b.m.1 * (y1 + b.m.2.1 * y2)
  let inside := if x1 < b.lim.2.1 ∧ x2 < b.lim.2.2 then min b.m.1 (b.lim.1 - b.x.1) else 0
  if bytes = cs then
    (if inside = 0 then [] else [{ src := some (l.cell b.x.1 x1 x2), off, n := inside * cs }]) ++
    (if inside = b.m.1 then [] else [{ src := none, off := off + inside * cs, n := (b.m.1 - inside) * cs }])
  else
    (List.range b.m.1).map fun y0 =>
      { src := if y0 < inside then some (l.cell (b.x.1 + y0) x1 x2) else none, off := off + cs * y0, n := bytes }

/-- The scale and bound bytes of the box's blocks (R313, R317): `o` is the block's offset in the box. DESIGN CHOICE (log 94): a block
outside DIM has scale 0x00, with SCALES = 0 too. -/
def boxSide (l : Layout) (b : Box) (arr fill at' o : Nat) : Side :=
  let k := o / cellSize l.fmt
  let x0 := b.x.1 + k % b.m.1
  let x1 := b.x.2.1 + k / b.m.1 % b.m.2.1
  let x2 := b.x.2.2 + k / (b.m.1 * b.m.2.1)
  if x0 < b.lim.1 ∧ x1 < b.lim.2.1 ∧ x2 < b.lim.2.2 then
    let j0 := if l.fmt = 4 then x0 / 64 else x0
    let bd0 := if l.fmt = 4 then b.lim.1 / 64 else b.lim.1
    if arr = 0 then { src := none, fill := BitVec.ofNat 8 fill, off := at' }
    else { src := some (BitVec.ofNat 64 (arr + (j0 + bd0 * (x1 + b.lim.2.1 * x2)))), fill := 0, off := at' }
  else { src := none, fill := 0, off := at' }

/-! ### The probe (R316) -/

/-- A cause of the probe: the part (record, source, scales, bounds, destination), the cause, the address. -/
structure ProbeBad where
  cause : Cause
  part : Nat
  addr : DWord := 0
  write : Bool := false
  walk : Bool := false
  deriving DecidableEq, Repr

/-- The cause reported for a lane: highest priority, then the first part, then the lowest address. -/
def probeWorst : List ProbeBad → Option ProbeBad
  | [] => none
  | b :: bs =>
    match probeWorst bs with
    | none => some b
    | some c =>
      let key := fun (x : ProbeBad) => (x.cause.code * 8 + x.part) * 2 ^ 64 + x.addr.toNat
      if key c < key b then some c else some b

/-- A range cut at 128-byte lines. -/
def cutLines : Nat → Nat → Nat → List (Nat × Nat)
  | 0, _, _ => []
  | fuel + 1, a, n =>
    if n = 0 then []
    else
      let k := min n (128 - a % 128)
      (a, k) :: cutLines fuel (a + k) (n - k)

def lineCuts (a n : Nat) : List (Nat × Nat) := cutLines (n / 128 + 2) a n

/-- Causes of an access by the copy engine to a range; `win` admits window addresses. -/
def State.probeRange (s : State) (tid part : Nat) (a : DWord) (n need : Nat) (win : Bool) : List ProbeBad :=
  (lineCuts a.toNat n).filterMap fun p =>
    let va := BitVec.ofNat 64 p.1
    if !win && inWindow va then some { cause := .window, part, addr := va, write := need != needR }
    else
      match s.resolve tid va p.2 need true with
      | .bad c w => some { cause := c, part, addr := va, write := need != needR, walk := w }
      | _ => none

/-- DST of a copy (R314): 0 scratchpad, 1 handle, 2 memory. -/
def copyDst (o : FA) : Nat := bitsOf o.sub.toNat 6 2

/-- SCOPE of a copy (R314). -/
def copyScope (o : FA) : Nat := bitsOf o.sub.toNat 8 3

/-- Causes of a destination of `n` bytes. -/
def State.probeDst (s : State) (tid : Nat) (o : FA) (a : DWord) (n : Nat) : List ProbeBad :=
  if copyDst o = 0 then
    if !inWindow a then [{ cause := .window, part := 4, addr := a, write := true }] else s.probeRange tid 4 a n needW true
  else if inWindow a then [{ cause := .window, part := 4, addr := a, write := true }]
  else s.probeRange tid 4 a n needW false

/-- Planes that a CPY.T moves (R314). -/
def copyPlanes (o : FA) : Nat := let p := bitsOf o.sub.toNat 2 4; if p = 0 then 8 else p

/-- Bytes of the destination of a CPY.T's box (R317). -/
def boxTotal (l : Layout) (v : List Nat) : Nat :=
  let m := toCells l (v.getD 3 0, v.getD 4 0, v.getD 5 0)
  cellSize l.fmt * m.1 * m.2.1 * m.2.2

/-- The box of a CPY.T raises LAYOUT (R316). -/
def boxBad (o : FA) (l : Layout) (v : List Nat) : Bool :=
  let c := (v.getD 0 0, v.getD 1 0, v.getD 2 0)
  let n := (v.getD 3 0, v.getD 4 0, v.getD 5 0)
  decide (n.1 = 0 ∨ n.2.1 = 0 ∨ n.2.2 = 0 ∨ 2 ^ 32 ≤ c.1 + n.1 ∨ 2 ^ 32 ≤ c.2.1 + n.2.1 ∨ 2 ^ 32 ≤ c.2.2 + n.2.2) ||
    (blockedFmt l.fmt && decide (get3 c l.baxis % 64 ≠ 0 ∨ get3 n l.baxis % 64 ≠ 0)) ||
    decide ((bitsOf o.sub.toNat 2 4 ≠ 0 ∧ l.fmt ≠ 3) ∨ 2 ^ 24 < boxTotal l v)

/-- The plan of a CPY.T with a valid record (R316, R317). -/
def boxPlan (o : FA) (x : Handle) (l : Layout) (v : List Nat) (dst : DWord) : Plan :=
  let c := (v.getD 0 0, v.getD 1 0, v.getD 2 0)
  let n := (v.getD 3 0, v.getD 4 0, v.getD 5 0)
  let cs := cellSize l.fmt
  let b : Box := { x := toCells l c, m := toCells l n, lim := toCells l l.dim }
  let total := boxTotal l v
  let k := copyPlanes o
  let bytes := if l.fmt = 3 then 16 * ((k + 1) / 2) else cs
  let sides := copyDst o = 1 ∧ blockedFmt l.fmt
  let blocks := if sides then (List.range (total / 64)).map fun i => (64 * i, x.scoff * 4096 + 2 * ((dst.toNat + 64 * i) / 64)) else []
  { runs := (List.range b.m.2.2).flatMap fun y2 => (List.range b.m.2.1).flatMap fun y1 => rowRuns l b bytes y1 y2,
    scales := blocks.map fun p => boxSide l b l.scales 0x7F p.2 p.1,
    bounds := blocks.map fun p => boxSide l b l.bounds 0 (p.2 + 1) p.1,
    dst, total, planes := k }

/-- Causes of a plan's reads: sources, scales and bounds. -/
def State.probePlan (s : State) (tid : Nat) (p : Plan) (win : Bool) : List ProbeBad :=
  (p.runs.flatMap fun r => match r.src with
    | some a => s.probeRange tid 1 a r.n needR win
    | none => []) ++
  (p.scales.flatMap fun x => match x.src with
    | some a => s.probeRange tid 2 a 1 needR false
    | none => []) ++
  (p.bounds.flatMap fun x => match x.src with
    | some a => s.probeRange tid 3 a 1 needR false
    | none => [])

/-- Result of a lane's probe. -/
inductive Probe where
  | ok (p : Plan)
  | bad (b : ProbeBad)
  deriving DecidableEq, Repr

def probeOf (p : Plan) (bad : List ProbeBad) : Probe :=
  match probeWorst bad with
  | some b => .bad b
  | none => .ok p

/-- The box words of a lane's CPY.T (R314). -/
def State.boxWords (s : State) (o : FA) (r : Ref) : List Nat :=
  (List.range 6).map fun k => ((s.lane r).gr (o.rb.toNat + k)).toNat

/-- The destination of a lane's CPY.T: an address, or an offset in the handle (R314). -/
def State.dstT (s : State) (o : FA) (r : Ref) : DWord :=
  let lo := (s.lane r).gr (o.rb.toNat + 6)
  if copyDst o = 1 then lo.setWidth 64 else pair64 lo ((s.lane r).gr (o.rb.toNat + 7))

/-- The probe of a CPY.T for one lane (R316). DESIGN CHOICE (log 96): a LAYOUT cause, at which no address faults, has FADDR zero
(R57). -/
def State.probeT (s : State) (o : FA) (r : Ref) : Probe :=
  let ra := s.src64 r o.ra
  let v := s.boxWords o r
  let hnd := copyDst o == 1
  let dst := s.dstT o r
  let x := s.handle r.team o.h.toNat
  if ra.toNat % 64 ≠ 0 then .bad { cause := .misalign, part := 0, addr := ra }
  else
    match s.engRead r.team ra 64 with
    | .bad c w => .bad { cause := c, part := 0, addr := ra, walk := w }
    | .ecc _ => .bad { cause := .ecc, part := 0, addr := if s.engRead r.team ra 32 matches .ok _ then ra + 32 else ra }
    | .ok b =>
      match layoutOf b with
      | none => .bad { cause := .layout, part := 0 }
      | some l =>
        let al := if hnd then max (cellSize l.fmt) 64 else cellSize l.fmt
        let mis : List ProbeBad := if dst.toNat % al ≠ 0 then [{ cause := .misalign, part := 4, addr := dst, write := true }] else []
        let win : List ProbeBad := if !hnd && inWindow dst != (copyDst o == 0) then
          [{ cause := .window, part := 4, addr := dst, write := true }] else []
        let p := boxPlan o x l v dst
        let box : List ProbeBad := if boxBad o l v then [{ cause := .layout, part := 1 }] else []
        let own : List ProbeBad :=
          if hnd then
            if x.state ≠ 1 ∨ x.fmt ≠ l.fmt ∨ l.baxis ≠ (if x.baxis then 1 else 0) ∨ x.area < dst.toNat + p.total then
              [{ cause := .layout, part := 4 }] else []
          else s.probeDst r.team o dst p.total
        probeOf p (mis ++ win ++ box ++ s.probePlan r.team p false ++ own)

/-- The plan of a lane's CPY.L (R314, R317). -/
def State.planL (s : State) (o : FA) (r : Ref) : Plan :=
  let lo := (s.lane r).gr o.rb.toNat
  let n := ((s.lane r).gr (o.rb.toNat + 2)).toNat
  { runs := [{ src := some (s.src64 r o.ra), off := 0, n }], scales := [], bounds := [],
    dst := if copyDst o = 1 then lo.setWidth 64 else pair64 lo ((s.lane r).gr (o.rb.toNat + 1)), total := n, planes := 8 }

/-- The probe of a CPY.L for one lane (R316). -/
def State.probeL (s : State) (o : FA) (r : Ref) : Probe :=
  let p := s.planL o r
  let src := s.src64 r o.ra
  let n := p.total
  let hnd := copyDst o == 1
  let dst := p.dst
  let x := s.handle r.team o.h.toNat
  let m1 : List ProbeBad := if src.toNat % 16 ≠ 0 then [{ cause := .misalign, part := 1, addr := src }] else []
  let m2 : List ProbeBad := if dst.toNat % 16 ≠ 0 then [{ cause := .misalign, part := 4, addr := dst, write := true }] else []
  let len : List ProbeBad := if n = 0 ∨ n % 16 ≠ 0 ∨ 2 ^ 24 < n then [{ cause := .layout, part := 1 }] else []
  let lap : List ProbeBad := if !hnd && decide (src.toNat < dst.toNat + n) && decide (dst.toNat < src.toNat + n) then
    [{ cause := .layout, part := 4 }] else []
  let own : List ProbeBad :=
    if hnd then (if x.state ≠ 1 ∨ x.gcnt * 4096 < dst.toNat + n then [{ cause := .layout, part := 4 }] else [])
    else s.probeDst r.team o dst n
  probeOf p (m1 ++ m2 ++ len ++ lap ++ s.probePlan r.team p true ++ own)

/-! ### Pieces -/

/-- A run cut so that each piece lies in one destination line and one source page (R317, R318). -/
def pieceCuts : Nat → Nat → Nat → Nat → List (Nat × Nat)
  | 0, _, _, _ => []
  | fuel + 1, d, sr, n =>
    if n = 0 then []
    else
      let k := min n (min (128 - d % 128) (128 - sr % 128))
      (d, k) :: pieceCuts fuel (d + k) (sr + k) (n - k)

/-- Where a checked address lies. -/
def State.placeOf (s : State) (tid : Nat) (a : DWord) (n need : Nat) : Target :=
  match s.resolve tid a n need true with
  | .ok t => t
  | _ => .hub 0 false

/-- The pieces of a plan (R317). -/
def State.planPieces (s : State) (tid : Nat) (o : FA) (p : Plan) : List Piece :=
  let h := o.h.toNat
  let hnd := copyDst o == 1
  let one := fun (src : Option DWord) (fill : Byte) (off n : Nat) =>
    ({ src := src.map fun a => s.placeOf tid a n needR, fill, va := BitVec.ofNat 64 off,
       dst := if hnd then .hub 0 false else s.placeOf tid (BitVec.ofNat 64 off) n needW,
       hnd := if hnd then some (h, off) else none, n } : Piece)
  (p.runs.flatMap fun r =>
    let d := p.dst.toNat + r.off
    let sa := (r.src.getD 0).toNat
    (pieceCuts (r.n / 64 + 4) d sa r.n).map fun c =>
      one (r.src.map fun _ => BitVec.ofNat 64 (sa + (c.1 - d))) 0 c.1 c.2) ++
  (p.scales ++ p.bounds).map fun x => one x.src x.fill x.off 1

/-- Scratchpad lines of a piece's destination. -/
def Piece.lines (p : Piece) : List (Nat × Nat) :=
  match p.hnd, p.dst with
  | none, .spad t off => (List.range ((off + p.n - 1) / 128 + 1 - off / 128)).map fun k => (t, off / 128 + k)
  | _, _ => []

/-- Lines of scratchpad whose presence bit is clear, after a change (R240). -/
def changeLines (old lines : List Nat) (on : Bool) : List Nat :=
  if on then old.filter fun l => !lines.contains l
  else (List.range 4096).filter fun l => old.contains l || lines.contains l

/-- Presence bits of a line range of a team; the entries that wait for bits now set go on (R241). -/
def State.setPresence (s : State) (tid : Nat) (lines : List Nat) (on : Bool) : State :=
  let s := s.modTeam tid fun t => { t with absentLines := changeLines t.absentLines lines on }
  if !on then s
  else (List.range s.teams.length).foldr (fun t s => s.goOnWhere t fun w => match w with
    | .presence k l => k == tid && lines.contains l
    | _ => false) s

/-- Presence bits of lines, each with its team. -/
def State.setLines (s : State) (ls : List (Nat × Nat)) (on : Bool) : State :=
  ((ls.map (·.1)).eraseDups).foldl (fun s t => s.setPresence t ((ls.filter fun l => l.1 == t).map (·.2)) on) s

/-- Bytes of memory that a plan reads or writes: address and length (R460). -/
def planRanges (o : FA) (p : Plan) : List (DWord × Nat) :=
  (p.runs.filterMap fun r => r.src.map fun a => (a, r.n)) ++ ((p.scales ++ p.bounds).filterMap fun x => x.src.map fun a => (a, 1)) ++
    (if copyDst o = 1 then [] else [(p.dst, p.total)])

/-- Bytes of memory that a lane's CPY.T reads or writes, its layout record among them (R460). -/
def State.rangesT (s : State) (o : FA) (r : Ref) : List (DWord × Nat) :=
  let ra := s.src64 r o.ra
  (ra, 64) ::
    (match s.engRead r.team ra 64 with
     | .ok b =>
       (match layoutOf b with
        | some l => planRanges o (boxPlan o (s.handle r.team o.h.toNat) l (s.boxWords o r) (s.dstT o r))
        | none => [])
     | _ => [])

/-- Bytes of memory that a lane's CPY.L reads or writes (R460). -/
def State.rangesL (s : State) (o : FA) (r : Ref) : List (DWord × Nat) := planRanges o (s.planL o r)

/-- A deterministic grid's ranges are governed (R460). -/
def State.rangesGoverned (s : State) (r : Ref) (rs : List (DWord × Nat)) : Bool :=
  (s.gridOf r.team).det && !(s.lane r).isHelper && rs.any fun x => inShared (s.gridOf r.team) x.1 x.2

/-- Sectors of physical or cluster memory that pieces write (R471). -/
def pieceKeys (ps : List Piece) : List Nat :=
  (ps.flatMap fun p => match p.hnd, p.dst with
    | none, .phys pa => (List.range ((pa % 16 + p.n + 15) / 16)).map fun k => pa / 16 + k
    | none, .spad t off => (List.range ((off % 16 + p.n + 15) / 16)).map fun k => 2 ^ 60 + t * 2 ^ 20 + off / 16 + k
    | _, _ => []).eraseDups

/-- The stamp of a copy's issue at cluster scope or wider: a release write on each sector that it writes (R471). -/
def State.lintCopy (s : State) (r : Ref) (keys : List Nat) : State :=
  keys.foldl (fun s k => (s.putSync (s.team r.team).die k (joinVec (s.syncOf k) (s.team r.team).stamp)).modTeam r.team fun x =>
    { x with stampV := tickVec x.stamp x.comp }) s

/-- A lane's copy starts (R318, R472). -/
def State.startCopy (s : State) (o : FA) (r : Ref) (p : Plan) : State × Copy :=
  let ps := s.planPieces r.team o p
  let h := o.h.toNat
  let lines := (ps.flatMap Piece.lines).eraseDups
  let s := s.setLines lines false
  let s := if copyDst o = 1 then s.modHandle r.team h fun x => { x with plf := min x.plf p.planes } else s
  let s := ps.foldl (fun s q =>
    let s := match q.src with
      | some t => s.lintAccess r t q.n false false
      | none => s
    if q.hnd.isNone then s.lintAccess r q.dst q.n true false else s) s
  let wide := s.lintOn r.team && decide (3 ≤ copyScope o) && !(winTeam ≤ p.dst.toNat && p.dst.toNat < winEnd)
  let keys := if wide then pieceKeys ps else []
  let s := if wide then s.lintCopy r keys else s
  (s, { lane := r.lane, bar := if o.sub.getLsbD 1 then some o.bar.toNat else none, pieces := ps, lines,
        hnd := if copyDst o = 1 then some h else none, keys })

/-- Copies in flight in a core's Shuttle (R310). -/
def State.copiesOn (s : State) (die core : Nat) : Nat :=
  (s.ops.map fun o => if (s.team o.team).die == die && (s.team o.team).core == core && !o.done then
    match o.body with
    | .copies cs => (cs.filter fun c => !c.pieces.isEmpty).length
    | _ => 0 else 0).sum

/-- A presence instruction of a wave of the word, or an OBSTATE.full, is not yet performed: the Shuttle keeps issue order
(R315). -/
def State.presencePending (s : State) : Bool :=
  s.ops.any fun o => !o.done && s.countingWaves.contains (o.team, o.wave) &&
    match o.body with
    | .shuttle ls waits => !ls.isEmpty || waits.any fun h => (s.handle o.team h).full
    | _ => false

/-- A word of class CP must wait for its counter or for the Shuttle's order. -/
def State.cpWaits (s : State) : Bool := s.counterFull .cp || s.presencePending

/-- Lanes that issue a governed copy or tile word without the token leave their entries before it is checked (R462, R468):
of a word made once per entry (`once`), every lane for which it issues. -/
def State.tokenRanges (s : State) (once : Bool) (rs : List Ref) (ranges : State → Ref → List (DWord × Nat)) : State :=
  let out := rs.filter fun r => s.rangesGoverned r (ranges s r) && !s.holdsToken r
  s.parkLanes (if once then out.flatMap s.tokenMates else out) 4 .token true

/-- CPY.T and CPY.L (R314 to R318); `probe` answers for one lane, `ranges` says which bytes it touches, and `note` what it reads to
be probed. -/
def copyWord (s : State) (o : FA) (probe : State → Ref → Probe) (ranges : State → Ref → List (DWord × Nat))
    (note : State → Ref → State) : Out :=
  whenIssued s fun s =>
    let flying := s.copiesOn s.bundle.die s.bundle.core
    let own := (s.active.filter fun r => !(s.lane r).isHelper).length
    if s.cpWaits || s.tileStores s.active || (flying != 0 && decide (Config.coreCopies < flying + own)) then s.hold
    else
      let s := s.tokenRanges false (s.active.filter fun r => !(s.lane r).isHelper) ranges
      let s := s.releaseWord (copyScope o)
      let act := s.active
      let drains := fun (r : Ref) => copyDst o == 1 && (s.handle r.team o.h.toNat).state == 3
      let stuck := ((act.filter fun r => !(s.lane r).isHelper && drains r).flatMap s.entryMates).eraseDups
      let lanes := act.filter fun r => !(s.lane r).isHelper && !stuck.contains r
      let res := lanes.map fun r => (r, probe s r)
      let s := lanes.foldl (fun s r => (ranges s r).foldl (fun s x => s.noteRange r.team x.1 x.2 needR) (note s r)) s
      let bad : List LaneFault := res.filterMap fun x => match x.2 with
        | .bad b => some { r := x.1, cause := b.cause, addr := b.addr, write := b.write, walk := b.walk }
        | .ok _ => none
      let plans := res.filterMap fun x => match x.2 with
        | .ok p => some (x.1, p)
        | .bad _ => none
      let spent := (plans.filter fun x => s.rangesGoverned x.1 (ranges s x.1)).map (·.1)
      let s := s.parkLanes stuck 4 (.handle o.h.toNat [3]) false
      let s := s.faultLanes bad
      let s := spent.foldl State.spendToken s
      let (s, cs) := (laneAsc plans).foldl (fun (q : State × List (Ref × Copy)) x =>
        let (s, c) := q.1.startCopy o x.1 x.2
        (s, q.2 ++ [(x.1, c)])) (s, [])
      let ws := wavesOf (act.filter fun r => !stuck.contains r)
      let s := s.postOps ws .cp false [] [] fun w =>
        .copies ((cs.filter fun x => x.1.team == w.1 && x.1.wave == w.2).map (·.2))
      s.finish act []

/-- CPY.T (R314 to R317). -/
def execCpyT (o : FA) (s : State) : Out :=
  copyWord s o (fun s r => s.probeT o r) (fun s r => s.rangesT o r) fun s r => s.noteBytes r.team (s.src64 r o.ra) 64 needR

/-- CPY.L (R314 to R317). -/
def execCpyL (o : FA) (s : State) : Out :=
  copyWord s o (fun s r => s.probeL o r) (fun s r => s.rangesL o r) fun s _ => s

/-! ### Arrival and completion of copies -/

def State.modCopy (s : State) (id lane : Nat) (f : Copy → Copy) : State :=
  s.modOp id fun o => match o.body with
    | .copies cs => { o with body := .copies (cs.map fun c => if c.lane == lane then f c else c) }
    | _ => o

/-- An engine's uncorrectable error: the team ends as fatal with cause ECC (R319, R430). -/
def State.engineEcc (s : State) (op : Op) (lane : Nat) (sec : DWord) : State :=
  s.endFatal op.team
    { cause := Cause.ecc.code, wave := op.wave, lane, clause := op.clause, idx := op.idx, addr := sec, write := false,
      fetch := false, atExit := false }

/-- One piece is written where it goes (R318, R433). -/
def State.putPiece (s : State) (op : Op) (lane : Nat) (p : Piece) (b : List Byte) : State :=
  match p.hnd with
  | some (h, off) => s.modHandle op.team h fun x => { x with data := cellsWriteN x.data off b }
  | none =>
    let (s, refused) := s.writeTarget (s.writer op.team) p.dst b true
    if refused then s.recordRperm op.team op.wave { clause := op.clause, idx := op.idx, addr := p.va, lane } else s

/-- A piece has arrived: bytes are counted and lines without further pieces become present (R318). -/
def State.pieceDone (s : State) (op : Op) (c : Copy) (k : Nat) (p : Piece) : State :=
  let rest := c.pieces.eraseIdx k
  let ready := c.lines.filter fun l => !(rest.any fun q => q.lines.contains l)
  let s := s.modCopy op.id c.lane fun c => { c with pieces := rest, lines := c.lines.filter fun l => !ready.contains l }
  let s := match c.bar with
    | some b => s.barrierBytes op.team b p.n
    | none => s
  let s := s.setLines ready true
  match c.hnd with
  | some h => (s.modHandle op.team h fun x => { x with pend := x.pend - BitVec.ofNat 32 p.n }).settleHandle op.team h
  | none => s

/-- COPY_LINE_ARRIVAL (R317 to R319): the piece `c` of the copy of lane `b` of operation `a`. -/
def execCopyLineArrival (s : State) : Out :=
  .next (match s.liveOp s.args.a with
    | none => s
    | some op =>
      match op.body with
      | .copies cs =>
        match cs.find? fun c => c.lane == s.args.b with
        | none => s
        | some c =>
          match c.pieces[s.args.c]? with
          | none => s
          | some p =>
            match p.src with
            | none => (s.putPiece op c.lane p (List.replicate p.n p.fill)).pieceDone op c s.args.c p
            | some t =>
              if (s.absentAt t p.n).isSome then s
              else
                let read := s.nowTarget t p.n
                let s := s.noteTarget (s.team op.team).die t p.n
                match read with
                | some b => (s.putPiece op c.lane p b).pieceDone op c s.args.c p
                | none =>
                  let s := s.engineEcc op c.lane (s.badSector t p.n)
                  let s := s.setLines c.lines true
                  s.modCopy op.id c.lane fun c => { c with pieces := [], lines := [] }
      | _ => s)

/-- COPY_COMPLETE (R318): every byte of every copy of the operation has been performed. -/
def execCopyComplete (s : State) : Out :=
  .next (match s.liveOp s.args.a with
    | none => s
    | some op =>
      match op.body with
      | .copies cs =>
        if (cs.all fun c => c.pieces.isEmpty) then
          let keys := (cs.flatMap (·.keys)).map fun k => (op.wave, op.id, k)
          (s.modTeam op.team fun t => { t with acqKeys := t.acqKeys ++ keys }).opDone op.id
        else s
      | _ => s)

/-- The acquire of a cp wait that covers copies of a wave (R270, R471). -/
def State.lintCpWait (s : State) (t w : Nat) : State :=
  let mine := (s.team t).acqKeys.filter fun k => k.1 == w && !(s.ops.any fun o => o.id == k.2.1)
  let s := mine.foldl (fun s k => s.modTeam t fun x => { x with stampV := joinVec x.stamp (s.syncOf k.2.2) }) s
  s.modTeam t fun x => { x with acqKeys := x.acqKeys.filter fun k => !mine.contains k }

/-! ### Handle instructions -/

/-- What R321 decides for an entry. -/
inductive Judged where
  | park
  | bad
  /-- the handle's new value, and the value written -/
  | go (x : Handle) (v : Option Word)
  deriving DecidableEq, Repr

/-- A word performed once per entry on a handle (R321, R322), which states of the handle in `stops` park. `wait`: the operation ends
only once the handle is full. -/
def handleWord (s : State) (hn : Nat) (stops : List Nat) (rd : Option Nat) (wait : Bool) (rb : Option Nat) (judge : State → Ref → Judged) : Out :=
  whenIssued s fun s =>
    if s.cpWaits then s.hold
    else
      let act := s.active
      let vals := s.bundle.members.filterMap s.performer
      let mates := vals.map fun r => (r, s.entryMates r)
      let (s, parks, bad, res) := mates.foldl (fun (q : State × List Ref × List LaneFault × List (Ref × RegRes)) x =>
        let (s, parks, bad, res) := q
        let r := x.1
        match judge s r with
        | .park => (s, parks ++ x.2, bad, res)
        | .bad => (s, parks, bad ++ [{ r, cause := .layout }], res)
        | .go h v =>
          let old := (s.handle r.team hn).state
          let s := s.modHandle r.team hn fun _ => h
          let s := if old != h.state then s.wakeHandle r.team hn else s
          let s := s.settleHandle r.team hn
          let out := match rd, v with
            | some d, some v => (x.2.filter act.contains).flatMap fun q => laneRegs q [(d, v)]
            | _, _ => []
          (s, parks, bad, res ++ out)) (s, [], [], [])
      let s := match rb with
        | some b => (vals.filter fun r => !parks.contains r).foldl (fun (s : State) r => s.latchRead r b) s
        | none => s
      let s := s.parkLanes parks 4 (.handle hn stops) false
      let s := s.faultLanes bad
      let s := s.postOps (wavesOf (act.filter fun r => !parks.contains r)) .cp rd.isSome res [] fun _ =>
        .shuttle [] (if wait then [hn] else [])
      s.finish act []

/-- OBRES (R321, R322). -/
def execObres (o : FA) (s : State) : Out :=
  handleWord s o.h.toNat [1, 2, 3] (some o.rd.toNat) false none fun s r =>
    let g := ((s.lane r).gr o.rb.toNat).toNat
    let e := (s.lane r).gr (o.rb.toNat + 1)
    let sub := o.sub.toNat
    let fmt := bitsOf sub 0 3
    let scoff := bitsOf sub 5 6
    let x := s.handle r.team o.h.toNat
    if g = 0 ∨ 64 < g ∨ g * 4096 < e.toNat ∨ (blockedFmt fmt = true ∧ g ≤ scoff) then .bad
    else if x.state ≠ 0 then .park
    else if s.granules (s.team r.team).die (s.team r.team).core + g ≤ 64 then
      .go { Handle.blank with state := 1, fmt, baxis := o.sub.getLsbD 3, gcnt := g, scoff, pend := e } (some 1)
    else .go x (some 0)

/-- OBREL (R321). -/
def execObrel (s : State) : Out :=
  let o := faOfWord s.word
  handleWord s o.h.toNat [1, 3] none false none fun s r =>
    let x := s.handle r.team o.h.toNat
    if x.state = 0 then .bad
    else if x.state ≠ 2 then .park
    else if !s.mxHolds r.team o.h.toNat then .go Handle.blank none
    else .go { x with state := 3, next := true } none

/-- OBSTATE.read (R320). -/
def execObstateRead (o : FA) (s : State) : Out :=
  handleWord s o.h.toNat [] (some o.rd.toNat) false none fun s r =>
    let x := s.handle r.team o.h.toNat
    .go x (some x.image)

/-- OBSTATE.pend (R320). -/
def execObstatePend (o : FA) (s : State) : Out :=
  handleWord s o.h.toNat [] (some o.rd.toNat) false none fun s r =>
    let x := s.handle r.team o.h.toNat
    .go x (some x.pend)

/-- OBSTATE.refill (R321). -/
def execObstateRefill (o : FA) (s : State) : Out :=
  handleWord s o.h.toNat [1, 3] none false (some o.rb.toNat) fun s r =>
    let x := s.handle r.team o.h.toNat
    let e := s.src r .i32 o.rb 0
    if x.state = 0 then .bad
    else if x.state ≠ 2 then .park
    else if !s.mxHolds r.team o.h.toNat then .go { x with state := 1, pend := e, plf := 8 } none
    else .go { x with state := 3, next := false, refill := e } none

/-- OBSTATE.full (R321). -/
def execObstateFull (s : State) : Out :=
  let o := faOfWord s.word
  handleWord s o.h.toNat [3] none true none fun s r =>
    let x := s.handle r.team o.h.toNat
    if x.state = 0 then .bad
    else if x.state = 3 then .park
    else if x.state = 2 then .go x none
    else .go { x with full := true } none

/-! ### Presence instructions -/

/-- The lines that PRSET or PRCLR names, or a cause (R323). DESIGN CHOICE (log 95): the WINDOW cause of a range that lies only in part
outside the scratchpad names its first line outside. -/
def State.presenceLines (s : State) (o : FA) (r : Ref) : Except LaneFault (Option (Nat × Nat × Nat)) :=
  let a := s.src64 r o.ra
  let n := (s.src r .i32 o.rb 0).toNat
  if a.toNat % 128 ≠ 0 then .error { r, cause := .misalign, addr := a, write := true }
  else if n = 0 then .ok none
  else if !inWindow a then .error { r, cause := .window, addr := a, write := true }
  else
    match (lineCuts a.toNat (128 * n)).find? fun p => (s.window r.team (BitVec.ofNat 64 p.1) p.2).getD none |>.isNone with
    | some p => .error { r, cause := .window, addr := BitVec.ofNat 64 p.1, write := true }
    | none =>
      match s.window r.team a 128 with
      | some (some (t, off)) => .ok (some (t, off / 128, n))
      | _ => .ok none

/-- PRSET and PRCLR (R323): once per entry. -/
def presenceWord (s : State) (o : FA) (set : Bool) : Out :=
  whenIssued s fun s =>
    if s.cpWaits || (set && s.tileStores s.active) then s.hold
    else
      let s := if set then ((s.bundle.members.filterMap s.performer).foldl (fun s r =>
        s.release r.team r.wave (if (s.src64 r o.ra).toNat < winTeam then 3 else 2)) s).deliverRperm else s
      let act := s.active
      let res := (s.bundle.members.filterMap s.performer).map fun r => (r, s.presenceLines o r)
      let bad := res.filterMap fun x => match x.2 with
        | .error f => some f
        | .ok _ => none
      let good := res.filterMap fun x => match x.2 with
        | .ok p => some (x.1, p)
        | .error _ => none
      let s := (res.map (·.1)).foldl (fun s r => s.latchRead r o.rb.toNat) s
      let s := s.faultLanes bad
      let s := s.postOps (wavesOf act) .cp false [] [] fun w =>
        .shuttle ((good.filter fun x => (x.1.team, x.1.wave) == w).filterMap fun x =>
          x.2.map fun p => (p.1, p.2.1, p.2.2, set)) []
      s.finish act []

/-- PRSET (R323). -/
def execPrset (o : FA) (s : State) : Out := presenceWord s o true

/-- PRCLR (R323). -/
def execPrclr (o : FA) (s : State) : Out := presenceWord s o false

/-- PRTEST (R324). -/
def execPrtest (o : FA) (s : State) : Out :=
  whenIssued s fun s =>
    let act := s.active
    let look := act.map fun r => (r, s.window r.team (s.src64 r o.ra) 1)
    let bad : List LaneFault := look.filterMap fun x => match x.2 with
      | some (some _) => none
      | _ => if (s.lane x.1).isHelper then none else some { r := x.1, cause := .window, addr := s.src64 x.1 o.ra }
    let effs := look.filterMap fun x => match x.2 with
      | some (some (t, off)) => some (x.1, ({ preds := [(o.rd.toNat, !(s.team t).absentLines.contains (off / 128))] } : Eff))
      | _ => if (s.lane x.1).isHelper then some (x.1, { preds := [(o.rd.toNat, false)] }) else none
    ((s.applyAll effs).faultLanes bad).finish act []

/-- Lanes of a cluster that find a bit set by PRSET acquire what its release covered (R323): the cores of the pair drop their
Valid sectors as the bits change. -/
def State.clusterAcquire (s : State) (tid : Nat) : State :=
  if !(s.gridOf tid).cl2 then s else (tid :: (s.partner tid).toList).foldl (fun s t => s.acquire t 3) s

/-- SHUTTLE_OP_PERFORM (R315, R321 to R323): presence bits change, results are written, and the count retires; OBSTATE.full
waits for its handle. -/
def execShuttleOpPerform (s : State) : Out :=
  .next (match s.liveOp s.args.a with
    | none => s
    | some op =>
      match op.body with
      | .shuttle ls waits =>
        if (waits.any fun h => (s.handle op.team h).full) || s.resultWaits op then s
        else
          let s := if ls.any (·.2.2.2) then s.clusterAcquire op.team else s
          let s := ls.foldl (fun s x => s.setPresence x.1 ((List.range x.2.2.1).map (x.2.1 + ·)) x.2.2.2) s
          (s.writeResults op).opDone op.id
      | _ => s)

/-! ### WAITC -/

/-- WAITC (R311): each entry with an active lane waits for its wave's counter, then takes the deferred causes that the wait
delivers (R341, R430). -/
def execWaitc (o : FA) (s : State) : Out :=
  whenIssued s fun s =>
    let act := s.active
    let c := bitsOf o.sub.toNat 6 3
    let t := bitsOf o.sub.toNat 0 6
    let live := s.bundle.members.filter fun m => !(s.activeOf m).isEmpty
    let met := fun (m : Member) => decide ((s.wave m.team m.wave).ctrs.getD c 0 ≤ t)
    let stuck := (live.filter fun m => !met m).flatMap memberRefs
    let p := s.deliverEach (live.filter met) fun s m =>
      s.deliverable m ((memberRefs m).filter fun r => !(s.lane r).ended) (s.activeOf m)
        (fun e => (s.wave m.team m.wave).orders c t e) (c == 3) (c == 1)
    let s := p.1
    let s := if c = 2 then (wavesOf ((live.filter met).flatMap memberRefs)).foldl (fun s w => s.lintCpWait w.1 w.2) s else s
    let s := (s.parkLanes stuck 4 (.waitc c t s.word) false).faultLanes p.2
    s.finish act []

end Sys2Proof.Machine
end

