-- ==== Sys2Proof/Machine/Sprinkle.lean ====
section
/-! DEFINITION. Sys2Proof/Machine/Sprinkle.lean: the frame (R384 to R387), projection (R380), sampling (R388 to R392), the
Basket, its spill area and the exchange (R381, R515, R518, R519), watermarks (R382, R516) and the end of a frame (R393). -/

namespace Sys2Proof.Machine

/-! ### Steps of binary32 arithmetic on codes -/

/-- An exact result as an operand of a further exact step. -/
def Exact.operand (e : Exact) : FV :=
  match e with
  | .nan _ => .nan false
  | .inf n _ => .inf n
  | .zero n => .fin n 0 0
  | .real x => .fin x.neg x.n x.e

def v32 (c : Nat) : FV := Fmt.b32.value c

/-- Round(x, binary32, mode, false). -/
def r32 (mode : Nat) (e : Exact) : Nat := (deliver Fmt.b32 mode false 0 e).1

def add32 (mode a b : Nat) : Nat := r32 mode (addE mode (v32 a) (v32 b))
def sub32 (mode a b : Nat) : Nat := r32 mode (addE mode (v32 a) (v32 b).negate)
def mul32 (mode a b : Nat) : Nat := r32 mode (mulE (v32 a) (v32 b))
def div32 (mode a b : Nat) : Nat := r32 mode (divE (v32 a) (v32 b))
def fma32 (mode a b c : Nat) : Nat := r32 mode (fmaE mode (v32 a) (v32 b) (v32 c))

/-- binary32 1.0. -/
def one32 : Nat := 0x3F800000

/-- A non-negative integer as an exact value. -/
def natFV (n : Nat) : FV := .fin false n 0

/-- a < b; false with a NaN. -/
def ltFV (a b : FV) : Bool := !a.isNan && !b.isNan && cmpFV a b == .lt

/-- a ≤ b; false with a NaN. -/
def leFV (a b : FV) : Bool := !a.isNan && !b.isNan && cmpFV a b != .gt

/-- The smaller and the larger; a NaN stays. -/
def minFV (a b : FV) : FV := if a.isNan then a else if b.isNan then b else if ltFV b a then b else a
def maxFV (a b : FV) : FV := if a.isNan then a else if b.isNan then b else if ltFV a b then b else a

/-- Lerp of R368: (1 - w) · a + w · b, rounded once. -/
def lerp32 (w a b : FV) : Nat :=
  let u := (addE 0 (natFV 1) w.negate).operand
  r32 0 (addE 0 (mulE u a).operand (mulE w b).operand)

/-! ### The frame record (R384) -/

def Frame.at (f : Frame) (off : Nat) : FV := v32 (recU32 f.record off)
def Frame.fx (f : Frame) : FV := f.at 0x30
def Frame.fy (f : Frame) : FV := f.at 0x34
def Frame.cx (f : Frame) : FV := f.at 0x28
def Frame.cy (f : Frame) : FV := f.at 0x2C
def Frame.near (f : Frame) : FV := f.at 0x38
def Frame.far (f : Frame) : FV := f.at 0x3C
/-- lens radius A -/
def Frame.lens (f : Frame) : FV := f.at 0x40
/-- reciprocal focus distance IF -/
def Frame.focus (f : Frame) : FV := f.at 0x44
def Frame.width (f : Frame) : Nat := bitsOf (recU64 f.record 0x48) 0 14 + 1
def Frame.height (f : Frame) : Nat := bitsOf (recU64 f.record 0x48) 16 14 + 1
def Frame.spp (f : Frame) : Nat := bitsOf (recU64 f.record 0x48) 32 7
def Frame.opqend (f : Frame) : Nat := bitsOf (recU64 f.record 0x48) 40 9
def Frame.sbuf (f : Frame) : Nat := recU64 f.record 0x00
def Frame.comprec (f : Frame) : Nat := recU64 f.record 0x10
def Frame.spillAt (f : Frame) : Nat := recU64 f.record 0x18
def Frame.spillsz (f : Frame) : Nat := recU64 f.record 0x20
def Frame.fseed (f : Frame) : DWord := BitVec.ofNat 64 (recU64 f.record 0x50)
def Frame.id (f : Frame) : Nat := recU32 f.record 0x58
def Frame.tw (f : Frame) : Nat := (f.width + 31) / 32
def Frame.th (f : Frame) : Nat := (f.height + 31) / 32

/-- The physical address of a virtual one within the frame's ranges (R385). -/
def Frame.phys (f : Frame) (va n : Nat) : Option Nat := extentOf f.ranges va n needR

/-- Owner of tile (tx, ty) (R513, R514); a tile's number is TW · ty + tx. -/
def Frame.ownerOf (f : Frame) (tx ty : Nat) : Nat :=
  match f.moves.find? fun m => m.1 == f.tw * ty + tx with
  | some m => m.2
  | none =>
    if f.owners.isEmpty then (tx + 3 * ty) % 8 else recU8 f.owners (16 * (ty % 16) + tx % 16) % 8

/-- The tiles that a die owns now (R513, R514). -/
def Frame.ownedBy (f : Frame) (d : Nat) : List Nat :=
  (List.range (f.tw * f.th)).filter fun t => f.ownerOf (t % f.tw) (t / f.tw) == d

/-- A draw sequence number (R362). -/
def drawSeq (t : DWord) : Nat := t.toNat / 2 ^ 24

/-! ### Projection (R380) -/

/-- One vertex at one time: sx, sy, iz and the widenings along x and y; none when invalid. -/
def projectPoint (f : Frame) (x y z : Nat) : Option (List Nat) :=
  let iz := div32 0 one32 z
  let sx := fma32 0 (recU32 f.record 0x30) (mul32 0 x iz) (recU32 f.record 0x28)
  let sy := fma32 0 (recU32 f.record 0x34) (mul32 0 y iz) (recU32 f.record 0x2C)
  if !(([x, y, z, iz, sx, sy].all fun c => (v32 c).isFinite)) || ltFV (v32 z) f.near then none
  else
    let d := (addE 0 f.focus (v32 iz).negate).operand.abs
    let wide := fun (k : FV) => r32 2 (mulE (mulE k f.lens).operand d)
    some [sx, sy, iz, wide f.fx, wide f.fy]

/-- A projected vertex: its values at both times, then its colour words. -/
structure PVert where
  t0 : List Nat
  t1 : List Nat
  col : List Word
  deriving DecidableEq, Repr

/-- A record of the emission block, projected (R378, R380). -/
def projectRecord (f : Frame) (b : List Byte) : Option PVert :=
  match projectPoint f (recU32 b 0) (recU32 b 4) (recU32 b 8), projectPoint f (recU32 b 12) (recU32 b 16) (recU32 b 20) with
  | some t0, some t1 => some { t0, t1, col := [BitVec.ofNat 32 (recU32 b 24), BitVec.ofNat 32 (recU32 b 28)] }
  | _, _ => none

/-- The values of an axis (0 x, 1 y) of a vertex, less and plus its widening, exact. -/
def PVert.ends (v : PVert) (axis : Nat) : List (FV × FV) :=
  [v.t0, v.t1].map fun p =>
    let c := v32 (p.getD axis 0)
    let w := v32 (p.getD (3 + axis) 0)
    ((addE 0 c w.negate).operand, (addE 0 c w).operand)

/-- Bound of vertices along an axis. -/
def boundOf (vs : List PVert) (axis : Nat) : Option (FV × FV) :=
  match vs.flatMap fun v => v.ends axis with
  | [] => none
  | e :: es => some (es.foldl (fun b x => (minFV b.1 x.1, maxFV b.2 x.2)) e)

/-- The corner indices of micropolygon (i, j): v00, v10, v01, v11 (R380). -/
def corners (nu i j : Nat) : List Nat := [nu * j + i, nu * j + i + 1, nu * (j + 1) + i, nu * (j + 1) + i + 1]

/-- The micropolygons of a grid, ascending j then i (R388). -/
def micropolygons (nu nv : Nat) : List (Nat × Nat) :=
  (List.range (nv - 1)).flatMap fun j => (List.range (nu - 1)).map fun i => (i, j)

/-- A bound meets the interval from 0 up to, and without, `n`. -/
def meets (b : Option (FV × FV)) (n : Nat) : Bool :=
  match b with
  | some (lo, hi) => leFV (natFV 0) hi && ltFV lo (natFV n)
  | none => false

/-- The tiles along one axis that a bound touches. -/
def tilesTouched (b : Option (FV × FV)) (n : Nat) : List Nat :=
  match b with
  | some (lo, hi) => (List.range n).filter fun k => ltFV lo (natFV (32 * k + 32)) && leFV (natFV (32 * k)) hi
  | none => []

/-- The tiles that a projected grid touches; none when no sampled micropolygon lies inside the screen (R380). -/
def gridTiles (f : Frame) (nu nv : Nat) (vs : List (Option PVert)) : List (Nat × Nat) :=
  let ok := (micropolygons nu nv).any fun p =>
    let q := (corners nu p.1 p.2).map fun k => vs.getD k none
    q.all Option.isSome && meets (boundOf (q.filterMap id) 0) f.width && meets (boundOf (q.filterMap id) 1) f.height
  if !ok then []
  else
    let good := vs.filterMap id
    (tilesTouched (boundOf good 1) f.th).flatMap fun ty => (tilesTouched (boundOf good 0) f.tw).map fun tx => (tx, ty)

/-- A vertex as a copy carries it. -/
def PVert.packed (v : PVert) : List Word :=
  ((v.t0.take 3 ++ v.t1.take 3).map fun c => BitVec.ofNat 32 c) ++ v.col

/-- The copies of a grid, one for each owner of a tile that its bound touches, which samples from it every tile that it owns
(R379, R515). -/
def gridCopies (f : Frame) (ticket : DWord) (opq oi : Bool) (nu nv : Nat) (block : List Byte) : List (Nat × GridCopy) :=
  let vs := (List.range nv).flatMap fun j => (List.range nu).map fun i => projectRecord f (sliceBytes block (32 * (16 * j + i)) 32)
  let tiles := gridTiles f nu nv vs
  (List.range Config.dies).filterMap fun d =>
    if !(tiles.any fun t => f.ownerOf t.1 t.2 == d) then none
    else some (d, { ticket, nu, nv, opq, oi, verts := vs.map fun v => v.map PVert.packed, tiles := f.ownedBy d, resv := false, place := 0 })

/-! ### Samples and coverage (R386, R388 to R390) -/

/-- A sample: qx, qy, Lx, Ly as binary32 codes, and T in units of 2^-16. -/
structure Sample where
  qx : Nat
  qy : Nat
  lx : Nat
  ly : Nat
  t : Nat
  deriving DecidableEq, Repr

/-- A fraction of 16 bits as an exact value. -/
def frac16 (n : Nat) : FV := .fin false n (-16)

/-- Sample `k` of a pixel (R386); a lens of radius zero moves no vertex, whatever the sign of Lx and Ly. -/
def sampleAt (f : Frame) (x y k : Nat) : Sample :=
  let h := (mix64 (f.fseed ^^^ BitVec.ofNat 64 (y * 65536 + x))).toNat
  let pat := fun (e n : Nat) => recU16 f.pattern (16 * e + 2 * n)
  let eL := (k + bitsOf h 0 6) % f.spp
  let eT := (k + bitsOf h 6 6) % f.spp
  let lu := (pat eL 2 + bitsOf h 12 16) % 65536
  let lv := v32 (r32 0 (frac16 ((pat eL 3 + bitsOf h 28 16) % 65536)).exact)
  let a := recU32 f.record 0x40
  let r := if f.lens.isZero then a else mul32 0 a (transc .sqrt Fmt.b32 (v32 (r32 0 (frac16 lu).exact))).1
  let on := fun g => if (v32 r).isZero then r else mul32 0 r (transc g Fmt.b32 lv).1
  { qx := r32 0 (addE 0 (natFV x) (frac16 (pat k 0))), qy := r32 0 (addE 0 (natFV y) (frac16 (pat k 1))),
    lx := on .cos, ly := on .sin,
    t := (pat eT 4 + bitsOf h 44 16) % 65536 }

/-- A vertex moved to a sample's time and lens position (R388): sx, sy, iz, with its binary16 colours. -/
structure MVert where
  x : Nat
  y : Nat
  iz : Nat
  col : List Nat
  deriving DecidableEq, Repr

def moveVertex (f : Frame) (s : Sample) (v : List Word) : MVert :=
  let w := fun k => (v.getD k 0).toNat
  let at' := fun k => lerp32 (frac16 s.t) (v32 (w k)) (v32 (w (k + 3)))
  let c := r32 0 (addE 0 f.focus (v32 (at' 2)).negate)
  { x := fma32 0 (recU32 f.record 0x30) (mul32 0 s.lx c) (at' 0), y := fma32 0 (recU32 f.record 0x34) (mul32 0 s.ly c) (at' 1),
    iz := at' 2, col := [w 6 % 65536, w 6 / 65536, w 7 % 65536, w 7 / 65536] }

/-- The edge function of R389 at a point. -/
def edgeFn (a b : MVert) (qx qy : Nat) : Nat :=
  let p := mulE (v32 (sub32 0 b.x a.x)) (v32 (sub32 0 qy a.y))
  let n := mulE (v32 (sub32 0 b.y a.y)) (v32 (sub32 0 qx a.x))
  r32 0 (addE 0 p.operand n.operand.negate)

/-- A positive number, or a negative one, under a sign. -/
def posUnder (neg : Bool) (x : FV) : Bool := !x.isNan && !x.isZero && x.sign == neg

/-- The sample lies on the covered side of an edge, ties broken (R389). -/
def edgePass (neg : Bool) (a b : MVert) (e : Nat) : Bool :=
  let dy := v32 (sub32 0 b.y a.y)
  let dx := v32 (sub32 0 b.x a.x)
  posUnder neg (v32 e) || ((v32 e).isZero && (posUnder neg dy || (dy.isZero && posUnder (!neg) dx)))

/-- A fragment: depth and colour codes. -/
structure Frag where
  iz : Nat
  col : List Nat
  deriving DecidableEq, Repr

/-- A weighted sum of three values, rounded once to a format (R390). -/
def weigh (F : Fmt) (wa wb wc : Nat) (a b c : FV) : Nat :=
  let t := (addE 0 (mulE (v32 wa) a).operand (mulE (v32 wb) b).operand).operand
  (deliver F 0 false 0 (addE 0 t (mulE (v32 wc) c).operand)).1

/-- What a triangle gives a sample (R389, R390): none when it does not cover it; a fragment, or none when it is dropped. -/
def triangle (opq : Bool) (qx qy : Nat) (a b c : MVert) : Option (Option Frag) :=
  let ar := edgeFn a b c.x c.y
  let neg := (v32 ar).sign
  let eab := edgeFn a b qx qy
  let ebc := edgeFn b c qx qy
  let eca := edgeFn c a qx qy
  if (v32 ar).isNan || (v32 ar).isZero || !edgePass neg a b eab || !edgePass neg b c ebc || !edgePass neg c a eca then none
  else
    let wa := div32 0 ebc ar
    let wb := div32 0 eca ar
    let wc := div32 0 eab ar
    let iz := weigh Fmt.b32 wa wb wc (v32 a.iz) (v32 b.iz) (v32 c.iz)
    let ch := fun k => weigh Fmt.b16 wa wb wc (Fmt.b16.value (a.col.getD k 0)) (Fmt.b16.value (b.col.getD k 0)) (Fmt.b16.value (c.col.getD k 0))
    let col := [ch 0, ch 1, ch 2, if opq then 0x3C00 else ch 3]
    some (if (v32 iz).isNan || (col.any fun x => (Fmt.b16.value x).isNan) then none else some { iz, col })

/-- The fragment of a micropolygon at a sample (R389). -/
def fragment (f : Frame) (opq : Bool) (q : List (List Word)) (s : Sample) : Option Frag :=
  let v := q.map (moveVertex f s)
  match v with
  | [v00, v10, v01, v11] =>
    match triangle opq s.qx s.qy v00 v10 v11 with
    | some r => r
    | none => (triangle opq s.qx s.qy v00 v11 v01).getD none
  | _ => none

/-- An updated sample entry, as its two doublewords; none when the fragment does not pass (R387, R392). -/
def updateEntry (opq : Bool) (tau : Nat) (g : Frag) (d0 d1 : Nat) : Option (Nat × Nat) :=
  let dep := v32 (d0 % 2 ^ 32)
  let old := [bitsOf d0 32 16, bitsOf d0 48 16, bitsOf d1 0 16, bitsOf d1 16 16]
  let pack := fun (z : Nat) (c : List Nat) =>
    (z + c.getD 0 0 * 2 ^ 32 + c.getD 1 0 * 2 ^ 48, c.getD 2 0 + c.getD 3 0 * 2 ^ 16 + tau * 2 ^ 32)
  if opq then
    if ltFV dep (v32 g.iz) || (leFV dep (v32 g.iz) && leFV (v32 g.iz) dep && decide (bitsOf d1 32 32 ≤ tau)) then
      some (pack g.iz g.col)
    else none
  else if leFV dep (v32 g.iz) then
    let h := Fmt.b16.value
    let u := (addE 0 (natFV 1) (h (g.col.getD 3 0)).negate).operand
    let blend := fun k => (deliver Fmt.b16 0 false 0 (addE 0 (h (g.col.getD k 0)) (mulE u (h (old.getD k 0))).operand)).1
    some (pack (d0 % 2 ^ 32) [blend 0, blend 1, blend 2, blend 3])
  else none

/-! ### Sampling a copy -/

/-- The writer that a die's Sprinkle units are: no core, privileged (R385). -/
def sprinkleWriter (die : Nat) : Writer := { die, core := Config.cores, slot := 0, priv := true }

/-- A write by a die unit for no lane; the core and slot that a refusal logs are free (R433). -/
def State.unitWrite (s : State) (die : Nat) (pa : Nat) (b : List Byte) : State :=
  let (s, refused) := s.writeTarget (sprinkleWriter die) (s.physTarget true pa) b true
  if !refused then s
  else
    let (s, v) := s.draw
    s.modHub fun h => { h with guardLog := h.guardLog.modify ((h.glhead.toNat + 15) % 16) fun g =>
      { g with w1 := BitVec.ofNat 64 (die + v.toNat % 64 * 256 + v.toNat / 64 % 64 * 65536 + 2 ^ 31) } }

def State.modFrame (s : State) (f : Frame → Frame) : State := s.modHub fun h => { h with frame := h.frame.map f }

/-- A fragment updates its sample entry at die scope on the owner (R385, R387, R392, R393). -/
def State.blendSample (s : State) (die : Nat) (f : Frame) (c : GridCopy) (x y k : Nat) (g : Frag) : State :=
  let va := f.sbuf + 16 * (f.spp * (1024 * (f.tw * (y / 32) + x / 32) + 32 * (y % 32) + x % 32) + k)
  match f.phys va 16 with
  | none => s
  | some pa =>
    match s.readTarget die Config.cores (s.physTarget true pa) 16 .die with
    | (s, none) => s.modFrame fun f => { f with dataErr := true }
    | (s, some b) =>
      match updateEntry c.opq (c.ticket.toNat % 2 ^ 32) g (recU64 b 0) (recU64 b 8) with
      | none => s
      | some (d0, d1) => s.unitWrite die pa (leBytes 8 d0 ++ leBytes 8 d1)

/-- The pixels of a tile inside the screen. -/
def Frame.pixels (f : Frame) (tile : Nat) : List (Nat × Nat) :=
  ((List.range 1024).map fun k => (32 * (tile % f.tw) + k % 32, 32 * (tile / f.tw) + k / 32)).filter fun p =>
    decide (p.1 < f.width) && decide (p.2 < f.height)

/-- The samples of tiles: pixel, number and what stands there. -/
def Frame.samples (f : Frame) (tiles : List Nat) : List ((Nat × Nat × Nat) × Sample) :=
  (tiles.flatMap f.pixels).flatMap fun p => (List.range f.spp).map fun k => ((p.1, p.2, k), sampleAt f p.1 p.2 k)

/-- One micropolygon against samples of its owner's tiles (R388). -/
def State.samplePoly (s : State) (die : Nat) (f : Frame) (c : GridCopy) (at' : List ((Nat × Nat × Nat) × Sample)) (i j : Nat) :
    State :=
  let q := (corners c.nu i j).map fun k => c.verts.getD k none
  if !q.all Option.isSome then s
  else
    at'.foldl (fun s p =>
      match fragment f c.opq (q.filterMap id) p.2 with
      | some g => s.blendSample die f c p.1.1 p.1.2.1 p.1.2.2 g
      | none => s) s

/-- A copy is sampled at every sample of the tiles that the die owned when it was sent to it (R388 to R392, R514, R515). -/
def State.sampleCopy (s : State) (die : Nat) (f : Frame) (c : GridCopy) : State :=
  let at' := f.samples c.tiles
  (micropolygons c.nu c.nv).foldl (fun s p => s.samplePoly die f c at' p.1 p.2) s

/-! ### Watermarks -/

/-- The least value received by a die: the global minimum watermark (R382, R517). -/
def Die.leastMark (d : Die) : DWord := minMark d.vrecv

/-! ### The Basket, the spill area and the exchange (R381, R518, R519) -/

def basketGeneral : Nat := 3968
def basketReserved : Nat := 64
def basketSpill : Nat := 3528
def basketReturn : Nat := 2016
def copyBytes : Nat := 8320

/-- The draw sequence of the globally oldest unsampled ticket, as an owner judges it (R518). -/
def Die.oldestStream (d : Die) : Nat :=
  drawSeq (minMark (d.leastMark :: (d.basket ++ d.spill ++ d.exchange).map (·.ticket)))

/-- Reserved slots in use. -/
def Die.reservedUsed (d : Die) : Nat := (d.basket.filter (·.resv)).length

/-- The spill area takes another copy (R519). -/
def Die.spillRoom (d : Die) (f : Frame) : Bool := decide ((d.spill.length + 1) * copyBytes ≤ f.spillsz)

/-- The SPILL packet of a die (R503, R504). -/
def Die.spillPacket (d : Die) (die : Nat) : List DWord := packet 4 die 0 0 d.basket.length d.spill.length 0 0 0

/-- Basket spill is host-assisted (R457). -/
def State.spillHost (s : State) : Bool := s.hub.fnmode.getLsbD 5

/-- A copy stays in the exchange because the spill area is full: one SPILL packet (R519). -/
def State.spillFull (s : State) (a : Nat) (c : GridCopy) : State :=
  let s := s.modDie a fun d => { d with exchange := insertCopy c d.exchange }
  if (s.die a).spillTold then s
  else (s.eqAdd ((s.die a).spillPacket a)).modDie a fun d => { d with spillTold := true }

/-- Line `k` of the place of a spilled copy in a die's spill area, as a physical address (R384, R385). -/
def Frame.spillLine (f : Frame) (a place k : Nat) : Option Nat :=
  f.phys (f.spillAt + a * f.spillsz + copyBytes * place + 128 * k) 128

/-- The first place at or after the `k`-th, taken round `cap` of them, in which no spilled copy stands. -/
def Die.spillPlace (d : Die) (cap k : Nat) : Nat :=
  (((List.range (d.spill.length + 1)).map fun j => (k + j) % cap).find? fun p => d.spill.all fun c => c.place != p).getD 0

/-- A line of free values. -/
def freeLine (k : Nat) : List Byte := (List.range 16).flatMap fun j => leBytes 8 (Config.freeWord (k + j)).toNat

/-- A copy enters the spill area: a free place takes its bytes, to which no rule gives a layout (R381, R385, R519; log 46). -/
def State.spillCopy (s : State) (a : Nat) (f : Frame) (c : GridCopy) : State :=
  let (s, v) := s.draw
  let place := (s.die a).spillPlace (f.spillsz / copyBytes) v.toNat
  let s := (List.range (copyBytes / 128)).foldl (fun s k =>
    match f.spillLine a place k with
    | some pa => ({ s with free := s.free + 16 } : State).unitWrite a pa (freeLine s.free)
    | none => s) s
  s.modDie a fun d => { d with spill := insertCopy { c with resv := false, place } d.spill, spillTold := false }

/-- A copy takes a slot; the crossing of the threshold posts a packet in host-assisted mode (R520). -/
def State.slotCopy (s : State) (a : Nat) (c : GridCopy) (resv : Bool) : State :=
  let s := s.modDie a fun d => { d with basket := d.basket ++ [{ c with resv }] }
  if s.spillHost && (s.die a).basket.length == basketSpill then s.eqAdd ((s.die a).spillPacket a) else s

/-- The copy with the highest ticket in a reserved slot, while every reserved slot is taken by a ticket above another copy's
(R518). -/
def Die.displaced (d : Die) (c : GridCopy) : Option GridCopy :=
  let held := d.basket.filter (·.resv)
  if held.all fun x => decide (c.ticket.toNat < x.ticket.toNat) then
    held.foldr (fun x m =>
      match m with
      | some y => if (y : GridCopy).ticket.toNat < x.ticket.toNat then some x else m
      | none => some x) none
  else none

/-- A copy in a reserved slot spills, and another takes its slot (R518). -/
def State.displace (s : State) (a : Nat) (f : Frame) (top c : GridCopy) : State :=
  ((s.modDie a fun x => { x with basket := x.basket.erase top }).spillCopy a f top).slotCopy a c true

/-- A copy that has arrived is placed: slot, reserved slot, spill area or exchange (R381, R518, R519). -/
def State.placeCopy (s : State) (a : Nat) (f : Frame) (c : GridCopy) : State :=
  let d := s.die a
  let occ := d.basket.length
  let oldest := drawSeq (minMark [BitVec.ofNat 64 (d.oldestStream * 2 ^ 24), c.ticket])
  if !s.spillHost && decide (basketSpill ≤ occ) && decide (d.leastMark.toNat < c.ticket.toNat) then
    if d.spillRoom f then s.spillCopy a f c else s.spillFull a c
  else if occ < basketGeneral then s.slotCopy a c false
  else if drawSeq c.ticket = oldest ∧ d.reservedUsed < basketReserved then s.slotCopy a c true
  else
    match d.displaced c with
    | some top =>
      if drawSeq c.ticket = oldest then
        if d.spillRoom f then s.displace a f top c else s.spillFull a c
      else s.modDie a fun d => { d with exchange := insertCopy c d.exchange }
    | none => s.modDie a fun d => { d with exchange := insertCopy c d.exchange }

/-- A spilled copy is read back; an uncorrectable error on its bytes drops it (R385). -/
def State.unspill (s : State) (a : Nat) (f : Frame) (c : GridCopy) : State × Bool :=
  let s := s.modDie a fun d => { d with spill := d.spill.erase c, spillTold := false }
  let (s, good) := (List.range (copyBytes / 128)).foldl (fun (p : State × Bool) k =>
    match f.spillLine a c.place k with
    | some pa =>
      let (s, b) := p.1.readTarget a Config.cores (p.1.physTarget true pa) 128 .die
      (s, p.2 && b.isSome)
    | none => p) (s, true)
  if good then (s, true) else (s.modFrame fun f => { f with dataErr := true }, false)

/-- A spilled copy returns to a slot. -/
def State.returnCopy (s : State) (a : Nat) (f : Frame) (c : GridCopy) (resv : Bool) : State :=
  let (s, good) := s.unspill a f c
  if good then s.slotCopy a c resv else s

/-- Spilled copies of the oldest stream return into free reserved slots, lowest ticket first; with none free, one whose ticket lies
below theirs takes the slot of the highest, which spills into the place that it leaves (R518, R521). -/
def returnReserved : Nat → Nat → Frame → State → State
  | 0, _, _, s => s
  | n + 1, a, f, s =>
    let d := s.die a
    match d.spill.find? fun c => drawSeq c.ticket == d.oldestStream with
    | none => s
    | some c =>
      if d.reservedUsed < basketReserved then returnReserved n a f (s.returnCopy a f c true)
      else
        match d.displaced c with
        | none => s
        | some top =>
          let (s, good) := s.unspill a f c
          returnReserved n a f (if good then s.displace a f top c else s)

/-- Copies held in the exchange try again, lowest ticket first (R381). -/
def State.retryExchange (s : State) (a : Nat) (f : Frame) : State :=
  let held := (s.die a).exchange
  held.foldl (fun s c => s.placeCopy a f c) (s.modDie a fun d => { d with exchange := [] })

/-- After the Basket or the received values have changed (R381, R518). -/
def State.settleBasket (s : State) (a : Nat) (f : Frame) : State := (returnReserved (s.die a).spill.length a f s).retryExchange a f

/-- General slots in use. -/
def Die.generalUsed (d : Die) : Nat := (d.basket.filter fun c => !c.resv).length

/-- Spilled copies return into general slots, lowest ticket first, while `go` holds; `n` of them at most (R381, R520). -/
def returnCopies : Nat → Nat → (Die → Bool) → Frame → State → State
  | 0, _, _, _, s => s
  | n + 1, a, go, f, s =>
    match (s.die a).spill with
    | [] => s
    | c :: _ => if go (s.die a) then returnCopies n a go f (s.returnCopy a f c false) else s

/-! ### The end of a frame (R393, R530) -/

/-- A completion record at a physical address, if the packet names one (R530). -/
def State.writeRecord (s : State) (crec : Option Nat) (status slot gid fatal : Nat) : State :=
  match crec with
  | none => s
  | some pa => s.agentWrite pa (leBytes 8 (status + slot * 2 ^ 8 + gid * 2 ^ 32) ++ leBytes 8 fatal)

/-- A die still has something to sample for a tile. -/
def Die.holdsTile (d : Die) (tile : Nat) : Bool :=
  (d.basket ++ d.spill ++ d.exchange ++ d.inbound.filterMap fun m =>
    match m with
    | .copy c => some c
    | _ => none).any fun c => c.tiles.contains tile

/-- The completion records of a die's tiles whose copies are all sampled, once the frame ends (R393). -/
def State.closeTiles (s : State) (a : Nat) : State :=
  match s.hub.frame with
  | none => s
  | some f =>
    if f.ending.isNone then s
    else
      ((f.ownedBy a).filter fun t =>
        !f.doneTiles.contains t && !(s.die a).blocked.contains t && !(s.die a).holdsTile t).foldl (fun s t =>
        let s := match f.phys (f.comprec + 8 * t) 8 with
          | some pa => s.unitWrite a pa (leBytes 8 f.id)
          | none => s
        s.modFrame fun f => { f with doneTiles := t :: f.doneTiles }) s

/-- ENDFRAME's record follows every tile's record; the frame is then closed, and moves end with it (R514, R531). -/
def State.closeFrame (s : State) : State :=
  match s.hub.frame with
  | none => s
  | some f =>
    match f.ending with
    | none => s
    | some crec =>
      if (List.range (f.tw * f.th)).any fun t => !f.doneTiles.contains t then s
      else
        let s := s.writeRecord crec (if f.dataErr then 6 else 1) 0 0 0
        let s : State := { s with dies := s.dies.map fun d => { d with blocked := [], spillTold := false } }
        s.modHub fun h => { h with frame := none, ownmove := h.ownmove &&& 0x7FFFFFFF }

/-! ### Events -/

/-- WATERMARK_DELIVERY (R515, R516): the die of the event takes the value at the head of what comes down its link. -/
def execWatermarkDelivery (s : State) : Out :=
  let a := s.args.a
  match (s.die a).inbound with
  | .mark d v :: _ =>
    let s := s.modDie a fun x => { x.popLink with vrecv := x.vrecv.set d v }
    (match s.hub.frame with
      | some f => s.settleBasket a f
      | none => s).eqFlush
  | _ => .next s

/-- GRID_COPY_ARRIVAL (R381): the copy at the head of what comes down a die's link is placed. -/
def execGridCopyArrival (s : State) : Out :=
  let a := s.args.a
  match s.hub.frame with
  | none => .next s
  | some f =>
    match (s.die a).inbound with
    | .copy c :: _ => (((s.modDie a Die.popLink).placeCopy a f c).settleBasket a f).eqFlush
    | _ => (s.settleBasket a f).eqFlush

/-- A copy is sampled on arrival (R391). -/
def onArrival (f : Frame) (c : GridCopy) : Bool := c.oi && decide (drawSeq c.ticket < f.opqend)

/-- Every tile of the copy may be written by the die (R514). -/
def Die.free (d : Die) (c : GridCopy) : Bool := !c.tiles.any fun t => d.blocked.contains t

/-- The copy that an owner may sample next (R391): one that is sampled on arrival wherever it stands, and of the others only one
in the Basket. -/
def Die.eligible (d : Die) (f : Frame) : Option GridCopy :=
  let here := d.basket ++ d.exchange ++ d.spill
  match here.find? fun c => onArrival f c && d.free c with
  | some c => some c
  | none =>
    if here.any fun c => onArrival f c then none
    else
      d.basket.find? fun c => d.free c && (d.vrecv.all fun v => decide (c.ticket.toNat < v.toNat)) &&
        here.all fun x => decide (c.ticket.toNat ≤ x.ticket.toNat)

/-- A copy leaves the place in which it stands, to be sampled; a spilled one is read back (R385). -/
def State.takeCopy (s : State) (a : Nat) (f : Frame) (c : GridCopy) : State × Bool :=
  let d := s.die a
  if d.basket.contains c then (s.modDie a fun d => { d with basket := d.basket.erase c }, true)
  else if d.exchange.contains c then (s.modDie a fun d => { d with exchange := d.exchange.erase c }, true)
  else s.unspill a f c

/-- COPY_SAMPLING (R391, R381, R393). -/
def execCopySampling (s : State) : Out :=
  let a := s.args.a
  match s.hub.frame with
  | none => .next s
  | some f =>
    let s := match (s.die a).eligible f with
      | none => s
      | some c =>
        let before := (s.die a).basket.length
        let (s, good) := s.takeCopy a f c
        let s := if good then s.sampleCopy a f c else s
        let occ := (s.die a).basket.length
        let s := if s.spillHost then
            (if occ == basketReturn && before != occ then s.eqAdd ((s.die a).spillPacket a) else s)
          else if occ ≤ basketReturn then returnCopies (s.die a).spill.length a (fun d => decide (d.basket.length < basketSpill)) f s
          else s
        s.settleBasket a f
    ((s.closeTiles a).closeFrame).eqFlush

/-- The handoff of a tile has arrived at its new owner: the move is complete (R514). -/
def State.endHandoff (s : State) : State :=
  match s.hub.frame with
  | none => s
  | some f =>
    match f.handoff with
    | none => s
    | some (tile, _, new) =>
      if (s.die new).blocked.contains tile then s
      else (s.modFrame fun f => { f with handoff := none }).modHub fun h => { h with ownmove := h.ownmove &&& 0x7FFFFFFF }

/-- The handoff is on its way. -/
def Die.handingOver (d : Die) (tile : Nat) : Bool := d.inbound.contains (.handoff tile)

/-- TILE_HANDOFF (R514): once the old owner has sampled every copy it has received for the tile, it sends the handoff through the
hub; when it arrives the new owner may write. -/
def execTileHandoff (s : State) : Out :=
  match s.hub.frame with
  | none => .next s
  | some f =>
    match f.handoff with
    | none => .next s
    | some (tile, old, new) =>
      if (s.die old).holdsTile tile then .next s
      else
        let s := if (s.die new).handingOver tile || !(s.die new).blocked.contains tile then s else s.linkPut new (.handoff tile)
        .next ((s.endHandoff.closeTiles new).closeFrame)

end Sys2Proof.Machine
end

