-- ==== Sys2Proof/Machine/Needle.lean ====
section
/-! DEFINITION. Sys2Proof/Machine/Needle.lean: the Needle ray unit (R396 to R417): tests, records, traversal, and the RAY words. -/

namespace Sys2Proof.Machine

/-! ### Records (R403) -/

/-- The record of a ray from its 64 bytes. -/
def rayOfBytes (b : List Byte) : RayRec :=
  let w := fun k => recU32 b (4 * k)
  let p := recU64 b 0x28
  { o := [w 0, w 1, w 2], tmin := w 3, d := [w 4, w 5, w 6], tmax := w 7, root := BitVec.ofNat 64 (recU64 b 0x20),
    trail := bitsOf p 0 48, depth := bitsOf p 48 5, slot := bitsOf p 53 3, hit := bitOf p 56, hback := bitOf p 57,
    hslot := bitsOf p 58 2, phase := bitsOf p 60 2, cback := bitOf p 62, malf := bitOf p 63, hprim := w 12, hu := w 13,
    hv := w 14, rflags := w 15 % 8, reason := bitsOf (w 15) 3 1 }

/-- The 64 bytes of a record. -/
def RayRec.bytes (r : RayRec) : List Byte :=
  let f := fun (x : Bool) (n : Nat) => if x then 2 ^ n else 0
  (r.o ++ [r.tmin] ++ r.d ++ [r.tmax]).flatMap (leBytes 4) ++ leBytes 8 r.root.toNat ++
    leBytes 8 (r.trail + r.depth * 2 ^ 48 + r.slot * 2 ^ 53 + f r.hit 56 + f r.hback 57 + r.hslot * 2 ^ 58 + r.phase * 2 ^ 60 +
      f r.cback 62 + f r.malf 63) ++
    leBytes 4 r.hprim ++ leBytes 4 r.hu ++ leBytes 4 r.hv ++ leBytes 4 (r.rflags + r.reason * 8)

/-- binary32 +∞. -/
def inf32 : Nat := Fmt.b32.infCode

/-! ### Tests -/

/-- R400: the ray is valid. -/
def RayRec.valid (r : RayRec) : Bool :=
  ((r.o ++ r.d ++ [r.tmin, r.tmax]).all fun c => (v32 c).isFinite) && !(r.d.all fun c => (v32 c).isZero) &&
    leFV (natFV 0) (v32 r.tmin) && leFV (v32 r.tmin) (v32 r.tmax)

/-- Coordinate `a` of the minimum (0) or the maximum (3) of box `k` of a node (R397). -/
def boxCoord (node : List Byte) (k side a : Nat) : FV := v32 (recU32 node (24 * k + 4 * (side + a)))

/-- (b - o) / d, rounded once. -/
def slabEdge (mode : Nat) (b o d : FV) : Nat := r32 mode (divE (addE 0 b o.negate).operand d)

/-- One axis of a box test (R401): low and high as codes; none for a miss. -/
def boxAxis (r : RayRec) (node : List Byte) (k a : Nat) : Option (Nat × Nat) :=
  let lo := boxCoord node k 0 a
  let hi := boxCoord node k 3 a
  let o := v32 (r.o.getD a 0)
  let d := v32 (r.d.getD a 0)
  if !leFV lo hi then none
  else if d.isZero then
    (if leFV lo o && leFV o hi then some (Fmt.b32.signed true inf32, inf32) else none)
  else if d.sign then some (slabEdge 3 hi o d, slabEdge 2 lo o d)
  else some (slabEdge 3 lo o d, slabEdge 2 hi o d)

/-- The greatest of codes, the first of equals. -/
def greatest32 (x : Nat) (xs : List Nat) : Nat := xs.foldl (fun m c => if ltFV (v32 m) (v32 c) then c else m) x

def least32 (x : Nat) (xs : List Nat) : Nat := xs.foldl (fun m c => if ltFV (v32 c) (v32 m) then c else m) x

/-- near and far of child `k`, whatever the interval (R401). -/
def boxRange (r : RayRec) (node : List Byte) (k : Nat) : Option (Nat × Nat) :=
  match boxAxis r node k 0, boxAxis r node k 1, boxAxis r node k 2 with
  | some x, some y, some z =>
    let near := greatest32 x.1 [y.1, z.1]
    let far := least32 x.2 [y.2, z.2]
    if leFV (v32 near) (v32 far) then some (near, far) else none
  | _, _, _ => none

/-- A box range meets the ray's present interval (R401, R404). -/
def RayRec.reaches (r : RayRec) (x : Nat × Nat) : Bool := leFV (v32 x.1) (v32 r.tmax) && leFV (v32 r.tmin) (v32 x.2)

/-- The key that places the recorded child among its siblings (R407): none places it first. -/
def childKey (r : RayRec) (node : List Byte) (k : Nat) : Option Nat :=
  let axis := fun (a : Nat) =>
    let lo := boxCoord node k 0 a
    let hi := boxCoord node k 3 a
    let o := v32 (r.o.getD a 0)
    let d := v32 (r.d.getD a 0)
    if d.isZero then (if leFV lo o && leFV o hi then some (Fmt.b32.signed true inf32) else none)
    else
      let x := slabEdge 3 (if d.sign then hi else lo) o d
      if (v32 x).isNan then none else some x
  match axis 0, axis 1, axis 2 with
  | some x, some y, some z => some (greatest32 x [y, z])
  | _, _, _ => none

/-- Component differences, each rounded. -/
def sub3 (a b : List Nat) : List Nat := (a.zip b).map fun p => sub32 0 p.1 p.2

/-- One component of Cross: a·b - c·d rounded once. -/
def crossTerm (a b c d : Nat) : Nat :=
  r32 0 (addE 0 (mulE (v32 a) (v32 b)).operand (mulE (v32 c) (v32 d)).operand.negate)

def cross3 (a b : List Nat) : List Nat :=
  let x := fun (v : List Nat) k => v.getD k 0
  [crossTerm (x a 1) (x b 2) (x a 2) (x b 1), crossTerm (x a 2) (x b 0) (x a 0) (x b 2),
   crossTerm (x a 0) (x b 1) (x a 1) (x b 0)]

/-- Dot3: the sum of three products rounded once. -/
def dot3 (a b : List Nat) : Nat :=
  let p := fun k => (mulE (v32 (a.getD k 0)) (v32 (b.getD k 0))).operand
  r32 0 (addE 0 (addE 0 (p 0) (p 1)).operand (p 2))

/-- A triangle candidate: t, u, v and back. -/
structure TriHit where
  t : Nat
  u : Nat
  v : Nat
  back : Bool
  deriving DecidableEq, Repr

/-- t passes the candidate test against the record's interval (R402, R415). -/
def RayRec.takes (r : RayRec) (t : Nat) : Bool :=
  leFV (v32 r.tmin) (v32 t) && (if r.hit then ltFV (v32 t) (v32 r.tmax) else leFV (v32 t) (v32 r.tmax))

/-- R402. -/
def triTest (r : RayRec) (v0 v1 v2 : List Nat) : Option TriHit :=
  let e1 := sub3 v1 v0
  let e2 := sub3 v2 v0
  let s := sub3 r.o v0
  let p := cross3 r.d e2
  let det := v32 (dot3 e1 p)
  let back := ltFV det (natFV 0)
  if det.isNan || det.isZero || (bitOf r.rflags 1 && back) then none
  else
    let q := cross3 s e1
    let un := dot3 s p
    let vn := dot3 r.d q
    let tn := dot3 e2 q
    let sg := fun (x : FV) => if back then x.negate else x
    let a := sg (v32 un)
    let b := sg (v32 vn)
    if !(leFV (natFV 0) a && leFV (natFV 0) b && leFV (addE 0 a b).operand (sg det)) then none
    else
      let d := dot3 e1 p
      let t := div32 0 tn d
      if r.takes t then some { t, u := div32 0 un d, v := div32 0 vn d, back } else none

/-! ### Traversal -/

/-- Why a ray stops. -/
inductive RayOut where
  | done
  | malformed
  /-- suspends (R405): REASON, t, u, v, PRIM, slot, back, leaf address -/
  | suspend (reason t u v prim slot : Nat) (back : Bool) (addr : DWord)
  /-- a read that failed (R409) -/
  | fault (c : Cause) (addr : DWord)
  /-- an uncorrectable sector -/
  | ecc (pa : Nat)
  deriving DecidableEq, Repr

/-- A part of a traversal: it goes on, or the ray stops. -/
inductive Trav where
  | go (r : RayRec)
  | stop (r : RayRec) (o : RayOut)
  deriving DecidableEq, Repr

/-- Fields of a reference (R396). -/
def refKind (x : DWord) : Nat := x.toNat % 4
def refAddr (x : DWord) : DWord := x &&& ~~~63

/-- A reference that a ray cannot follow (R399): a reserved bit, or an address outside memory. -/
def refOutside (x : DWord) : Bool := inWindow (refAddr x) || !canonical (refAddr x)
def refReserved (x : DWord) : Bool := bitsOf x.toNat 2 4 != 0

/-- `n` pieces of 64 bytes, from `a` on, of the node or leaf at `node`, as they stand now; a fault gives the node's address
(R275, R409), and bytes that run into a window are mapped nowhere. -/
def State.piecesRead (s : State) (tid : Nat) (node a : DWord) : Nat → Except RayOut (List Byte)
  | 0 => .ok []
  | n + 1 =>
    match s.engRead tid a 64 with
    | .bad c _ => .error (.fault (if c == .window then .notmapped else c) node)
    | .ecc pa => .error (.ecc pa)
    | .ok b =>
      match s.piecesRead tid node (a + 64) n with
      | .ok bs => .ok (b ++ bs)
      | .error e => .error e

/-- A node or leaf of `n` pieces of 64 bytes. -/
def State.nodeRead (s : State) (tid : Nat) (a : DWord) (n : Nat) : Except RayOut (List Byte) := s.piecesRead tid a a n

/-- A hit is accepted (R405); with FIRST the ray finishes. -/
def RayRec.accept (r : RayRec) (t u v prim slot : Nat) (back : Bool) : RayRec :=
  { r with tmax := t, hit := true, hprim := prim, hu := u, hv := v, hslot := slot, hback := back }

/-- The slots of a triangle leaf from `s` on (R398, R402, R405); `n` of them are left. -/
def triSlots (b : List Byte) (addr : DWord) : Nat → RayRec → Trav
  | 0, r => .go r
  | n + 1, r =>
    let s := 3 - n
    let f := recU32 b (48 * s + 0x28)
    if !bitOf f 0 then triSlots b addr n r
    else if f / 4 ≠ 0 ∨ recU32 b (48 * s + 0x2C) ≠ 0 then .stop r .malformed
    else
      let vert := fun k => (List.range 3).map fun i => recU32 b (48 * s + 12 * k + 4 * i)
      match triTest r (vert 0) (vert 1) (vert 2) with
      | none => triSlots b addr n r
      | some h =>
        let prim := recU32 b (48 * s + 0x24)
        if bitOf f 1 || bitOf r.rflags 2 then
          let r := r.accept h.t h.u h.v prim s h.back
          if bitOf r.rflags 0 then .stop r .done else triSlots b addr n r
        else
          .stop { r with slot := s + 1, cback := h.back, reason := 1 } (.suspend 1 h.t h.u h.v prim s h.back addr)

/-- A triangle leaf from the record's SLOT on. -/
def State.visitTris (s : State) (tid : Nat) (r : RayRec) (addr : DWord) : Trav :=
  match s.nodeRead tid addr 3 with
  | .error e => .stop r e
  | .ok b => triSlots b addr (4 - r.slot) r

/-- A procedural leaf (R398, R405, R411). -/
def State.visitProc (s : State) (tid : Nat) (r : RayRec) (addr : DWord) (key : Option Nat) : Trav :=
  match s.nodeRead tid addr 1 with
  | .error e => .stop r e
  | .ok b =>
    if recU32 b 4 ≠ 0 ∨ !((b.drop 16).all fun x => x == 0) then .stop r .malformed
    else if r.slot = 4 then .go r
    else
      let t := match key with
        | some k => if ltFV (v32 r.tmin) (v32 k) then k else r.tmin
        | none => r.tmin
      .stop { r with slot := 4, cback := false, reason := 0 } (.suspend 0 t 0 0 (recU32 b 0) 0 false addr)

/-- References of a node. -/
def nodeRef (b : List Byte) (k : Nat) : DWord := BitVec.ofNat 64 (recU64 b (0x60 + 8 * k))

/-- A child that the rays's line meets: key, index, far. -/
structure Child where
  near : Nat
  k : Nat
  far : Nat
  deriving DecidableEq, Repr

/-- Ascending key, then ascending index (R404). -/
def Child.before (a b : Child) : Bool :=
  ltFV (v32 a.near) (v32 b.near) || (!ltFV (v32 b.near) (v32 a.near) && decide (a.k < b.k))

def insertChild (c : Child) : List Child → List Child
  | [] => [c]
  | x :: xs => if c.before x then c :: x :: xs else x :: insertChild c xs

/-- The children of a node in the order of R404; empty references take no part. -/
def nodeChildren (r : RayRec) (b : List Byte) : List Child :=
  ((List.range 4).filterMap fun k =>
    if refKind (nodeRef b k) = 0 then none
    else (boxRange r b k).map fun x => ({ near := x.1, k, far := x.2 } : Child)).foldr insertChild []

/-- TRAIL with the child taken to depth `d` + 1; it has 24 places (R403). -/
def RayRec.step (r : RayRec) (d k : Nat) : RayRec :=
  if 24 ≤ d then r
  else { r with trail := r.trail - bitsOf r.trail (2 * d) 2 * 2 ^ (2 * d) + k * 2 ^ (2 * d) }

/-- Children in order, each tested against the interval as it is reached (R404); `visit` takes the record, the reference and
the key. -/
def visitChildren (b : List Byte) (depth : Nat) (visit : RayRec → DWord → Nat → Trav) : List Child → RayRec → Trav
  | [], r => .go r
  | c :: cs, r =>
    if !r.reaches (c.near, c.far) then visitChildren b depth visit cs r
    else
      match visit (r.step depth c.k) (nodeRef b c.k) c.near with
      | .go r => visitChildren b depth visit cs r
      | .stop r o => .stop r o

/-- An internal node read for its contents (R397, R399). -/
def State.openNode (s : State) (tid : Nat) (addr : DWord) : Except RayOut (List Byte) :=
  if addr.getLsbD 6 then .error .malformed
  else
    match s.nodeRead tid addr 2 with
    | .error e => .error e
    | .ok b => if (List.range 4).any fun k => refReserved (nodeRef b k) then .error .malformed else .ok b

/-- A position that has not been entered (R404, R405, R407). The number is 25 less the depth: below depth 24 a tree is
malformed (R399). -/
def State.visit (s : State) (tid : Nat) : Nat → RayRec → DWord → Option Nat → Trav
  | 0, r, _, _ => .stop r .malformed
  | n + 1, r, ref, key =>
    let depth := 24 - n
    if refReserved ref || (refKind ref != 0 && refOutside ref) then .stop r .malformed
    else
      let addr := refAddr ref
      let r := { r with depth, slot := 0 }
      match refKind ref with
      | 0 => .go r
      | 1 =>
        match s.openNode tid addr with
        | .error e => .stop r e
        | .ok b => visitChildren b depth (fun r x k => s.visit tid n r x (some k)) (nodeChildren r b) r
      | 2 => s.visitTris tid r addr
      | _ => s.visitProc tid r addr key

/-- Siblings that follow the recorded child (R407). -/
def laterChildren (r : RayRec) (b : List Byte) (k : Nat) : List Child :=
  match childKey r b k with
  | none => (nodeChildren r b).filter fun c => c.k != k
  | some x => (nodeChildren r b).filter fun c => c.k != k && ({ near := x, k, far := x } : Child).before c

/-- The position at which a ray goes on (R407); below the root its reference must still lead somewhere. -/
def State.reenter (s : State) (tid n : Nat) (r : RayRec) (ref : DWord) (key : Option Nat) : Trav :=
  if r.depth ≠ 0 ∧ refKind ref = 0 then .stop r .malformed
  else if r.slot = 0 then s.visit tid (n + 1) r ref key
  else
    match refKind ref with
    | 2 => s.visitTris tid r (refAddr ref)
    | 3 => s.visitProc tid r (refAddr ref) key
    | _ => .stop r .malformed

/-- The way down along TRAIL, and up again (R407, R409). -/
def State.descend (s : State) (tid : Nat) : Nat → RayRec → DWord → Option Nat → Trav
  | 0, r, _, _ => .stop r .malformed
  | n + 1, r, ref, key =>
    let depth := 24 - n
    if refKind ref != 0 && refOutside ref then .stop r .malformed
    else if r.depth ≤ depth then s.reenter tid n r ref key
    else if refKind ref ≠ 1 then .stop r .malformed
    else
      match s.nodeRead tid (refAddr ref) 2 with
      | .error e => .stop r e
      | .ok b =>
        let k := bitsOf r.trail (2 * depth) 2
        match s.descend tid n r (nodeRef b k) (childKey r b k) with
        | .stop r o => .stop r o
        | .go r => visitChildren b depth (fun r x k => s.visit tid n r x (some k)) (laterChildren r b k) r

/-- A whole traversal: the record as it is left, and why it stopped (R400, R406, R409). -/
def State.traverse (s : State) (tid : Nat) (r : RayRec) (resume : Bool) : RayRec × RayOut :=
  let t := if resume then s.descend tid 25 r r.root none
    else if r.valid then s.visit tid 25 r r.root none else .go r
  let (r, o) := match t with
    | .go r => (r, RayOut.done)
    | .stop r o => (r, o)
  match o with
  | .done => ({ r with phase := 3, malf := false }, o)
  | .malformed => ({ r with phase := 3, malf := true }, o)
  | .suspend .. => ({ r with phase := 1 }, o)
  | _ => ({ r with phase := 2 }, o)

/-! ### Result blocks (R411) -/

def rayWords (xs : List Nat) : List Word := xs.map (BitVec.ofNat 32)

/-- The done result (R406). -/
def RayRec.doneResult (r : RayRec) : List Word :=
  let f := fun (x : Bool) (n : Nat) => if x then 2 ^ n else 0
  if r.malf then rayWords [4, inf32, 0, 0, 0, 0, 0, r.tmax]
  else if r.hit then rayWords [1 + f r.hback 3 + r.hslot * 2 ^ 4, r.tmax, 0, 0, r.hprim, r.hu, r.hv, r.tmax]
  else rayWords [0, inf32, 0, 0, 0, 0, 0, r.tmax]

/-- The result of a traversal. -/
def rayResult (r : RayRec) (o : RayOut) : List Word :=
  let f := fun (x : Bool) (n : Nat) => if x then 2 ^ n else 0
  match o with
  | .suspend reason t u v prim slot back addr =>
    rayWords [2 + f back 3 + slot * 2 ^ 4 + reason * 2 ^ 6 + f r.hit 7, t, (lo32 addr).toNat, (hi32 addr).toNat, prim, u, v, r.tmax]
  | .fault c addr => rayWords [3 + c.code * 2 ^ 8, inf32, (lo32 addr).toNat, (hi32 addr).toNat, 0, 0, 0, r.tmax]
  | _ => r.doneResult

/-- The result of a helper lane (R412). -/
def helperResult : List Word := rayWords [0, inf32, 0, 0, 0, 0, 0, 0]

/-! ### Words -/

/-- What a RAY word does with its record, with the register values that it captured (R412 to R416). -/
inductive RayAct where
  | trace (x : RayRec)
  | resume
  | accept (t u v prim : Nat)
  | read
  | finish
  deriving DecidableEq, Repr

/-- A ray parked on a fault, its queue entry posted or still to come. -/
def Ray.parked (x : Ray) : Bool := !x.done && (x.fq.isSome || x.want.isSome)

def Op.rays (o : Op) : List Ray :=
  match o.body with
  | .rays rs => rs
  | _ => []

/-- A lane has a RAY operation that the Needle has still to perform, and that is not parked on a fault, among those issued before
number `id` (R412). -/
def State.rayBusy (s : State) (r : Ref) (id : Nat) : Bool :=
  s.ops.any fun o => decide (o.id < id) && o.team == r.team && o.wave == r.wave &&
    o.rays.any fun x => x.lane == r.lane && !x.done && x.fixed.isNone && !x.parked

/-- A ray in flight: its result is not known. -/
def Ray.flies (x : Ray) : Bool := !x.done && x.fixed.isNone

/-- Rays in flight in a core's Needle, over its resident teams (R408). -/
def State.raysInFlight (s : State) (die core : Nat) : Nat :=
  (s.ops.map fun o =>
    if (s.team o.team).die == die && (s.team o.team).core == core && (s.team o.team).place == .resident then
      (o.rays.filter Ray.flies).length else 0).sum

/-- The parked ray that holds a record: its operation and lane (R414, R416). -/
def State.parkedRay (s : State) (t : Target) : Option (Op × Ray) :=
  s.ops.findSome? fun o => (o.rays.find? fun x => x.parked && x.tgt == t).map fun x => (o, x)

def State.modRay (s : State) (id lane : Nat) (f : Ray → Ray) : State :=
  s.modOp id fun o => { o with body := match o.body with
    | .rays rs => .rays (rs.map fun x => if x.lane == lane then f x else x)
    | b => b }

/-- A record is written (R403, R433). -/
def State.putRecord (s : State) (r : Ref) (va : DWord) (t : Target) (x : RayRec) (wrec : WordRec) : State :=
  let (s, refused) := s.writeTarget (s.writer r.team) t x.bytes false
  if refused then s.recordRperm r.team r.wave { wrec with addr := va, lane := r.lane } else s

/-- The record of a ray that runs: the Needle leaves its bytes undefined, PHASE reading 0 (R403, R414; log 12). A record that
the write guard protects stays. -/
def State.holdRecord (s : State) (tid : Nat) (t : Target) : State :=
  if (s.writeTarget (s.writer tid) t (List.replicate 64 0) false).2 then s
  else (List.range 8).foldl (fun s k =>
    s.draw.1.poke (t.plus (8 * k)) (if k = 5 then s.draw.2 &&& 0xCFFFFFFFFFFFFFFF else s.draw.2)) s

/-- What a RAY word does for one lane at its issue: the state, and a ray, a cause, or nothing further. -/
inductive RayDo where
  | ray (x : Ray)
  | bad (c : Cause)
  | none
  deriving DecidableEq, Repr

/-- A ray to be. -/
def newRay (r : Ref) (rd : Nat) (va : DWord) (t : Target) (rcd : RayRec) : Ray :=
  { lane := r.lane, rd, va, tgt := t, rcd, resume := false, fixed := none, done := false, fq := none, want := none,
    todo := false, kept := false }

/-- What a RAY word does for one lane whose record reads as `x` (R413 to R416). -/
def State.rayAct (s : State) (r : Ref) (rd : Nat) (va : DWord) (t : Target) (x : RayRec) (wrec : WordRec) (a : RayAct) :
    State × RayDo :=
  match a with
  | .trace y => ((s.putRecord r va t y wrec).holdRecord r.team t, .ray (newRay r rd va t y))
  | .resume =>
    if (s.parkedRay t).isSome || x.phase == 0 then (s, .bad .layout)
    else if x.phase = 3 then (s, .ray { newRay r rd va t x with fixed := some x.doneResult })
    else
      let y := { x with phase := 0 }
      ((s.putRecord r va t y wrec).holdRecord r.team t, .ray { newRay r rd va t y with resume := true })
  | .accept h u v prim =>
    if x.phase ≠ 1 then (s, .bad .layout)
    else if !x.takes h then (s, .none)
    else
      let any := x.reason == 1
      let y := x.accept h u v prim (if any then (x.slot + 3) % 4 else 0) (any && x.cback)
      (s.putRecord r va t (if bitOf y.rflags 0 then { y with phase := 3, malf := false } else y) wrec, .none)
  | .read =>
    if x.phase = 0 then (s, .bad .layout)
    else (s, .ray { newRay r rd va t x with fixed := some (rayWords (x.o ++ [x.tmin] ++ x.d ++ [x.tmax])) })
  | .finish =>
    if x.phase = 0 then (s, .bad .layout)
    else
      let y := { x with phase := 3 }
      let s := match s.parkedRay t with
        | none => s
        | some (op, p) =>
          let s := match p.fq with
            | some k => s.fqDrop (s.team op.team).die k
            | none => s
          s.modRay op.id p.lane fun q => { q with fq := none, want := none, fixed := some y.doneResult }
      (s.putRecord r va t y wrec, .ray { newRay r rd va t y with fixed := some y.doneResult })

/-- The record as a RAY word reads it; TRACE reads none. -/
def State.readRecord (s : State) (tid : Nat) (t : Target) (a : RayAct) : State × Option RayRec :=
  match a with
  | .trace x => (s, some x)
  | _ =>
    let (s, b) := s.readTarget (s.team tid).die (s.team tid).core t 64 .l1
    (s, b.map rayOfBytes)

/-- A lane's record is not to be checked yet (R412, R428): the Needle performs the operations of one lane in issue order, and waits
for the record's presence bit. TRACE has no check of the record's contents. -/
def State.rayUnchecked (s : State) (r : Ref) (t : Target) (a : RayAct) : Bool :=
  match a with
  | .trace _ => false
  | _ => s.rayBusy r s.nextOp || (s.absentAt t 64).isSome

/-- A lane's operation that adds a ray in flight, its record as it stands now (R408). -/
def State.rayStarts (s : State) (t : Target) (a : RayAct) : Bool :=
  match a with
  | .trace _ => true
  | .resume => (match s.nowTarget t 64 with
    | some b => (s.parkedRay t).isNone && ((rayOfBytes b).phase == 1 || (rayOfBytes b).phase == 2)
    | none => false)
  | _ => false

/-- What a RAY word does for one lane that has passed its address checks: a TRACE that cannot begin waits inside the Needle. -/
def State.rayLane (s : State) (o : FA) (r : Ref) (va : DWord) (t : Target) (a : RayAct) : State × RayDo :=
  match (if s.rayBusy r s.nextOp || (s.absentAt t 64).isSome then a else .read), a with
  | .trace y, _ => (s, .ray { newRay r o.rd.toNat va t y with todo := true })
  | _, a =>
    match s.readRecord r.team t a with
    | (s, none) => (s, .bad .ecc)
    | (s, some y) => s.rayAct r o.rd.toNat va t y { clause := s.bundle.clause, idx := s.bundle.idx } a

/-- The frame of the RAY words (R412): `act` is what the word does for a lane. The bundle waits until the record checks of every
lane can be made (R428) and the rays that the word starts have room (R408); the word is a release, at which REMOTEPERM is
delivered (R430). `inFlight` is true for words whose rays R408 counts, `writes` for words with a result block. -/
def rayWord (s : State) (o : FA) (inFlight writes : Bool) (act : State → Ref → RayAct) : Out :=
  whenIssued s fun s =>
    if s.counterFull .nd || s.tileStores s.active then s.hold
    else
      let own := laneAsc ((s.active.filter fun r => !(s.lane r).isHelper).map fun r => (r, s.src64 r o.ra))
      let res := own.map fun x => (x.1, x.2, s.check x.1.team x.2 64 64 needRW false)
      let misses := res.filterMap fun x => match x.2.2 with
        | .miss g v => some (g, v)
        | _ => none
      let oks := res.filterMap fun x => match x.2.2 with
        | .ok t => some (x.1, x.2.1, t)
        | _ => none
      let starts := (oks.filter fun x => s.rayStarts x.2.2 (act s x.1)).length
      if !misses.isEmpty then (s.modIssue fun b => { b with walks := misses.eraseDups }).hold
      else if oks.any fun x => s.rayUnchecked x.1 x.2.2 (act s x.1) then s.hold
      else if inFlight && s.raysInFlight s.bundle.die s.bundle.core != 0 &&
          decide (2048 < s.raysInFlight s.bundle.die s.bundle.core + starts) then s.hold
      else
        let faults : List LaneFault := res.filterMap fun x => match x.2.2 with
          | .bad c w => some { r := x.1, cause := c, addr := x.2.1, write := true, walk := w }
          | _ => none
        let s := s.releaseWord 2
        let lanes := s.active
        let (s, rays, bad) := (oks.filter fun x => s.stays x.1).foldl
          (fun (p : State × List (Ref × Ray) × List LaneFault) x =>
            match p.1.rayLane o x.1 x.2.1 x.2.2 (act p.1 x.1) with
            | (s, .ray y) => (s, p.2.1 ++ [(x.1, y)], p.2.2)
            | (s, .bad c) => (s, p.2.1, p.2.2 ++ [{ r := x.1, cause := c, addr := if c == .ecc then x.2.1 else 0 }])
            | (s, .none) => (s, p.2.1, p.2.2)) (s, [], faults)
        let help := if !writes then [] else (lanes.filter fun r => (s.lane r).isHelper).map fun r =>
          (r, { newRay r o.rd.toNat 0 (.fw 0) (rayOfBytes []) with fixed := some helperResult })
        let s := s.faultLanes bad
        let all := rays ++ help
        let s := (wavesOf lanes).foldl (fun s w =>
          let mine := (all.filter fun x => x.1.team == w.1 && x.1.wave == w.2).map (·.2)
          if mine.isEmpty then s.emptyOps [w] .nd
          else s.addOp w.1 w.2 .nd writes [] [] [] (.rays mine)) s
        s.finish lanes []

/-- The record that TRACE writes (R413). -/
def State.traceRecord (s : State) (r : Ref) (o : FA) : RayRec :=
  let w := fun k => (s.rawReg r (o.rb.toNat + k)).toNat
  { o := [w 0, w 1, w 2], tmin := w 3, d := [w 4, w 5, w 6], tmax := w 7, root := s.rawPair r (o.rb.toNat + 8), trail := 0,
    depth := 0, slot := 0, hit := false, hback := false, hslot := 0, phase := 0, cback := false, malf := false, hprim := 0,
    hu := 0, hv := 0, rflags := o.sub.toNat % 8, reason := 0 }

/-- TRACE (R413). -/
def execTrace (o : FA) (s : State) : Out := rayWord s o true true fun s r => .trace (s.traceRecord r o)

/-- TRESUME (R414). -/
def execTresume (o : FA) (s : State) : Out := rayWord s o true true fun _ _ => .resume

/-- TACCEPT (R415). -/
def execTaccept (o : FA) (s : State) : Out :=
  rayWord s o false false fun s r =>
    let w := fun k => (s.rawReg r (o.rb.toNat + k)).toNat
    .accept (w 0) (w 1) (w 2) (w 3)

/-- TSTATE.read (R416). -/
def execTstateRead (o : FA) (s : State) : Out := rayWord s o false true fun _ _ => .read

/-- TSTATE.end (R416). -/
def execTstateEnd (o : FA) (s : State) : Out := rayWord s o false true fun _ _ => .finish

/-! ### RAY_RETURN -/

/-- A ray has returned: its register results are written, and the operation retires with its last ray (R412). -/
def State.rayDone (s : State) (op : Op) (x : Ray) (regs : List Word) : State :=
  let r : Ref := ⟨op.team, op.wave, x.lane⟩
  let s := if (s.lane r).ended then s else regs.zipIdx.foldl (fun s p => s.setReg r (x.rd + p.2) p.1) s
  let s := s.modRay op.id x.lane fun y => { y with done := true, fq := none, want := none }
  if (s.ops.any fun o => o.id == op.id && o.rays.all (·.done)) then s.opDone op.id else s

/-- A faulted ray posts its entry, or waits for one to free (R409, R441, R442). -/
def State.postRay (s : State) (op : Op) (lane cause : Nat) (addr : DWord) : State :=
  let die := (s.team op.team).die
  match (s.die die).fqFree with
  | none => s.modRay op.id lane fun y => { y with want := some (cause, addr) }
  | some k =>
    (s.fqAdd die
      { index := k, state := 1, kind := 1, saved := false, fetch := false, write := false, cause, idx := op.idx, lane,
        wave := op.wave, core := (s.team op.team).core, grid := (s.gridOf op.team).slot, team := (s.team op.team).t,
        tid := some op.team, lanes := 1 <<< lane, addr, clause := op.clause }).modRay op.id lane fun y =>
        { y with fq := some k, want := none }

/-- An earlier operation of the wave has still to write a register of the ray's result block (R46). -/
def State.rayWaits (s : State) (op : Op) (x : Ray) : Bool :=
  let mine := if op.writes then (List.range 8).map fun k => dstOf x.lane (x.rd + k) else []
  s.ops.any fun o => decide (o.id < op.id) && o.team == op.team && o.wave == op.wave && o.ctr == op.ctr && !o.done &&
    o.dsts.any mine.contains

/-- A ray's result is known: it is written, or waits for earlier results to the same registers (R46). -/
def State.rayResolve (s : State) (op : Op) (x : Ray) (regs : List Word) : State :=
  if s.rayWaits op x then s.modRay op.id x.lane fun y => { y with fixed := some regs, fq := none, want := none }
  else s.rayDone op x regs

/-- The reads of a traversal, as they count at the memory dies (R532, R533): an uncorrectable node, the walk of a node that faults,
and each word with a correctable error that the traversal depends on. -/
def State.noteRay (s : State) (tid : Nat) (x : Ray) : State :=
  let last := s.traverse tid x.rcd x.resume
  let read := s.mem.flips.filter fun c => (s.modMem fun m => { m with poison := c :: m.poison }).traverse tid x.rcd x.resume != last
  let s := read.foldl (fun s c => s.noteWord c false) s
  match last.2 with
  | .ecc pa => s.logUE pa false
  | .fault _ a => s.noteAccess tid a 64 needR
  | _ => s

/-- One ray traverses (R404 to R409). -/
def State.runRay (s : State) (op : Op) (x : Ray) : State :=
  let (rcd, out) := s.traverse op.team x.rcd x.resume
  let s := s.noteRay op.team x
  let wrec : WordRec := { clause := op.clause, idx := op.idx }
  let put := fun (s : State) => s.putRecord ⟨op.team, op.wave, x.lane⟩ x.va x.tgt rcd wrec
  match out with
  | .ecc pa => (s.engineEcc op x.lane (BitVec.ofNat 64 pa)).rayDone op x []
  | .fault c a =>
    if s.fltHw && (s.team op.team).fatal.isNone then
      ((put s).modRay op.id x.lane fun y => { y with rcd, resume := true }).postRay op x.lane c.code a
    else (put s).rayResolve op x (rayResult rcd out)
  | _ => (put s).rayResolve op x (rayResult rcd out)

/-- A TRACE that waits inside the Needle begins in its turn, once its record is present (R412): the record is written. -/
def State.rayBegin (s : State) (op : Op) (x : Ray) : State :=
  let r : Ref := ⟨op.team, op.wave, x.lane⟩
  if s.rayBusy r op.id || (s.absentAt x.tgt 64).isSome then s
  else
    ((s.putRecord r x.va x.tgt x.rcd { clause := op.clause, idx := op.idx }).holdRecord op.team x.tgt).modRay op.id x.lane fun y =>
      { y with todo := false }

/-- RAY_RETURN (R409, R412 to R417). -/
def execRayReturn (s : State) : Out :=
  .next (match s.liveOp s.args.a with
    | none => s
    | some op =>
      match op.rays.find? fun x => x.lane == s.args.b && !x.done with
      | none => s
      | some x =>
        if (s.team op.team).isSaved then s else
        match x.fixed, x.fq, x.want with
        | some regs, _, _ => s.rayResolve op x regs
        | none, some _, _ => s
        | none, none, some (c, a) => s.postRay op x.lane c a
        | none, none, none =>
          if x.todo then s.rayBegin op x
          else if (s.absentAt x.tgt 64).isSome then s
          else s.runRay op x)

end Sys2Proof.Machine
end

