-- ==== Sys2Proof/Machine/Place.lean ====
section
/-! DEFINITION. Sys2Proof/Machine/Place.lean: room on a core (R175, R176, R455), the placing of a team (R52, R172 to R176,
R179, R215, R327, R470), and a team and a grid that end (R131, R445, R530). -/

namespace Sys2Proof.Machine

/-! ### Room -/

/-- Teams whose waves stand on a core. -/
def State.residents (s : State) (die core : Nat) : List Nat :=
  (List.range s.teams.length).filter fun k =>
    (s.team k).die == die && (s.team k).core == core && (s.team k).place == .resident

/-- An ended team whose scratchpad stays for its cluster partner (R445). -/
def State.keepsSpad (s : State) (k : Nat) : Bool := (s.team k).place == .ended && (s.partner k).isSome

/-- A team's scratchpad stands on its core. -/
def State.hasSpad (s : State) (k : Nat) : Bool := (s.team k).place == .resident || s.keepsSpad k

/-- Scratchpad bytes in use on a core (R175, R445). -/
def State.spadUsed (s : State) (die core : Nat) : Nat :=
  (((List.range s.teams.length).filter fun k =>
    (s.team k).die == die && (s.team k).core == core && s.hasSpad k).map fun k => (s.gridOf k).spad).sum

/-- Slices of teams whose scratchpad has left its core rejoin the L1 (R233). -/
def State.trimSlices (s : State) : State :=
  s.modMem fun m => { m with scratch := m.scratch.filter fun x => s.hasSpad x.team }

/-- The slices that a team's scratchpad takes on its core (R233). -/
def State.giveSlices (s : State) (tid : Nat) : State :=
  s.modMem fun m => (m.takeSlices tid).giveSlices (s.team tid).die (s.team tid).core tid (s.gridOf tid).scr

/-- Tiles in use on a core. -/
def State.tilesUsed (s : State) (die core : Nat) : Nat := ((s.residents die core).map fun k => (s.gridOf k).acct).sum

/-- Wave slots in use on a partition. -/
def State.waveSlots (s : State) (die core part : Nat) : List Nat :=
  (s.residents die core).flatMap fun k => (s.team k).waves.filterMap fun w => if w.part == part then some w.wslot else none

/-- Registers in use on a partition (R175). -/
def State.regsUsed (s : State) (die core part : Nat) : Nat :=
  ((s.residents die core).map fun k =>
    ((s.team k).waves.filter fun w => w.part == part).length * (32 * (s.gridOf k).regs)).sum

/-- Waves that a deal from `p0` gives a partition (R176). -/
def dealt (waves p0 part : Nat) : Nat := ((List.range waves).filter fun i => (p0 + i) % Config.partitions == part).length

/-- A deal from `p0` fits (R176). -/
def State.dealFits (s : State) (die core : Nat) (g : Grid) (p0 : Nat) : Bool :=
  (List.range Config.partitions).all fun p =>
    let n := dealt g.waves p0 p
    decide ((s.waveSlots die core p).length + n ≤ Config.waveSlots) &&
      decide (s.regsUsed die core p + n * (32 * g.regs) ≤ Config.partRegs)

/-- The partition with the fewest occupied wave slots, the lowest of equals (R176). -/
def State.startPart (s : State) (die core : Nat) : Nat :=
  (List.range Config.partitions).foldl (fun b p =>
    if (s.waveSlots die core p).length < (s.waveSlots die core b).length then p else b) 0

/-- The start partition that fits (R176). -/
def State.dealAt (s : State) (die core : Nat) (g : Grid) : Option Nat :=
  let p := s.startPart die core
  ((List.range Config.partitions).map fun k => (p + k) % Config.partitions).find? fun p0 => s.dealFits die core g p0

/-- The core has room for a team of a grid that brings `gran` granules: the start partition (R176, R455). -/
def State.room (s : State) (die core : Nat) (g : Grid) (gran : Nat) : Option Nat :=
  if Config.coreTeams ≤ (s.residents die core).length then none
  else if Config.coreScratch < s.spadUsed die core + g.spad then none
  else if Config.coreTiles < s.tilesUsed die core + g.acct then none
  else if gran != 0 && decide (64 < s.granules die core + gran) then none
  else s.dealAt die core g

/-! ### Placing a team -/

/-- A lane as its thread begins (R52, R173). -/
def freshLane (g : Grid) (t l : Nat) : Lane :=
  let n := g.nt
  let quads := (n + 3) / 4 * 4
  if quads ≤ l then Lane.blank
  else
    { Lane.blank with
      absent := false, ended := false, helper := decide (n ≤ l), g := List.replicate g.regs 0, clause := g.entry,
      sp := stackBase g t l + BitVec.ofNat 64 g.stkSize,
      gen := seedGen g.seed (BitVec.ofNat 64 (threadG g t l)) }

/-- Lanes of a wave that are not absent (R179). -/
def presentMask (g : Grid) (w : Nat) : BitVec 32 :=
  maskOf ((List.range 32).filter fun k => decide (32 * w + k < (g.nt + 3) / 4 * 4))

/-- A wave as it starts (R52, R179). -/
def freshWave (g : Grid) (t w part slot : Nat) (pick : BitVec 32) : Wave :=
  { Wave.blank with
    w := g.winit, lanes := (List.range 32).map fun k => freshLane g t (32 * w + k), part, wslot := slot, stamp := pick,
    entries := [{ slot, stamp := pick, runs := 0, clause := g.entry, idx := 0, depth := 0, path := 0, park := 0,
                  why := .none, yh := false, defer := 0, mask := presentMask g w, flight := none }] }

/-- A team as it begins (R215, R232, R240, R320, R327, R365, R470); its waves come with its place. -/
def freshTeam (k : Nat) (g : Grid) (t : Nat) : Team :=
  { Team.blank with
    grid := k, t, place := .waiting,
    bars := List.replicate 16 (Barrier.init g.nt), handles := List.replicate 32 Handle.blank,
    tiles := List.replicate g.acct Tile.blank,
    hold := if g.dcnt = 0 then none else some (baseTicket g.dbase) }

/-- The slot of a wave dealt to a partition whose slots `used` are taken. DESIGN CHOICE (log 91): the lowest free one. -/
def lowestFree (used : List Nat) (n : Nat) : Nat := ((List.range n).find? fun k => !used.contains k).getD 0

/-- Partition and wave slot of each wave dealt from `p0` (R176). -/
def State.seats (s : State) (die core p0 : Nat) : Nat → List (Nat × Nat)
  | 0 => []
  | n + 1 =>
    let before := s.seats die core p0 n
    let p := (p0 + n) % Config.partitions
    let used := s.waveSlots die core p ++ (before.filter fun x => x.1 == p).map (·.2)
    before ++ [(p, lowestFree used Config.waveSlots)]

/-- The pick number of a partition of a core with which a new entry or wave is stamped: the number that its next pick will carry,
so that the entry is the youngest (R185; log 74). -/
def State.pickAt (s : State) (die core part : Nat) : BitVec 32 := (s.die die).pickNo core part

/-- The narrowest scope that contains the core that a team has left and the core of its die on which it resumes (R267). -/
def moveScope (k1 k2 : Nat) : Nat := if k1 = k2 then 2 else if k1 / 2 = k2 / 2 then 3 else 4

/-- A team stands on a core, every thread at its start (R52, R176): its scratchpad takes its slices (R233), and an acquire comes
before its first word: at system scope for a new team, for what was written before its grid's submission (R257), and at the scope
of its move for one that was flushed (R267). -/
def State.startTeam (s : State) (tid die core p0 scope : Nat) : State :=
  let g := s.gridOf tid
  let t := (s.team tid).t
  let seats := s.seats die core p0 g.waves
  let ws := seats.zipIdx.map fun x => freshWave g t x.2 x.1.1 x.1.2 (s.pickAt die core x.1.1)
  ((s.modTeam tid fun x => { freshTeam x.grid g t with
    die, core, place := .resident, waves := ws, placedAt := s.hub.gtime.toNat }).giveSlices tid).acquire tid scope

/-- The indices of team records of a new run. -/
def State.addTeam (s : State) (k t : Nat) : State :=
  { s with teams := s.teams ++ [freshTeam k (s.grids.getD k Grid.blank) t] }

/-- A new index is placed on a core that has room. -/
def State.placeNew (s : State) (k t die core : Nat) : State :=
  match s.room die core (s.grids.getD k Grid.blank) 0 with
  | some p0 => (s.addTeam k t).startTeam s.teams.length die core p0 6
  | none => s

/-- How many teams of a grid the core can place now, up to `n` (R194). -/
def State.capacity (s : State) (k die core : Nat) : Nat → Nat
  | 0 => 0
  | n + 1 =>
    if (s.room die core (s.grids.getD k Grid.blank) 0).isSome then 1 + (s.placeNew k 0 die core).capacity k die core n else 0

/-! ### Split entries and tickets -/

/-- Entries of a grid leave every split queue. -/
def State.dropSplit (s : State) (k : Nat) : State :=
  { s with dies := s.dies.map fun d => { d with splitQ := d.splitQ.filter fun e => e.grid != k } }

/-! ### A grid that ends -/

/-- Dispatch stealing is host-assisted (R457). -/
def State.stealHost (s : State) : Bool := s.hub.fnmode.getLsbD 3

/-- Ranges that SPAWN operations still have to put into a die's queue (R510). -/
def State.spawning (s : State) (d : Nat) : List Range :=
  s.ops.filterMap fun o =>
    match o.body with
    | .spawn _ r => if (s.team o.team).die = d then r else none
    | _ => none

/-- Dispatch of a grid has ended: every index of a deterministic grid is handed out (R200); of another grid no range is left, and
unless system software moves its ranges every die has reported it exhausted (R195, R196, R512 case 3). -/
def State.dispatched (s : State) (k : Nat) : Bool :=
  let g := s.grids.getD k Grid.blank
  if g.firmware then true
  else if g.det then decide (g.teams ≤ g.detNext)
  else
    (List.range Config.dies).all fun d =>
      (s.stealHost || g.exhausted.contains d) &&
        !(((s.die d).ranges ++ s.spawning d).any fun r => r.grid == k && decide (r.next < r.stop))

/-- Every team of a grid has ended: each of its indices has been placed, and none of its teams is left (R530; log 88). -/
def State.allEnded (s : State) (k : Nat) : Bool :=
  let g := s.grids.getD k Grid.blank
  (s.teams.all fun t => t.grid != k || t.place == .ended) &&
    (g.firmware || decide (g.teams ≤ ((s.teams.filter fun t => t.grid == k).map fun t => t.t).eraseDups.length))

/-- A grid that has ended on every die: its final record, its slot free (R530); ENDFRAME waits for geometry grids only
(R531). -/
def State.completeGrid (s : State) (k : Nat) : State :=
  let g := s.grids.getD k Grid.blank
  if g.phase == .running && s.dispatched k && s.allEnded k then
    let s := (s.dropSplit k).modGrid k fun g => { g with phase := .complete, token := none }
    let s : State := { s with dies := s.dies.map fun d =>
      { d with ranges := d.ranges.filter fun r => r.grid != k, known := d.known.filter fun x => x.1 != k,
               preempted := d.preempted.filter fun x => x != g.slot, avg := d.avg.filter fun x => x.1 != k,
               tlbs := d.tlbs.filter fun x => x.2.grid != k } }
    s.writeRecord g.crec 1 g.slot g.gid g.fatals
  else s

/-- Grids whose dispatch has ended after their last team (R195, R196). -/
def State.completeGrids (s : State) : State := (List.range s.grids.length).foldl State.completeGrid s

/-! ### PREQ -/

/-- Teams that a pre-emption on a die concerns (R446). -/
def State.concerned (s : State) (d : Nat) : List Nat :=
  (List.range s.teams.length).filter fun k =>
    (s.team k).die == d && (s.team k).place == .resident && (s.die d).preempted.contains (s.gridOf k).slot

/-- PREQ.GO reads 1 until every team concerned is off its core (R446). -/
def State.settlePreq (s : State) (d : Nat) : State :=
  if (s.concerned d).isEmpty then s.modDie d fun x => { x with preq := x.preq &&& 0xFFFFFFFE } else s

/-! ### A team that ends -/

/-- A pending entry of a team becomes a report. -/
def FqEntry.report (e : FqEntry) (tid : Nat) : FqEntry :=
  if e.tid == some tid && e.state != 3 then { e with state := 3, kind := 3 } else e

/-- Fault-queue entries of a team that still wait become reports (R445 step 4). -/
def State.reportPending (s : State) (tid : Nat) : State :=
  s.modDie (s.team tid).die fun d => { d with faultQ :=
    (d.faultQ.filter fun e => decide (e.index < Config.faultEntries) || e.tid != some tid).map fun e => e.report tid }

/-- A fatal report is posted, or counted in LOST (R442, R445 step 5). -/
def State.postFatal (s : State) (tid : Nat) (f : Fatal) : State :=
  let t := s.team tid
  match (s.die t.die).fqFree with
  | some k =>
    s.fqAdd t.die
      { index := k, state := 3, kind := if f.atExit then 4 else 3, saved := false, fetch := f.fetch, write := f.write,
        cause := f.cause, idx := f.idx, lane := f.lane, wave := f.wave, core := t.core, grid := (s.gridOf tid).slot,
        team := t.t, tid := some tid, lanes := maskOf [f.lane], addr := f.addr, clause := f.clause }
  | none => s.modDie t.die fun d => { d with lost := if d.lost == 0xFF then d.lost else d.lost + 1 }

/-- The placement-to-end average of a grid on a die (R447). -/
def Die.noteEnd (d : Die) (k x : Nat) : Die :=
  match d.avg.find? fun y => y.1 == k with
  | some (_, a) =>
    { d with avg := d.avg.map fun y => if y.1 == k then (k, ((a : Int) + ((x : Int) - a) / 8).toNat) else y }
  | none => { d with avg := (k, x) :: d.avg }

/-- A team's resources go (R131, R233, R445); the scratchpad bytes stay with an ended team until its partner has ended. -/
def State.freeTeam (s : State) (tid : Nat) : State :=
  let s := s.modTeam tid fun t => { t with
    place := .ended, waves := t.waves.map fun w => { w with entries := [] }, hold := none, held := none, leaving := .no,
    step := none, handles := [], tiles := [], latch := none }
  ({ s with dies := s.dies.map fun d => { d with queue := d.queue.filter fun x => x != tid } } : State).trimSlices

/-- The records that are pending when a team ends: the highest-priority one (R431). -/
def Wave.lastRecord (w : Wave) (k : Nat) : Option (Nat × Fatal) :=
  let mk := fun (c : Cause) (lane : Nat) (r : WordRec) (wr : Bool) =>
    some (c.code, ({ cause := c.code, wave := k, lane, clause := r.clause, idx := r.idx, addr := r.addr, write := wr,
                     fetch := false, atExit := true } : Fatal))
  match (List.range 32).findSome? fun l => ((w.lanes.getD l Lane.blank).ecc).map fun e => (l, e) with
  | some (l, e) => mk .ecc l e.word false
  | none =>
    match w.allow, w.rperm with
    | some a, _ => mk .allowance a.lane { a with addr := 0 } false
    | none, some p => mk .remoteperm p.lane p true
    | none, none => none

/-- The record with which a team ends as fatal: lowest cause code, then lowest wave. -/
def Team.lastRecord (t : Team) : Option Fatal :=
  (t.waves.zipIdx.foldl (fun (m : Option (Nat × Fatal)) x =>
    match m, x.1.lastRecord x.2 with
    | some a, some b => if b.1 < a.1 then some b else some a
    | none, r => r
    | a, none => a) none).map (·.2)

/-- Operations of a team still to finish; a ray counts until it has returned. -/
def State.opsOf (s : State) (tid : Nat) : List Op := s.ops.filter fun o => o.team == tid

/-- A paired matrix operation of the cluster partner holds the team (R357). -/
def State.pairHeld (s : State) (tid : Nat) : Bool :=
  s.ops.any fun o =>
    match o.body with
    | .mx j => j.mate == some tid
    | _ => false

/-- Every operation that needs the team has completed. -/
def State.opsOver (s : State) (tid : Nat) : Bool := (s.opsOf tid).isEmpty && !s.pairHeld tid

/-- Every lane of a team has ended. -/
def Team.lanesEnded (t : Team) : Bool := t.waves.all fun w => w.lanes.all (·.ended)

/-- TEAM_END (R131, R431, R530): every lane has ended and every operation has completed; a record still pending ends the
team as fatal. -/
def execTeamEnd (s : State) : Out :=
  let tid := s.args.a
  let t := s.team tid
  .next (
    if t.place != .resident || t.fatal.isSome || !t.lanesEnded || !s.opsOver tid then s
    else
      match t.lastRecord with
      | some f => s.endFatal tid f
      | none =>
        let s := s.modDie t.die fun d => d.noteEnd t.grid (s.hub.gtime.toNat - t.placedAt)
        ((s.freeTeam tid).settlePreq t.die).completeGrid t.grid)

/-- A ray operation without its parked rays, or without any of a saved team. -/
def Op.dropParked (o : Op) (tid : Nat) (saved : Bool) : Op :=
  if o.team == tid && o.rays.any (fun r => r.parked || saved) then
    let left := o.rays.filter fun r => !r.parked && !saved
    { o with body := .rays left, done := left.all (·.done) }
  else o

/-- Parked rays of a team that has ended as fatal are dropped; of a team that ends while saved, every ray (R458). -/
def State.dropParked (s : State) (tid : Nat) : State :=
  let saved := (s.team tid).isSaved
  ({ s with ops := s.ops.map fun o => o.dropParked tid saved } : State).retire

/-- TEAM_FATAL_END (R445): operations complete, then entries become reports and the report is posted. -/
def execTeamFatalEnd (s : State) : Out :=
  let tid := s.args.a
  .next (match (s.team tid).fatal with
    | none => s
    | some f =>
      if (s.team tid).place == .ended then s
      else
        let s := s.dropParked tid
        if !s.opsOver tid then s
        else
          let t := s.team tid
          let s := (s.reportPending tid).postFatal tid f
          let s := s.modGrid t.grid fun g => { g with fatals := g.fatals + 1 }
          ((s.freeTeam tid).settlePreq t.die).completeGrid t.grid)

end Sys2Proof.Machine
end

