-- ==== Sys2Proof/Machine/Extents.lean ====
section
/-! DEFINITION. Sys2Proof/Machine/Extents.lean: reads and translations that the GCP makes under a root (R385, R437, R530),
and the translation of a grid's extents by the dies (R438). -/

namespace Sys2Proof.Machine

/-! ### Reads under a root -/

/-- Bytes read by the GCP at system scope under a root, with the privileged right; none when a page fails or a code word is
uncorrectable. `f` bounds the pages. -/
def State.rootRead (s : State) (root : Nat) (va : DWord) : Nat → Nat → Option (List Byte)
  | 0, n => if n = 0 then some [] else none
  | f + 1, n =>
    if n = 0 then some []
    else
      let k := min n (65536 - va.toNat % 65536)
      match s.agentPhys root true va needR with
      | none => none
      | some pa =>
        match s.agentRead pa k, s.rootRead root (va + BitVec.ofNat 64 k) f (n - k) with
        | some a, some b => some (a ++ b)
        | _, _ => none

/-- Pages of 64 KiB that bytes touch (R438). -/
def pagesOf (base n : Nat) : Nat := if n = 0 then 0 else (base + n - 1) / 65536 - base / 65536 + 1

/-- Translations of consecutive pages: the physical pages, or the virtual address of the first that fails and whether it is
mapped (R245). -/
def State.translate (s : State) (root : Nat) (priv : Bool) (need page : Nat) : Nat → Except (Nat × Bool) (List Nat)
  | 0 => .ok []
  | n + 1 =>
    match s.agentPhys root priv (BitVec.ofNat 64 (page * 65536)) need with
    | none =>
      .error (page * 65536, match s.walk root (page * 65536 % 2 ^ 52) with
        | .leaf _ _ => true
        | .none => false)
    | some pa =>
      match s.translate root priv need (page + 1) n with
      | .ok ps => .ok (pa / 65536 :: ps)
      | .error e => .error e

/-- The walks of consecutive pages, up to the first that fails. -/
def State.notePages (s : State) (root : Nat) (priv : Bool) (need page : Nat) : Nat → State
  | 0 => s
  | n + 1 =>
    let va := BitVec.ofNat 64 (page * 65536)
    let t := s.noteAgent root va
    if (s.agentPhys root priv va need).isNone then t else t.notePages root priv need (page + 1) n

/-- The pages of an extent. -/
def State.translateExtent (s : State) (root : Nat) (priv : Bool) (e : Extent) : Except (Nat × Bool) Extent :=
  match s.translate root priv (if e.w then needRW else needR) (e.base.toNat / 65536) (pagesOf e.base.toNat e.len) with
  | .ok ps => .ok { e with pages := ps }
  | .error x => .error x

/-- All extents, or the first page that fails. -/
def State.translateAll (s : State) (root : Nat) (priv : Bool) : List Extent → Except (Nat × Bool) (List Extent)
  | [] => .ok []
  | e :: es =>
    match s.translateExtent root priv e, s.translateAll root priv es with
    | .error x, _ => .error x
    | .ok _, .error x => .error x
    | .ok a, .ok b => .ok (a :: b)

/-- The walks of a die's translation of extents, up to the first page that fails. -/
def State.noteExtents (s : State) (root : Nat) (priv : Bool) : List Extent → State
  | [] => s
  | e :: es =>
    let t := s.notePages root priv (if e.w then needRW else needR) (e.base.toNat / 65536) (pagesOf e.base.toNat e.len)
    match s.translateExtent root priv e with
    | .ok _ => t.noteExtents root priv es
    | .error _ => t

/-! ### The extents of a grid (R438) -/

/-- A grid that is rejected after its admission: nothing of it runs, and its slot, which its record names, is free (R438, R444,
R530). -/
def State.rejectGrid (s : State) (k : Nat) : State :=
  let g := s.grids.getD k Grid.blank
  let s := s.modGrid k fun g => { g with phase := .complete }
  let s : State := { s with dies := s.dies.map fun d =>
    { d with faultQ := d.faultQ.filter fun e => !(e.kind == 2 && e.grid == g.slot),
             ranges := d.ranges.filter fun r => r.grid != k, known := d.known.filter fun x => x.1 != k } }
  let s := (List.range Config.dies).foldl (fun s d => s.fqPromote d) s
  let s := (s.modHub fun h => { h with charges := h.charges.filter fun x => x.gid != g.gid }).hubMarks
  s.writeRecord g.crec 3 g.slot 0 0

/-- An EXTENT entry (R438, R441). -/
def extentEntry (index slot cause page : Nat) : FqEntry :=
  { index, state := 1, kind := 2, saved := false, fetch := false, write := false, cause, idx := 0, lane := 0, wave := 0,
    core := 0, grid := slot, team := 0, tid := none, lanes := 0, addr := BitVec.ofNat 64 page, clause := 0 }

/-- The die has an EXTENT entry for the grid. -/
def Die.extentPending (d : Die) (slot : Nat) : Bool := d.faultQ.any fun e => e.kind == 2 && e.grid == slot

/-- A die has translated the extents; once all eight have succeeded the grid runs. -/
def Grid.extentsDone (g : Grid) (d : Nat) (es : List Extent) : Grid :=
  let ok := (d :: g.extOk).eraseDups
  { g with extOk := ok, dieExtents := (d, es) :: g.dieExtents, phase := if (List.range Config.dies).all ok.contains then .running else g.phase }

/-- One die translates the extents of a grid that waits for it. The fault that it finds enters the fault queue in the mode of
that moment, and waits there while no index is free (R442, R457). -/
def State.tryExtents (s : State) (k d : Nat) : State :=
  let g := s.grids.getD k Grid.blank
  if g.phase != .extents || g.extOk.contains d || (s.die d).extentPending g.slot then s
  else
    let all := s.translateAll g.root g.priv g.extents
    let s := s.noteExtents g.root g.priv g.extents
    match all with
    | .ok es => s.modGrid k fun g => g.extentsDone d es
    | .error (page, mapped) =>
      if !s.fltHw then s.rejectGrid k
      else s.fqAdd d (extentEntry (s.die d).fqIndex g.slot (if mapped then Cause.perm.code else Cause.notmapped.code) page)

/-- Every die translates the extents of a grid. -/
def State.allExtents (s : State) (k : Nat) : State := (List.range Config.dies).foldl (fun s d => s.tryExtents k d) s

end Sys2Proof.Machine
end

