-- ==== Sys2Proof/Machine/Shears.lean ====
section
/-! DEFINITION. Sys2Proof/Machine/Shears.lean: patch records (R360, R361), the split queue (R362 to R364), what Shears decides
(R366 to R368) and what it delivers (R369, R370). -/

namespace Sys2Proof.Machine

/-! ### Patch records -/

/-- TYPE of a record: 0 bilinear, 1 bicubic. -/
def patchType (b : List Byte) : Nat := recU64 b 0 % 4
def patchMotion (b : List Byte) : Bool := bitOf (recU64 b 0) 2
def patchOpq (b : List Byte) : Bool := bitOf (recU64 b 0) 3
def patchOi (b : List Byte) : Bool := bitOf (recU64 b 0) 4

/-- A 64-byte record header is valid (R361). -/
def patchValid (b : List Byte) : Bool :=
  let db := v32 (recU32 b 0x08)
  let rate := v32 (recU32 b 0x0C)
  decide (recU64 b 0 < 32) && recU32 b 0x14 == 0 && recU64 b 0x20 == 0 && recU64 b 0x28 == 0 && recU64 b 0x30 == 0 &&
    recU64 b 0x38 == 0 && decide (patchType b < 2) && db.isFinite && leFV (natFV 0) db && rate.isFinite &&
    ltFV (natFV 0) rate && (!patchOi b || patchOpq b)

/-- Points of one set along one direction. -/
def patchSide (b : List Byte) : Nat := if patchType b = 0 then 2 else 4

/-- Bytes of a record with its point sets (R360). -/
def patchSize (b : List Byte) : Nat :=
  64 + 16 * patchSide b * patchSide b * (if patchMotion b then 2 else 1)

/-- A point: x, y, z as binary32 codes. -/
abbrev Point := List Nat

/-- The point set of a time (R360): rows along u. -/
def patchSet (b : List Byte) (t : Nat) : List (List Point) :=
  let n := patchSide b
  let base := 64 + (if patchMotion b then t else 0) * 16 * n * n
  (List.range n).map fun j => (List.range n).map fun i => (List.range 3).map fun a => recU32 b (base + 16 * (n * j + i) + 4 * a)

/-! ### The split queue -/

/-- Fields of an entry's registers (R362). -/
def entryTicket (r : List Word) : DWord := pair64 (r.getD 0 0) (r.getD 1 0)
def entryDepth (r : List Word) : Nat := (r.getD 2 0).toNat % 16
def entryAddr (r : List Word) : DWord := pair64 (r.getD 2 0 &&& 0xFFFFFFC0) (r.getD 3 0)

/-- The registers of an entry. -/
def entryRegs (ticket addr : DWord) (depth : Nat) : List Word :=
  [lo32 ticket, hi32 ticket, lo32 addr &&& 0xFFFFFFC0 ||| BitVec.ofNat 32 depth, hi32 addr]

/-- Quadrant of a level of a ticket's path (R362). -/
def pathQuad (ticket : DWord) (l : Nat) : Nat := bitsOf ticket.toNat (24 - 2 * l) 2

/-- The children of an entry, quadrant 0 first (R362, R367). -/
def splitChildren (r : List Word) : List (List Word) :=
  (List.range 4).map fun q =>
    entryRegs (entryTicket r + BitVec.ofNat 64 (q * 2 ^ (22 - 2 * entryDepth r))) (entryAddr r) (entryDepth r + 1)

/-- An entry is pushed; the newest stands first. -/
def State.pushSplit (s : State) (d grid : Nat) (regs : List Word) : State :=
  s.modDie d fun x => { x with splitQ := { grid, regs } :: x.splitQ }

/-- The entry of a grid that leaves next: greatest depth, newest within it (R364). -/
def nextSplit (q : List SplitEntry) (grid : Nat) : Option SplitEntry :=
  (q.filter fun e => e.grid == grid).foldl (fun m e =>
    match m with
    | some x => if entryDepth x.regs < entryDepth e.regs then some e else m
    | none => some e) none

/-- Popped entries held on a die, of every grid or of one (R364). -/
def State.heldOn (s : State) (d : Nat) (p : Nat → Bool) : Nat :=
  (s.teams.filter fun t => t.die == d && t.place != .ended && t.held.isSome && p t.grid).length

/-- An entry of a grid is held on a die, or is in a DICE.run in flight there (R374). -/
def State.splitsOut (s : State) (d k : Nat) : Bool :=
  decide (0 < s.heldOn d fun g => g == k) || s.ops.any fun o =>
    !o.done && (s.team o.team).die == d && (s.team o.team).grid == k &&
      match o.body with
      | .dice .. => true
      | _ => false

/-! ### Subdivision (R366) -/

def mid32 (a b : Nat) : Nat :=
  r32 0 (match addE 0 (v32 a) (v32 b) with
    | .real x => .real { x with e := x.e - 1 }
    | z => z)

def midPoint (a b : Point) : Point := (a.zip b).map fun p => mid32 p.1 p.2

/-- Half of a row of points: the lower, or the upper (R366). -/
def halve (up : Bool) (c : List Point) : List Point :=
  match c with
  | [c0, c1] => if up then [midPoint c0 c1, c1] else [c0, midPoint c0 c1]
  | [c0, c1, c2, c3] =>
    let m1 := midPoint c0 c1
    let k := midPoint c1 c2
    let n2 := midPoint c2 c3
    let m2 := midPoint m1 k
    let n1 := midPoint k n2
    let m3 := midPoint m2 n1
    if up then [m3, n1, n2, c3] else [c0, m1, m2, m3]
  | c => c

/-- Rows and columns exchanged. -/
def transpose (net : List (List Point)) : List (List Point) :=
  (List.range net.length).map fun k => net.map fun row => row.getD k []

/-- The quarter of a net that a quadrant keeps. -/
def quarter (q : Nat) (net : List (List Point)) : List (List Point) :=
  transpose ((transpose (net.map (halve (bitOf q 0)))).map (halve (bitOf q 1)))

/-- The sub-net of an entry. -/
def subNet (ticket : DWord) (depth : Nat) (net : List (List Point)) : List (List Point) :=
  (List.range depth).foldl (fun net k => quarter (pathQuad ticket (k + 1)) net) net

/-! ### The outcome (R366, R367) -/

/-- The least and the greatest of finite values. -/
def leastFV (xs : List FV) : FV := xs.tail.foldl minFV (xs.headD (natFV 0))
def greatestFV (xs : List FV) : FV := xs.tail.foldl maxFV (xs.headD (natFV 0))

/-- One axis of the screen bound: low and high. -/
def screenBound (lo hi : FV) (izl izh : Nat) (k lens c : FV) (m : Nat) : FV × FV :=
  let qs := [lo, hi].flatMap fun p => [v32 izl, v32 izh].map fun z => (mulE p z).operand
  let ql := v32 (r32 3 (leastFV qs).exact)
  let qh := v32 (r32 2 (greatestFV qs).exact)
  let e := v32 (mul32 2 (r32 2 (mulE k lens)) m)
  let l := v32 (r32 3 (fmaE 3 k ql c))
  let h := v32 (r32 2 (fmaE 2 k qh c))
  (v32 (r32 3 (addE 3 l e.negate)), v32 (r32 2 (addE 2 h e)))

/-- px and py of a control point (R367). -/
def pinhole (f : Frame) (p : Point) : Nat × Nat :=
  (fma32 0 (recU32 f.record 0x30) (div32 0 (p.getD 0 0) (p.getD 2 0)) (recU32 f.record 0x28),
   fma32 0 (recU32 f.record 0x34) (div32 0 (p.getD 1 0) (p.getD 2 0)) (recU32 f.record 0x2C))

/-- Length of a row in pixels, summed with the index ascending. -/
def rowLength (f : Frame) : List Point → Nat → Nat
  | a :: b :: rest, acc =>
    let pa := pinhole f a
    let pb := pinhole f b
    let d := maxFV (v32 (sub32 0 pb.1 pa.1)).abs (v32 (sub32 0 pb.2 pa.2)).abs
    rowLength f (b :: rest) (add32 0 acc (r32 0 d.exact))
  | _, acc => acc

/-- Lu of nets, or Lv of their transposes. -/
def netLength (f : Frame) (nets : List (List (List Point))) : FV :=
  greatestFV (nets.flatMap fun net => net.map fun row => v32 (rowLength f row 0))

/-- max(1, ceil(L / RATE)); above 15 for an infinite or NaN length. -/
def diceSteps (l rate : FV) : Nat :=
  match l, rate with
  | .fin _ m e, .fin _ n g =>
    let k := min e g
    let a := m * 2 ^ (e - k).toNat
    let b := n * 2 ^ (g - k).toNat
    max 1 ((a + b - 1) / b)
  | _, _ => 16

/-- What Shears decides: OUT, NU, NV and FORCED. -/
structure Dicing where
  out : Nat
  nu : Nat
  nv : Nat
  forced : Bool
  deriving DecidableEq, Repr

def Dicing.none (out : Nat) : Dicing := { out, nu := 0, nv := 0, forced := false }

/-- R367. -/
def diceRate (f : Frame) (nets : List (List (List Point))) (rate : FV) (depth : Nat) : Dicing :=
  let su := diceSteps (netLength f nets) rate
  let sv := diceSteps (netLength f (nets.map transpose)) rate
  if su ≤ 15 ∧ sv ≤ 15 then { out := 2, nu := su + 1, nv := sv + 1, forced := false }
  else if depth < 12 then Dicing.none 1
  else { out := 2, nu := min su 15 + 1, nv := min sv 15 + 1, forced := true }

/-- R366, for the sub-nets of both times. -/
def decideDice (f : Frame) (b : List Byte) (nets : List (List (List Point))) (depth : Nat) : Dicing :=
  let pts := nets.flatMap fun net => net.flatMap id
  if !(pts.all fun p => p.all fun c => (v32 c).isFinite) then Dicing.none 0
  else
    let db := v32 (recU32 b 0x08)
    let lo := fun a => v32 (r32 3 (addE 3 (leastFV (pts.map fun p => v32 (p.getD a 0))) db.negate))
    let hi := fun a => v32 (r32 2 (addE 2 (greatestFV (pts.map fun p => v32 (p.getD a 0))) db))
    if ltFV (hi 2) f.near || ltFV f.far (lo 2) then Dicing.none 0
    else if ltFV (lo 2) f.near then Dicing.none (if depth < 12 then 1 else 3)
    else
      let izl := r32 3 (divE (natFV 1) (hi 2))
      let izh := r32 2 (divE (natFV 1) (lo 2))
      let off := fun z => (addE 0 f.focus (v32 z).negate).operand.abs
      let m := r32 2 (maxFV (off izl) (off izh)).exact
      let x := screenBound (lo 0) (hi 0) izl izh f.fx f.lens f.cx m
      let y := screenBound (lo 1) (hi 1) izl izh f.fy f.lens f.cy m
      if ltFV x.2 (natFV 0) || ltFV (natFV f.width) x.1 || ltFV y.2 (natFV 0) || ltFV (natFV f.height) y.1 then Dicing.none 0
      else diceRate f nets (v32 (recU32 b 0x0C)) depth

/-! ### Evaluation (R368) -/

def lerpPoint (w : FV) (a b : Point) : Point := (a.zip b).map fun p => lerp32 w (v32 p.1) (v32 p.2)

/-- One round of DeCast. -/
def castRow (w : FV) : List Point → List Point
  | a :: b :: rest => lerpPoint w a b :: castRow w (b :: rest)
  | _ => []

def deCast (w : FV) : Nat → List Point → Point
  | n + 1, c => if c.length ≤ 1 then c.headD [] else deCast w n (castRow w c)
  | 0, c => c.headD []

/-- A vertex of one time set. -/
def evalPoint (s r : FV) (net : List (List Point)) : Point := deCast r 4 (net.map fun row => deCast s 4 row)

/-! ### Delivery (R369, R370) -/

/-- U0 (axis 0) or V0 (axis 1): a sum of exact powers of two, as a binary32 code. -/
def cornerOf (ticket : DWord) (depth axis : Nat) : Nat :=
  let n := (List.range depth).foldl (fun x k => 2 * x + (if bitOf (pathQuad ticket (k + 1)) axis then 1 else 0)) 0
  r32 0 (exactOf false n (-(depth : Int)))

/-- The grid header. -/
def gridHeader (b : List Byte) (ent : List Word) (d : Dicing) : List Byte :=
  let f := fun (x : Bool) (n : Nat) => if x then 2 ^ n else 0
  let dep := entryDepth ent
  let t := entryTicket ent
  leBytes 8 t.toNat ++ leBytes 8 (entryAddr ent).toNat ++
    leBytes 8 (d.out + dep * 2 ^ 4 + f (patchOpq b) 8 + f (patchOi b) 9 + f d.forced 10 + d.nu * 2 ^ 32 + d.nv * 2 ^ 40) ++
    leBytes 8 (recU32 b 0x10) ++ leBytes 8 (recU64 b 0x18) ++
    leBytes 8 (cornerOf t dep 0 + cornerOf t dep 1 * 2 ^ 32) ++ leBytes 8 (r32 0 (exactOf false 1 (-(dep : Int)))) ++
    List.replicate 72 0

/-- Vertex record (i, j) of a diced grid. -/
def vertexRecord (ticket : DWord) (depth : Nat) (nets : List (List (List Point))) (d : Dicing) (i j : Nat) : List Byte :=
  let i := min i (d.nu - 1)
  let j := min j (d.nv - 1)
  let s := r32 0 (divE (natFV i) (natFV (d.nu - 1)))
  let r := r32 0 (divE (natFV j) (natFV (d.nv - 1)))
  let dw := r32 0 (exactOf false 1 (-(depth : Int)))
  let pts := nets.flatMap fun net => evalPoint (v32 s) (v32 r) net
  ([fma32 0 s dw (cornerOf ticket depth 0), fma32 0 r dw (cornerOf ticket depth 1)] ++ pts).flatMap fun c => leBytes 4 c

/-- What a DICE.run writes from its destination on: the header, and the 256 records when OUT = 2. -/
def diceBytes (f : Frame) (b : List Byte) (ent : List Word) : Dicing × List Byte :=
  let t := entryTicket ent
  let dep := entryDepth ent
  let nets := [subNet t dep (patchSet b 0), subNet t dep (patchSet b 1)]
  let d := decideDice f b nets dep
  (d, gridHeader b ent d ++
    (if d.out = 2 then (List.range 256).flatMap fun k => vertexRecord t dep nets d (k % 16) (k / 16) else []))

end Sys2Proof.Machine
end

