-- ==== Sys2Proof/Machine/Gfx.lean ====
section
/-! DEFINITION. Sys2Proof/Machine/Gfx.lean: the GFX engine words (R372 to R379, R383) and the events that finish them. -/

namespace Sys2Proof.Machine

/-- Register results of a word made once per entry, for every active lane of the entry (R372). -/
def State.entryRegs (s : State) (r : Ref) (xs : List (Nat × Word)) : List (Ref × Eff) :=
  match s.bundle.members.find? fun m => m.team == r.team && m.wave == r.wave && m.mask.getLsbD r.lane with
  | some m => (s.activeOf m).map fun q => (q, ({ regs := xs } : Eff))
  | none => []

/-! ### PATCHQ and PATCHDQ -/

/-- Ticket of patch `k` of a grid (R363). -/
def patchTicket (g : Grid) (k : Nat) : DWord := BitVec.ofNat 64 ((g.dbase + k) * 2 ^ 24)

/-- The value of HOLD, none being all ones (R365). -/
def Team.holdValue (t : Team) : DWord := t.hold.getD noMark

/-- The cause of one lane's PATCHQ (R373). -/
def State.patchCause (s : State) (r : Ref) (a : DWord) (k : Nat) : Option LaneFault :=
  if a.toNat % 64 ≠ 0 then some { r, cause := .misalign, addr := a }
  else
    match s.engRead r.team a 64 with
    | .bad c w => some { r, cause := c, addr := a, walk := w }
    | .ecc _ => some (eccFault r a)
    | .ok b =>
      let g := s.gridOf r.team
      if !patchValid b || decide (g.dcnt ≤ k) || decide ((patchTicket g k).toNat < (s.team r.team).holdValue.toNat) then
        some { r, cause := .layout }
      else none

/-- Entries of depth 0 in a die's split queue (R364). -/
def Die.depth0 (d : Die) : Nat := (d.splitQ.filter fun e => entryDepth e.regs == 0).length

/-- PATCHQ (R373, R364): lanes in ascending order; a lane without room parks. -/
def execPatchq (o : FA) (s : State) : Out :=
  whenIssued s fun s =>
    if s.counterFull .gm then s.hold
    else
      let act := s.active
      let own := (laneAsc ((act.filter fun r => !(s.lane r).isHelper).map fun r => (r, ()))).map (·.1)
      let ask := own.map fun r => (r, s.src64 r o.ra, (s.src r .i32 o.rb 0).toNat)
      let s := act.foldl (fun s r => s.latchRead r o.rb.toNat) s
      let (s, bad, parks) := ask.foldl (fun (p : State × List LaneFault × List Ref) x =>
        let r := x.1
        let cause := p.1.patchCause r x.2.1 x.2.2
        let s := if x.2.1.toNat % 64 = 0 then p.1.noteBytes r.team x.2.1 64 needR else p.1
        match cause with
        | some f => (s, p.2.1 ++ [f], p.2.2)
        | none =>
          let d := (s.team r.team).die
          if 4096 ≤ (s.die d).depth0 then (s, p.2.1, p.2.2 ++ [r])
          else
            (s.pushSplit d (s.team r.team).grid (Machine.entryRegs (patchTicket (s.gridOf r.team) x.2.2) x.2.1 0),
              p.2.1, p.2.2)) (s, [], [])
      let s := s.parkLanes parks 4 .splitQueue false
      let s := s.faultLanes bad
      let s := s.emptyOps (wavesOf (act.filter fun r => !parks.contains r)) .gm
      s.finish act []

/-- What PATCHDQ does for one team (R374). -/
inductive Popped where
  | layout
  | park
  | got (regs : List Word)
  deriving DecidableEq, Repr

/-- PATCHDQ for a team (R364, R365, R374). -/
def State.popSplit (s : State) (tid : Nat) : State × Popped :=
  let t := s.team tid
  if t.held.isSome then (s, .layout)
  else if 256 ≤ s.heldOn t.die (fun _ => true) then (s, .park)
  else
    match nextSplit (s.die t.die).splitQ t.grid with
    | some e =>
      ((s.modDie t.die fun d => { d with splitQ := d.splitQ.erase e }).modTeam tid fun x =>
        { x with held := some e.regs, hold := some (entryTicket e.regs) }, .got e.regs)
    | none =>
      if s.splitsOut t.die t.grid then (s, .park)
      else (s.modTeam tid fun x => { x with hold := none }, .got [0, 0, 0x10, 0])

/-- PATCHDQ (R374). -/
def execPatchdq (s : State) : Out :=
  whenIssued s fun s =>
    if s.counterFull .gm then s.hold
    else
      let act := s.active
      let rd := (faOfWord s.word).rd.toNat
      let (s, effs, bad, parks) := s.performers.foldl
        (fun (p : State × List (Ref × Eff) × List LaneFault × List Ref) r =>
          match p.1.popSplit r.team with
          | (s, .layout) => (s, p.2.1, p.2.2.1 ++ [{ r, cause := .layout }], p.2.2.2)
          | (s, .park) => (s, p.2.1, p.2.2.1, p.2.2.2 ++ s.entryMates r)
          | (s, .got regs) =>
            (s, p.2.1 ++ s.entryRegs r (regs.zipIdx.map fun x => (rd + x.2, x.1)), p.2.2.1, p.2.2.2)) (s, [], [], [])
      let s := s.applyAll effs
      let s := s.parkLanes parks 4 .splitPop false
      let s := s.faultLanes bad
      let s := s.emptyOps (wavesOf (act.filter fun r => !parks.contains r)) .gm
      s.finish act []

/-! ### DICE -/

/-- A window range that an engine addresses: its team and offset (R228, R229). -/
def State.windowRange (s : State) (tid : Nat) (a : DWord) (n : Nat) : Option (Nat × Nat) :=
  match s.window tid a n with
  | some x => x
  | none => none

/-- Bytes of a record read 64 at a time. -/
def State.recordRead (s : State) (tid : Nat) (a : DWord) : Nat → Except (EngRd × DWord) (List Byte)
  | 0 => .ok []
  | n + 1 =>
    match s.engRead tid a 64 with
    | .ok b =>
      match s.recordRead tid (a + 64) n with
      | .ok bs => .ok (b ++ bs)
      | .error e => .error e
    | x => .error (x, a)

/-- The cause of a failed engine read. -/
def EngRd.fault (e : EngRd) (r : Ref) (a : DWord) : List LaneFault :=
  match e with
  | .bad c w => [{ r, cause := c, addr := a, walk := w }]
  | .ecc _ => [eccFault r a]
  | .ok _ => []

/-- The pieces of 64 bytes that a DICE.run reads of a record whose header is `h`: those that TYPE and MOTION name (R376). -/
def patchPieces (h : List Byte) : Nat := if patchType h < 2 then patchSize h / 64 else 1

/-- The record of the entry that a team holds, read by a DICE.run, with every cause that it meets: of each piece, and of an invalid
header (R376, R426). -/
def State.diceRecord (s : State) (r : Ref) (ent : List Word) : List LaneFault × List Byte :=
  let a := entryAddr ent
  match s.engRead r.team a 64 with
  | .ok h =>
    let fs := (List.range (patchPieces h)).flatMap fun k =>
      (s.engRead r.team (a + BitVec.ofNat 64 (64 * k)) 64).fault r (a + BitVec.ofNat 64 (64 * k))
    (fs ++ (if patchValid h then [] else [{ r, cause := .layout }]), (s.recordRead r.team a (patchPieces h)).toOption.getD [])
  | e => (e.fault r a, [])

/-- The reads of a DICE.run's record, as they count at the memory dies. -/
def State.noteDice (s : State) (r : Ref) : State :=
  match (s.team r.team).held with
  | none => s
  | some ent =>
    let a := entryAddr ent
    match s.engRead r.team a 64 with
    | .ok h => s.noteBytes r.team a (64 * patchPieces h) needR
    | _ => s.noteBytes r.team a 64 needR

/-- The causes of one DICE.run, or its job (R376). The record is that of the entry which the team holds, whether or not the operand
names it; a team that holds none has no record to read (DEDUCED, log 85). -/
def State.diceCheck (s : State) (o : FA) (r : Ref) : List LaneFault ⊕ DiceJob :=
  let ent := (List.range 4).map fun k => s.rawReg r (o.rb.toNat + k)
  let d := s.src64 r o.ra
  let dst := s.windowRange r.team d 8320
  let f1 : List LaneFault := if (s.team r.team).held == some ent then [] else [{ r, cause := .layout }]
  let f2 : List LaneFault := if d.toNat % 128 = 0 then [] else [{ r, cause := .misalign, addr := d, write := true }]
  let f3 : List LaneFault := if dst.isSome then [] else [{ r, cause := .window, addr := d, write := true }]
  let (f4, rec) := ((s.team r.team).held.map (s.diceRecord r)).getD ([], [])
  match f1 ++ f2 ++ f3 ++ f4 with
  | [] => .inr { r, dst := dst.getD (0, 0), ent, record := rec }
  | fs => .inl fs

/-- Operations in flight in the Shears unit of a core (R366). -/
def State.shearsBusy (s : State) (die unit : Nat) : Nat :=
  (s.ops.filter fun o =>
    !o.done && (s.team o.team).die == die && (s.team o.team).core / 12 == unit &&
      (match o.body with
       | .dice .. => true
       | _ => false)).length

/-- The 65 lines of a destination (R369). -/
def diceLines (dst : Nat × Nat) : List (Nat × Nat) := (List.range 65).map fun k => (dst.1, dst.2 / 128 + k)

/-- The DICE.runs of a word: judged once, when it issues, with the faults raised then (R376). -/
def State.diceJobs (s : State) (o : FA) : State × List DiceJob :=
  match s.bundle.diced with
  | some js => (s, js.filter fun j => s.stays j.r)
  | none =>
    let res := s.performers.map fun r => s.diceCheck o r
    let bad := res.flatMap fun x => match x with
      | .inl fs => fs
      | .inr _ => []
    let jobs := res.filterMap fun x => match x with
      | .inl _ => none
      | .inr j => some j
    ((s.performers.foldl State.noteDice s).faultLanes (oneEach bad), jobs)

/-- DICE.run (R371, R376): the bundle stays at the word until the Shears unit accepts it, and is not judged again. -/
def execDiceRun (o : FA) (s : State) : Out :=
  whenIssued s fun s =>
    if s.counterFull .gm then s.hold
    else
      let act := s.active
      let (s, jobs) := s.diceJobs o
      if !jobs.isEmpty && decide (64 < s.shearsBusy s.bundle.die (s.bundle.core / 12) + jobs.length) then
        (s.modIssue fun b => { b with diced := some jobs }).hold
      else
        let s := s.setLines (jobs.flatMap fun j => diceLines j.dst) false
        let s := s.postEach (wavesOf act) .gm false
          (jobs.map fun j => (j.r, [], OpBody.dice j.r.lane j.dst j.ent j.record))
        s.finish act []

/-- The team no longer holds an entry, if it is the one that it holds (R364). -/
def Team.unheld (t : Team) (ent : Option (List Word)) : Team := if t.held == ent then { t with held := none } else t

/-- SHEARS_DELIVERY (R365 to R371). -/
def execShearsDelivery (s : State) : Out :=
  .next (match s.liveOp s.args.a, s.hub.frame with
    | some op, some f =>
      match op.body with
      | .dice _ dst ent rec =>
        let (d, bytes) := diceBytes f rec ent
        let s := (s.writeTarget (s.writer op.team) (.spad dst.1 dst.2) bytes false).1
        let t := s.team op.team
        let s := if d.out = 1 then (splitChildren ent).foldl (fun s c => s.pushSplit t.die t.grid c) s else s
        let s := if d.out ≠ 2 then s.modTeam op.team fun t => { t.unheld (some ent) with hold := none } else s
        (s.setLines (diceLines dst) true).opDone op.id
      | _ => s
    | _, _ => s)

/-- Lanes of a wave that DICE.bind makes helpers (R377). -/
def bindLanes (g : Grid) (w : Nat) (x : Wave) (nu nv : Nat) : List Nat :=
  let inside := fun (k : Nat) =>
    let c := threadCoords g (32 * w + k)
    decide (c.1 < nu) && decide (c.2.1 < nv)
  (List.range 32).filter fun k =>
    let l := x.lanes.getD k Lane.blank
    !l.absent && !l.ended && !inside k &&
      (List.range 4).any fun j => !(x.lanes.getD (k / 4 * 4 + j) Lane.blank).absent && inside (k / 4 * 4 + j)

/-- The change of one lane: to come, as long as it stands in a bundle in flight. -/
def Lane.bindTo (l : Lane) (v : Bool) : Lane := { l with pend := some v }

/-- DICE.bind for a team. -/
def State.bindTeam (s : State) (tid nu nv : Nat) : State :=
  let g := s.gridOf tid
  (s.team tid).waves.zipIdx.foldl (fun s x =>
    (bindLanes g x.2 x.1 nu nv).foldl (fun s k => s.modLane ⟨tid, x.2, k⟩ fun l => l.bindTo true) s) s

/-- A lane made a helper by a bind, or about to be, becomes an ordinary lane again. -/
def Lane.unbind (l : Lane) : Lane := if l.bound || l.pend.isSome then l.bindTo false else l

/-- DICE.unbind for a team. -/
def State.unbindTeam (s : State) (tid : Nat) : State :=
  s.modTeam tid fun t => { t with waves := t.waves.map fun w => { w with lanes := w.lanes.map Lane.unbind } }

/-- A team's waves pass what no longer waits for a lane that has become a helper. -/
def State.passTeam (s : State) (tid : Nat) : State :=
  (List.range (s.team tid).waves.length).foldl (fun s w => s.syncPass tid w) s

/-- DICE.bind and .unbind (R377). -/
def bindWord (s : State) (f : State → Ref → State) : Out :=
  whenIssued s fun s =>
    if s.counterFull .gm then s.hold
    else
      let act := s.active
      let rs := s.performers
      let bad : List LaneFault := (rs.filter fun r => !(s.gridOf r.team).qmap).map fun r => { r, cause := .layout }
      let good := rs.filter fun r => (s.gridOf r.team).qmap
      let s := good.foldl (fun s r => ((f s r).settleBinds r.team).passTeam r.team) s
      let s := s.faultLanes bad
      let s := s.postEach (wavesOf act) .gm false (good.map fun r => (r, [], .bind))
      s.finish act []

/-- DICE.bind (R377). -/
def execDiceBind (o : FA) (s : State) : Out :=
  bindWord (s.active.foldl (fun s r => s.latchRead r o.rb.toNat) s) fun s r =>
    let v := (s.src r .i32 o.rb 0).toNat
    s.bindTeam r.team (bitsOf v 0 5) (bitsOf v 8 5)

/-- DICE.unbind (R377). -/
def execDiceUnbind (s : State) : Out := bindWord s fun s r => s.unbindTeam r.team

/-! ### GEMIT -/

/-- A GEMIT as its word found it (R379). -/
structure EmitJob where
  r : Ref
  blk : Nat × Nat
  hdr : List Byte
  deriving DecidableEq, Repr

/-- The outcome of GEMIT's checks for one lane. -/
inductive EmitCheck where
  | bad (fs : List LaneFault)
  /-- the header's line has not arrived -/
  | wait
  | ok (j : EmitJob)
  deriving DecidableEq, Repr

/-- OPQEND of the open frame. -/
def State.opqend (s : State) : Nat := (s.hub.frame.map Frame.opqend).getD 0

/-- R379's checks for one lane. -/
def State.emitCheck (s : State) (o : FA) (r : Ref) : EmitCheck :=
  let a := s.src64 r o.ra
  let b := s.src64 r o.rb
  let hdr := s.windowRange r.team a 128
  let blk := s.windowRange r.team b 8192
  let fs : List LaneFault :=
    (if a.toNat % 128 = 0 then [] else [{ r, cause := .misalign, addr := a }]) ++
    (if b.toNat % 128 = 0 then [] else [{ r, cause := .misalign, addr := b }]) ++
    (if hdr.isSome then [] else [{ r, cause := .window, addr := a }]) ++
    (if blk.isSome then [] else [{ r, cause := .window, addr := b }])
  if !fs.isEmpty then .bad fs
  else
    let h := hdr.getD (0, 0)
    if (s.absentAt (.spad h.1 h.2) 128).isSome then .wait
    else
      let x := cellsReadN (s.team h.1).spad h.2 128
      let w := recU64 x 0x10
      let ticket : DWord := BitVec.ofNat 64 (recU64 x 0)
      if w % 4 ≠ 2 ∨ (s.team r.team).hold ≠ some ticket ∨ (bitOf w 8 = false ∧ drawSeq ticket < s.opqend) then
        .bad [{ r, cause := .layout }]
      else .ok { r, blk := blk.getD (0, 0), hdr := x }

/-- GEMIT (R379). -/
def execGemit (o : FA) (s : State) : Out :=
  whenIssued s fun s =>
    if s.counterFull .gm then s.hold
    else
      let act := s.active
      let res := s.performers.map fun r => s.emitCheck o r
      if res.contains .wait then s.hold
      else
        let bad := res.flatMap fun x => match x with
          | .bad fs => fs
          | _ => []
        let jobs := res.filterMap fun x => match x with
          | .ok j => some j
          | _ => none
        let s := s.faultLanes (oneEach bad)
        let s := s.postEach (wavesOf act) .gm false (jobs.map fun j =>
          let w := recU64 j.hdr 0x10
          (j.r, [], OpBody.gemit j.r.lane (s.team j.r.team).held j.blk (BitVec.ofNat 64 (recU64 j.hdr 0)) (bitOf w 8) (bitOf w 9)
            (min 16 (bitsOf w 32 5)) (min 16 (bitsOf w 40 5))))
        s.finish act []

/-- A grid's copies enter the exchange, in owner order (R379, R515). -/
def State.emitCopies (s : State) (cs : List (Nat × GridCopy)) : State :=
  cs.foldl (fun s c => s.linkPut c.1 (.copy c.2)) s

/-- GEMIT_RETIRE (R378 to R380; R377): once the block's lines are present, the copies leave and the hold ends; a bind retires
once every lane has changed. -/
def execGemitRetire (s : State) : Out :=
  .next (match s.liveOp s.args.a with
    | none => s
    | some op =>
      match op.body with
      | .gemit _ ent blk ticket opq oi nu nv =>
        if (s.absentAt (.spad blk.1 blk.2) 8192).isSome then s
        else
          let s := match s.hub.frame with
            | some f => s.emitCopies (gridCopies f ticket opq oi nu nv (cellsReadN (s.team blk.1).spad blk.2 8192))
            | none => s
          (s.modTeam op.team fun t => { t.unheld ent with hold := none }).opDone op.id
      | .bind =>
        let s := s.settleBinds op.team
        if ((s.team op.team).waves.any fun w => w.lanes.any fun l => l.pend.isSome) then s
        else (s.passTeam op.team).opDone op.id
      | _ => s)

/-! ### WMARK -/

/-- WMARK.rel (R383): HOLD becomes none; a held entry stays held. -/
def execWmarkRel (s : State) : Out :=
  whenIssued s fun s =>
    if s.counterFull .gm then s.hold
    else
      let act := s.active
      let s := s.performers.foldl (fun s r => s.modTeam r.team fun t => { t with hold := none }) s
      (s.emptyOps (wavesOf act) .gm).finish act []

/-- WMARK.glob and .die: a value for each entry. -/
def wmarkRead (s : State) (f : State → Nat → DWord) : Out :=
  whenIssued s fun s =>
    if s.counterFull .gm then s.hold
    else
      let act := s.active
      let rd := (faOfWord s.word).rd.toNat
      let effs := s.performers.flatMap fun r =>
        let v := f s (s.team r.team).die
        s.entryRegs r [(rd, lo32 v), (rd + 1, hi32 v)]
      ((s.applyAll effs).emptyOps (wavesOf act) .gm).finish act []

/-- WMARK.glob (R383). -/
def execWmarkGlob (s : State) : Out := wmarkRead s fun s d => (s.die d).leastMark

/-- WMARK.die (R383). -/
def execWmarkDie (s : State) : Out := wmarkRead s fun s d => s.watermark d

end Sys2Proof.Machine
end

