-- ==== Sys2Proof/Machine/Sched.lean ====
section
/-! DEFINITION. Sys2Proof/Machine/Sched.lean: the picker (R184 to R188, R430, R431), claims and steals of team
indices (R194 to R196, R200), time slices (R197, R198) and the commit token (R461 to R463). -/

namespace Sys2Proof.Machine

/-! ### Wakes -/

/-- What a parked entry waits for has come (R183, R241, R311, R364, R374, R440, R442, R462, R507). -/
def State.wakes (s : State) (t w : Nat) (e : Entry) : Bool :=
  let tm := s.team t
  match e.why with
  | .none => true
  | .barrier _ => false
  | .monitor _ => (maskLanes e.mask).any fun k => match (s.lane ⟨t, w, k⟩).mon with
    | some m => m.woken
    | none => false
  | .sync => false
  | .presence .. => s.freed t e.why
  | .waitc c n _ => decide ((s.wave t w).ctrs.getD c 0 ≤ n)
  | .handle .. => s.freed t e.why
  | .splitQueue => decide ((s.die tm.die).depth0 < 4096)
  | .splitPop =>
    decide (s.heldOn tm.die (fun _ => true) < 256) &&
      ((nextSplit (s.die tm.die).splitQ tm.grid).isSome || !s.splitsOut tm.die tm.grid)
  | .mailbox => !(s.die tm.die).mailbox.isEmpty
  | .spawn => true
  | .faultQueue => (maskLanes e.mask).all fun k => (s.lane ⟨t, w, k⟩).fq.isNone
  | .token => (maskLanes e.mask).any fun k => s.holdsToken ⟨t, w, k⟩
  | .results => !s.outstanding t w

/-- Lanes whose fault-queue entry is being replayed, parked or deferred, leave the queue, and the entry is free (R444). -/
def State.replayLanes (s : State) (t w : Nat) : State :=
  let die := (s.team t).die
  let ixs := ((s.wave t w).lanes.filterMap Lane.fq).eraseDups.filter fun i =>
    !((s.die die).faultQ.any fun x => x.index == i && x.state != 2)
  if ixs.isEmpty then s
  else
    let s := s.modWave t w fun x => { x with lanes := x.lanes.map fun l =>
      match l.fq with
      | some i => if ixs.contains i then { l with fq := none } else l
      | none => l }
    ixs.foldl (fun s i => s.fqDrop die i) s

/-- A parked entry goes on (R183): a switch-marker park ends where the entry stands, WAITC and MWAIT continue after their word,
lanes that a REPLAY has let go fetch and execute theirs again (R444), and any other word, which has had no effect, issues next
(log 40). -/
def State.wakeEntry (s : State) (t w : Nat) (e : Entry) : State :=
  match e.why with
  | .results => s.endResults t w e.slot
  | .monitor _ => s.passMonitor t w e
  | .waitc _ _ word =>
    (match decodeWord word with
     | .ok (.waitc o) => s.reissue t w e e.mask word (execWaitc o)
     | _ => s)
  | .faultQueue => s.unpark t w e
  | .none => s.unpark t w e
  | _ => s.goOn t w e

/-- Parked entries of a wave that go on; an overflowed one whose group stays parked rotates when a deferred lane can run
(R182 step 4). -/
def State.wakeWave (s : State) (t w : Nat) : State :=
  let s := s.replayLanes t w
  if !(s.team t).pickable then s else
  let es := (s.wave t w).entries.filter fun e => e.park != 0 && s.mayGo t w e && s.wakes t w e
  let s := es.foldl (fun s e => s.wakeEntry t w e) s
  let free := fun (e : Entry) => (maskLanes e.defer).any fun k => (s.lane ⟨t, w, k⟩).fq.isNone
  let rot := (s.wave t w).entries.filter fun e => e.park != 0 && e.flight.isNone && free e
  rot.foldl (fun s e => s.settle t w e.slot e.mask) s

/-! ### PICK -/

/-- A ready entry with its wave. -/
structure Cand where
  team : Nat
  wave : Nat
  wslot : Nat
  wstamp : BitVec 32
  grid : Nat
  e : Entry
  deriving DecidableEq, Repr

/-- Waves on a partition: team and wave. -/
def State.partWaves (s : State) (die core part : Nat) : List (Nat × Nat) :=
  (s.residents die core).flatMap fun t =>
    ((s.team t).waves.zipIdx.filter fun w => w.1.part == part).map fun w => (t, w.2)

/-- Ready entries of a partition; those with YH set only when no other is (R184, R186). -/
def State.cands (s : State) (die core part : Nat) : List Cand :=
  let all := (s.partWaves die core part).flatMap fun x =>
    let w := s.wave x.1 x.2
    (w.entries.filter fun e => s.entryReady x.1 x.2 e).map fun e =>
      ({ team := x.1, wave := x.2, wslot := w.wslot, wstamp := w.stamp, grid := (s.team x.1).grid, e } : Cand)
  let first := all.filter fun c => !c.e.yh
  if first.isEmpty then all else first

/-- Order of a walk: older wave stamp, lower wave slot, older STAMP, lower slot (R185); ages count back from `now`. -/
def Cand.before (now : BitVec 32) (a b : Cand) : Bool :=
  let age := fun (x : BitVec 32) => (now - x).toNat
  if age a.wstamp ≠ age b.wstamp then decide (age b.wstamp < age a.wstamp)
  else if a.wslot ≠ b.wslot then decide (a.wslot < b.wslot)
  else if age a.e.stamp ≠ age b.e.stamp then decide (age b.e.stamp < age a.e.stamp)
  else decide (a.e.slot < b.e.slot)

def insertCand (now : BitVec 32) (c : Cand) : List Cand → List Cand
  | [] => [c]
  | x :: xs => if c.before now x then c :: x :: xs else x :: insertCand now c xs

/-- Quads that hold a lane of a mask (R185 step 4). -/
def quadsOf (m : BitVec 32) : List Nat := ((maskLanes m).map fun k => k / 4).eraseDups

/-- The (team, wave, quad) triples of an entry. -/
def Cand.quads (c : Cand) : List (Nat × Nat × Nat) := (quadsOf c.e.mask).map fun q => (c.team, c.wave, q)

/-- Joiners in order, as long as they fit (R185 steps 3 and 4). -/
def joinGo (seed : Cand) : List Cand → List Cand → List Cand
  | got, [] => got
  | got, c :: cs =>
    let have' := got.flatMap Cand.quads
    if c.grid = seed.grid ∧ c.e.clause = seed.e.clause ∧ c.e.idx = seed.e.idx ∧
        have'.length + c.quads.length ≤ 8 ∧ (c.quads.any have'.contains) = false then
      joinGo seed (got ++ [c]) cs
    else joinGo seed got cs

/-- Bundles in flight of a partition (R188). -/
def State.bundlesOn (s : State) (die core part : Nat) : Nat :=
  (s.bundles.filter fun b => b.die == die && b.core == core && b.part == part).length

/-- The pick number moves on. -/
def Die.nextPick (d : Die) (core part : Nat) : Die :=
  { d with picks := (core, part, d.pickNo core part + 1) :: d.picks.filter fun x => !(x.1 == core && x.2.1 == part) }

/-- Entries taken by a pick, and their waves, receive its number (R185 step 5). -/
def State.takeCand (s : State) (id : Nat) (now : BitVec 32) (c : Cand) : State :=
  (s.modWave c.team c.wave fun w => { w with stamp := now }).modEntry c.team c.wave c.e.slot fun e =>
    { e with stamp := now, yh := false, flight := some id }

/-- Deferred causes at the waits of a header (R430, R431): the lanes of each member. -/
def State.headerFaults (s : State) (hdr : DWord) : State × List LaneFault :=
  s.deliverEach s.bundle.members fun s m =>
    let live := (memberRefs m).filter fun r => !(s.lane r).ended
    s.deliverable m live live
      (fun e => (List.range 7).any fun k => waitField hdr k != 15 && (s.wave m.team m.wave).orders k (waitField hdr k) e)
      (waitField hdr 3 != 15) (waitField hdr 1 != 15)

/-- The bundle of a pick starts: its waits deliver what is pending at the word at which it resumes (R58), and it goes in flight,
with the decode cause that it will meet; the cause of a clause as a whole stands at index 0 (R53). -/
def State.startBundle (s : State) (b : Bundle) (hdr : DWord) (bad : Option (Cause × Nat)) (whole : Bool) : State :=
  let s : State := { s with bundles := s.bundles ++ [b], issue := some b, nextBundle := s.nextBundle + 1 }
  let s := if waitField hdr 2 = 15 then s else b.members.foldl (fun s m => s.lintCpWait m.team m.wave) s
  let p := s.headerFaults hdr
  ((p.1.faultLanes p.2).modIssue fun b =>
    { b with bad, idx := if whole then 0 else b.idx, told := [] }).putIssue

/-- The bundle of the chosen entries, as its fetch finds it. -/
def State.pickBundle (s : State) (seed : Cand) (die core part : Nat) (cs : List Cand) : State :=
  let now := s.pickAt die core part
  let id := s.nextBundle
  let s := (cs.foldl (fun s c => s.takeCand id now c) s).modDie die fun d => d.nextPick core part
  let s := cs.foldl (fun s c => s.settleBinds c.team) s
  let b : Bundle := { Bundle.blank with
    id, die, core, part, clause := seed.e.clause, idx := seed.e.idx, n := 16,
    members := cs.map fun c => { team := c.team, wave := c.wave, slot := c.e.slot, mask := c.e.mask } }
  let fail := fun (s : State) (c : Cause) (w : Bool) =>
    let s : State := { s with bundles := s.bundles ++ [b], issue := some b, nextBundle := s.nextBundle + 1 }
    (s.faultLanes (s.bundle.members.flatMap fun m => (memberRefs m).map fun r =>
      { r, cause := c, addr := b.clause, fetch := true, walk := w })).putIssue
  match s.fetchWord seed.team b.clause with
  | .error (c, w) => fail (s.noteBytes seed.team b.clause 8 needX) c w
  | .ok hdr =>
    let n := bitsOf hdr.toNat 0 4 + 1
    let known := s.fetchKnown seed.team (b.clause + 8) n
    let all := s.fetchWords seed.team (b.clause + 8) n
    let worst := s.fetchFault seed.team (b.clause + 8) n
    let s := s.noteBytes seed.team b.clause (8 * n + 8) needX
    let g := s.gridOf seed.team
    let b := { b with words := known, n, yh := hdr.getLsbD 36 }
    match clauseCause hdr known b.idx, all with
    | some c, _ => s.startBundle b hdr (some (c, 0)) true
    | none, .error x => fail s (worst x).1 (worst x).2
    | none, .ok ws => s.startBundle b hdr (wordCause g.regs g.acct ws b.idx) false

/-- PICK (R185): readiness is judged now, and entries that have met fuse (R181, R184). -/
def execPick (s : State) : Out :=
  let die := s.args.a
  let core := s.args.b
  let part := s.args.c
  let s := (s.partWaves die core part).foldl (fun s x => (s.wakeWave x.1 x.2).fuse x.1 x.2) s
  .next (
    if Config.bundleSlots ≤ s.bundlesOn die core part then s
    else
      let now := s.pickAt die core part
      match (s.cands die core part).foldr (insertCand now) [] with
      | [] => s
      | seed :: rest => s.pickBundle seed die core part (joinGo seed [seed] rest))

/-! ### Claims (R194, R196, R200) -/

/-- The first range of a grid in a die's queue that is not empty. -/
def Die.firstRange (d : Die) (k : Nat) : Option Range := d.ranges.find? fun r => r.grid == k && decide (r.next < r.stop)

/-- The last range of a grid in a die's queue that is not empty. -/
def Die.lastRange (d : Die) (k : Nat) : Option Range := (d.ranges.filter fun r => r.grid == k && decide (r.next < r.stop)).getLast?

/-- The first range of a queue that equals `old` changes; an empty one leaves the queue. Equal ranges, which two RANGE packets can
make (R510), stay apart. -/
def changeRange (old new : Range) : List Range → List Range
  | [] => []
  | r :: rs => if r == old then (if new.next < new.stop then new :: rs else rs) else r :: changeRange old new rs

/-- The range that cores claim from changes (R194). -/
def Die.claimRange (d : Die) (old new : Range) : Die := { d with ranges := changeRange old new d.ranges }

/-- The last range of a queue changes (R195, R511). -/
def Die.putRange (d : Die) (old new : Range) : Die :=
  { d with ranges := (changeRange old new d.ranges.reverse).reverse }

/-- Indices that a die may hand out next: the first, and how many follow it (R194, R200). -/
def State.nextRun (s : State) (d k : Nat) : Option (Nat × Nat) :=
  let g := s.grids.getD k Grid.blank
  if g.det then (if g.detNext < g.teams then some (g.detNext, g.teams - g.detNext) else none)
  else ((s.die d).firstRange k).map fun r => (r.next, r.stop - r.next)

/-- `m` indices are handed out. -/
def State.takeRun (s : State) (d k m : Nat) : State :=
  if (s.grids.getD k Grid.blank).det then s.modGrid k fun g => { g with detNext := g.detNext + m }
  else
    match (s.die d).firstRange k with
    | some r => s.modDie d fun x => x.claimRange r { r with next := r.next + m }
    | none => s

/-- Waiting teams of a grid in a die's queue that come before new indices (R198): the ones that the last slice did not save. -/
def State.queued (s : State) (d k : Nat) : List Nat :=
  (s.die d).queue.filter fun t => (s.team t).grid == k && !(s.team t).sliced

/-- A grid runs on a die: it is admitted, its extents are translated and it is not pre-empted (R438, R446). -/
def State.runsOn (s : State) (d k : Nat) : Bool :=
  let g := s.grids.getD k Grid.blank
  g.phase == .running && !(s.die d).preempted.contains g.slot

/-- New indices of a grid are claimed by a core, or by the two cores of a pair (R194): rank 0 of a cluster stands on the lower
core of the pair (log 74). -/
def State.claimNew (s : State) (d c k : Nat) : State :=
  match s.nextRun d k with
  | none => s
  | some (t0, left) =>
    if (s.grids.getD k Grid.blank).cl2 then
      let a := c / 2 * 2
      let m := min (min (s.capacity k d a 8) (s.capacity k d (a + 1) 8)) (min 8 (left / 2))
      (List.range m).foldl (fun s j =>
        (s.placeNew k (t0 + 2 * j) d a).placeNew k (t0 + 2 * j + 1) d (a + 1)) (s.takeRun d k (2 * m))
    else
      let m := min (s.capacity k d c 8) (min 8 left)
      (List.range m).foldl (fun s j => s.placeNew k (t0 + j) d c) (s.takeRun d k m)

/-- The core of a pair on which a rank of a cluster stands; without clusters the core itself. -/
def pairCore (g : Grid) (c rank : Nat) : Nat := if g.cl2 then c / 2 * 2 + rank else c

/-- Flushed teams at the front of a queue start anew (R448), with the pair of R267: the team, with its partner. -/
def State.claimFlushed (s : State) (d c tid : Nat) : State :=
  let g := s.gridOf tid
  let team := tid :: (s.partner tid).toList
  let go := team.foldl (fun (p : State × Bool) t =>
    let core := pairCore g c ((p.1.team t).t % 2)
    match p.1.room d core g 0 with
    | some p0 =>
      let scope := moveScope (p.1.team t).core core
      ((p.1.release t 0 scope).startTeam t d core p0 scope, p.2)
    | none => (p.1, false)) (s, true)
  if go.2 then go.1.modDie d fun x => { x with queue := x.queue.filter fun t => !team.contains t } else s

/-- What a core may place of a grid now (R194, R198, R448). -/
def State.claimGrid (s : State) (d c k : Nat) : State :=
  if !s.runsOn d k then s
  else
    match s.queued d k with
    | t :: _ => if (s.team t).place == .waiting then s.claimFlushed d c t else s
    | [] => s.claimNew d c k

/-- A die's range of a grid is exhausted (R195, R510): every range of its queue is empty, and no SPAWN that has issued has still to
put one there. -/
def State.rangeOut (s : State) (d k : Nat) : Bool :=
  let g := s.grids.getD k Grid.blank
  g.phase == .running && !g.det && !g.firmware && (s.die d).known.any (fun x => x.1 == k) && ((s.die d).firstRange k).isNone &&
    !((s.spawning d).any fun r => r.grid == k && decide (r.next < r.stop)) && !g.exhausted.contains d

/-- Exhaustion records of a die in host-assisted stealing (R196, R504). -/
def State.postExhausted (s : State) (d : Nat) : State :=
  if !s.stealHost then s
  else
    ((List.range s.grids.length).filter fun k => s.rangeOut d k).foldl (fun s k =>
      (s.eqAdd (packet 3 d 0 (s.grids.getD k Grid.blank).gid 0 0 0 0 0)).modGrid k fun g =>
        { g with exhausted := d :: g.exhausted }) s

/-- TEAM_CLAIM (R194, R196, R200): the oldest grid for which the core can place something. -/
def execTeamClaim (s : State) : Out :=
  let d := s.args.a
  let c := s.args.b
  let s := ((List.range s.grids.length).findSome? fun k =>
    let s' := s.claimGrid d c k
    if s'.teams == s.teams then none else some s').getD s
  ((s.postExhausted d).completeGrids).eqFlush

/-! ### Steals (R195) -/

/-- A steal by a die at one victim: the state after, or none (R195, R516). DESIGN CHOICE (log 100): under CL2 both the condition
rem ≥ 2 and the halves count clusters, so that a range with one cluster left is not stolen from. -/
def State.stealFrom (s : State) (d v k : Nat) : Option State :=
  let g := s.grids.getD k Grid.blank
  let u := if g.cl2 then 2 else 1
  match (s.die v).lastRange k with
  | none => none
  | some r =>
    let rem := (r.stop - r.next) / u
    if rem < 2 then none
    else
      let cut := r.stop - u * (rem / 2)
      let s := (s.modDie v fun x => x.putRange r { r with stop := cut }).modDie d fun x =>
        { x with ranges := x.ranges ++ [{ grid := k, next := cut, stop := r.stop }] }
      let add : Transit := { gid := g.gid, lo := cut, hi := r.stop, dbase := g.dbase, die := d, landed := true }
      some (if g.dcnt = 0 then s else (s.modHub fun h => { h with charges := h.charges ++ [add] }).hubMarks)

/-- RANGE_STEAL (R195): the next victims in order; when all fail the die reports the grid exhausted. -/
def execRangeSteal (s : State) : Out :=
  let d := s.args.a
  let k := s.args.b
  .next (
    if s.stealHost || !s.rangeOut d k then s
    else
      match ((List.range 7).map fun j => (d + 1 + j) % Config.dies).findSome? fun v => s.stealFrom d v k with
      | some s' => s'
      | none => (s.modGrid k fun g => { g with exhausted := d :: g.exhausted }).completeGrid k)

/-! ### Time slices (R198) -/

/-- Q of a die, in clocks (R197). -/
def Die.quantum (d : Die) : Nat := max 1 (d.tslice.toNat % 2 ^ 24) * 256

/-- Resident teams of a grid on a die, in increasing t. -/
def State.teamsOn (s : State) (d k : Nat) : List Nat :=
  sortKey (fun x => (s.team x).t) ((List.range s.teams.length).filter fun t =>
    (s.team t).die == d && (s.team t).grid == k && (s.team t).place == .resident)

/-- TIME_SLICE (R198, R452): the teams of a blocked grid are to be saved, in increasing t. -/
def execTimeSlice (s : State) : Out :=
  let d := s.args.a
  let k := s.args.b
  let g := s.grids.getD k Grid.blank
  let ts := s.teamsOn d k
  let old := fun t => match (s.team t).blockedSince with
    | some x => (s.team t).blocked && decide ((s.die d).quantum ≤ s.hub.gtime.toNat - x)
    | none => false
  let waiting := (s.die d).queue.any (fun t => (s.team t).grid == k) || (s.nextRun d k).isSome
  .next (
    if ts.isEmpty || g.firmware || !ts.all old || !waiting || !s.hasSaveSlot d g || !(ts.all fun t => (s.team t).leaving == .no) then s
    else
      let s := (s.die d).queue.foldl (fun s t =>
        if (s.team t).grid == k then s.modTeam t fun x => { x with sliced := false } else s) s
      ts.foldl (fun s t => (s.modTeam t fun x => { x with sliced := true }).askSave t 0) s)

/-! ### The commit token (R461 to R463) -/

/-- The lanes that the token visits in a unit, in logical order: t, wave, lane (R461). -/
def State.unitLanes (s : State) (k u : Nat) : List (Nat × Nat × Nat) :=
  let g := s.grids.getD k Grid.blank
  let ts := if g.cl2 then [2 * u, 2 * u + 1] else [u]
  ts.flatMap fun t =>
    match s.teams.find? fun x => x.grid == k && x.t == t with
    | none => []
    | some x => x.waves.zipIdx.flatMap fun w =>
      ((List.range 32).filter fun l => let y := w.1.lanes.getD l Lane.blank; !y.ended && !y.isHelper).map fun l => (t, w.2, l)

/-- A unit stands on its cores: every team of it is resident, or has ended. -/
def State.unitHere (s : State) (k u : Nat) : Bool :=
  let g := s.grids.getD k Grid.blank
  (if g.cl2 then [2 * u, 2 * u + 1] else [u]).all fun t =>
    s.teams.any fun x => x.grid == k && x.t == t && (x.place == .resident || x.place == .ended)

/-- The first lane of the next unit that has one; none while a unit is not there (R461). -/
def State.nextUnit (s : State) (k : Nat) : Nat → Nat → Option (Nat × Nat × Nat)
  | _, 0 => none
  | u, n + 1 => if !s.unitHere k u then none else
      match (s.unitLanes k u).head? with
      | some x => some x
      | none => s.nextUnit k (u + 1) n

/-- Logical order of lanes. -/
def laneBefore (a b : Nat × Nat × Nat) : Bool :=
  decide (a.1 < b.1) || (a.1 == b.1 && (decide (a.2.1 < b.2.1) || (a.2.1 == b.2.1 && decide (a.2.2 < b.2.2))))

/-- The token's next holder (R461). -/
def State.nextHolder (s : State) (k : Nat) : Option (Nat × Nat × Nat) :=
  let g := s.grids.getD k Grid.blank
  match g.token with
  | none => s.nextUnit k 0 (g.teams + 1)
  | some h =>
    let u := if g.cl2 then h.1 / 2 else h.1
    let ls := s.unitLanes k u
    match ls.find? fun x => laneBefore h x with
    | some x => if s.unitHere k u then some x else none
    | none =>
      match ls.head? with
      | some x => if s.unitHere k u then some x else none
      | none => s.nextUnit k (u + 1) (g.teams + 1)

/-- The team record of an index of a grid. -/
def State.teamAt (s : State) (k t : Nat) : Option Nat :=
  (List.range s.teams.length).find? fun x => (s.team x).grid == k && (s.team x).t == t

/-- The turn of the token's holder is over, or there is none (R461, R462). -/
def State.turnOver (s : State) (k : Nat) : Bool :=
  let g := s.grids.getD k Grid.blank
  match g.token with
  | none => true
  | some h =>
    decide (64 ≤ g.tokenOps) ||
      (match s.teamAt k h.1 with
       | some x => let l := s.lane ⟨x, h.2.1, h.2.2⟩; l.ended || l.isHelper
       | none => false)

/-- A lane's operations that an engine has still to perform and that write memory: copies, tile operations, rays, feedback bits,
a dice and a dump (R463). -/
def Op.engineOf (o : Op) (r : Ref) : Bool :=
  o.team == r.team && o.wave == r.wave && !o.done &&
    (match o.body with
     | .copies cs => cs.any fun c => c.lane == r.lane
     | .mangle j => j.lane == r.lane
     | .rays rs => rs.any fun x => x.lane == r.lane && !x.done
     | .texture fb => fb.any fun b => b.lane == r.lane
     | .dice lane .. => lane == r.lane
     | .dump lane .. => lane == r.lane
     | _ => false)

/-- COMMIT_TOKEN_PASS (R461 to R463, R471): a release at device scope by the old holder, an acquire by the new one. -/
def execCommitTokenPass (s : State) : Out :=
  let k := s.args.a
  let g := s.grids.getD k Grid.blank
  .next (
    if !g.det || g.phase != .running || !s.turnOver k then s
    else
      let old := g.token.bind fun h => (s.teamAt k h.1).map fun x => (⟨x, h.2.1, h.2.2⟩ : Ref)
      if (match old with
          | some r => s.ops.any fun o => o.engineOf r
          | none => false) then s
      else
        match s.nextHolder k with
        | none => s
        | some h =>
          let s := match old with
            | some r => if (s.team r.team).place == Place.ended then s else s.release r.team r.wave 5
            | none => s
          let s := s.modGrid k fun g => { g with token := some h, tokenOps := 0 }
          match s.teamAt k h.1 with
          | none => s
          | some x =>
            let s := s.acquire x 5
            match old with
            | none => s
            | some r =>
              let v := (s.team r.team).stamp
              if !s.lintOn x then s
              else
                (s.modTeam x fun t => { t with stampV := joinVec t.stamp v }).modTeam r.team fun t =>
                  { t with stampV := tickVec v t.comp })

end Sys2Proof.Machine
end

