-- ==== Sys2Proof/Machine/Sys.lean ====
section
/-! DEFINITION. Sys2Proof/Machine/Sys.lean: system words (R140 to R144) and context access (R223, R224, R456). -/

namespace Sys2Proof.Machine

/-- RDSR (R140). -/
def execRdsr (o : F3) (s : State) : Out := aluWord s [] fun s r => effPair o.rd (s.srWhole r o.ra.toNat)

/-- WRSR for one lane (R141): flags, a half of the generator, or all of it. -/
def Lane.writeSr (l : Lane) (rd : Nat) (x : Bool) (v : Word) (d : DWord) : Lane :=
  match rd with
  | 209 => { l with flags := v.extractLsb' 0 5 }
  | 210 => { l with gen := if x then d else hi32 l.gen ++ v }
  | 211 => { l with gen := v ++ lo32 l.gen }
  | _ => l

/-- WRSR (R141). -/
def execWrsr (o : F3) (s : State) : Out :=
  whenIssued s fun s =>
    let act := s.active
    let vals := act.map fun r => (r, s.src r .i32 o.ra o.ea, s.src64 r o.ra)
    let s := act.foldl (fun s r => s.latchRead r o.ra.toNat) s
    (vals.foldl (fun s x => s.modLane x.1 fun l => l.writeSr o.rd.toNat o.x x.2.1 x.2.2) s).finish act []

/-- The block of STPRED (R142). -/
def predBlock (p : BitVec 96) : List Byte := leBytes 16 p.toNat

/-- The predicates of a block (R142). -/
def blockPreds (b : List Byte) : BitVec 96 := BitVec.ofNat 96 (leNat b)

/-- The accesses of STPRED and LDPRED. -/
def predAsks (s : State) (act : List Ref) (o : F3) (need : Nat) : List Ask :=
  act.map fun r => { r, va := s.src64 r o.ra, n := 16, al := 16, need }

/-- STPRED (R142). DESIGN CHOICE (log 90): where the blocks of two lanes of one word overlap, those of the lowest lane stay. -/
def execStpred (o : F3) (s : State) : Out :=
  whenIssued s fun s =>
    let act := s.active
    let g := s.gate (predAsks s (act.filter fun r => !(s.lane r).isHelper) o needW)
    if g.hold then g.s
    else
      let b := s.bundle
      let s := g.go.reverse.foldl (fun s x =>
        (s.lintAccess x.1.r x.2 16 true false).laneWrite x.1.r x.1.va x.2 (predBlock (s.lane x.1.r).p)
          { clause := b.clause, idx := b.idx }) g.s
      s.finish act (g.go.flatMap fun x => s.watch x.1.r x.1.va 16 false true)

/-- LDPRED (R142, R139, R430). -/
def execLdpred (o : F3) (s : State) : Out :=
  whenIssued s fun s =>
    let act := s.active
    let g := s.gate (predAsks s act o needR)
    if g.hold then g.s
    else
      let (s, bad) := g.go.foldl (fun (p : State × List LaneFault) x =>
        match (p.1.lintAccess x.1.r x.2 16 false false).laneRead x.1.r x.2 16 .l1 with
        | (s, some b) => (s.modLane x.1.r fun l => { l with p := blockPreds b }, p.2)
        | (s, none) =>
          if (s.lane x.1.r).isHelper then (s.modLane x.1.r fun l => { l with p := 0 }, p.2)
          else (s, p.2 ++ [eccFault x.1.r x.1.va])) (g.s, [])
      let s := g.zero.foldl (fun s a => s.modLane a.r fun l => { l with p := 0 }) s
      (s.faultLanes bad).finish act (g.go.flatMap fun x => s.watch x.1.r x.1.va 16 true false)

/-- TRAP (R143). -/
def execTrap (o : FK) (s : State) : Out :=
  whenIssued s fun s =>
    let act := s.active
    let b := s.bundle
    (s.faultLanes ((act.filter fun r => !(s.lane r).isHelper).map fun r =>
      { r, cause := .user, addr := o.imm.setWidth 64, resume := some (b.after r.team r.wave r.lane) })).finish act []

/-- BKPT (R143, R480). -/
def execBkpt (o : FK) (s : State) : Out :=
  whenIssued s fun s =>
    let act := s.active
    let b := s.bundle
    let own := act.filter fun r => !(s.lane r).isHelper
    let swap := own.filter fun r => s.dbgMode r.team == 2
    let trap := own.filter fun r => s.dbgMode r.team != 2
    let s := swap.foldl (fun s r => s.noteHit r 0 0 o.imm.toNat 0 false) s
    let s := if swap.isEmpty then s else s.swapHits swap
    (s.faultLanes (trap.map fun r =>
      { r, cause := .brk, addr := o.imm.setWidth 64, resume := some (b.after r.team r.wave r.lane) })).finish act []

/-- NOP (R144). -/
def execNop (s : State) : Out := whenIssued s State.advance

/-! ### The split table -/

/-- Where an entry stands: at the next word of its bundle, or at its own PC (R223). -/
def State.entryPc (s : State) (e : Entry) : DWord × Nat :=
  match e.flight with
  | none => (e.clause, e.idx)
  | some id =>
    match (if s.bundle.id == id then s.issue else s.bundles.find? fun b => b.id == id) with
    | some b => (b.clause, b.idx)
    | none => (e.clause, e.idx)

/-- The image of an entry (R178) with a MASK, a DEFER and a PC. -/
def entryImage (wslot : Nat) (e : Entry) (mask defer : BitVec 32) (pc : DWord × Nat) : List Word :=
  let d0 := mask.toNat + defer.toNat * 2 ^ 32
  let d1 := (pc.1 &&& ~~~7).toNat
  let d2 := 2 ^ 63 + wslot % 16 * 2 ^ 59 + pc.2 % 16 * 2 ^ 55 + e.depth % 32 * 2 ^ 50 + e.path.toNat * 2 ^ 34 +
    e.park % 8 * 2 ^ 31 + (if e.yh then 2 ^ 30 else 0)
  let d3 := e.runs % 128 + e.stamp.toNat * 2 ^ 32
  [d0, d1, d2, d3].flatMap fun d => [BitVec.ofNat 32 d, BitVec.ofNat 32 (d / 2 ^ 32)]

/-- The image that SPLRD returns for an operand (R223). -/
def State.splImage (s : State) (t w : Nat) (a : Word) : List Word :=
  let wv := s.wave t w
  let none' : List Word := List.replicate 8 0
  if a.getLsbD 7 then
    let k := a.toNat % 32
    let l := s.lane ⟨t, w, k⟩
    match wv.entries.find? fun e => (e.mask ||| e.defer).getLsbD k with
    | some e => if l.ended then none' else
        entryImage wv.wslot e (1 <<< k) 0 (if e.mask.getLsbD k then s.entryPc e else (l.clause, l.idx))
    | none => none'
  else
    match wv.entries[a.toNat % 64]? with
    | some e => entryImage wv.wslot e e.mask e.defer (s.entryPc e)
    | none => none'

/-- SPLRD (R223). DESIGN CHOICE (log 84): where only helper lanes are active no lane contributes `a`, and nothing is
written. -/
def execSplrd (o : F3) (s : State) : Out :=
  privWord s fun s =>
    let act := s.active
    let effs := s.bundle.members.flatMap fun m =>
      match s.performer m with
      | none => []
      | some r =>
        let im := s.splImage m.team m.wave (s.src r .i32 o.ra o.ea)
        (s.activeOf m).map fun q => (q, ({ regs := im.zipIdx.map fun p => (o.rd.toNat + p.2, p.1) } : Eff))
    let s := act.foldl (fun s r => s.latchRead r o.ra.toNat) s
    (s.applyAll effs).finish act []

/-- R224's checks of an image for an entry's active lanes. -/
def imageOk (img : List Word) (act prev : BitVec 32) : Bool :=
  let n := imageNat img
  let mask := imageMask img
  bitOf n (128 + 63) && bitsOf n 32 32 == 0 && mask != 0 && mask &&& ~~~act == 0 && mask &&& prev == 0 &&
    decide (bitsOf n (128 + 50) 5 ≤ 16) && bitsOf n (128 + 34) 16 / 2 ^ bitsOf n (128 + 50) 5 == 0

/-- SPLWR (R224). -/
def execSplwr (o : F3) (s : State) : Out :=
  privWord s fun s =>
    let act := s.active
    let (s, bad) := s.bundle.members.foldl (fun (p : State × List LaneFault) m =>
      match (p.1.activeOf m).head? with
      | none => p
      | some r =>
        let img := (List.range 8).map fun k => p.1.rawReg r (o.ra.toNat + k)
        if imageOk img (maskOf ((p.1.activeOf m).map (·.lane))) (p.1.bundle.named m.team m.wave) then
          (p.1.modIssue fun b => { b with images := b.images ++ [(m.team, m.wave, img)] }, p.2)
        else (p.1, p.2 ++ [{ r, cause := .rsvd }])) (s, [])
    (s.faultLanes bad).finish act []

/-! ### Context items -/

/-- A context item (R456). -/
def State.ctxItem (s : State) (t w i : Nat) : Word :=
  let wv := s.wave t w
  let tm := s.team t
  let c := fun k => wv.ctrs.getD k 0
  let f := wv.fsum
  let b := fun (x : Bool) (n : Nat) => if x then 2 ^ n else 0
  let hold := tm.hold.getD 0xFFFFFFFFFFFFFFFF
  let rp := (wv.rperm.map (·.addr)).getD 0
  if i = 0 then BitVec.ofNat 32 (c 0 + c 1 * 2 ^ 6 + c 2 * 2 ^ 12 + c 3 * 2 ^ 18 + c 4 * 2 ^ 24)
  else if i = 1 then BitVec.ofNat 32 (c 5 + c 6 * 2 ^ 6)
  else if i = 2 then BitVec.ofNat 32 (f.cause.toNat + f.lane.toNat * 2 ^ 5 + f.idx.toNat * 2 ^ 10 + b f.deferred 14 + b f.valid 15)
  else if i = 3 then lo32 f.clause
  else if i = 4 then hi32 f.clause
  else if i = 5 then BitVec.ofNat 32 (b wv.allow.isSome 0 + b wv.rperm.isSome 1)
  else if i = 6 then lo32 rp
  else if i = 7 then hi32 rp
  else if i = 8 then BitVec.ofNat 32 tm.retc
  else if i = 9 then lo32 hold
  else if i = 10 then hi32 hold
  else if 0x20 ≤ i ∧ i < 0x40 then (wv.lcause.getD (i - 0x20) 0).setWidth 32
  else 0

/-- CTXRD (R456). DESIGN CHOICE (log 81): like SPLRD, CTXWR and DUMP it sets the operand latch of every active lane, though it
is performed once per entry; ALSET, ACCLD and BGEN.init set that of the performing lane alone. -/
def execCtxrd (o : F3) (s : State) : Out :=
  privWord s fun s =>
    let act := s.active
    let effs := s.bundle.members.flatMap fun m =>
      match s.performer m with
      | none => []
      | some r =>
        let v := s.ctxItem m.team m.wave (s.src r .i32 o.ra o.ea).toNat
        (s.activeOf m).map fun q => (q, effReg o.rd v)
    let s := act.foldl (fun s r => s.latchRead r o.ra.toNat) s
    (s.applyAll effs).finish act []

/-- A context item written (R456). -/
def Wave.ctxWrite (w : Wave) (i : Nat) (v : Word) : Wave :=
  if i = 2 then
    { w with fsum := { w.fsum with
        cause := v.extractLsb' 0 5, lane := v.extractLsb' 5 5, idx := v.extractLsb' 10 4, deferred := v.getLsbD 14,
        valid := v.getLsbD 15 } }
  else if i = 5 then
    { w with allow := if v.getLsbD 0 then w.allow else none, rperm := if v.getLsbD 1 then w.rperm else none }
  else if 0x20 ≤ i ∧ i < 0x40 then { w with lcause := w.lcause.set (i - 0x20) (v.extractLsb' 0 5) }
  else w

/-- CTXWR (R456). -/
def execCtxwr (o : F3) (s : State) : Out :=
  privWord s fun s =>
    let act := s.active
    let ops := s.bundle.members.filterMap fun m => (s.performer m).map fun r =>
      (m, (s.src r .i32 o.ra o.ea).toNat, s.src r .i32 o.rb o.eb)
    let s := act.foldl (fun s r => (s.latchRead r o.ra.toNat).latchRead r o.rb.toNat) s
    (ops.foldl (fun s x => s.modWave x.1.team x.1.wave fun w => w.ctxWrite x.2.1 x.2.2) s).finish act []

end Sys2Proof.Machine
end

