-- ==== Sys2Proof/Machine/Save.lean ====
section
/-! DEFINITION. Sys2Proof/Machine/Save.lean: the save area (R453), saving, flushing, draining and restoring teams (R446 to
R455, R266, R267, R417), pre-emption (R446, R447), the debug commands (R480 to R482) and the fault-queue commands (R444,
R458). -/

namespace Sys2Proof.Machine

/-! ### The image of a team (R453) -/

def flag (b : Bool) (n : Nat) : Nat := if b then 2 ^ n else 0

/-- Bytes followed by zeros up to a length. -/
def padTo (n : Nat) (b : List Byte) : List Byte := b ++ List.replicate (n - b.length) 0

/-- Bytes followed by zeros up to the next 256-byte boundary. -/
def pad256 (b : List Byte) : List Byte := padTo ((b.length + 255) / 256 * 256) b

/-- A recorded word: its clause, then its index and a valid bit (log 28). -/
def recordImage (r : Option WordRec) : List Byte :=
  match r with
  | none => List.replicate 16 0
  | some x => leBytes 8 x.clause.toNat ++ leBytes 8 (x.idx % 16 + 16)

/-- Section 1, one wave. -/
def Wave.image (w : Wave) : List Byte :=
  let f := w.fsum
  padTo 512 (
    ((List.range 64).flatMap fun k => leBytes 4 (w.w.getD k 0).toNat) ++
    padTo 16 ((List.range 7).flatMap fun k => leBytes 1 (w.ctrs.getD k 0)) ++
    recordImage w.allow ++ recordImage w.rperm ++ padTo 16 (leBytes 8 ((w.rperm.map WordRec.addr).getD 0).toNat) ++
    leBytes 8 (f.cause.toNat + f.lane.toNat * 2 ^ 5 + f.idx.toNat * 2 ^ 10 + flag f.deferred 14 + flag f.valid 15) ++
    leBytes 8 f.clause.toNat ++ (List.range 32).flatMap fun k => leBytes 1 (w.lcause.getD k 0).toNat)

/-- Section 2, one lane position. -/
def Lane.image (l : Lane) (n : Nat) : List Byte :=
  let half := fun (x : Option Word) => leBytes 4 (x.getD 0).toNat
  leBytes 8 l.clause.toNat ++
  leBytes 8 (l.idx % 16 + flag l.ended 4 + flag l.helper 5 + flag l.bound 6 + flag l.absent 7) ++
  leBytes 8 l.sp.toNat ++ leBytes 8 l.gen.toNat ++
  half l.latchClock ++ half l.latchGtime ++ half l.latchSeed ++ half l.latchSp ++
  leBytes 16 l.p.toNat ++ leBytes 8 l.flags.toNat ++
  (match l.mon with
   | some m => leBytes 8 m.addr.toNat ++ leBytes 8 m.seen.toNat ++ leBytes 8 1
   | none => List.replicate 24 0) ++
  padTo 32 (recordImage (l.ecc.map EccRec.word) ++ leBytes 8 ((l.ecc.map fun e : EccRec => e.word.addr).getD 0).toNat) ++
  (List.range n).flatMap fun k => leBytes 4 (l.gr k).toNat

/-- Section 3, the split entries of a wave. -/
def State.entriesImage (s : State) (w : Wave) : List Byte :=
  w.entries.flatMap fun e => (entryImage w.wslot e e.mask e.defer (s.entryPc e)).flatMap fun x => leBytes 4 x.toNat

/-- Section 5 (log 28): tiles, then each tile's allowance register and type, then the latch. -/
def Team.mangleImage (t : Team) : List Byte :=
  (t.tiles.flatMap fun x => padTo 16384 (x.elems.flatMap fun v => leBytes 4 v.toNat)) ++
  (t.tiles.flatMap fun x => leBytes 4 (x.value.toNat + x.limit.toNat * 2 ^ 16) ++ leBytes 4 (flag x.int 0)) ++
  (match t.latch with
   | none => List.replicate 8328 0
   | some l =>
     padTo 8192 (l.data.flatMap fun r => padTo 64 (r.flatMap fun v => leBytes 4 v.toNat)) ++
     padTo 128 (l.scales.flatMap fun c => leBytes 1 (c.getD 0xFF)) ++ leBytes 8 (l.aty + l.rows * 2 ^ 8 + 2 ^ 16))

/-- Section 6: the table, with the offset of each handle's granules, then the granules. -/
def Team.handlesImage (t : Team) : List Byte :=
  let size := fun (h : Handle) => if h.state = 0 then 0 else h.gcnt * 4096
  ((List.range 32).flatMap fun k =>
    let h := t.handles.getD k Handle.blank
    leBytes 4 h.image.toNat ++ leBytes 4 h.pend.toNat ++ leBytes 8 (512 + ((t.handles.take k).map size).sum)) ++
  t.handles.flatMap fun h => cellsReadN h.data 0 (size h)

/-- Section 7. -/
def Team.spadImage (t : Team) (size : Nat) : List Byte :=
  cellsReadN t.spad 0 size ++
  (List.range (size / 1024)).map fun k =>
    BitVec.ofNat 8 (255 - ((t.absentLines.filter fun l => l / 8 == k).map fun l => 2 ^ (l % 8)).sum)

/-- Rays of a team whose results are still to be written, with their operations. -/
def State.raysOf (s : State) (tid : Nat) : List (Op × Ray) :=
  (s.opsOf tid).flatMap fun o => (o.rays.filter fun r => r.kept || !r.done).map fun r => (o, r)

/-- Section 8 (log 28). -/
def State.engineImage (s : State) (tid : Nat) : List Byte :=
  let t := s.team tid
  padTo 64 (
    leBytes 8 t.holdValue.toNat ++ (List.range 4).flatMap (fun k => leBytes 4 ((t.held.getD []).getD k 0).toNat) ++
    leBytes 4 (t.nu.toNat + t.nv.toNat * 2 ^ 8 + flag t.held.isSome 16) ++ leBytes 4 t.retc) ++
  (s.raysOf tid).flatMap fun x =>
    leBytes 8 x.2.va.toNat ++ leBytes 8 (x.2.lane + x.1.wave * 2 ^ 8 + x.2.rd * 2 ^ 16 + x.1.idx * 2 ^ 24 +
      bitsOf x.1.clause.toNat 3 36 * 2 ^ 28)

/-- Sections 1 to 9 of a team. -/
def State.sections (s : State) (tid : Nat) : List (List Byte) :=
  let t := s.team tid
  let g := s.gridOf tid
  [t.waves.flatMap Wave.image,
   t.waves.flatMap fun w => (List.range 32).flatMap fun k => (w.lanes.getD k Lane.blank).image g.regs,
   t.waves.flatMap s.entriesImage,
   (List.range 16).flatMap fun k => (t.bars.getD k (Barrier.init 0)).image,
   t.mangleImage, t.handlesImage, t.spadImage g.spad, s.engineImage tid,
   (List.range 64).flatMap fun k => leBytes 4 (t.stamp.getD k 0).toNat]

/-- Offsets at which sections begin. -/
def offsetsFrom : Nat → List (List Byte) → List Nat
  | _, [] => []
  | o, x :: xs => o :: offsetsFrom (o + (x.length + 255) / 256 * 256) xs

/-- The save area of a team (R453). -/
def State.image (s : State) (tid reason : Nat) : List Byte :=
  let t := s.team tid
  let g := s.gridOf tid
  let secs := s.sections tid
  let body := secs.flatMap pad256
  let nspl := (t.waves.map fun w => w.entries.length).sum
  padTo 256 (
    leBytes 8 (1 + reason * 2 ^ 16 + g.slot * 2 ^ 24 + t.t * 2 ^ 32) ++ leBytes 8 (g.shape % 2 ^ 28 + t.waves.length * 2 ^ 28) ++
    leBytes 8 (nspl % 128 + (s.raysOf tid).length * 2 ^ 16) ++ leBytes 8 (256 + body.length) ++
    ((offsetsFrom 256 secs).drop 1).flatMap fun o => leBytes 8 o) ++ body

/-! ### When a team is at rest (R450 steps 1 and 2) -/

/-- A save waits for an operation: for none that has completed and only waits for its count to retire, and of the Needle only for a
result that can be written; a ray in flight is kept, and so is one that waits inside the Needle to begin (log 76). -/
def State.saveWaits (s : State) (o : Op) : Bool :=
  !o.done &&
    (match o.body with
     | .rays rs => rs.any fun r => !r.done && r.fixed.isSome && !s.rayWaits o r
     | _ => true)

/-- A bundle holds an entry of the team. -/
def Bundle.holds (b : Bundle) (tid : Nat) : Bool := b.members.any fun m => m.team == tid

/-- A lane's trap entry can be made now (R59, R241). -/
def State.trapReady (s : State) (r : Ref) : Bool :=
  (s.lane r).trap.isSome && !s.outstanding r.team r.wave && (s.frameAbsent r).isNone

/-- The lanes of a team. -/
def State.laneRefs (s : State) (tid : Nat) : List Ref :=
  (List.range (s.team tid).waves.length).flatMap fun w => (List.range 32).map fun k => ⟨tid, w, k⟩

/-- The team's operations have completed. -/
def State.opsRest (s : State) (tid : Nat) : Bool := !((s.opsOf tid).any s.saveWaits)

/-- The team's bundles have run on, its operations have completed, and no lane has a trap entry to make (log 87). -/
def State.atRest (s : State) (tid : Nat) : Bool :=
  !(s.bundles.any fun b => b.holds tid) && s.opsRest tid && !((s.laneRefs tid).any s.trapReady)

/-- A team and its cluster partner. -/
def State.both (s : State) (tid : Nat) : List Nat := tid :: (s.partner tid).toList

/-! ### Saving (R450) -/

/-- Virtual address of a save slot (R451). -/
def Die.slotAddr (d : Die) (i : Nat) : DWord :=
  BitVec.ofNat 64 (bitsOf d.spbase.toNat 16 48 * 65536 + i * bitsOf d.spsize.toNat 16 16 * 65536)

/-- The slot that a saved team occupies. -/
def Team.slot (t : Team) : Option Nat :=
  match t.place with
  | .saved i => some i
  | _ => none

/-- The lowest free save slot of a die (R451). -/
def State.freeSave (s : State) (d : Nat) : Option Nat :=
  (List.range (bitsOf (s.die d).spbase.toNat 0 16)).find? fun i => !(s.teams.any fun t => t.die == d && t.slot == some i)

/-- On-chip call entries of a lane with their addresses. -/
def Lane.chipSlots (l : Lane) : List (DWord × Slot) :=
  (l.chip.zipIdx.filter fun p => !p.1.frame).map fun p => (l.sp + BitVec.ofNat 64 (16 * p.2), p.1)

/-- The first on-chip entry of a lane whose write fails (R445, R450 step 3). -/
def State.chipFails (s : State) (r : Ref) : Option Fatal :=
  let l := s.lane r
  if l.ended then none
  else
    l.chipSlots.findSome? fun p => (s.checkDwords r.team p.1 2 needW).map fun b =>
      ({ cause := b.cause.code, wave := r.wave, lane := r.lane, clause := l.clause, idx := l.idx, addr := p.1, write := true,
         fetch := false, atExit := false } : Fatal)

/-- The first lane, helpers apart, whose stack cannot be written (R49). -/
def State.chipBad (s : State) (tid : Nat) : Option Fatal :=
  (s.laneRefs tid).findSome? fun r => if (s.lane r).isHelper then none else s.chipFails r

/-- Helper lanes whose stacks cannot be written end (R49, R174). -/
def State.endBadHelpers (s : State) (tid : Nat) : State :=
  ((s.laneRefs tid).filter fun r => (s.lane r).isHelper && (s.chipFails r).isSome).foldl (fun s r =>
    s.endLanes r.team r.wave (1 <<< r.lane)) s

/-- On-chip call entries are written to the stacks (R49). -/
def State.writeChip (s : State) (tid : Nat) : State :=
  (s.laneRefs tid).foldl (fun s r =>
    let l := s.lane r
    if l.ended then s
    else l.chipSlots.foldl (fun s p => s.writeDwords r p.1 [p.2.lo, p.2.hi] { clause := l.clause, idx := l.idx }) s) s

/-- Bytes of a team's address space as they stand now. -/
def State.see (s : State) (tid : Nat) (a : DWord) (n : Nat) : Option (List Byte) :=
  match s.resolve tid a n needR true with
  | .ok t => s.nowTarget t n
  | _ => none

/-- The call entries that stood on chip as memory holds them when the team is back (R49, R455; log 78). -/
def State.reloadChip (s : State) (r : Ref) : State :=
  ((s.lane r).chipSlots.foldl (fun s p => s.noteBytes r.team p.1 16 needR) s).modLane r fun l => { l with
   chip := l.chip.zipIdx.map fun p =>
    if p.1.frame then p.1
    else
      match s.see r.team (l.sp + BitVec.ofNat 64 (16 * p.2)) 16 with
      | some b =>
        let lo := BitVec.ofNat 64 (recU64 b 0)
        { lo, hi := BitVec.ofNat 64 (recU64 b 8), frame := lo.toNat % 8 != 1 }
      | none => p.1 }

/-- The record of a ray in flight is written where it stands (R417); that of one that waits inside the Needle to begin, or whose
result is known, stays as it is. -/
def State.saveRay (s : State) (x : Op × Ray) : State :=
  let s := s.modRay x.1.id x.2.lane fun y => { y with kept := true }
  if x.2.todo || x.2.fixed.isSome then s
  else
    s.putRecord ⟨x.1.team, x.1.wave, x.2.lane⟩ x.2.va x.2.tgt { x.2.rcd with phase := if x.2.parked then 2 else 1 }
      { clause := x.1.clause, idx := x.1.idx }

/-- Stacks and rays of a team are written where they stand, before any save area of its cluster (R417, R450 step 3). -/
def State.prepareSave (s : State) (tid : Nat) : State :=
  if (s.chipBad tid).isSome then s
  else
    let s := (s.endBadHelpers tid).writeChip tid
    (s.raysOf tid).foldl State.saveRay s

/-- Physical addresses of a range under a root, 256 bytes at a time, for the device's own accesses. -/
def State.poolPages (s : State) (root : Nat) (va : DWord) (n need : Nat) : List (Option Nat) :=
  (List.range ((n + 255) / 256)).map fun k => s.agentPhys root true (va + BitVec.ofNat 64 (256 * k)) need

/-- Bytes written to a save slot; false when a page fails. -/
def State.poolWrite (s : State) (d root : Nat) (va : DWord) (b : List Byte) : State × Bool :=
  let ps := s.poolPages root va b.length needW
  if ps.any Option.isNone then (s, false)
  else (ps.zipIdx.foldl (fun s p => s.unitWrite d (p.1.getD 0) (sliceBytes b (256 * p.2) 256)) s, true)

/-- A debug record (R481). -/
def DbgHit.bytes (h : DbgHit) (t : Team) (slot gslot : Nat) : List Byte :=
  leBytes 8 (h.kind + h.n * 2 ^ 4 + flag h.parked 7 + gslot * 2 ^ 8 + h.lane * 2 ^ 16 + h.wave * 2 ^ 21 + t.core * 2 ^ 26 +
    t.t * 2 ^ 32) ++
  leBytes 8 (h.clause &&& ~~~7).toNat ++ leBytes 8 (h.idx % 16 + h.code * 2 ^ 32) ++ leBytes 8 h.addr.toNat ++
  leBytes 8 slot ++ leBytes 8 h.gtime.toNat ++ leBytes 16 0

/-- The team's debug records are posted, with its slot (R480). -/
def State.postHits (s : State) (tid slot : Nat) : State :=
  let t := s.team tid
  let g := s.gridOf tid
  let s := t.hits.foldl (fun s h => s.ringPost t.die .dbg (h.bytes t slot g.slot) (fun va => s.agentPhys g.root true va needW)) s
  s.modTeam tid fun t => { t with hits := [] }

/-- A saved fault-queue entry says so. -/
def FqEntry.markSaved (e : FqEntry) (tid : Nat) (v : Bool) : FqEntry := if e.tid == some tid then { e with saved := v } else e

/-- One team is written to its slot and leaves its core (R450), behind a release at its own scope (R266). -/
def State.saveTo (s : State) (tid slot : Nat) : State :=
  let t := s.team tid
  let reason := match t.leaving with
    | .save r => r
    | _ => 1
  match s.chipBad tid with
  | some f => s.endFatal tid f
  | none =>
    let va := (s.die t.die).slotAddr slot
    match s.poolWrite t.die (s.gridOf tid).root va (s.image tid reason) with
    | (s, false) => s.endFatal tid
        { cause := Cause.notmapped.code, wave := 0, lane := 0, clause := 0, idx := 0, addr := va, write := true, fetch := false,
          atExit := false }
    | (s, true) =>
      let s := (List.range t.waves.length).foldl (fun s w => s.release tid w 2) s
      let s := s.postHits tid slot
      let s := s.modTeam tid fun t => { t with place := .saved slot, leaving := .no, reason, blockedSince := none, step := none }
      (s.modDie t.die fun d => { d with
        faultQ := d.faultQ.map fun e => e.markSaved tid true,
        queue := if reason = 2 then d.queue else d.queue ++ [tid] }).trimSlices

/-- A team is to be saved. -/
def Team.saving (t : Team) : Bool :=
  t.place == .resident && t.fatal.isNone &&
    (match t.leaving with
     | .save _ => true
     | _ => false)

/-- A team of lower index that the same slice saves first (R198). -/
def State.slicedBefore (s : State) (tid : Nat) : Bool :=
  let t := s.team tid
  s.teams.any fun x => x.die == t.die && x.grid == t.grid && decide (x.t < t.t) && x.leaving == .save 0 && x.place == .resident

/-- Save slots for teams, one after the other. -/
def State.saveAll (s : State) : List Nat → Option State
  | [] => some s
  | t :: ts =>
    match s.freeSave (s.team t).die with
    | none => none
    | some i => (s.saveTo t i).saveAll ts

/-- TEAM_SAVE (R450, R451). -/
def execTeamSave (s : State) : Out :=
  let tid := s.args.a
  let d := (s.team tid).die
  let go := (s.both tid).filter fun t => (s.team t).place == .resident
  .next (
    if !(s.team tid).saving || !(go.all fun t => (s.team t).saving && s.atRest t) || s.slicedBefore tid then s
    else
      match (go.foldl State.prepareSave s).saveAll (sortKey (fun t => (s.team t).t) go) with
      | some s => s.settlePreq d
      | none => s)

/-! ### Flushing and draining (R447 to R449) -/

/-- R447: a team that is never flushed. -/
def State.keepsState (s : State) (tid : Nat) : Bool :=
  let t := s.team tid
  t.hold.isSome || ((s.die t.die).faultQ.any fun e => e.tid == some tid) || (s.raysOf tid).any (fun x => x.2.flies) ||
    (t.waves.any fun w => w.allow.isSome || w.rperm.isSome || w.lanes.any fun l => l.ecc.isSome)

/-- Save or, without a save slot, drain (R447, R452). -/
def State.saveOrDrain (s : State) (tid : Nat) : Leaving :=
  if s.hasSaveSlot (s.team tid).die (s.gridOf tid) then .save 1 else .drain s.hub.gtime.toNat

/-- A team as it was before its first thread began (R448); the core that it has left is kept for R267. -/
def Team.anew (t : Team) (g : Grid) : Team := { freshTeam t.grid g t.t with die := t.die, core := t.core }

/-- The state of a flushed team is discarded, that of its bundles in flight too (R448). -/
def State.discard (s : State) (tid : Nat) : State :=
  let g := s.gridOf tid
  let s := (s.modBundles fun b => { b with members := b.members.filter fun m => m.team != tid }).sweepBundles
  ((s.modTeam tid fun t => t.anew g).modDie (s.team tid).die fun d => { d with queue := tid :: d.queue }).trimSlices

/-- TEAM_FLUSH (R448): a team that has come to hold something is saved instead (R447, R458 case 8). -/
def execTeamFlush (s : State) : Out :=
  let tid := s.args.a
  let d := (s.team tid).die
  let go := (s.both tid).filter fun t => (s.team t).place == .resident
  let flushing := fun t => (s.team t).leaving == .flush && (s.team t).fatal.isNone
  .next (
    if (s.team tid).place != .resident || !flushing tid then s
    else if go.any s.keepsState then
      go.foldl (fun s t => s.modTeam t fun x => { x with leaving := s.saveOrDrain t }) s
    else if !(go.all fun t => flushing t && s.opsRest t) then s
    else ((sortKey (fun t => (s.team t).t) go).reverse.foldl State.discard s).settlePreq d)

/-- DRAIN_TIMEOUT (R449, R452). -/
def execDrainTimeout (s : State) : Out :=
  let tid := s.args.a
  let t := s.team tid
  .next (match t.leaving with
    | .drain since =>
      if t.place == .resident && t.fatal.isNone && s.hasSaveSlot t.die (s.gridOf tid) &&
          decide (2 * bitsOf (s.die t.die).pctl.toNat 32 32 < s.hub.gtime.toNat - since) then
        s.askSave tid 1
      else s
    | _ => s)

/-- EST of a team; none before a first end (R447). -/
def State.est (s : State) (tid : Nat) : Option Nat :=
  let t := s.team tid
  ((s.die t.die).avg.find? fun x => x.1 == t.grid).map fun x => x.2 - (s.hub.gtime.toNat - t.placedAt)

/-- How a team is taken off its core: 0 flush, 1 drain, 2 save (R447). -/
def State.choiceOf (s : State) (v : BitVec 32) (tid : Nat) : Nat :=
  let t := s.team tid
  let p := (s.die t.die).pctl.toNat
  let c :=
    if s.hub.fnmode.getLsbD 2 then min (bitsOf v.toNat 5 2) 2
    else if (s.gridOf tid).idem && decide (t.retc < bitsOf p 0 32) then 0
    else
      match s.est tid with
      | some e => if e < bitsOf p 32 32 then 1 else 2
      | none => 2
  if c = 0 && s.keepsState tid then 2 else c

/-- The treatment of a team and its partner (R447). -/
def State.treat (s : State) (v : BitVec 32) (tid : Nat) : Leaving :=
  let cs := (s.both tid).map fun t => s.choiceOf v t
  if cs.all fun c => c == 0 then .flush
  else if cs.all fun c => c == 1 then .drain s.hub.gtime.toNat
  else s.saveOrDrain tid

/-- Grid slots that a PREQ names; never the dispatcher's (R446, R505). -/
def State.preqSlots (s : State) (v : BitVec 32) : List Nat :=
  if v.getLsbD 7 then ((s.grids.filter fun g => g.phase == .running && g.slot != 63).map (·.slot)).eraseDups
  else if bitsOf v.toNat 8 8 = 63 then []
  else [bitsOf v.toNat 8 8]

/-- PREQ_PREEMPT (R446, R447). -/
def execPreqPreempt (s : State) : Out :=
  let d := s.args.a
  let v : BitVec 32 := s.args.v.setWidth 32
  let slots := s.preqSlots v
  let s := s.modDie d fun x => { x with preq := v &&& 0xFFE1 ||| 1, preempted := (x.preempted ++ slots).eraseDups }
  let ts := (s.concerned d).filter fun t => slots.contains (s.gridOf t).slot && (s.team t).leaving == .no && (s.team t).fatal.isNone
  let how := ts.map fun t => (t, s.treat v t)
  .next ((how.foldl (fun s x => s.modTeam x.1 fun t => { t with leaving := x.2 }) s).settlePreq d)

/-- A draining team goes on. -/
def Team.undrain (t : Team) : Team :=
  match t.leaving with
  | .drain _ => { t with leaving := .no }
  | _ => t

/-- PREQ_RESUME (R446): the grids are back to placement at once. -/
def execPreqResume (s : State) : Out :=
  let d := s.args.a
  let v : BitVec 32 := s.args.v.setWidth 32
  let gone := fun (slot : Nat) => v.getLsbD 7 || bitsOf v.toNat 8 8 == slot
  let ts := (s.concerned d).filter fun t => gone (s.gridOf t).slot
  let s := ts.foldl (fun s t => s.modTeam t Team.undrain) s
  .next (s.modDie d fun x => { x with preq := v &&& 0xFFE2, preempted := x.preempted.filter fun k => !gone k })

/-! ### Restoring (R455) -/

/-- What software may have changed of a lane (R454). -/
def Lane.reload (l : Lane) (n : Nat) (b : List Byte) : Lane :=
  { l with
    gen := BitVec.ofNat 64 (recU64 b 0x18), p := BitVec.ofNat 96 (leNat (sliceBytes b 0x30 16)),
    flags := BitVec.ofNat 5 (recU64 b 0x40),
    g := (List.range n).map fun k => BitVec.ofNat 32 (recU32 b (0x80 + 4 * k)) }

/-- What software may have changed of a wave (R454). -/
def Wave.reload (w : Wave) (k n : Nat) (b : List Byte) (lanes : Nat) : Wave :=
  { w with
    w := (List.range 64).map fun i => BitVec.ofNat 32 (recU32 b (256 + 512 * k + 4 * i)),
    lanes := w.lanes.zipIdx.map fun p =>
      p.1.reload n (sliceBytes b (lanes + (128 + 4 * n) * (32 * k + p.2)) (128 + 4 * n)) }

/-- The team as its save area says. -/
def Team.reload (t : Team) (n : Nat) (b : List Byte) : Team :=
  { t with waves := t.waves.zipIdx.map fun p => p.1.reload p.2 n b (256 + 512 * t.waves.length) }

/-- The save area of a team, as memory holds it now. -/
def State.poolRead (s : State) (root : Nat) (va : DWord) (n : Nat) : Option (List Byte) :=
  ((s.poolPages root va n needR).foldr (fun p acc =>
    match p, acc with
    | some pa, some b => (s.agentRead pa 256).map fun x => x ++ b
    | _, _ => none) (some [])).map fun b => b.take n

/-- An entry of a restored wave takes a slot; without a free one its lanes are deferred (R182, R455). -/
def State.reseat (s : State) (t w : Nat) (e : Entry) (own : Bool) : State :=
  let x := s.wave t w
  match (if own then some x.wslot else s.freeSlot t w) with
  | some k => s.modWave t w fun y => y.addEntry { e with slot := k }
  | none =>
    let s := (s.setPcs t w e.mask e.clause e.idx).unwait t w e.mask
    match x.entries with
    | [] => s
    | f :: _ => s.modEntry t w f.slot fun y => { y with defer := y.defer ||| e.mask ||| e.defer }

/-- A save ends arrivals, and BWAIT compares afresh (R211, R220). -/
def Lane.arriveAnew (l : Lane) : Lane := { l with arrival := none, target := none }

/-- An entry that waited at a barrier or a reconvergence word executes the word again (R211, R220). -/
def Entry.arriveAnew (e : Entry) : Entry :=
  match e.why with
  | .barrier _ => { e with park := 0, why := .none }
  | .sync => { e with park := 0, why := .none }
  | _ => e

/-- A restored wave in its new seat. -/
def Wave.seatAt (w : Wave) (seat : Nat × Nat) (pick : BitVec 32) : Wave :=
  { w with part := seat.1, wslot := seat.2, stamp := pick, entries := [], lanes := w.lanes.map Lane.arriveAnew }

/-- The waves of a restored team are dealt anew (R177, R455). -/
def State.seatTeam (s : State) (tid core p0 : Nat) : State :=
  let t := s.team tid
  let seats := s.seats t.die core p0 t.waves.length
  let s := s.modTeam tid fun x => { x with
    core, place := .resident, retc := 0, sliced := false,
    waves := x.waves.zipIdx.map fun w => (w.1.seatAt (seats.getD w.2 (0, 0)) (s.pickAt t.die core (seats.getD w.2 (0, 0)).1)) }
  (t.waves.zipIdx.foldl (fun s w => w.1.entries.zipIdx.foldl (fun s e => s.reseat tid w.2 e.1.arriveAnew (e.2 == 0)) s) s).giveSlices tid

/-- A monitor of a restored lane finds its location anew and reads it again: another value wakes it, and so does a core whose
monitors do not suffice for it (R292). -/
def State.rearm (s : State) (r : Ref) : State :=
  match (s.lane r).mon with
  | none => s
  | some m =>
    let full := decide (Config.coreMonitors < s.monitors (s.team r.team).die (s.team r.team).core)
    let seen := match s.resolve r.team m.addr m.n needR true with
      | .ok t => { m with tgt := t, woken := m.woken || full || !(s.nowTarget t m.n).any fun b => leNat b == m.seen.toNat }
      | _ => { m with woken := true }
    (s.noteBytes r.team m.addr m.n needR).modLane r fun l => { l with mon := some seen }

/-- What the lanes of a restored team find anew, the last lane first: of the monitors in use its own count from the first lane on. -/
def State.relane (s : State) (tid : Nat) : State := (s.laneRefs tid).foldr (fun r s => (s.reloadChip r).rearm r) s

/-- Where the record of a ray that goes on stands; where its page no longer translates, the place found before (log 53). -/
def State.rayPlace (s : State) (tid : Nat) (x : Ray) : Target :=
  match s.check tid x.va 64 64 needRW true with
  | .ok t => t
  | _ => x.tgt

/-- A ray goes on from its record (R417). -/
def State.resumeRay (s : State) (x : Op × Ray) : State :=
  let t := if x.2.fixed.isSome then x.2.tgt else s.rayPlace x.1.team x.2
  let s := s.modRay x.1.id x.2.lane fun y => { y with kept := false, tgt := t }
  if x.2.todo || x.2.fixed.isSome then s
  else match s.nowTarget t 64 with
  | some b =>
    let s := (s.noteTarget (s.team x.1.team).die t 64).modRay x.1.id x.2.lane fun r => { r with rcd := rayOfBytes b }
    if x.2.parked then s else s.holdRecord x.1.team t
  | none => s

/-- A restore that rejects its save area (R445, R454). -/
def restoreFatal (c : Cause) : Fatal :=
  { cause := c.code, wave := 0, lane := 0, clause := 0, idx := 0, addr := 0, write := false, fetch := false, atExit := false }

/-- A deferred lane becomes the group of its entry, and the old group waits in its place (R182, R482). -/
def State.promote (s : State) (t w lane : Nat) : State :=
  match (s.wave t w).entries.find? fun e => e.defer.getLsbD lane with
  | some e =>
    let s := (s.setPcs t w e.mask e.clause e.idx).unwait t w e.mask
    let l := s.lane ⟨t, w, lane⟩
    s.modEntry t w e.slot fun e =>
      { e with mask := (1 : BitVec 32) <<< lane, defer := (e.mask ||| e.defer) &&& ~~~((1 : BitVec 32) <<< lane), clause := l.clause, idx := l.idx,
               park := 0, why := .none, runs := 0 }
  | none => s

/-- The named lane stands alone in an entry (R482). -/
def State.isolate (s : State) (t w lane : Nat) : State :=
  let s := match (s.wave t w).entries.find? fun e => e.mask.getLsbD lane with
    | some e =>
      if e.mask == 1 <<< lane then s
      else s.leave { team := t, wave := w, slot := e.slot, mask := e.mask } (1 <<< lane) e.clause e.idx e.park e.why true
    | none => s
  s.promote t w lane

/-- The lane of a step, once its team is back. -/
def State.isolateStep (s : State) (tid : Nat) : State :=
  match (s.team tid).step with
  | some (w, lane) => s.isolate tid w lane
  | none => s

/-- One team comes back from its slot (R454, R455, R266), with the pair of R267. -/
def State.restoreAt (s : State) (tid core p0 : Nat) : State :=
  let t := s.team tid
  let g := s.gridOf tid
  match t.slot with
  | none => s
  | some i =>
    let want := s.image tid t.reason
    let got := s.poolRead g.root ((s.die t.die).slotAddr i) want.length
    let s := (s.modDie t.die Die.takeIn).noteRoot g.root ((s.die t.die).slotAddr i) want.length
    match got with
    | none => s.endFatal tid (restoreFatal .rsvd)
    | some b =>
      let s' := s.modTeam tid fun x => x.reload g.regs b
      if s'.image tid t.reason != b then s.endFatal tid (restoreFatal .rsvd)
      else
        let scope := moveScope t.core core
        let s' := (List.range t.waves.length).foldl (fun s w => s.release tid w scope) s'
        let s := (s'.seatTeam tid core p0).modDie t.die fun d => { d with
          faultQ := d.faultQ.map fun e => e.markSaved tid false, queue := d.queue.filter fun x => x != tid }
        let s := s.relane tid
        ((((s.raysOf tid).foldl State.resumeRay s).isolateStep tid).acquire tid scope).goOnFreed tid

/-- Granules that a team brings back (R455). -/
def Team.granules (t : Team) : Nat := (t.handles.map fun h => h.gcnt).sum

/-- It is the team's turn to be restored (R198, R446, R448); one that the last slice saved comes behind the new indices of the
die (log 74). -/
def State.restorable (s : State) (tid : Nat) : Bool :=
  let t := s.team tid
  let waitsFor := fun (x : Nat) => (s.team x).grid == t.grid
  t.isSaved && t.fatal.isNone && (s.die t.die).queue.contains tid && s.runsOn t.die t.grid &&
    (if t.sliced then
       (s.queued t.die t.grid).isEmpty && (s.nextRun t.die t.grid).isNone &&
         ((s.die t.die).queue.find? waitsFor) == some tid
     else (s.queued t.die t.grid).head? == some tid)

/-- TEAM_RESTORE (R455, R230): the team, and its cluster partner with it. -/
def execTeamRestore (s : State) : Out :=
  let tid := s.args.a
  let d := (s.team tid).die
  let g := s.gridOf tid
  let ts := s.both tid
  let go := ts.foldl (fun (p : State × Bool) t =>
    let core := pairCore g s.args.b ((s.team t).t % 2)
    match p.1.room d core g (s.team t).granules with
    | some p0 => (p.1.restoreAt t core p0, p.2)
    | none => (p.1, false)) (s, true)
  .next (if s.restorable tid && (ts.all fun t => (s.team t).isSaved) && go.2 then go.1 else s)

/-! ### Debug commands (R482) -/

/-- The team saved by debug in a slot of a die. -/
def State.debugTeam (s : State) (d slot : Nat) : Option Nat :=
  (List.range s.teams.length).find? fun k =>
    (s.team k).die == d && (s.team k).slot == some slot && (s.team k).reason == 2 && (s.team k).fatal.isNone &&
      !(s.die d).queue.contains k

/-- A team saved by debug, and its partner, wait to be restored. -/
def State.requeue (s : State) (tid : Nat) : State :=
  (s.both tid).foldl (fun s t => s.modDie (s.team t).die fun d =>
    { d with queue := if d.queue.contains t then d.queue else d.queue ++ [t] }) s

/-- DBGCMD_RESUME (R482). -/
def execDbgcmdResume (s : State) : Out :=
  .next (match s.debugTeam s.args.a s.args.b with
    | some t => s.requeue t
    | none => s)

/-- DBGCMD_STEP (R482). -/
def execDbgcmdStep (s : State) : Out :=
  let w := s.args.c
  let lane := s.args.d
  .next (match s.debugTeam s.args.a s.args.b with
    | none => s
    | some t =>
      let l := s.lane ⟨t, w, lane⟩
      if l.ended || l.absent || l.isHelper then s
      else (s.modTeam t fun x => { x with step := some (w, lane) }).requeue t)

/-- DBGCMD_KILL (R482). -/
def execDbgcmdKill (s : State) : Out :=
  .next (match s.debugTeam s.args.a s.args.b with
    | some t => s.endFatal t (restoreFatal .brk)
    | none => s)

/-! ### Fault-queue commands (R444, R458) -/

/-- The entry that a command names. -/
def State.fqAt (s : State) (d i : Nat) : Option FqEntry := (s.die d).faultQ.find? fun e => e.index == i

/-- A ray parked on an entry reads again (R409, R444). -/
def Ray.replay (r : Ray) (i : Nat) : Ray := if r.fq == some i then { r with fq := none, want := none, resume := true } else r

def Op.replay (o : Op) (tid i : Nat) : Op :=
  match o.body with
  | .rays rs => if o.team == tid then { o with body := .rays (rs.map fun r => r.replay i) } else o
  | _ => o

/-- Rays parked on an entry read again: they run, those of a saved team once it is back (R403, R409, R444). -/
def State.replayRays (s : State) (tid i : Nat) : State :=
  if (s.team tid).isSaved then { s with ops := s.ops.map fun o => o.replay tid i } else
  ((s.ops.filter fun o => o.team == tid).flatMap fun o => (o.rays.filter fun r => r.fq == some i).map fun r => (o, r)).foldl
    (fun s x =>
      let t := s.rayPlace tid x.2
      (s.modRay x.1.id x.2.lane fun y => { y with tgt := t }).holdRecord tid t) { s with ops := s.ops.map fun o => o.replay tid i }

/-- An entry being replayed (R444). -/
def FqEntry.replaying (e : FqEntry) (i : Nat) : FqEntry := if e.index == i then { e with state := 2 } else e

/-- An entry becomes a report (R444). -/
def FqEntry.cancelled (e : FqEntry) (i : Nat) : FqEntry := if e.index == i then { e with state := 3, kind := 3 } else e

/-- FQCMD_ACK (R444). -/
def execFqcmdAck (s : State) : Out :=
  .next (match s.fqAt s.args.a s.args.b with
    | some e => if e.state = 3 then s.fqDrop s.args.a e.index else s
    | none => s)

end Sys2Proof.Machine
end

