-- ==== Sys2Proof/Machine/Mail.lean ====
section
/-! DEFINITION. Sys2Proof/Machine/Mail.lean: the mailbox and spawn words (R506 to R512), packets from the host (R502) and core
dumps (R483 to R486, R490). -/

namespace Sys2Proof.Machine

/-- The 16-register block of a word, as a packet (R503, R506). -/
def State.blockOf (s : State) (r : Ref) (sel : BitVec 8) : List Word := (List.range 16).map fun k => s.rawReg r (sel.toNat + k)

/-- Register results for every active lane of the entry of a performing lane (R506). -/
def State.entryResults (s : State) (r : Ref) (xs : List (Nat × Word)) : List RegRes :=
  match s.bundle.members.find? fun m => m.team == r.team && m.wave == r.wave && m.mask.getLsbD r.lane with
  | some m => (s.activeOf m).flatMap fun q => xs.map fun x => { lane := q.lane, sel := x.1, val := x.2 }
  | none => []

/-- A packet as 16 register values. -/
def packetRegs (rd : Nat) (p : List DWord) : List (Nat × Word) :=
  (List.range 16).map fun k =>
    let d := p.getD (k / 2) 0
    (rd + k, if k % 2 = 0 then lo32 d else hi32 d)

/-! ### MBRECV -/

/-- MBRECV (R507). -/
def execMbrecv (o : FA) (s : State) : Out :=
  privWord s fun s =>
    if s.counterFull .ld then s.hold
    else
      let act := s.active
      let ws := wavesOf act
      let (s, jobs, parks) := s.performersBySlot.foldl (fun (p : State × List (Ref × List RegRes × OpBody) × List Ref) r =>
        match p.1.mailTake (p.1.team r.team).die with
        | (s, some pkt) => (s, p.2.1 ++ [(r, s.entryResults r (packetRegs o.rd.toNat pkt), .plain)], p.2.2)
        | (s, none) =>
          if o.sub.getLsbD 0 then (s, p.2.1 ++ [(r, s.entryResults r (packetRegs o.rd.toNat []), .plain)], p.2.2)
          else (s, p.2.1, p.2.2 ++ s.entryMates r)) (s, [], [])
      let s := s.parkLanes parks 4 .mailbox false
      let left := wavesOf (act.filter fun r => !parks.contains r)
      let s := s.postEach (ws.filter left.contains) .ld true jobs
      s.finish act []

/-! ### MBSEND and FWD -/

/-- MBSEND (R508). -/
def execMbsend (o : FA) (s : State) : Out :=
  privWord s fun s =>
    if s.counterFull .st then s.hold
    else
      let act := s.active
      let asks := s.performers.map fun r => (r, packetOfRegs (s.blockOf r o.rb))
      let ok := fun (p : List DWord) => 3 ≤ pktKind p && pktKind p ≤ 5
      let bad : List LaneFault := (asks.filter fun x => !ok x.2).map fun x => { r := x.1, cause := .layout }
      let jobs := (asks.filter fun x => ok x.2).map fun x =>
        (x.1, ([] : List RegRes), OpBody.packet none (withSrc x.2 (s.team x.1.team).die))
      let ws := wavesOf act
      let s := s.faultLanes bad
      let s := s.postEach ws .st false jobs
      s.finish act []

/-- Bits of a packet that must be zero: NEWEND and TARGET count among them but for TRIM (R503, R509). -/
def reservedZero (p : List DWord) : Bool :=
  let d := fun k => (p.getD k 0).toNat
  bitsOf (d 0) 24 8 == 0 && bitsOf (d 0) 48 16 == 0 && bitsOf (d 3) 40 24 == 0 && d 5 == 0 &&
    (pktKind p == 2 || bitsOf (d 3) 0 40 == 0)

/-- FWD's check (R509). -/
def fwdOk (p : List DWord) : Bool :=
  (pktKind p == 1 || pktKind p == 2 || pktKind p == 5) && decide (pktDst p < 8) && reservedZero p

/-- The hub accepts a forwarded packet; a RANGE that matches a transit slot of its sender moves the charge (R509, R516). -/
def State.forward (s : State) (src : Nat) (p : List DWord) : State :=
  let dst := pktDst p
  let s := s.mailPut dst (withSrc p src)
  match (s.die src).transit.find? fun x => pktKind p == 1 && x.gid == pktGid p && x.lo == pktLo p && x.hi == pktHi p &&
      x.dbase == pktDbase p with
  | none => s
  | some x =>
    let s := s.modDie src fun d => { d with transit := d.transit.erase x }
    (s.modHub fun h => { h with charges := h.charges ++ [{ x with die := dst, landed := false }] }).hubMarks

/-- FWD (R509): a release at system scope by its submitter (R257). -/
def execFwd (o : FA) (s : State) : Out :=
  privWord s fun s =>
    let asks := s.performers.map fun r => (r, packetOfRegs (s.blockOf r o.rb))
    let good := asks.filter fun x => fwdOk x.2
    let full := good.any fun x => !s.mailFits (pktDst x.2) (good.filter fun y => pktDst y.2 == pktDst x.2).length
    if s.counterFull .st || s.tileStores s.active || full then s.hold
    else
      let s := s.releaseWord 6
      let act := s.active
      let asks := asks.filter fun x => s.stays x.1
      let good := good.filter fun x => s.stays x.1
      let bad : List LaneFault := (asks.filter fun x => !fwdOk x.2).map fun x => { r := x.1, cause := .layout }
      let ws := wavesOf act
      let s := good.foldl (fun s x => s.forward (s.team x.1.team).die x.2) s
      let s := s.faultLanes bad
      let s := s.postEach ws .st false (good.map fun x => (x.1, ([] : List RegRes), OpBody.store []))
      s.finish act []

/-! ### SPAWN -/

/-- The grid that a GID names: admitted and not ended (R510). -/
def State.gridByGid (s : State) (gid : Nat) : Option Nat :=
  (List.range s.grids.length).find? fun k =>
    let g := s.grids.getD k Grid.blank
    g.gid == gid && g.phase != .complete && !g.firmware

/-- What a SPAWN does for one performing lane. -/
inductive Spawned where
  | bad (s : State) (f : LaneFault)
  /-- the two result registers, and the range that stands in the queue once the word's count retires (R510) -/
  | ok (s : State) (d0 d1 : Word) (range : Option Range)
  deriving DecidableEq, Repr

/-- The read of a launch record under a grid's root (R510). -/
def State.recordCause (s : State) (r : Ref) (root : Nat) (a : DWord) : Option LaneFault :=
  if a.toNat % 64 ≠ 0 then some { r, cause := .misalign, addr := a }
  else if inWindow a then some { r, cause := .window, addr := a }
  else
    (List.range 2).findSome? fun k =>
      let va := a + BitVec.ofNat 64 (64 * k)
      if !canonical va then some { r, cause := .notmapped, addr := va }
      else
        match s.walk root (va.toNat % 2 ^ 52) with
        | .none => some { r, cause := .notmapped, addr := va, walk := true }
        | .leaf ppn rights =>
          if !rightsOk needR rights true then some { r, cause := .perm, addr := va, walk := true }
          else if (s.agentRead (ppn * 65536 + va.toNat % 65536) 64).isNone then some (eccFault r va)
          else none

/-- The ranges of a grid in a die's queue. -/
def Die.rangesOf (d : Die) (k : Nat) : List Range := d.ranges.filter fun r => r.grid == k

/-- SPAWN of a RANGE packet (R510); `more` are the ranges that the same word has already accepted. -/
def State.spawnRange (s : State) (more : List Range) (r : Ref) (p : List DWord) : Spawned :=
  let d := (s.team r.team).die
  match s.gridByGid (pktGid p) with
  | none => .ok s 0xFFFFFFFF 0 none
  | some k =>
    let g := s.grids.getD k Grid.blank
    let lo := pktLo p
    let hi := pktHi p
    let here := (s.die d).known.find? fun x => x.1 == k
    let cause := if here.isSome then none else s.recordCause r g.root (pktLrec p)
    let s := if here.isSome || decide ((pktLrec p).toNat % 64 ≠ 0) then s else (s.modDie d Die.takeIn).noteRoot g.root (pktLrec p) 128
    match cause with
    | some f => .bad s f
    | none =>
      if (lo < hi ∧ 8 ≤ ((s.die d).rangesOf k).length + ((s.spawning d ++ more).filter fun x => x.grid == k).length) ∨
          (g.cl2 = true ∧ (lo % 2 = 1 ∨ hi % 2 = 1)) ∨ g.teams < hi ∨ g.det = true ∨ (here.isSome = true ∧ here ≠ some (k, pktLrec p)) then
        .bad s { r, cause := .layout }
      else
        let s := if here.isSome then s else s.modDie d fun x => { x with known := x.known ++ [(k, pktLrec p)] }
        if lo < hi then .ok s (BitVec.ofNat 32 g.slot) 1 (some { grid := k, next := lo, stop := hi })
        else .ok s (BitVec.ofNat 32 g.slot) 0 none

/-- SPAWN of a TRIM packet (R511). -/
def State.spawnTrim (s : State) (r : Ref) (p : List DWord) : Spawned :=
  let d := (s.team r.team).die
  match (s.gridByGid (pktGid p)).bind fun k => ((s.die d).lastRange k).map fun x => (k, x) with
  | none => .ok s 0 0 none
  | some (k, x) =>
    let g := s.grids.getD k Grid.blank
    let c0 := max x.next (pktNewend p)
    let c := if g.cl2 then (c0 + 1) / 2 * 2 else c0
    if c < x.stop then
      if pktDcnt p ≠ 0 ∧ 4 ≤ (s.die d).transit.length then .bad s { r, cause := .layout }
      else
        let cut : Transit := { gid := g.gid, lo := c, hi := x.stop, dbase := pktDbase p, die := d, landed := false }
        let s := s.modDie d fun y => y.putRange x { x with stop := c }
        let s := if pktDcnt p = 0 then s else s.modDie d fun y => { y with transit := y.transit ++ [cut] }
        .ok s (BitVec.ofNat 32 c) (BitVec.ofNat 32 x.stop) none
    else .ok s (BitVec.ofNat 32 x.stop) (BitVec.ofNat 32 x.stop) none

/-- Ranges that the jobs of a word will install. -/
def jobRanges (jobs : List (Ref × List RegRes × OpBody)) : List Range :=
  jobs.filterMap fun x =>
    match x.2.2 with
    | .spawn _ r => r
    | _ => none

/-- SPAWN, once per entry, in the order of their wave slots (R506, R512); a release at system scope by its submitter (R257). -/
def spawnWord (s : State) (o : FA) (f : State → List Range → Ref → List DWord → Spawned) : Out :=
  privWord s fun s =>
    if s.counterFull .st || s.tileStores s.active then s.hold
    else
      let s := s.releaseWord 6
      let act := s.active
      let ws := wavesOf act
      let (s, jobs, bad) := s.performersBySlot.foldl (fun (p : State × List (Ref × List RegRes × OpBody) × List LaneFault) r =>
        let blk := p.1.blockOf r o.rb
        match f p.1 (jobRanges p.2.1) r (packetOfRegs blk) with
        | .bad s e => (s, p.2.1, p.2.2 ++ [e])
        | .ok s d0 d1 range =>
          (s, p.2.1 ++ [(r, s.entryResults r [(o.rd.toNat, d0), (o.rd.toNat + 1, d1)], .spawn blk range)], p.2.2)) (s, [], [])
      let s := s.faultLanes bad
      let s := s.postEach ws .st true jobs
      s.finish act []

/-- SPAWN by the KIND of its packet (R510, R511). -/
def State.spawnKind (s : State) (more : List Range) (r : Ref) (p : List DWord) : Spawned :=
  if pktKind p = 1 then s.spawnRange more r p
  else if pktKind p = 2 then s.spawnTrim r p
  else .bad s { r, cause := .layout }

/-- SPAWN (R510, R511): the packet's KIND says which. -/
def execSpawnRange (o : FA) (s : State) : Out := spawnWord s o State.spawnKind

/-- SPAWN of a TRIM packet (R511); its words decode as SPAWN. -/
def execSpawnTrim (o : FA) (s : State) : Out :=
  spawnWord s o fun s _ r p => if pktKind p = 2 then s.spawnTrim r p else .bad s { r, cause := .layout }

/-! ### DUMP -/

/-- The dump header (R486). -/
def dumpHeader (s : State) (tid status required written : Nat) (faddr : DWord) (start : DWord) : List Byte :=
  let t := s.team tid
  padTo 256 (
    leBytes 8 (1 + status * 2 ^ 16 + t.t * 2 ^ 32) ++ leBytes 8 required ++ leBytes 8 written ++ leBytes 8 start.toNat ++
    leBytes 8 ((s.gridOf tid).slot + t.die * 2 ^ 8 + t.core * 2 ^ 16) ++ leBytes 8 faddr.toNat)

/-- One write of a dump: 16 bytes through the checks of a store (R484); false when it faults or the write guard refuses it
(R432). -/
def State.dumpPut (s : State) (tid : Nat) (va : DWord) (b : List Byte) : State × Bool :=
  if inWindow va then (s, false)
  else
    match s.resolve tid va b.length needW true with
    | .ok t =>
      let (s, refused) := s.writeTarget (s.writer tid) t b true
      (s, !refused)
    | _ => (s, false)

/-- Bytes of a dump from an address on: the state, and the offset of the first byte not written. -/
def State.dumpWrite (s : State) (tid : Nat) (va : DWord) (off : Nat) : Nat → List Byte → State × Option Nat
  | 0, _ => (s, none)
  | n + 1, b =>
    if b.isEmpty then (s, none)
    else
      match s.dumpPut tid (va + BitVec.ofNat 64 off) (b.take 16) with
      | (s, false) => (s, some off)
      | (s, true) => s.dumpWrite tid va (off + 16) n (b.drop 16)

/-- Lanes in bundles that hold at a DUMP stand at that word (R484 step 5). -/
def State.standAt (s : State) (tid : Nat) : State :=
  (s.bundle :: s.bundles.filter fun b => b.id != s.bundle.id).foldl (fun s b =>
    (b.members.filter fun m => m.team == tid).foldl (fun s m => s.setPcs m.team m.wave m.mask b.clause b.idx) s) s

/-- A whole dump of a team (R484): the status. -/
def State.dumpTeam (s : State) (tid : Nat) (buf : DWord) (size : Nat) : State × Nat :=
  let s := s.standAt tid
  let img := s.image tid 3
  let required := 256 + img.length
  let start := s.hub.gtime
  let head := fun (s : State) (status written : Nat) (faddr : DWord) =>
    (s.dumpWrite tid buf 0 16 (dumpHeader s tid status required written faddr start)).1
  let s := head s 4 256 0
  if size < required then (head s 2 256 0, 2)
  else
    match s.dumpWrite tid buf 256 (img.length / 16 + 1) img with
    | (s, none) => (head s 1 required 0, 1)
    | (s, some off) => (head s 3 off (buf + BitVec.ofNat 64 off), 3)

/-- A bundle whose next word is a DUMP (R484, R490). -/
def Bundle.atDump (b : Bundle) : Bool :=
  match decodeWord (b.words.getD b.idx 0) with
  | .ok (.dump _) => true
  | _ => false

/-- A team is quiet but for bundles that hold at a DUMP (R484 steps 1 and 2). -/
def State.dumpQuiet (s : State) (tid : Nat) : Bool :=
  !(s.bundles.any fun b => b.holds tid && b.id != s.bundle.id && !b.atDump) && !((s.opsOf tid).any s.saveWaits) &&
    !((s.laneRefs tid).any s.trapReady)

/-- The cause of a DUMP (R483). -/
def State.dumpCause (s : State) (r : Ref) (buf : DWord) : Option LaneFault :=
  if buf.toNat % 256 ≠ 0 then some { r, cause := .misalign, addr := buf, write := true }
  else if inWindow buf then some { r, cause := .window, addr := buf, write := true }
  else
    match s.resolve r.team buf 256 needW true with
    | .bad c w => some { r, cause := c, addr := buf, write := true, walk := w }
    | _ => none

/-- How a DUMP is served: 0 a buffer below 256 bytes, 1 by hardware, 2 by system software (R483 to R485, R452). -/
def State.dumpHow (s : State) (r : Ref) (size : Nat) : Nat :=
  if size < 256 then 0
  else if s.hub.fnmode.getLsbD 6 && s.hasSaveSlot (s.team r.team).die (s.gridOf r.team) then 2
  else 1

/-- DUMP (R483 to R485). -/
def execDump (o : FA) (s : State) : Out :=
  privWord s fun s =>
    if s.counterFull .st then s.hold
    else
      let act := s.active
      let asks := s.performers.map fun r => (r, s.src64 r o.ra, (s.src r .i32 o.rb 0).toNat)
      let bad := asks.filterMap fun x => s.dumpCause x.1 x.2.1
      let good := asks.filter fun x => (s.dumpCause x.1 x.2.1).isNone
      let hw := good.filter fun x => s.dumpHow x.1 x.2.2 == 1
      if !(hw.all fun x => s.dumpQuiet x.1.team) then
        (hw.foldl (fun s x => s.modTeam x.1.team fun t => { t with frozen := true }) s).hold
      else
        let s := asks.foldl (fun s x => (s.modTeam x.1.team fun t => { t with frozen := false }).goOnFreed x.1.team) s
        let s := act.foldl (fun s r => s.latchRead r o.rb.toNat) s
        let ws := wavesOf act
        let rd := o.rd.toNat
        let (s, jobs, out) := good.foldl (fun (p : State × List (Ref × List RegRes × OpBody) × List (Ref × List Ref)) x =>
          let r := x.1
          let mates := (p.1.entryMates r).filter fun q => act.contains q
          let res := fun (v : Nat) => p.1.entryResults r [(rd, BitVec.ofNat 32 v)]
          match p.1.dumpHow r x.2.2 with
          | 0 => (p.1, p.2.1 ++ [(r, res 5, .dump r.lane x.2.1 x.2.2)], p.2.2)
          | 1 =>
            let (s, st) := p.1.dumpTeam r.team x.2.1 x.2.2
            (s, p.2.1 ++ [(r, res st, .dump r.lane x.2.1 x.2.2)], p.2.2)
          | _ =>
            (p.1.noteHit r 4 0 0 0 false, p.2.1 ++ [(r, res 6, .dump r.lane x.2.1 x.2.2)], p.2.2 ++ [(r, mates)])) (s, [], [])
        let s := s.faultLanes bad
        let s := s.postEach ws .st true jobs
        let s := out.foldl (fun s x => s.swapHits x.2) s
        s.finish (act.filter fun r => s.stays r) []

/-! ### Packets from the host -/

/-- MAILBOX_PACKET_FROM_HOST (R500, R502): a packet of the host, sender 9, enters the mailbox of its die while the hub has
room for it. -/
def execMailboxPacketFromHost (s : State) : Out :=
  let p := (List.range 8).map fun k => s.args.data.getD k 0
  .next (if pktDst p < 8 ∧ s.mailRoom (pktDst p) = true then s.mailPut (pktDst p) (withSrc p 9) else s)

end Sys2Proof.Machine
end

