-- ==== Sys2Proof/Machine/Gcp.lean ====
section
/-! DEFINITION. Sys2Proof/Machine/Gcp.lean: the GCP: SQ packets (R528 to R531), the admission of a launch (R191 to R193,
R437, R438, R530), frames (R384, R385, R393), boot (R505, R535), module reset (R12), and the fault-queue commands that
re-execute or cancel (R444). -/

namespace Sys2Proof.Machine

/-! ### SQ -/

/-- The packet at SQHEAD: eight doublewords; an unreadable one reads as zeros. -/
def State.sqPacket (s : State) : List DWord :=
  let b := (s.agentRead (s.hub.sq.base.toNat + 64 * (s.hub.sq.head.toNat % 2 ^ 32)) 64).getD (List.replicate 64 0)
  (List.range 8).map fun k => BitVec.ofNat 64 (recU64 b (8 * k))

/-- The ring is not empty (R474, R528). -/
def Ring.waiting (r : Ring) : Bool :=
  let n := r.size.toNat % 2 ^ 32
  n != 0 && r.head.toNat % 2 ^ 32 % n != r.tail.toNat % 2 ^ 32 % n

/-- The GCP takes a packet now: READY holds, one waits, and no ENDFRAME is in progress (R528, R531, R535). -/
def State.sqReady (s : State) : Bool :=
  s.hub.bootstat == 1 && s.hub.sq.waiting &&
    (match s.hub.frame with
      | some f => f.ending.isNone
      | none => true)

/-- KIND of a packet the GCP runs; 0 for a reserved KIND or a non-zero reserved field (R529, R530). -/
def sqKind (p : List DWord) : Nat :=
  let d := fun k => (p.getD k 0).toNat
  let kind := d 0 % 256
  if d 0 / 256 = 0 ∧ d 4 % 2 ^ 40 = 0 ∧ d 5 = 0 ∧ d 6 = 0 ∧ d 7 = 0 ∧ 1 ≤ kind ∧ kind ≤ 3 then kind else 0

def sqRoot (p : List DWord) : Nat := (p.getD 1 0).toNat
def sqRec (p : List DWord) : DWord := p.getD 2 0
def sqCaddr (p : List DWord) : DWord := p.getD 3 0
def sqDcnt (p : List DWord) : Nat := (p.getD 4 0).toNat / 2 ^ 40

/-- Where the completion record goes: none for a CADDR that refuses the packet, `some none` for no record (R530). -/
def State.recordAt (s : State) (p : List DWord) : Option (Option Nat) :=
  let a := sqCaddr p
  if a = 0 then some none
  else if a.toNat % 16 ≠ 0 then none
  else (s.agentPhys (sqRoot p) true a needW).map some

/-- The reads of the packet at SQHEAD and of the walk of its CADDR, as they count at the memory dies (R532, R533). -/
def State.noteSq (s : State) : State :=
  let p := s.sqPacket
  let s := s.noteRead (s.hub.sq.base.toNat + 64 * (s.hub.sq.head.toNat % 2 ^ 32)) 64
  if sqCaddr p = 0 ∨ (sqCaddr p).toNat % 16 ≠ 0 then s else s.noteAgent (sqRoot p) (sqCaddr p)

/-- Runs of equal values without their first. -/
def dropRun : List (Nat × List DWord) → List (Nat × List DWord)
  | [] => []
  | (k, d) :: xs => if k ≤ 1 then xs else (k - 1, d) :: xs

/-- SQHEAD moves past the packet. -/
def State.takeSq (s : State) : State := s.modHub fun h => { h with sq := h.sq.step, sqDshr := dropRun h.sqDshr }

/-- The shared ranges of a packet at SQHEAD (R459). -/
def Hub.sharedRanges (h : Hub) : List DWord :=
  match h.sqDshr with
  | x :: _ => x.2
  | [] => h.dshr

/-- A packet that is refused runs nothing (R530). -/
def State.refuse (s : State) (crec : Option Nat) (status : Nat) : State := s.takeSq.writeRecord crec status 0 0 0

/-- An event of the GCP on the packet at SQHEAD, if it is of the kind; a bad CADDR posts NOREC in its place (R530), and a
ring slot outside the physical map is a hole (R524). -/
def State.gcp (s : State) (kind : Nat) (run : State → List DWord → Option Nat → State) : Out :=
  if !s.sqReady then .next s
  else if Config.physTop < s.hub.sq.base.toNat + 64 * (s.hub.sq.head.toNat % 2 ^ 32) + 64 then .fault .physicalHole
  else
    let p := s.sqPacket
    if sqKind p ≠ kind then .next s
    else
      match s.recordAt p with
      | none => (s.noteSq.takeSq.eqAdd (packet 6 8 0 0 (s.hub.sq.head.toNat % 2 ^ 32) 5 0 0 0)).eqFlush
      | some crec => .next (run s.noteSq p crec)

/-- BADPACKET (R530). -/
def execBadpacket (s : State) : Out := s.gcp 0 fun s _ crec => s.refuse crec 5

/-! ### LAUNCH -/

/-- Doublewords of a record. -/
def recordDwords (b : List Byte) : List Nat := (List.range 16).map fun k => recU64 b (8 * k)

/-- Fields of a launch record (R191). -/
def gridOfRecord (d : List Nat) : Grid :=
  let w := fun k => d.getD k 0
  { Grid.blank with
    entry := BitVec.ofNat 64 (w 0), handler := BitVec.ofNat 64 (w 1), seed := BitVec.ofNat 64 (w 2),
    stkBase := BitVec.ofNat 64 (w 3), stkSize := w 4 % 2 ^ 32, gx := w 5 % 2 ^ 32, gy := w 5 / 2 ^ 32, gz := w 6 % 2 ^ 32,
    tx := bitsOf (w 6) 32 11, ty := bitsOf (w 6) 43 11, tz := bitsOf (w 7) 0 11, regs := 32 + 16 * bitsOf (w 7) 11 3,
    scr := bitsOf (w 7) 14 4, acct := bitsOf (w 7) 18 5, cl2 := bitOf (w 7) 23, qmap := bitOf (w 7) 24, priv := bitOf (w 7) 25,
    det := bitOf (w 7) 26, idem := bitOf (w 7) 27, shape := w 7 % 2 ^ 28 }

/-- The checks of R192 on the record alone. -/
def launchBad (d : List Nat) : Bool :=
  let w := fun k => d.getD k 0
  let g := gridOfRecord d
  bitsOf (w 4) 32 32 != 0 || bitsOf (w 6) 54 10 != 0 || bitsOf (w 7) 28 36 != 0 || bitsOf (w 10) 5 59 != 0 ||
    ((List.range 5).any fun k => w (11 + k) != 0) ||
    g.regs == 144 || g.scr == 15 || decide (16 < g.acct) ||
    g.tx == 0 || g.ty == 0 || g.tz == 0 || g.gx == 0 || g.gy == 0 || g.gz == 0 ||
    decide (1024 < g.nt) || decide (2 ^ 31 < g.teams) ||
    g.stkSize % 16 != 0 || decide (g.stkSize < 64) ||
    w 0 % 8 != 0 || w 1 % 8 != 0 || w 3 % 8 != 0 || w 8 % 64 != 0 ||
    (g.qmap && (g.tx % 2 == 1 || g.ty % 2 == 1)) || (g.cl2 && g.teams % 2 == 1) || decide (16 < bitsOf (w 10) 0 5)

/-- Both halves that translation reaches (R226). -/
def inHalves (a n : Nat) : Bool :=
  decide (a + n ≤ 2 ^ 51) || (decide (2 ^ 64 - 2 ^ 51 ≤ a) && decide (a + n ≤ winCluster)) ||
    (decide (winEnd ≤ a) && decide (a + n ≤ 2 ^ 64))

/-- One entry of an extent table (R437). -/
def extentOfEntry (b : List Byte) : Option Extent :=
  let base := recU64 b 0
  let w := recU64 b 8
  let len := w % 2 ^ 40
  if w / 2 ^ 41 ≠ 0 ∨ len = 0 ∨ inHalves base len = false then none
  else some { base := BitVec.ofNat 64 base, len, w := bitOf w 40, pages := [] }

/-- The extents of a launch; none for BADEXTENT (R437). -/
def State.extentTable (s : State) (root : Nat) (tab : DWord) (n : Nat) : Option (List Extent) :=
  if n = 0 then some []
  else if tab.toNat % 16 ≠ 0 then none
  else
    match s.rootRead root tab 3 (16 * n) with
    | none => none
    | some b =>
      let es := (List.range n).map fun k => extentOfEntry (sliceBytes b (16 * k) 16)
      if es.any Option.isNone then none else some (es.filterMap id)

/-- Grid slots that launches hold. -/
def State.gridSlots (s : State) : List Nat := (s.grids.filter fun g => g.phase != .complete).map (·.slot)

/-- The lowest free grid slot of 0 to 62 (R530). -/
def State.freeGridSlot (s : State) : Option Nat := (List.range 63).find? fun k => !s.gridSlots.contains k

/-- A launch that would leave the frame's draw sequences, or comes outside a frame (R531). -/
def State.drawBad (s : State) (dcnt : Nat) : Bool :=
  dcnt != 0 &&
    (match s.hub.frame with
      | none => true
      | some f => decide (2 ^ 40 - 1 ≤ f.seq + dcnt))

/-- The first draw sequence of a launch (R363). -/
def State.drawBase (s : State) (dcnt : Nat) : Nat :=
  if dcnt = 0 then 0
  else
    match s.hub.frame with
    | some f => f.seq
    | none => 0

/-- Teams of a grid that a die's cores could place at once (R193). -/
def State.dieCapacity (s : State) (k d : Nat) : Nat :=
  if (s.grids.getD k Grid.blank).cl2 then
    ((List.range (Config.cores / 2)).map fun p =>
      2 * min (s.capacity k d (2 * p) Config.coreTeams) (s.capacity k d (2 * p + 1) Config.coreTeams)).sum
  else ((List.range Config.cores).map fun c => s.capacity k d c Config.coreTeams).sum

/-- Where the range of die `d` begins (R193): `caps` are the dies' capacities, `u` is 2 under CL2. -/
def splitAt (teams u : Nat) (caps : List Nat) (d : Nat) : Nat :=
  let caps := if caps.sum = 0 then caps.map (fun _ => 1) else caps
  u * (teams / u * (caps.take d).sum / caps.sum)

/-- One RANGE packet, with the transit charge of a geometry grid's range (R193, R504, R516). -/
def State.sendRange (s : State) (g : Grid) (d lo hi : Nat) : State :=
  let s := s.mailPut d (packet 1 8 d g.gid lo hi g.lrec g.dbase g.dcnt)
  if g.dcnt = 0 then s
  else s.modHub fun h => { h with charges := h.charges ++ [{ gid := g.gid, lo, hi, dbase := g.dbase, die := d, landed := false }] }

/-- The RANGE packets of a grid; none for a deterministic one (R193, R504). -/
def State.splitGrid (s : State) (k : Nat) : State :=
  let g := s.grids.getD k Grid.blank
  if g.det then s
  else
    let caps := (List.range Config.dies).map fun d => s.dieCapacity k d
    let cut := fun d => splitAt g.teams (if g.cl2 then 2 else 1) caps d
    ((List.range Config.dies).foldl (fun s d => s.sendRange g d (cut d) (cut (d + 1))) s).hubMarks

/-- The next device grid number. -/
def nextGidAfter (gid : Nat) : Nat := gid % 0xFFFF + 1

/-- Draw sequences that a launch takes. -/
def Frame.advance (f : Frame) (n : Nat) : Frame := { f with seq := f.seq + n }

/-- An admitted grid takes its slot, its number and its draw sequences, and its first record is written (R530). -/
def State.takeIn (s : State) (g : Grid) (slot : Nat) : State :=
  let gid := s.hub.nextGid
  let s := { s with grids := s.grids ++ [{ g with slot, gid, phase := .extents }] }
  let s := (s.modHub fun h => { h with nextGid := nextGidAfter gid }).modFrame fun f => f.advance g.dcnt
  s.writeRecord g.crec 7 slot gid 0

/-- The reads of the checks of a launch, each made once those before it hold: record, initial values, extent table. -/
def State.noteLaunch (s : State) (p : List DWord) : State :=
  let root := sqRoot p
  if (sqRec p).toNat % 64 ≠ 0 then s
  else
    let t := s.noteRoot root (sqRec p) 128
    match s.rootRead root (sqRec p) 2 128 with
    | none => t
    | some b =>
      let d := recordDwords b
      let wi := BitVec.ofNat 64 (d.getD 8 0)
      let tab := BitVec.ofNat 64 (d.getD 9 0)
      if launchBad d then t
      else if (s.rootRead root wi 2 256).isNone || s.drawBad (sqDcnt p) || decide (tab.toNat % 16 ≠ 0) then t.noteRoot root wi 256
      else (t.noteRoot root wi 256).noteRoot root tab (16 * (d.getD 10 0 % 32))

/-- A launch whose slot is free is checked and admitted or refused (R191, R192, R437, R530, R531). -/
def State.launch (s : State) (p : List DWord) (crec : Option Nat) (slot : Nat) : State :=
  let root := sqRoot p
  let t := s.noteLaunch p
  match (if (sqRec p).toNat % 64 ≠ 0 then none else s.rootRead root (sqRec p) 2 128) with
  | none => t.refuse crec 2
  | some b =>
    let d := recordDwords b
    match (if launchBad d then none else s.rootRead root (BitVec.ofNat 64 (d.getD 8 0)) 2 256) with
    | none => t.refuse crec 2
    | some wi =>
      if s.drawBad (sqDcnt p) then t.refuse crec 4
      else
        match s.extentTable root (BitVec.ofNat 64 (d.getD 9 0)) (d.getD 10 0 % 32) with
        | none => t.refuse crec 3
        | some es =>
          let g := { gridOfRecord d with
            root, lrec := sqRec p, winit := (List.range 64).map fun k => BitVec.ofNat 32 (recU32 wi (4 * k)), extents := es,
            dbase := s.drawBase (sqDcnt p), dcnt := sqDcnt p, crec, dshr := s.hub.sharedRanges }
          (((t.takeSq.takeIn g slot).splitGrid s.grids.length).allExtents s.grids.length)

/-- LAUNCH (R530): it waits for a free grid slot, and for room for its packets. -/
def execLaunch (s : State) : Out :=
  match s.freeGridSlot with
  | none => .next s
  | some slot =>
    if (List.range Config.dies).any fun d => !s.mailRoom d then .next s else s.gcp 1 fun s p crec => s.launch p crec slot

/-! ### FRAME and ENDFRAME -/

/-- A binary32 code that is finite and above zero, or not below it. -/
def finAbove (c : Nat) (zero : Bool) : Bool :=
  match v32 c with
  | .fin neg m _ => if m = 0 then zero else !neg
  | _ => false

/-- The checks of R384 on the record alone. -/
def frameBad (d : List Nat) : Bool :=
  let w := fun k => d.getD k 0
  let lo := fun k => w k % 2 ^ 32
  let hi := fun k => w k / 2 ^ 32
  let spp := bitsOf (w 9) 32 7
  bitsOf (w 9) 14 2 != 0 || bitsOf (w 9) 30 2 != 0 || bitsOf (w 9) 39 1 != 0 || bitsOf (w 9) 49 15 != 0 || hi 11 != 0 ||
    w 13 != 0 || w 14 != 0 || w 15 != 0 ||
    !finAbove (lo 6) false || !finAbove (hi 6) false || !finAbove (lo 7) false || !finAbove (hi 7) false ||
    !ltFV (v32 (lo 7)) (v32 (hi 7)) || !finAbove (lo 8) true || !finAbove (hi 8) true ||
    spp == 0 || decide (64 < spp) || decide (256 < bitsOf (w 9) 40 9) ||
    w 0 % 16 != 0 || w 1 % 16 != 0 || w 2 % 8 != 0 || w 3 % 65536 != 0 || w 4 % 65536 != 0

/-- A frame before its ranges are translated. -/
def frameOf (record : List Byte) (root : Nat) (crec : Option Nat) : Frame :=
  { record, pattern := [], owners := [], root, ranges := [], seq := 0, dataErr := false, doneTiles := [], moves := [],
    handoff := none, ending := none, crec }

/-- The ranges of a frame: base, bytes and the rights checked (R385). -/
def Frame.areas (f : Frame) : List (Nat × Nat × Nat) :=
  let tiles := f.tw * f.th
  let spill := recU64 f.record 0x18
  let own := recU64 f.record 0x60
  [(f.sbuf, 16 * f.spp * 1024 * tiles, needRW), (recU64 f.record 0x08, 1024, needR), (f.comprec, 8 * tiles, needW)] ++
    (List.range Config.dies).map (fun d => (spill + d * f.spillsz, f.spillsz, needRW)) ++
    (if own = 0 then [] else [(own, 256, needR)])

/-- One range of a frame, translated with the privileged right; one that runs past the address space fails. -/
def State.translateArea (s : State) (root : Nat) (a : Nat × Nat × Nat) : Option Extent :=
  if a.2.1 = 0 then some { base := BitVec.ofNat 64 a.1, len := 0, w := true, pages := [] }
  else if 2 ^ 64 < a.1 + a.2.1 then none
  else
    match s.translate root true a.2.2 (a.1 / 65536) (pagesOf a.1 a.2.1) with
    | .ok ps => some { base := BitVec.ofNat 64 a.1, len := a.2.1, w := true, pages := ps }
    | .error _ => none

/-- The frame that a record opens; none for BADFRAME (R384, R385, R386, R513). -/
def State.openFrame (s : State) (root : Nat) (a : DWord) (crec : Option Nat) : Option Frame :=
  if s.hub.frame.isSome ∨ a.toNat % 64 ≠ 0 then none
  else
    match s.rootRead root a 2 128 with
    | none => none
    | some b =>
      if frameBad (recordDwords b) then none
      else
        let f := frameOf b root crec
        let es := f.areas.map fun x => s.translateArea root x
        if es.any Option.isNone then none
        else
          let own := recU64 b 0x60
          match s.rootRead root (BitVec.ofNat 64 (recU64 b 0x08)) 2 1024,
              (if own = 0 then some [] else s.rootRead root (BitVec.ofNat 64 own) 2 256) with
          | some pattern, some owners => some { f with pattern, owners, ranges := es.filterMap id }
          | _, _ => none

/-- The reads of a frame's start, as they count at the memory dies (R385, R532, R533): its record, then the walks of its ranges, then
the pattern and ownership tables. -/
def State.noteFrame (s : State) (root : Nat) (a : DWord) (crec : Option Nat) : State :=
  if s.hub.frame.isSome ∨ a.toNat % 64 ≠ 0 then s
  else
    let t := s.noteRoot root a 128
    match s.rootRead root a 2 128 with
    | none => t
    | some b =>
      if frameBad (recordDwords b) then t
      else
        let areas := (frameOf b root crec).areas
        let t := areas.foldl (fun t x => t.notePages root true x.2.2 (x.1 / 65536) (pagesOf x.1 x.2.1)) t
        let own := recU64 b 0x60
        if areas.any fun x => (s.translateArea root x).isNone then t
        else
          let t := t.noteRoot root (BitVec.ofNat 64 (recU64 b 0x08)) 1024
          if own = 0 then t else t.noteRoot root (BitVec.ofNat 64 own) 256

/-- FRAME (R385, R531). -/
def execFrame (s : State) : Out :=
  s.gcp 2 fun s p crec =>
    let t := s.noteFrame (sqRoot p) (sqRec p) crec
    match s.openFrame (sqRoot p) (sqRec p) crec with
    | none => t.refuse crec 4
    | some f => (t.takeSq.modHub fun h => { h with frame := some f }).writeRecord crec 1 0 0 0

/-- Every geometry grid of the frame has completed (R531). -/
def State.frameQuiet (s : State) : Bool := s.grids.all fun g => g.dcnt == 0 || g.phase == .complete

/-- The frame ends: tiles without a copy left get their record (R393). -/
def Frame.endWith (f : Frame) (crec : Option Nat) : Frame := { f with ending := some crec }

/-- ENDFRAME (R393, R531). -/
def execEndframe (s : State) : Out :=
  if s.hub.frame.isSome ∧ s.frameQuiet = false then .next s
  else
    s.gcp 3 fun s _ crec =>
      if s.hub.frame.isNone then s.refuse crec 4
      else
        let s := s.takeSq.modFrame fun f => f.endWith crec
        ((List.range Config.dies).foldl (fun s d => s.closeTiles d) s).closeFrame

/-! ### Fault-queue commands (R444) -/

/-- FQCMD_REPLAY. -/
def execFqcmdReplay (s : State) : Out :=
  let d := s.args.a
  .next (match s.fqAt d s.args.b with
    | none => s
    | some e =>
      if e.state ≠ 1 then s
      else if e.kind = 0 then s.modDie d fun x => { x with faultQ := x.faultQ.map fun y => y.replaying e.index }
      else if e.kind = 1 then
        (s.replayRays (e.tid.getD 0) e.index).fqDrop d e.index
      else
        match (List.range s.grids.length).find? fun k =>
            (s.grids.getD k Grid.blank).slot == e.grid && (s.grids.getD k Grid.blank).phase == .extents with
        | some k => (s.fqDrop d e.index).tryExtents k d
        | none => s.fqDrop d e.index)

/-- The fatal end of a CANCEL: the entry is its report (R444). -/
def FqEntry.fatal (e : FqEntry) : Fatal :=
  { cause := e.cause, wave := e.wave, lane := e.lane, clause := e.clause, idx := e.idx, addr := e.addr, write := e.write,
    fetch := e.fetch, atExit := false }

/-- FQCMD_CANCEL (R444, R458). -/
def execFqcmdCancel (s : State) : Out :=
  let d := s.args.a
  .next (match s.fqAt d s.args.b with
    | none => s
    | some e =>
      if e.state ≠ 1 then s
      else if e.kind ≤ 1 then
        let s := s.modDie d fun x => { x with faultQ := x.faultQ.map fun y => y.cancelled e.index }
        s.endFatal (e.tid.getD 0) e.fatal
      else
        match (List.range s.grids.length).find? fun k =>
            (s.grids.getD k Grid.blank).slot == e.grid && (s.grids.getD k Grid.blank).phase == .extents with
        | some k => s.rejectGrid k
        | none => s.fqDrop d e.index)

/-! ### Boot and reset -/

/-- Bytes of the SLH-DSA-SHAKE-256s signature (R535). -/
def sigBytes : Nat := 29792

/-- BOOTSTAT after the boot ROM's checks of an image, and the image (R535). -/
def State.bootImage (s : State) : Nat × List Byte :=
  let pa := Config.gddrTop + s.hub.fwaddr.toNat
  let n := s.hub.fwlen.toNat
  if Config.physTop < pa + n ∨ n < 0x50 then (5, [])
  else
    match s.agentRead pa n with
    | none => (5, [])
    | some img =>
      let len := recU64 img 0x08
      if 0x800000 < len ∨ n < 0x50 + len + sigBytes then (5, [])
      else if !Config.keyMatches (sliceBytes img 0x10 64) then (2, img)
      else if !Config.signatureVerifies (img.take (0x50 + len + sigBytes)) then (3, img)
      else if recU32 img 0 < s.hub.floor.toNat then (4, img)
      else (1, img)

/-- The dispatcher grid (R505): one team of one thread on core C47 of each die, in slot 63. -/
def dispatcherGrid : Grid :=
  { Grid.blank with
    slot := 63, firmware := true, entry := Config.dispatcherEntry &&& ~~~7#64, stkBase := Config.dispatcherStack &&& ~~~7#64,
    stkSize := 4096, gx := 8, regs := 128, priv := true, phase := .running, winit := List.replicate 64 0 }

/-- The dispatcher's team of a die. -/
def State.startDispatcher (s : State) (k d : Nat) : State :=
  (s.addTeam k d).startTeam s.teams.length d 47 (((s.dealAt d 47 dispatcherGrid)).getD 0) 6

/-- The firmware stands in the hub's store and the dispatcher runs (R505, R535). -/
def State.ready (s : State) (img : List Byte) : State :=
  let body := sliceBytes img 0x50 (recU64 img 0x08)
  let s := s.modMem fun m => { m with fw := cellsWriteN [] 0 body }
  let s := if bitOf (recU32 img 4) 0 then s.modHub (fun h => { h with floor := BitVec.ofNat 32 (recU32 img 0) }) else s
  let s := { s with grids := s.grids ++ [dispatcherGrid] }
  (List.range Config.dies).foldl (fun s d => s.startDispatcher (s.grids.length - 1) d) s

/-- The boot ROM's checks end: BOOTSTAT says how, and after a success the dispatcher runs. -/
def State.bootEnd (s : State) : State :=
  let r := s.bootImage
  let s := s.modHub fun h => { h with bootstat := r.1 }
  if r.1 = 1 then s.ready r.2 else s

/-- FWGO (R535): a write of 1 to bits [31:0] or to the whole register (operands `a` and `b`: its offset and its bytes) starts the boot ROM, and BOOTSTAT reads 6 until a later turn, under `flag`, in which it has read the
image and checked it (log 61). -/
def execFwgo (s : State) : Out :=
  .next (
    if s.args.flag then (if s.hub.bootstat = 6 then s.bootEnd else s)
    else
      let s := s.modHub fun h => { h with fwgo := mergeReg h.fwgo s.args.a (if s.args.b = 4 then 4 else 8) s.args.v }
      if s.args.a ≠ 0 ∨ s.args.v ≠ 1 ∨ s.hub.bootstat = 6 ∨ s.hub.bootstat = 1 then s else s.modHub fun h => { h with bootstat := 6 })

/-- MODULE_RESET (R12, R535): every register at its reset value; memory, the host's BAR and the rollback floor, which lies
outside the module, stay. -/
def execModuleReset (s : State) : Out :=
  .next { State.reset with
    mem := { Memory.reset with cells := s.mem.cells, poison := s.mem.poison, flips := s.mem.flips },
    hub := { Hub.reset with hbar := s.hub.hbar, floor := s.hub.floor },
    free := s.free }

end Sys2Proof.Machine
end

