-- ==== Sys2Proof/Machine/HubEv.lean ====
section
/-! DEFINITION. Sys2Proof/Machine/HubEv.lean: writes to the hub register block (R14, R525 to R527) and what its command
registers do: TLB syncs (R436), counter streaming (R487, R488), quiet mode and the clock (R536, R537), Basket moves (R520),
tile ownership (R514), the rings' tails (R528), and the host's accesses to memory (R277). -/

namespace Sys2Proof.Machine

/-! ### Register writes -/

/-- A written register: the writable bits of `mask` from `v`, the others as they were (R14). -/
def masked (mask old v : DWord) : DWord := (v &&& mask) ||| (old &&& ~~~mask)

/-- LOST of a ring: a write of 0 clears it (R474). -/
def Ring.writeReg (r : Ring) (k : Nat) (v : DWord) : Ring :=
  match k with
  | 0 => { r with base := v }
  | 1 => { r with size := v &&& 0xFFFFFFFF }
  | 3 => { r with tail := v &&& 0xFFFFFFFF }
  | 4 => if lo32 v = 0 then { r with lost := 0 } else r
  | _ => r

/-- A register of a die's window that only holds its value (R526). -/
def Die.writeReg (d : Die) (off : Nat) (v : DWord) : Die :=
  if off = 0x000 then { d with tslice := lo32 v &&& 0xFFFFFF }
  else if off = 0x010 then { d with pctl := v }
  else if off = 0x018 then { d with spbase := v }
  else if off = 0x020 then { d with spsize := lo32 v &&& 0xFFFF0000 }
  else if off = 0x028 then (if bitsOf v.toNat 24 8 = 0 then { d with lost := 0 } else d)
  else if off = 0x038 then { d with lintctl := lo32 v &&& 0xFF01 }
  else if off = 0x040 then { d with dbgctl := lo32 v &&& 0xFF03 }
  else if off = 0x048 then { d with dbgSlot := v.extractLsb' 32 16 }
  else if 0x080 ≤ off ∧ off < 0x0C0 then { d with bps := d.bps.set ((off - 0x080) / 8) (v &&& 0xF01FFFFFFFFFFFF8) }
  else if 0x0C0 ≤ off ∧ off < 0x0E0 then { d with wps := d.wps.set ((off - 0x0C0) / 8) (v &&& 0xFCDFFFFFFFFFFFFF) }
  else if 0x100 ≤ off ∧ off < 0x128 then { d with lint := d.lint.writeReg ((off - 0x100) / 8) v }
  else if 0x140 ≤ off ∧ off < 0x168 then { d with dbg := d.dbg.writeReg ((off - 0x140) / 8) v }
  else if 0x180 ≤ off ∧ off < 0x1A8 then { d with pm := d.pm.writeReg ((off - 0x180) / 8) v }
  else d

/-- CE and UE (R533): a write of 0 clears a field. -/
def MdErr.writeReg (e : MdErr) (v : DWord) : MdErr :=
  { e with ce := if hi32 v = 0 then 0 else e.ce, ue := if lo32 v = 0 then 0 else e.ue }

/-- Entry `n` of the write guard (R534). -/
def Guard64.writeReg (g : Guard64) (k : Nat) (v : DWord) : Guard64 :=
  if k = 0 then { g with w0 := v &&& 0x000FFFFFFFFF0007 } else { g with w1 := v &&& 0x000FFFFFFFFF0000 }

/-- A register of the hub that only holds its value (R525). -/
def Hub.writeReg (h : Hub) (off : Nat) (v : DWord) : Hub :=
  if off = 0x0080 then { h with fwaddr := v }
  else if off = 0x0088 then { h with fwlen := v }
  else if h.bootstat ≠ 1 then h
  else if off = 0x0008 then { h with fnmode := lo32 v &&& 0x7F }
  else if 0x0040 ≤ off ∧ off < 0x0080 then { h with dshr := h.dshr.set ((off - 0x40) / 8) (v &&& 0xFC1FFFFFFFFF0000) }
  else if 0x0100 ≤ off ∧ off < 0x0110 then { h with sq := h.sq.writeReg ((off - 0x100) / 8) v }
  else if 0x0140 ≤ off ∧ off < 0x0150 then { h with eq := h.eq.writeReg ((off - 0x140) / 8) v }
  else if 0x1000 ≤ off ∧ off < 0x1200 then
    { h with guards := h.guards.modify ((off - 0x1000) / 16) fun g => g.writeReg (off / 8 % 2) v }
  else if 0x4000 ≤ off ∧ off < 0x4080 ∧ off / 8 % 4 = 0 then
    { h with mderr := h.mderr.modify ((off - 0x4000) / 32) fun e => e.writeReg v }
  else h

/-- Events that a write to a die's command register starts; `low` when it covers bits [31:0] (R443, R446, R482, R520). -/
def dieCommand (d off : Nat) (v : DWord) (low : Bool) : List Turn :=
  let n := v.toNat
  if !low then []
  else if off = 0x008 then
    (if bitOf n 0 then [if bitOf n 1 then .ev .preqResume { a := d, v } else .ev .preqPreempt { a := d, v }] else [])
  else if off = 0x030 then
    (match n % 4 with
      | 1 => [.ev .fqcmdReplay { a := d, b := bitsOf n 8 8 }]
      | 2 => [.ev .fqcmdCancel { a := d, b := bitsOf n 8 8 }]
      | 3 => [.ev .fqcmdAck { a := d, b := bitsOf n 8 8 }]
      | _ => [])
  else if off = 0x048 then
    (match n % 4 with
      | 1 => [.ev .dbgcmdResume { a := d, b := bitsOf n 32 16 }]
      | 2 => [.ev .dbgcmdStep { a := d, b := bitsOf n 32 16, c := bitsOf n 12 5, d := bitsOf n 7 5 }]
      | 3 => [.ev .dbgcmdKill { a := d, b := bitsOf n 32 16 }]
      | _ => [])
  else if off = 0x050 then
    (match n % 4 with
      | 1 => [.ev .bskcmdSpill { a := d, b := bitsOf n 16 16 }]
      | 2 => [.ev .bskcmdReturn { a := d, b := bitsOf n 16 16 }]
      | _ => [])
  else []

/-- Events that a write to a command register of the hub starts. -/
def hubCommand (off : Nat) (v : DWord) (low : Bool) : List Turn :=
  if off = 0x0010 then [.ev .tlbsyncWrite { v, flag := low }]
  else if off = 0x0018 then [.ev .pmctlWrite { v }]
  else if off = 0x0020 then (if low then [.ev .ownmove { v }] else [])
  else if off = 0x0028 then [.ev .qctlWrite { v }]
  else if off = 0x0118 then [.ev .sqtailWrite { v }]
  else if off = 0x0158 then [.ev .eqtailWrite { v }]
  else []

/-- PREQ's fields without GO, when no command is given (R446). -/
def Die.writePreq (d : Die) (v : DWord) : Die := { d with preq := (lo32 v &&& 0xFFE2) ||| (d.preq &&& 1) }

/-- A die's register as a write of one half finds it: DBGCMD, which reads as zero, keeps SLOT for the command that the other half gives
(R14, R482, R527). -/
def Die.held (d : Die) (off : Nat) : DWord := if off = 0x048 then d.dbgSlot.setWidth 64 <<< 32 else d.reg off

/-- A write to a die's window. -/
def State.writeDieReg (s : State) (d off n : Nat) (v : DWord) : State :=
  let base := off / 8 * 8
  let new := mergeReg ((s.die d).held base) off n v
  let ts := dieCommand d base new (off % 8 == 0)
  if base = 0x008 ∧ ts = [] then s.modDie d fun x => x.writePreq new
  else
    let s := s.modDie d fun x => x.writeReg base new
    { s with agenda := ts ++ s.agenda }

/-- A write to a register of the hub itself; of one to FWGO the half that is written (R527, R535; log 30). -/
def State.writeHubReg (s : State) (off n : Nat) (v : DWord) : State :=
  let base := off / 8 * 8
  let new := mergeReg (s.hub.reg base) off n v
  if base = 0x0090 then
    { s with agenda := .ev .fwgo { a := off % 8, b := n, v := if n = 8 then v else v &&& 0xFFFFFFFF } :: s.agenda }
  else
    let ts := if s.hub.bootstat = 1 then hubCommand base new (off % 8 == 0) else []
    let s := s.modHub fun h => h.writeReg base new
    { s with agenda := ts ++ s.agenda }

/-- REGISTER_WRITE (R14, R525 to R527, R535): 4 or 8 bytes, naturally aligned; a command register's own event follows, and what
waits for EQ enters it as far as a written EQSIZE makes room (R528). -/
def execRegisterWrite (s : State) : Out :=
  let off := s.args.a
  let n := s.args.b
  if !((n = 8 ∧ off % 8 = 0) ∨ (n = 4 ∧ off % 4 = 0)) then .next s
  else if 0x100000 ≤ off ∧ off < 0x180000 then
    .next (if s.hub.bootstat = 1 then s.writeDieReg ((off - 0x100000) / 0x10000) (off % 0x10000) n s.args.v else s)
  else if off / 8 * 8 = 0x0148 then (s.writeHubReg off n s.args.v).eqFlush
  else .next (s.writeHubReg off n s.args.v)

/-! ### Rings (R528) -/

/-- Packets of a ring that wait (R474). -/
def Ring.count (r : Ring) : Nat :=
  let n := r.size.toNat % 2 ^ 32
  if n = 0 then 0 else (r.tail.toNat % 2 ^ 32 + n - r.head.toNat % 2 ^ 32 % n) % n

/-- The first `n` values of runs of equal values. -/
def takeRuns : List (Nat × List DWord) → Nat → List (Nat × List DWord)
  | [], _ => []
  | (k, d) :: xs, n => if n = 0 then [] else if n ≤ k then [(n, d)] else (k, d) :: takeRuns xs (n - k)

/-- SQTAIL moves; each packet that it releases is submitted with the shared ranges as they stand (R459). -/
def Hub.releaseSq (h : Hub) (v : DWord) : Hub :=
  let sq := h.sq.writeReg 3 v
  let old := takeRuns h.sqDshr sq.count
  let more := sq.count - (old.map (·.1)).sum
  { h with sq, sqDshr := if more = 0 then old else old ++ [(more, h.dshr)] }

/-- SQTAIL_WRITE: the packets before the tail are the GCP's to take (R257, R459, R528). -/
def execSqtailWrite (s : State) : Out :=
  .next (if s.hub.bootstat = 1 then s.modHub fun h => h.releaseSq s.args.v else s)

/-- EQTAIL_WRITE: waiting packets enter the ring (R528). -/
def execEqtailWrite (s : State) : Out :=
  if s.hub.bootstat = 1 then (s.modHub fun h => { h with eq := h.eq.writeReg 3 s.args.v }).eqFlush else .next s

/-! ### TLB sync (R436) -/

/-- A page lies in a sync's range; a large page (`big`) is covered whole. -/
def syncCovers (v : DWord) (vpn : Nat) (big : Bool) : Bool :=
  let lo := v.toNat / 65536
  let n := if bitsOf v.toNat 4 12 = 0 then 4096 else bitsOf v.toNat 4 12
  let u := if big then 8192 else 1
  let within := fun (x : Nat) => decide (lo / u ≤ x / u) && decide (x / u ≤ (lo + n - 1) / u)
  !bitOf v.toNat 0 || within vpn || within (vpn + 2 ^ 48)

/-- A walked translation is covered. -/
def walkCovered (v : DWord) (x : Nat × Nat × Walk) : Bool :=
  match x.2.2 with
  | .leaf _ rights => syncCovers v x.2.1 (bitOf rights 4)
  | .none => syncCovers v x.2.1 false

/-- A ray that has still to write its record where its word's checks found it: it flies, or waits for an earlier one. One that is
parked on a fault, or recorded in a save area, finds that place again when it goes on (log 53), and a scratchpad has no page. -/
def Ray.usesPage (x : Ray) : Bool :=
  !x.done && !x.parked && !x.kept && x.fixed.isNone &&
    (match x.tgt with
     | .spad .. => false
     | _ => true)

/-- Operations that may still make an access through a translation that their checks found. -/
def Op.usesPages (o : Op) : Bool :=
  match o.body with
  | .store _ => true
  | .copies _ => true
  | .mangle _ => true
  | .texture _ => true
  | .rays rs => rs.any Ray.usesPage
  | _ => false

/-- Every TLB drops the covered entries, and bundles the covered results of their walks. -/
def State.dropPages (s : State) (v : DWord) : State :=
  { s with
    dies := s.dies.map (fun d => { d with tlbs := d.tlbs.filter fun x => !syncCovers v x.2.vpn (bitOf x.2.rights 4) }),
    bundles := s.bundles.map fun b => { b with walked := b.walked.filter fun x => !walkCovered v x } }

/-- TLBSYNC_WRITE: a write while BUSY is ignored; one that does not cover bits [31:0] sets VPN bits only. -/
def execTlbsyncWrite (s : State) : Out :=
  let v := s.args.v &&& 0xFFFFFFFFFFFFFFF1
  .next (
    if s.hub.tlbsync.getLsbD 1 then s
    else if !s.args.flag then s.modHub fun h => { h with tlbsync := v }
    else
      let s := s.dropPages v
      s.modHub fun h => { h with
        tlbsync := v ||| 2, syncOps := (s.ops.filter Op.usesPages).map (·.id),
        syncWalks := s.bundles.flatMap fun b => b.walks.map fun w => (b.id, w) })

/-- A walk that was in flight at the write still is. -/
def State.walkFlies (s : State) (x : Nat × Nat × Nat) : Bool := s.bundles.any fun b => b.id == x.1 && b.walks.contains x.2

/-- TLB_SYNC_COMPLETE: everything that the sync waits for has finished, and BUSY clears. -/
def execTlbSyncComplete (s : State) : Out :=
  .next (
    if !s.hub.tlbsync.getLsbD 1 || s.ops.any (fun o => s.hub.syncOps.contains o.id && o.usesPages) || s.hub.syncWalks.any s.walkFlies then s
    else s.modHub fun h => { h with tlbsync := h.tlbsync &&& 0xFFFFFFFFFFFFFFFD, syncOps := [], syncWalks := [] })

/-! ### Counter streaming (R487 to R489) -/

/-- PMCTL_WRITE: K outside 10 to 24 stays; the dies act on the register from the next tick. -/
def execPmctlWrite (s : State) : Out :=
  let v := lo32 s.args.v
  .next (s.modHub fun h =>
    let k := if 10 ≤ v.toNat % 32 ∧ v.toNat % 32 ≤ 24 then v.toNat % 32 else h.pmctl.toNat % 32
    { h with pmctl := (v &&& 0x80) ||| BitVec.ofNat 32 k })

/-- Counters of each row: BUSY and the causes that the row has (R489). -/
def pmCounters (die : Bool) (row : Nat) : Nat :=
  if die then [5, 6, 6].getD row 0 else [8, 8, 8, 8, 7, 4].getD row 0

/-- A block of a PM record (R488): eight rows of eight counters, their values free (log 14). -/
def pmBlock (tick id block : Nat) (die : Bool) : List Byte :=
  (List.range 64).flatMap fun k =>
    leBytes 4 (if k % 8 < pmCounters die (k / 8) then (Config.pmCounter tick (id * 4096 + block * 64 + k)).toNat else 0)

/-- A PM record of a die (R488). -/
def pmRecord (h : Hub) (d tick : Nat) : List Byte :=
  let k := h.pmact.toNat % 32
  leBytes 8 (h.gtime.toNat / 2 ^ k) ++ leBytes 8 (d + k * 256 + (if h.pmpart then 8192 else 0)) ++ leBytes 240 0 ++
    (List.range 49).flatMap fun b => pmBlock tick d b (b == 48)

/-- PM_TICK: every die writes its record; then a changed PMCTL takes effect (R487). -/
def execPmTick (s : State) : Out :=
  let p := 2 ^ (s.hub.pmact.toNat % 32)
  .next (
    if s.hub.gtime.toNat % p ≠ 0 then s
    else
      let s := if s.hub.pmact.getLsbD 7 then
          let h := s.hub
          ((List.range Config.dies).foldl (fun s d => s.ringPost d .pm (pmRecord h d s.free) fun va =>
            s.agentPhys (Config.pmRoot d) true va needW) s).modHub fun h =>
            { h with pmpart := false }
        else s
      s.modHub fun h => if h.pmact = h.pmctl then h else { h with pmact := h.pmctl, pmpart := true })

/-! ### Quiet mode and power (R536, R537) -/

/-- The clock limit in force, in steps of 25 MHz. -/
def Hub.clockLimit (h : Hub) : Nat := if h.qctl.getLsbD 31 then min 56 (bitsOf h.qctl.toNat 16 8) else 56

/-- The power limit in force, in W. -/
def Hub.powerLimit (h : Hub) : Nat := if h.qctl.getLsbD 31 then min 1100 (bitsOf h.qctl.toNat 0 16) else 1100

/-- FCUR and PEST. -/
def Hub.fcur (h : Hub) : Nat := bitsOf h.qstat.toNat 16 8
def Hub.pest (h : Hub) : Nat := bitsOf h.qstat.toNat 0 16

/-- The clock that the firmware sets when it would run at `f`: at most the limit; no higher than before while a junction exceeds
100 °C, and 200 MHz above 110 °C. -/
def Hub.clockAt (h : Hub) (f : Nat) : Nat :=
  if 110 < h.heat then 8 else if 100 < h.heat then min (min f h.clockLimit) h.fcur else min f h.clockLimit

/-- QSTAT at a clock and a power, which stays within its limit; THR says that the clock is below its limit (R536). -/
def Hub.setClock (h : Hub) (f pest : Nat) : Hub :=
  { h with qstat := BitVec.ofNat 64 (min pest h.powerLimit + f * 2 ^ 16 + (if f < h.clockLimit then 2 ^ 31 else 0)) }

/-- QCTL after a write: a limit outside its range leaves its field unchanged. -/
def Hub.writeQctl (h : Hub) (v : Nat) : Hub :=
  let old := h.qctl.toNat
  let flim := if 8 ≤ bitsOf v 16 8 ∧ bitsOf v 16 8 ≤ 56 then bitsOf v 16 8 else bitsOf old 16 8
  let plim := if 100 ≤ bitsOf v 0 16 ∧ bitsOf v 0 16 ≤ 1100 then bitsOf v 0 16 else bitsOf old 0 16
  { h with qctl := BitVec.ofNat 64 (plim + flim * 2 ^ 16 + bitsOf v 31 1 * 2 ^ 31) }

/-- QCTL_WRITE: clock and power are held to the new limits at once, within the 100 µs that R537 gives, and THR says how the clock
then stands to its limit (log 15). -/
def execQctlWrite (s : State) : Out :=
  let h := s.hub.writeQctl s.args.v.toNat
  .next { s with
    hub := h,
    agenda := .ev .clockChange { a := h.fcur, v := BitVec.ofNat 64 h.pest } :: s.agenda }

/-- CLOCK_CHANGE: the clock of every die changes, to 200 MHz at least, and the power over the last 1 ms is known (logs 15, 63). -/
def execClockChange (s : State) : Out :=
  .next (s.modHub fun h => h.setClock (h.clockAt (max 8 s.args.a)) (s.args.v.toNat % 65536))

/-- THERMAL_THROTTLE: the hottest junction is read; 25 MHz down above 100 °C, 200 MHz above 110 °C. -/
def execThermalThrottle (s : State) : Out :=
  .next (s.modHub fun h =>
    let x := { h with heat := s.args.a }
    if s.args.a ≤ 100 then x else x.setClock (x.clockAt (max 8 (h.fcur - 1))) h.pest)

/-! ### Basket moves by system software (R520) -/

/-- The copy with the highest ticket that may spill: in a general slot, its ticket above the least value received. -/
def Die.toSpill (d : Die) : Option GridCopy :=
  (d.basket.filter fun c => !c.resv && decide (d.leastMark.toNat < c.ticket.toNat)).foldl (fun m c =>
    match m with
    | some x => if (x : GridCopy).ticket.toNat ≤ c.ticket.toNat then some c else m
    | none => some c) none

/-- Copies spill, highest tickets first; a full spill area takes no more (R519). -/
def spillCopies : Nat → Nat → Frame → State → State
  | 0, _, _, s => s
  | n + 1, a, f, s =>
    match (s.die a).toSpill with
    | none => s
    | some c =>
      if !(s.die a).spillRoom f then s
      else
        let s := (s.modDie a fun d => { d with basket := d.basket.erase c }).spillCopy a f c
        spillCopies n a f (if (s.die a).basket.length == basketReturn then s.eqAdd ((s.die a).spillPacket a) else s)

/-- BSKCMD_SPILL. -/
def execBskcmdSpill (s : State) : Out :=
  let a := s.args.a
  match s.hub.frame with
  | some f => if s.spillHost then ((spillCopies s.args.b a f s).settleBasket a f).eqFlush else .next s
  | none => .next s

/-- BSKCMD_RETURN. -/
def execBskcmdReturn (s : State) : Out :=
  let a := s.args.a
  match s.hub.frame with
  | some f =>
    if s.spillHost then
      ((returnCopies s.args.b a (fun d => decide (d.generalUsed < basketGeneral)) f s).settleBasket a f).eqFlush
    else .next s
  | none => .next s

/-! ### Tile ownership (R514) -/

/-- The move of a tile, and its handoff. -/
def Frame.move (f : Frame) (tile old new : Nat) : Frame :=
  { f with moves := (tile, new) :: f.moves.filter (fun m => m.1 != tile), handoff := some (tile, old, new) }

/-- OWNMOVE: ignored in hardware mode, and with GO = 1 while GO reads 1. -/
def execOwnmove (s : State) : Out :=
  let v : BitVec 32 := lo32 s.args.v &&& 0x871FF1FF
  let go := v.getLsbD 31
  let busy := s.hub.ownmove.getLsbD 31
  .next (
    if !s.hub.fnmode.getLsbD 4 || (go && busy) then s
    else if !go then s.modHub fun h => { h with ownmove := v ||| (h.ownmove &&& 0x80000000) }
    else
      let tx := bitsOf v.toNat 0 9
      let ty := bitsOf v.toNat 12 9
      let new := bitsOf v.toNat 24 3
      match s.hub.frame with
      | none => s.modHub fun h => { h with ownmove := v &&& 0x7FFFFFFF }
      | some f =>
        let old := f.ownerOf tx ty
        if f.tw ≤ tx ∨ f.th ≤ ty ∨ old = new then s.modHub fun h => { h with ownmove := v &&& 0x7FFFFFFF }
        else
          let tile := f.tw * ty + tx
          let s := s.modHub fun h => { h with ownmove := v, frame := some (f.move tile old new) }
          s.modDie new fun d => { d with blocked := tile :: d.blocked })

/-! ### The host -/

/-- `n` bytes that the host may access at one go: in device memory, or in its own, which stands above it in the map (R524). -/
def hostReach (pa n : Nat) : Bool :=
  decide (pa + n ≤ Config.gddrTop) || (decide (Config.gddrTop ≤ pa) && decide (pa + n ≤ Config.physTop))

/-- HOST_MEMORY_ACCESS (R277): a host write to device memory at system scope, or to its own memory (R523; log 86); a read
changes nothing but what the memory dies count (R532, R533). -/
def execHostMemoryAccess (s : State) : Out :=
  let b := ((s.args.data.flatMap fun d => leBytes 8 d.toNat).take s.args.b)
  .next (
    if s.args.flag then (if hostReach s.args.a b.length then s.agentWrite s.args.a b else s)
    else if hostReach s.args.a s.args.b then s.noteRead s.args.a s.args.b
    else s)

/-- HOST_BAR_ASSIGNMENT (R527): the block stays below 2^52. -/
def execHostBarAssignment (s : State) : Out :=
  .next (if Config.gddrTop + s.args.v.toNat + hubBlock < Config.physTop then s.modHub (fun h => { h with hbar := s.args.v }) else s)

end Sys2Proof.Machine
end

