-- ==== Sys2Proof/Machine/Int.lean ====
section
/-! DEFINITION. Sys2Proof/Machine/Int.lean: integer arithmetic (R118 to R120). -/

namespace Sys2Proof.Machine

/-- Delivery of an exact 32-bit result: modular, or saturated under .sat (R118). -/
def int32Res (sat : Bool) (x : Int) : Word := if sat then w32 (satS 32 x) else w32 x

/-- Delivery of an exact 64-bit result (R118). -/
def int64Res (sat : Bool) (x : Int) : DWord := if sat then w64 (satS 64 x) else w64 x

/-- floor(a · b / 2^32) under .uns or signed (R118). -/
def mulHigh (uns : Bool) (a b : Word) : Word := w32 (intOf uns a * intOf uns b / (2 ^ 32 : Nat))

/-- Quotient of R119. -/
def divQuot (uns : Bool) (a b : Word) : Word :=
  if b == 0 then 0xFFFFFFFF
  else if !uns && a == 0x80000000 && b == 0xFFFFFFFF then 0x80000000
  else w32 (Int.tdiv (intOf uns a) (intOf uns b))

/-- Remainder of R119. -/
def divRem (uns : Bool) (a b : Word) : Word :=
  if b == 0 then a
  else if !uns && a == 0x80000000 && b == 0xFFFFFFFF then 0
  else w32 (Int.tmod (intOf uns a) (intOf uns b))

/-- Lesser and greater under .uns or signed (R118). -/
def intMin (uns : Bool) (a b : Word) : Word := if intOf uns b < intOf uns a then b else a
def intMax (uns : Bool) (a b : Word) : Word := if intOf uns a < intOf uns b then b else a

/-- IADD (R118). -/
def execIadd (o : F3) (s : State) : Out :=
  alu2 s o .i32 .i32 fun a b => effReg o.rd (int32Res o.x (a.toInt + b.toInt))

/-- IADD_IMM (R118). -/
def execIaddImm (o : FI) (s : State) : Out :=
  aluI s o .i32 .i32 fun a b => effReg o.rd (int32Res o.x (a.toInt + b.toInt))

/-- ISUB (R118). -/
def execIsub (o : F3) (s : State) : Out :=
  alu2 s o .i32 .i32 fun a b => effReg o.rd (int32Res o.x (a.toInt - b.toInt))

/-- ISUB_IMM (R118). -/
def execIsubImm (o : FI) (s : State) : Out :=
  aluI s o .i32 .i32 fun a b => effReg o.rd (int32Res o.x (a.toInt - b.toInt))

/-- IMUL (R118). -/
def execImul (o : F3) (s : State) : Out :=
  alu2 s o .i32 .i32 fun a b => effReg o.rd (int32Res o.x (a.toInt * b.toInt))

/-- IMUL_IMM (R118). -/
def execImulImm (o : FI) (s : State) : Out :=
  aluI s o .i32 .i32 fun a b => effReg o.rd (int32Res o.x (a.toInt * b.toInt))

/-- IMULH (R118). -/
def execImulh (o : F3) (s : State) : Out :=
  alu2 s o .i32 .i32 fun a b => effReg o.rd (mulHigh o.x a b)

/-- IMULH_IMM (R118). -/
def execImulhImm (o : FI) (s : State) : Out :=
  aluI s o .i32 .i32 fun a b => effReg o.rd (mulHigh o.x a b)

/-- IMAD (R118). -/
def execImad (o : F3) (s : State) : Out :=
  alu3 s o .i32 .i32 .i32 fun a b c => effReg o.rd (int32Res o.x (a.toInt * b.toInt + c.toInt))

/-- IDIV (R119). -/
def execIdiv (o : F3) (s : State) : Out :=
  alu2 s o .i32 .i32 fun a b => effReg o.rd (divQuot o.x a b)

/-- IDIV_IMM (R119). -/
def execIdivImm (o : FI) (s : State) : Out :=
  aluI s o .i32 .i32 fun a b => effReg o.rd (divQuot o.x a b)

/-- IREM (R119). -/
def execIrem (o : F3) (s : State) : Out :=
  alu2 s o .i32 .i32 fun a b => effReg o.rd (divRem o.x a b)

/-- IREM_IMM (R119). -/
def execIremImm (o : FI) (s : State) : Out :=
  aluI s o .i32 .i32 fun a b => effReg o.rd (divRem o.x a b)

/-- IMIN (R118). -/
def execImin (o : F3) (s : State) : Out :=
  alu2 s o .i32 .i32 fun a b => effReg o.rd (intMin o.x a b)

/-- IMIN_IMM (R118). -/
def execIminImm (o : FI) (s : State) : Out :=
  aluI s o .i32 .i32 fun a b => effReg o.rd (intMin o.x a b)

/-- IMAX (R118). -/
def execImax (o : F3) (s : State) : Out :=
  alu2 s o .i32 .i32 fun a b => effReg o.rd (intMax o.x a b)

/-- IMAX_IMM (R118). -/
def execImaxImm (o : FI) (s : State) : Out :=
  aluI s o .i32 .i32 fun a b => effReg o.rd (intMax o.x a b)

/-- IABS (R118). -/
def execIabs (o : F3) (s : State) : Out :=
  alu1 s o .i32 fun a => effReg o.rd (int32Res o.x (a.toInt.natAbs : Int))

/-- INEG (R118). -/
def execIneg (o : F3) (s : State) : Out :=
  alu1 s o .i32 fun a => effReg o.rd (int32Res o.x (-a.toInt))

/-- AND (R118). -/
def execAnd (o : F3) (s : State) : Out :=
  alu2 s o .i32 .i32 fun a b => effReg o.rd (a &&& b)

/-- AND_IMM (R118). -/
def execAndImm (o : FI) (s : State) : Out :=
  aluI s o .i32 .i32 fun a b => effReg o.rd (a &&& b)

/-- OR (R118). -/
def execOr (o : F3) (s : State) : Out :=
  alu2 s o .i32 .i32 fun a b => effReg o.rd (a ||| b)

/-- OR_IMM (R118). -/
def execOrImm (o : FI) (s : State) : Out :=
  aluI s o .i32 .i32 fun a b => effReg o.rd (a ||| b)

/-- XOR (R118). -/
def execXor (o : F3) (s : State) : Out :=
  alu2 s o .i32 .i32 fun a b => effReg o.rd (a ^^^ b)

/-- XOR_IMM (R118). -/
def execXorImm (o : FI) (s : State) : Out :=
  aluI s o .i32 .i32 fun a b => effReg o.rd (a ^^^ b)

/-- NOT (R118). -/
def execNot (o : F3) (s : State) : Out :=
  alu1 s o .i32 fun a => effReg o.rd (~~~a)

/-- MOV (R118). -/
def execMov (o : F3) (s : State) : Out :=
  alu1 s o .i32 fun a => effReg o.rd a

/-- MOV_IMM (R92, R118). -/
def execMovImm (o : FI) (s : State) : Out :=
  aluWord s [] fun _ _ => effReg o.rd (immOf .i32 o.imm)

/-- IADD64 (R118). -/
def execIadd64 (o : F3) (s : State) : Out :=
  alu64 s o fun a b => effPair o.rd (int64Res o.x (a.toInt + b.toInt))

/-- IADD64_IMM (R118). -/
def execIadd64Imm (o : FI) (s : State) : Out :=
  alu64I s o fun a b => effPair o.rd (int64Res o.x (a.toInt + b.toInt))

/-- ISUB64 (R118). -/
def execIsub64 (o : F3) (s : State) : Out :=
  alu64 s o fun a b => effPair o.rd (int64Res o.x (a.toInt - b.toInt))

/-- ISUB64_IMM (R118). -/
def execIsub64Imm (o : FI) (s : State) : Out :=
  alu64I s o fun a b => effPair o.rd (int64Res o.x (a.toInt - b.toInt))

/-- IMUL64 (R118). -/
def execImul64 (o : F3) (s : State) : Out :=
  alu64 s o fun a b => effPair o.rd (a * b)

/-- IMUL64_IMM (R118). -/
def execImul64Imm (o : FI) (s : State) : Out :=
  alu64I s o fun a b => effPair o.rd (a * b)

/-- IMAD64 (R118). -/
def execImad64 (o : F3) (s : State) : Out :=
  alu64c s o fun a b c => effPair o.rd (a * b + c)

/-- MOVK (R120). -/
def execMovk (o : FK) (s : State) : Out :=
  aluWord s [] fun _ _ => effReg o.rd o.imm

/-- MOVK_64 (R120). -/
def execMovk64 (o : FK) (s : State) : Out :=
  aluWord s [] fun _ _ => effPair o.rd (o.imm.signExtend 64)


end Sys2Proof.Machine
end

