-- ==== Sys2Proof/Machine/Mangle.lean ====
section
/-! DEFINITION. Sys2Proof/Machine/Mangle.lean: the matrix engine (R326 to R358): the operands of an MX, the product and its
allowance, checked operations and their re-issue, paired operations, and the access to tiles and allowances. -/

namespace Sys2Proof.Machine

/-! ### Exact elements -/

/-- Type of A: its format; none for INT8 (R331). -/
def atyFmt (aty : Nat) : Option Fmt :=
  match aty with
  | 1 => some Fmt.e4m3
  | 2 => some Fmt.e5m2
  | 3 => some Fmt.b16
  | 4 => some Fmt.bf16
  | _ => none

/-- Elements of a type are whole multiples of 2^-sh. -/
def atyShift (aty : Nat) : Nat :=
  match aty with
  | 1 => 9
  | 2 => 16
  | 3 => 24
  | 4 => 133
  | _ => 0

/-- An element: a whole number of units, or an infinity or NaN. -/
inductive El where
  | num (v : Int)
  | inf (neg : Bool)
  | nan
  deriving DecidableEq, Repr

def elOf (aty c : Nat) : El :=
  match atyFmt aty with
  | none => .num (sextOf c 8)
  | some F =>
    match F.value c with
    | .nan _ => .nan
    | .inf n => .inf n
    | .fin n m e =>
      let v : Int := (m * 2 ^ (e + atyShift aty).toNat : Nat)
      .num (if n then -v else v)

/-- The elements of bytes: 64 of one byte, or 32 of two (R331, R334). -/
def elsOf (aty : Nat) (b : List Byte) : List El :=
  if aty < 3 then b.map fun x => elOf aty x.toNat else (List.range 32).map fun i => elOf aty (recU16 b (2 * i))

/-- A row or column with its scale code (none: unscaled), and the bound of a column. -/
structure Vec where
  els : List El
  /-- exponent of the scale; none marks an invalid block -/
  scale : Option Int
  bnd : Bound
  deriving DecidableEq, Repr

/-- The exponent of a scale code (R76). -/
def scaleExp (c : Option Nat) : Option Int :=
  match c with
  | none => some 0
  | some 255 => none
  | some e => some ((e : Int) - 127)

/-- A row of A (R331, R333). -/
def rowVec (aty : Nat) (ws : List Word) (sc : Option Nat) : Vec :=
  { els := elsOf aty (ws.flatMap fun w => leBytes 4 w.toNat), scale := scaleExp sc, bnd := .val 0 0 }

/-- Column record `c` of B as an attempt reads it at `k` planes (R334). -/
def colVec (x : Handle) (aty off k c : Nat) : Vec :=
  let o := off + 64 * c
  let b := cellsReadN x.data o 64
  let sb := cellsReadN x.data (x.scoff * 4096 + 2 * (o / 64)) 2
  let scale := if blockedFmt x.fmt then scaleExp (some (recU8 sb 0)) else some 0
  let bnd := if blockedFmt x.fmt then al8Val (recU8 sb 1) else .val 0 0
  let els := match x.fmt with
    | 3 => (List.range 64).map fun e => El.num (ni8Elem b k e)
    | 1 => elsOf aty b
    | _ => elsOf 0 b
  { els, scale, bnd }

/-- The sum of products of two vectors (R336): a number of units, or a special value. -/
def dotEl : List El → List El → El
  | a :: as, b :: bs =>
    let p : El := match a, b with
      | .num x, .num y => .num (x * y)
      | .nan, _ => .nan
      | _, .nan => .nan
      | .inf n, .num y => if y = 0 then .nan else .inf (n != decide (y < 0))
      | .num x, .inf n => if x = 0 then .nan else .inf (n != decide (x < 0))
      | .inf n, .inf n' => .inf (n != n')
    match p, dotEl as bs with
    | .num x, .num y => .num (x + y)
    | .nan, _ => .nan
    | _, .nan => .nan
    | .inf n, .inf n' => if n = n' then .inf n else .nan
    | .inf n, .num _ => .inf n
    | .num _, .inf n => .inf n
  | _, _ => .num 0

/-- Sum of magnitudes of a row; specials never reach a finite element. -/
def absSum (xs : List El) : Nat :=
  xs.foldl (fun n x => match x with
    | .num v => n + v.natAbs
    | _ => n) 0

/-- x · 2^e. -/
def dyad (x : Int) (e : Int) : FV := .fin (decide (x < 0)) x.natAbs e

/-- D(r, c) of R336: a binary32 code. DESIGN CHOICE (log 79): an exact sum of 0 is +0 also where C and every product are -0,
of which R68 says nothing. -/
def mxElem (base : Word) (row col : Vec) (sh : Int) : Word :=
  let c := Fmt.b32.value base.toNat
  match row.scale, col.scale with
  | some sa, some sb =>
    match dotEl row.els col.els with
    | .nan => BitVec.ofNat 32 Fmt.b32.nan
    | .inf n => BitVec.ofNat 32 (deliver Fmt.b32 0 false 0 (addE 0 c (.inf n))).1
    | .num v =>
      match c with
      | .fin n m e =>
        let s := finSum n m e (decide (v < 0)) v.natAbs (sa + sb - sh)
        BitVec.ofNat 32 (deliver Fmt.b32 0 false 0 (sumExact 0 none s)).1
      | _ => BitVec.ofNat 32 (deliver Fmt.b32 0 false 0 (addE 0 c (.fin false 0 0))).1
  | _, _ => BitVec.ofNat 32 Fmt.b32.nan

/-- max of two bounds. -/
def Bound.max (p q : Bound) : Bound :=
  match p, q with
  | .val m1 e1, .val m2 e2 => if dyLe m1 e1 m2 e2 then .val m2 e2 else .val m1 e1
  | _, _ => .unb

/-- The part of E(r, c) that the column decides, times sb(c) (R337). -/
def colFactor (col : Vec) (k : Nat) : Bound :=
  match col.scale with
  | none => .unb
  | some sb => (Bound.add (if k < 8 then .val (2 ^ (7 - k)) 0 else .val 0 0) col.bnd).mul (.val 1 sb)

/-- E(r, c) of R337. -/
def mxBound (d : Word) (s : Nat) (row : Vec) (shA : Int) (cf : Bound) : Bound :=
  match row.scale, Fmt.b32.value d.toNat with
  | some sa, .fin _ m e =>
    let r : Bound := .val m (e - 24)
    (cf.mul (.val s (sa - shA))).add (r.max (.val 1 (-150)))
  | _, _ => .unb

/-- Element of a tile. -/
def Tile.el (t : Tile) (r c : Nat) : Word := t.elems.getD (64 * r + c) 0

/-- A tile with a new top-left region, given by rows. -/
def Tile.region (t : Tile) (new : List (List Word)) : Tile :=
  { t with elems := (List.range 64).flatMap fun r =>
      let old := if t.elems.isEmpty then List.replicate 64 0 else (t.elems.drop (64 * r)).take 64
      let row := new.getD r []
      row ++ old.drop row.length }

/-- One attempt on one tile (R336 to R338): the tile with its new VALUE. -/
def mxAttempt (t : Tile) (aty am : Nat) (int : Bool) (rows cols : List Vec) (shB : Int) (k : Nat) : Tile :=
  let shA : Int := atyShift aty
  let new := rows.zipIdx.map fun r => cols.zipIdx.map fun c =>
    let base := if am = 1 then 0 else t.el r.2 c.2
    if int then
      match dotEl r.1.els c.1.els with
      | .num v => w32 (base.toInt + v)
      | _ => base
    else mxElem base r.1 c.1 (shA + shB)
  let t' := t.region new
  if int then t'
  else
    let cfs := cols.map fun c => colFactor c k
    let emax := (rows.zip new).foldl (fun (m : Bound) p =>
      let s := absSum p.1.els
      (p.2.zip cfs).foldl (fun m q => m.max (mxBound q.1 s p.1 shA q.2)) m) (.val 0 0)
    let code := emax.al16
    let v :=
      if am = 1 then (if rows.length = 64 ∧ cols.length = 64 then code else max t.value.toNat code)
      else ((al16Val t.value.toNat).add emax).al16
    { t' with value := BitVec.ofNat 16 v }

/-! ### MX at its word -/

/-- M per tile and N of a shape (R98). -/
def shapeMN (shape : Nat) : Nat × Nat :=
  match shape with
  | 1 => (64, 32)
  | 2 => (32, 32)
  | 4 => (32, 32)
  | _ => (64, 64)

/-- A paired shape (R344). -/
def pairedShape (shape : Nat) : Bool := shape == 5 || shape == 6

/-- Rows of A from the registers of a wave (R331). -/
def State.aRows (s : State) (t w m abase : Nat) : List (List Word) :=
  (List.range m).map fun r =>
    let l := s.lane ⟨t, w, r / 2⟩
    (List.range 16).map fun k => if l.absent then 0 else l.gr (abase + 16 * (r % 2) + k)

/-- Row scale codes (R333). -/
def State.aScales (s : State) (t w m : Nat) (o : FX) : List (Option Nat) :=
  (List.range m).map fun r =>
    if o.ssel = 2 then none
    else
      let l := s.lane ⟨t, w, r / 2⟩
      some (if l.absent then 0 else bitsOf (l.gr o.sreg.toNat).toNat (8 * (2 * o.ssel.toNat + r % 2)) 8)

def State.tile (s : State) (t n : Nat) : Tile := (s.team t).tiles.getD n Tile.blank

def State.modTile (s : State) (t n : Nat) (f : Tile → Tile) : State :=
  s.modTeam t fun x => { x with tiles := x.tiles.modify n f }

/-- The partner of a paired operation, when R345 admits the operation. -/
def State.mxMate (s : State) (t w tile : Nat) : Option Nat :=
  let g := s.gridOf t
  if !g.cl2 || s.clRank t != 0 then none
  else
    match s.partner t with
    | some p => if (s.team p).fatal.isNone && decide (w < (s.team p).waves.length) && decide (tile < g.acct) then some p else none
    | none => none

/-- R347: the handle and the operation fit. -/
def mxFits (x : Handle) (aty : Nat) (o : FX) : Bool :=
  let n := (shapeMN o.shape.toNat).2
  x.state != 0 && (if aty < 3 then x.fmt == 0 || x.fmt == 3 || x.fmt == 4 else x.fmt == 1) && !(x.fmt == 3 && !x.baxis) &&
    !(decide (o.pl.toNat < 8) && x.fmt != 3) && decide (o.pl.toNat ≤ x.plf) &&
    decide (o.boff.toNat * 4096 + 64 * n ≤ x.area)

/-- The MX of one performing lane: LAYOUT, or the captured job with the latch as it is left (R332, R347). DESIGN CHOICE (log 24): an MX
that uses a latch is in integer form by its own SSEL (R338), and then leaves the latched row scales unused. -/
def State.mxJob (s : State) (aty : Nat) (o : FX) (r : Ref) : Option (MxJob × Option Latch) :=
  let x := s.handle r.team o.bh.toNat
  let (m, n) := shapeMN o.shape.toNat
  let pair := pairedShape o.shape.toNat
  let need := if pair then 128 else m
  let int := aty == 0 && o.ssel == 2 && x.fmt == 0
  let tile := o.tile.toNat
  let am := o.am.toNat
  let mate := s.mxMate r.team r.wave tile
  let typed := fun (t : Nat) => am == 1 || (s.tile t tile).int == int
  let latch := (s.team r.team).latch
  let latchOk := match latch with
    | some l => l.aty == aty && decide (need ≤ l.rows)
    | none => true
  let mateOk := match mate with
    | some p => !pair || typed p
    | none => !pair
  if !(mxFits x aty o && typed r.team && latchOk && mateOk) then none
  else
    let mate := if pair then mate else none
    let (rows, scales) := match latch with
      | some l => (l.data.take need, l.scales.take need)
      | none =>
        let more := fun (f : Nat → List (List Word)) => match mate with
          | some p => f p
          | none => []
        let moreS := match mate with
          | some p => s.aScales p r.wave 64 o
          | none => []
        (s.aRows r.team r.wave m o.abase.toNat ++ more (fun p => s.aRows p r.wave 64 o.abase.toNat),
         s.aScales r.team r.wave m o ++ moreS)
    let left : Option Latch := if !o.ru then none
      else match latch with
        | some l => some l
        | none => some { aty, rows := need, data := rows, scales }
    some ({ lane := r.lane, aty, m, n, handle := o.bh.toNat, off := o.boff.toNat * 4096, tile, am, rows, scales, mate, int,
            planes := o.pl.toNat, started := false, shadows := [], alw := false }, left)

/-- A word of class MX that must wait for its counter. -/
def State.mxWaits (s : State) : Bool := s.counterFull .mx

/-- MX (R330 to R347): once per entry; the handle's state parks an entry first (R321). -/
def mxWord (s : State) (aty : Nat) (o : FX) : Out :=
  whenIssued s fun s =>
    if s.mxWaits then s.hold
    else
      let act := s.active
      let h := o.bh.toNat
      let (s, parks, bad, jobs) := s.performers.foldl
        (fun (q : State × List Ref × List LaneFault × List (Ref × List RegRes × OpBody)) r =>
          let (s, parks, bad, jobs) := q
          let st := (s.handle r.team h).state
          if st = 1 ∨ st = 3 then (s, parks ++ s.entryMates r, bad, jobs)
          else
            match s.mxJob aty o r with
            | none => (s, parks, bad ++ [{ r, cause := .layout }], jobs)
            | some (j, latch) =>
              let s := s.modTeam r.team fun t => { t with latch }
              let own := r.team :: (match j.mate with
                | some p => [p]
                | none => [])
              let s := if j.am = 1 then own.foldl (fun s t => s.modTile t j.tile fun x => { x with int := j.int }) s else s
              (s, parks, bad, jobs ++ [(r, [], .mx j)])) (s, [], [], [])
      let s := s.parkLanes parks 4 (.handle h [1, 3]) false
      let s := s.faultLanes bad
      let s := s.postEach (wavesOf (act.filter fun r => !parks.contains r)) .mx false jobs
      s.finish act []

/-- MX.i8 (R346). -/
def execMxI8 (o : FX) (s : State) : Out := mxWord s 0 o

/-- MX.e4 (R346). -/
def execMxE4 (o : FX) (s : State) : Out := mxWord s 1 o

/-- MX.e5 (R346). -/
def execMxE5 (o : FX) (s : State) : Out := mxWord s 2 o

/-- MX.h (R346). -/
def execMxH (o : FX) (s : State) : Out := mxWord s 3 o

/-- MX.bf (R346). -/
def execMxBf (o : FX) (s : State) : Out := mxWord s 4 o

/-! ### Order within the engine (R342 to R345) -/

/-- Tiles of an operation: team and tile. -/
def Op.tiles (o : Op) : List (Nat × Nat) :=
  match o.body with
  | .mx j => (o.team, j.tile) :: (match j.mate with
    | some p => [(p, j.tile)]
    | none => [])
  | .mangle j => [(o.team, j.tile)]
  | _ => []

/-- The core of a team, as one number. -/
def State.coreKey (s : State) (t : Nat) : Nat := (s.team t).die * 64 + (s.team t).core

/-- The partner's core of a paired operation. -/
def State.mateCore (s : State) (o : Op) : Option Nat :=
  match o.body with
  | .mx j => j.mate.map s.coreKey
  | _ => none

def Op.started (o : Op) : Bool :=
  match o.body with
  | .mx j => j.started
  | _ => false

def Op.shadowCount (o : Op) : Nat :=
  match o.body with
  | .mx j => j.shadows.length
  | _ => 0

/-- Shadow tiles in use on a core (R340). -/
def State.shadowsOn (s : State) (core : Nat) : Nat :=
  (s.ops.map fun o => if o.done || o.shadowCount == 0 then 0
    else (if s.coreKey o.team == core then 1 else 0) + (if s.mateCore o == some core then 1 else 0)).sum

/-- An operation of the Mangle may start (R340, R342, R345): none before it must come first, for its tiles or for its bytes. -/
def State.mangleReady (s : State) (o : Op) : Bool :=
  let before := (s.ops.takeWhile fun x => x.id != o.id).filter fun x => !x.done
  let own := s.coreKey o.team
  let running := s.ops.filter fun x => x.id != o.id && !x.done && x.started
  let free := !(before.any fun x => x.tileBefore o || x.tiles.any fun t => o.tiles.contains t) &&
    !(running.any fun x => s.mateCore x == some own)
  match s.mateCore o with
  | none => free
  | some mc => free &&
      !(running.any fun x => s.coreKey x.team == mc || s.mateCore x == some mc) &&
      !(before.any fun x => match s.mateCore x with
        | some c => (s.coreKey x.team == own && c == mc) || (s.coreKey x.team == mc && c == own)
        | none => false)

/-- A checked operation (R338, R339). -/
def MxJob.checked (j : MxJob) : Bool := j.am == 2 && !j.int

def State.modMx (s : State) (id : Nat) (f : MxJob → MxJob) : State :=
  s.modOp id fun o => match o.body with
    | .mx j => { o with body := .mx (f j) }
    | _ => o

/-- Teams whose tile an MX changes. -/
def MxJob.teams (j : MxJob) (t : Nat) : List Nat :=
  t :: (match j.mate with
    | some p => [p]
    | none => [])

/-- The shadows of a checked operation, in the mode in which they arise (R340, R457). -/
def State.takeShadows (s : State) (op : Op) (j : MxJob) : MxJob :=
  if j.checked then
    { j with shadows := (j.teams op.team).map (fun t => s.tile t j.tile), alw := s.hub.fnmode.getLsbD 1 }
  else j

/-- MX_START (R340, R342, R343, R345): MXOUT of the handle rises; a checked operation takes its shadows. -/
def execMxStart (s : State) : Out :=
  .next (match s.liveOp s.args.a with
    | none => s
    | some op =>
      match op.body with
      | .mx j =>
        if j.started || !s.mangleReady op then s
        else if j.checked && (j.teams op.team).any fun t => decide (2 ≤ s.shadowsOn (s.coreKey t)) then s
        else
          (s.modHandle op.team j.handle fun x => { x with mxout := x.mxout + 1 }).modMx op.id fun j =>
            { s.takeShadows op j with started := true }
      | _ => s)

/-- One attempt of an MX on its tiles. -/
def State.mxRun (s : State) (op : Op) (j : MxJob) : State :=
  let x := s.handle op.team j.handle
  let cols := (List.range j.n).map fun c => colVec x j.aty j.off j.planes c
  let shB : Int := if x.fmt = 1 then atyShift j.aty else 0
  let rows := (j.rows.zip j.scales).map fun p => rowVec j.aty p.1 p.2
  let s := s.modTile op.team j.tile fun t => mxAttempt t j.aty j.am j.int (rows.take j.m) cols shB j.planes
  match j.mate with
  | some p => s.modTile p j.tile fun t => mxAttempt t j.aty j.am j.int (rows.drop 64) cols shB j.planes
  | none => s

/-- An MX no longer needs B, and retires (R343). -/
def State.mxRetire (s : State) (op : Op) (j : MxJob) : State :=
  let s := (s.modHandle op.team j.handle fun x => { x with mxout := x.mxout - 1 }).drainHandle op.team j.handle
  (s.modMx op.id fun j => { j with shadows := [] }).opDone op.id

/-- ALLOWANCE is recorded against the issuing wave (R341). -/
def State.recordAllowance (s : State) (op : Op) (lane : Nat) : State :=
  s.modWave op.team op.wave fun w =>
    if w.allow.isNone then { w with allow := some { clause := op.clause, idx := op.idx, lane } } else w

/-- The tiles and their VALUE as the shadows hold them; the type is no part of a shadow (R329, R339). -/
def State.restoreTiles (s : State) (op : Op) (j : MxJob) : State :=
  ((j.teams op.team).zip j.shadows).foldl (fun s p =>
    s.modTile p.1 j.tile fun t => { t with elems := p.2.elems, value := p.2.value }) s

/-- MX_FINISH (R336 to R344): the attempt, its check, the re-issue at 8 planes or the record. -/
def execMxFinish (s : State) : Out :=
  .next (match s.liveOp s.args.a with
    | none => s
    | some op =>
      match op.body with
      | .mx j =>
        if !j.started then s
        else
          let s := s.mxRun op j
          let past := j.checked && (j.teams op.team).any fun t => (s.tile t j.tile).limit < (s.tile t j.tile).value
          if !past then s.mxRetire op j
          else if !j.alw && decide (j.planes < 8) && (s.handle op.team j.handle).plf == 8 then
            (s.restoreTiles op j).modMx op.id fun j => { j with planes := 8 }
          else (s.recordAllowance op j.lane).mxRetire op j
      | _ => s)

/-! ### Tile and allowance access (R349 to R356) -/

/-- Tile that sub names. -/
def subTile (o : FA) : Nat := o.sub.toNat % 16

/-- A word on one tile that touches no memory (R350 to R352). -/
def tileWord (s : State) (o : FA) (reads writes : Bool) (now : State → Ref → State) (act' : State → Ref → TileAct) : Out :=
  whenIssued s fun s =>
    if s.mxWaits then s.hold
    else
      let act := s.active
      let ps := s.performers
      let jobs := ps.map fun r => (r, ([] : List RegRes), OpBody.mangle
        { lane := r.lane, tile := subTile o, act := act' s r, places := [] })
      let s := if reads then ps.foldl (fun s r => s.latchRead r o.rb.toNat) s else s
      let s := ps.foldl now s
      let s := s.postEach (wavesOf act) .mx writes jobs
      s.finish act []

/-- ACCZ (R350). -/
def execAccz (s : State) : Out :=
  let o := faOfWord s.word
  let int := o.sub.getLsbD 4
  tileWord s o false false (fun s r => s.modTile r.team (subTile o) fun t => { t with int }) fun _ _ => .zero int

/-- ALSET (R351). -/
def execAlset (o : FA) (s : State) : Out :=
  tileWord s o true false (fun s _ => s) fun s r => .setAll (s.src r .i32 o.rb 0)

/-- ALSET.lim (R351). -/
def execAlsetLim (o : FA) (s : State) : Out :=
  tileWord s o true false (fun s _ => s) fun s r => .setLim (s.src r .i32 o.rb 0)

/-- ALGET (R352): every active lane of the entry takes the value. -/
def execAlget (o : FA) (s : State) : Out :=
  tileWord s o false true (fun s _ => s) fun s r =>
    .get o.rd.toNat ((s.active.filter fun q => (s.entryMates r).contains q).map (·.lane))

/-- The pieces of runs of bytes: each in one page and one line. -/
def State.placesOf (s : State) (tid : Nat) (runs : List (DWord × Nat)) (need : Nat) : List (DWord × Target × Nat) :=
  runs.flatMap fun r => (lineCuts r.1.toNat r.2).map fun p =>
    (BitVec.ofNat 64 p.1, s.placeOf tid (BitVec.ofNat 64 p.1) p.2 need, p.2)

/-- Causes of the bytes of an ACCLD or ACCST (R356): part `part`. -/
def State.probeRuns (s : State) (tid part : Nat) (runs : List (DWord × Nat)) (need : Nat) : List ProbeBad :=
  runs.flatMap fun r => s.probeRange tid part r.1 r.2 need true

/-- Uncorrectable bytes found while probing reads (R356). -/
def State.probeEcc (s : State) (tid : Nat) (runs : List (DWord × Nat)) : List ProbeBad :=
  (s.placesOf tid runs needR).filterMap fun p =>
    if (s.nowTarget p.2.1 p.2.2).isNone then some { cause := .ecc, part := 0, addr := p.1 } else none

/-- An ACCLD or ACCST of one lane (R353 to R356): its runs of bytes and its causes. -/
def State.accProbe (s : State) (o : FA) (r : Ref) (load : Bool) : List (DWord × Nat) × List ProbeBad :=
  let a := s.src64 r o.ra
  let fmt := bitsOf o.sub.toNat 4 3
  let int := (s.tile r.team (subTile o)).int
  let rs := s.src r .i32 o.rb 0
  let width := if fmt < 2 then 4 else 2
  let runs := (List.range 64).map fun k => (a + BitVec.ofNat 64 (k * rs.toNat), 64 * width)
  let mis : List ProbeBad := if a.toNat % 16 ≠ 0 ∨ rs.toNat % 16 ≠ 0 then
    [{ cause := .misalign, part := 0, addr := a, write := !load }] else []
  let lay : List ProbeBad := if rs.toNat < 64 * width ∨ (!load && (fmt == 1) != int) then [{ cause := .layout, part := 0 }] else []
  let need := if load then needR else needW
  (runs, mis ++ lay ++ s.probeRuns r.team 0 runs need ++ (if load then s.probeEcc r.team runs else []))

/-- The ACCST.ni8 of one lane (R355, R356). -/
def State.ni8Probe (s : State) (o : FA) (r : Ref) : List (DWord × Nat) × List ProbeBad :=
  let a := s.src64 r o.ra
  let sa := s.rawPair r o.rb.toNat
  let ba := s.rawPair r (o.rb.toNat + 2)
  let mis : List ProbeBad := if a.toNat % 64 ≠ 0 then [{ cause := .misalign, part := 0, addr := a, write := true }] else []
  let lay : List ProbeBad := if (s.tile r.team (subTile o)).int then [{ cause := .layout, part := 0 }] else []
  ([(a, 4096), (sa, 64), (ba, 64)],
   mis ++ lay ++ s.probeRuns r.team 0 [(a, 4096)] needW ++ s.probeRuns r.team 1 [(sa, 64)] needW ++
     s.probeRuns r.team 2 [(ba, 64)] needW)

/-- ACCLD and ACCST (R273, R353 to R356, R460). -/
def accWord (s : State) (o : FA) (act' : TileAct) (need : Nat) (rb : Bool)
    (probe : State → Ref → List (DWord × Nat) × List ProbeBad) : Out :=
  whenIssued s fun s =>
    if s.mxWaits then s.hold
    else
      let s := s.tokenRanges true s.performers fun s r => (probe s r).1
      let s := s.releaseWord 2
      let act := s.active
      let ps := s.performers
      let s := if rb then ps.foldl (fun s r => s.latchRead r o.rb.toNat) s else s
      let (s, bad, jobs) := ps.foldl
        (fun (q : State × List LaneFault × List (Ref × List RegRes × OpBody)) r =>
          let (s, bad, jobs) := q
          let (runs, bads) := probe s r
          let s := runs.foldl (fun s x => s.noteRange r.team x.1 x.2 need) s
          match probeWorst bads with
          | some b => (s, bad ++ [{ r, cause := b.cause, addr := b.addr, write := b.write, walk := b.walk }], jobs)
          | none =>
            let s := if s.rangesGoverned r runs then s.spendToken r else s
            let places := s.placesOf r.team runs need
            let s := match act' with
              | .load int => s.modTile r.team (subTile o) fun t => { t with int }
              | _ => s
            (s, bad, jobs ++ [(r, [], .mangle { lane := r.lane, tile := subTile o, act := act', places })]))
        (s, [], [])
      let s := s.faultLanes bad
      let s := s.postEach (wavesOf act) .mx false jobs
      s.finish act []

/-- ACCLD (R353). -/
def execAccld (o : FA) (s : State) : Out :=
  accWord s o (.load (o.sub.getLsbD 4)) needR true fun s r => s.accProbe o r true

/-- ACCST (R354). -/
def execAccst (o : FA) (s : State) : Out :=
  accWord s o (.store (bitsOf o.sub.toNat 4 3) false) needW true fun s r => s.accProbe o r false

/-- ACCST.ni8 (R355). -/
def execAccstNi8 (o : FA) (s : State) : Out :=
  accWord s o (.store 4 (o.sub.getLsbD 7)) needW false fun s r => s.ni8Probe o r

/-! ### MANGLE_OP_PERFORM -/

/-- LIMIT or VALUE as ALSET stores it (R328). -/
def normAL16 (c : BitVec 16) : BitVec 16 :=
  if c.extractLsb' 8 8 = 0 then 0 else if c.extractLsb' 8 8 = 0xFF then 0xFFFF else c

/-- One NI8 block of values (R355): data, scale code, bound code. -/
def ni8Block (xs : List FV) (value : Nat) : List Byte × Nat × Nat :=
  let es := blockScale xs
  if es = 255 then (List.replicate 64 0, 255, 255)
  else
    let e : Int := 127 - (es : Int)
    let q := xs.map fun x => match x with
      | .fin n m e' =>
        if m = 0 then (0 : Int)
        else
          let k : Int := (XR.roundTo ⟨n, m, e' + e, false⟩ 0 0 0 : Nat)
          satS 8 (if n then -k else k)
      | _ => 0
    let err := (xs.zip q).foldl (fun (b : Bound) p => match p.1 with
      | .fin n m e' =>
        let d := finSum n m (e' + e) (decide (0 < p.2)) p.2.natAbs 0
        b.max (.val d.1.natAbs d.2)
      | _ => b) (.val 0 0)
    let bound := (((al16Val value).mul (.val 1 e)).add err).al8
    (ni8Bytes q, es, bound)

/-- The bytes that an ACCST writes, in the order of its places (R354, R355). -/
def Tile.stored (t : Tile) (fmt : Nat) (cols : Bool) : List Byte :=
  let at' := fun r c => t.el r c
  if fmt < 2 then (List.range 4096).flatMap fun k => leBytes 4 (t.elems.getD k 0).toNat
  else if fmt < 4 then
    let F := if fmt = 2 then Fmt.b16 else Fmt.bf16
    (List.range 4096).flatMap fun k => leBytes 2 (deliver F 0 false 0 (Fmt.b32.value (t.elems.getD k 0).toNat).exact).1
  else
    let bs := (List.range 64).map fun b =>
      ni8Block ((List.range 64).map fun e => Fmt.b32.value (if cols then at' e b else at' b e).toNat) t.value.toNat
    (bs.flatMap (·.1)) ++ (bs.map fun b => BitVec.ofNat 8 b.2.1) ++ (bs.map fun b => BitVec.ofNat 8 b.2.2)

/-- The tile's bytes are written where the word probed them (R354, R433). -/
def State.tileWrite (s : State) (op : Op) (lane : Nat) : List (DWord × Target × Nat) → List Byte → State
  | [], _ => s
  | p :: ps, b =>
    let (s, refused) := s.writeTarget (s.writer op.team) p.2.1 (b.take p.2.2) false
    let s := if refused then s.recordRperm op.team op.wave { clause := op.clause, idx := op.idx, addr := p.1, lane } else s
    s.tileWrite op lane ps (b.drop p.2.2)

/-- The tile's bytes are read where the word probed them: the bytes, or an uncorrectable place. -/
def State.tileRead (s : State) (op : Op) : List (DWord × Target × Nat) → State × Except (Target × Nat) (List Byte)
  | [] => (s, .ok [])
  | p :: ps =>
    match s.readTarget (s.team op.team).die (s.team op.team).core p.2.1 p.2.2 .l1 with
    | (s, none) => (s, .error p.2)
    | (s, some b) =>
      match s.tileRead op ps with
      | (s, .ok bs) => (s, .ok (b ++ bs))
      | (s, .error e) => (s, .error e)

/-- Elements of a tile from its bytes. -/
def tileElems (b : List Byte) : Nat → List Word
  | 0 => []
  | n + 1 => BitVec.ofNat 32 (leNat (b.take 4)) :: tileElems (b.drop 4) n

/-- MANGLE_OP_PERFORM (R342, R350 to R356): an operation on a tile is performed once those before it have finished and its
scratchpad lines are present. -/
def execMangleOpPerform (s : State) : Out :=
  .next (match s.liveOp s.args.a with
    | none => s
    | some op =>
      match op.body with
      | .mangle j =>
        if !s.mangleReady op || (j.places.any fun p => (s.absentAt p.2.1 p.2.2).isSome) then s
        else
          match j.act with
          | .load _ =>
            match s.tileRead op j.places with
            | (s, .ok b) => (s.modTile op.team j.tile fun t => { t with elems := tileElems b 4096 }).opDone op.id
            | (s, .error e) => (s.engineEcc op j.lane (s.badSector e.1 e.2)).opDone op.id
          | .store fmt cols => (s.tileWrite op j.lane j.places ((s.tile op.team j.tile).stored fmt cols)).opDone op.id
          | .zero _ => (s.modTile op.team j.tile fun t => { t with elems := [], value := 0 }).opDone op.id
          | .setAll v =>
            (s.modTile op.team j.tile fun t =>
              { t with limit := normAL16 (v.extractLsb' 16 16), value := normAL16 (v.extractLsb' 0 16) }).opDone op.id
          | .setLim v => (s.modTile op.team j.tile fun t => { t with limit := normAL16 (v.extractLsb' 16 16) }).opDone op.id
          | .get rd lanes =>
            if s.resultWaits op then s
            else
            let t := s.tile op.team j.tile
            let v : Word := t.limit ++ t.value
            (s.writeResults { op with regs := lanes.map fun k => { lane := k, sel := rd, val := v } }).opDone op.id
      | _ => s)

end Sys2Proof.Machine
end

