-- ==== Sys2Proof/Machine/Xch.lean ====
section
/-! DEFINITION. Sys2Proof/Machine/Xch.lean: quad exchanges, derivatives, shuffles, votes, reductions and scans (R201 to
R210). -/

namespace Sys2Proof.Machine

/-- A word that acts separately for each entry of its bundle (R201): `f` gives the effects of one entry from its active
lanes. -/
def entryWord (s : State) (srcs : List (BitVec 8)) (f : State → List Ref → List (Ref × Eff)) : Out :=
  whenIssued s fun s =>
    let act := s.active
    let effs := s.bundle.members.flatMap fun m => f s (s.activeOf m)
    let s := act.foldl (fun s r => srcs.foldl (fun s x => s.latchRead r x.toNat) s) s
    (s.applyAll effs).finish act []

/-- A value of lane `k` of the entry, when it is active; else the reader's own (R202). -/
def fromLane {α : Type} (act : List Ref) (v : Ref → α) (me : Ref) (k : Nat) : α :=
  match act.find? fun r => r.lane == k with
  | some r => v r
  | none => v me

/-- Contributing lanes of an entry's active lanes (R203). -/
def State.contribs (s : State) (act : List Ref) : List Ref := act.filter fun r => !(s.lane r).isHelper

/-- Quad lane `k` of a lane's quad. -/
def quadLane (r : Ref) (k : Nat) : Nat := r.lane / 4 * 4 + k % 4

/-- QSWAP (R205). -/
def execQswap (o : F3) (s : State) : Out :=
  entryWord s [o.ra] fun s act => act.map fun r =>
    (r, effReg o.rd (fromLane act (fun q => s.src q .i32 o.ra o.ea) r (quadLane r (r.lane % 4 ^^^ (o.rc.toNat % 4 + 1)))))

/-- x − y in binary32, or of each binary16 element (R205). -/
def quadDiff (half : Bool) (rd : BitVec 8) (x y : Word) : Eff :=
  if half then
    effHalf (fun k => deliver Fmt.b16 0 false 0 (addE 0 (Fmt.b16.value (elem 16 x k)) (Fmt.b16.value (elem 16 y k)).negate))
  else effFlag rd (f32Sub x.toNat y.toNat)
where
  effHalf (f : Nat → Nat × Flags) : Eff :=
    { regs := [(rd.toNat, BitVec.ofNat 32 (packElems 16 [(f 0).1, (f 1).1]))], flags := (f 0).2 ||| (f 1).2 }

/-- QDDX and QDDY: the two quad lanes subtracted (R205). -/
def quadDeriv (s : State) (o : F3) (hi lo : Nat → Nat) : Out :=
  entryWord s [o.ra] fun s act => act.map fun r =>
    let a := fun k => fromLane act (fun q => s.src q (f32h16 o.x) o.ra o.ea) r (quadLane r k)
    (r, quadDiff o.x o.rd (a (hi (r.lane % 4))) (a (lo (r.lane % 4))))

/-- QDDX (R205). -/
def execQddx (o : F3) (s : State) : Out :=
  if o.rc.getLsbD 0 then quadDeriv s o (fun _ => 1) (fun _ => 0)
  else quadDeriv s o (fun q => q ||| 1) (fun q => q &&& 2)

/-- QDDY (R205). -/
def execQddy (o : F3) (s : State) : Out :=
  if o.rc.getLsbD 0 then quadDeriv s o (fun _ => 2) (fun _ => 0)
  else quadDeriv s o (fun q => q ||| 2) (fun q => q &&& 1)

/-- QBCAST (R205). -/
def execQbcast (o : F3) (s : State) : Out :=
  entryWord s [o.ra] fun s act => act.map fun r =>
    (r, effReg o.rd (fromLane act (fun q => s.src q .i32 o.ra o.ea) r (quadLane r (o.rc.toNat % 4))))

/-- The lane that WSHFL reads (R206): `c` is MOD[4:2], `mode` MOD[1:0]. -/
def shflLane (mode c lane b : Nat) : Option Nat :=
  let seg := 32 / 2 ^ c
  let base := lane - lane % seg
  match mode with
  | 0 => some (base + b % seg)
  | 1 => if b ≤ lane - base then some (lane - b) else none
  | 2 => if b < base + seg - lane then some (lane + b) else none
  | _ => some (base + (lane % seg ^^^ b % seg))

/-- WSHFL (R206). -/
def execWshfl (o : F3) (s : State) : Out :=
  entryWord s [o.ra, o.rb] fun s act => act.map fun r =>
    let v := fun q => s.src q .i32 o.ra o.ea
    (r, effReg o.rd (match shflLane (o.rc.toNat % 4) (o.rc.toNat / 4) r.lane (s.src r .i32 o.rb o.eb).toNat with
      | some k => fromLane act v r k
      | none => v r))

/-- The result of a vote over the contributing values (R207). -/
def voteRes (mode : Nat) (vs : List Bool) : Bool :=
  match mode with
  | 0 => vs.any id
  | 1 => vs.all id
  | _ => vs.all id || vs.all not

/-- WVOTE (R207). -/
def execWvote (o : F3) (s : State) : Out :=
  entryWord s [] fun s act =>
    let v := voteRes (o.rc.toNat % 4) ((s.contribs act).map fun q => s.psrc q o.ra)
    act.map fun r => (r, { preds := [(o.rd.toNat, v)] })

/-- WBALLOT (R207). -/
def execWballot (o : F3) (s : State) : Out :=
  entryWord s [] fun s act =>
    let m := maskOf (((s.contribs act).filter fun q => s.psrc q o.ra).map (·.lane))
    act.map fun r => (r, effReg o.rd m)

/-- ELECT (R207): pd is read from the issuing word. -/
def execElect (s : State) : Out :=
  entryWord s [] fun s act =>
    act.map fun r => (r, { preds := [((s.word.extractLsb' 37 8).toNat, (s.contribs act).head? == some r)] })

/-- WMATCH (R207). -/
def execWmatch (o : F3) (s : State) : Out :=
  entryWord s [o.ra] fun s act =>
    let v := fun q => if o.x then s.src64 q o.ra else (s.src q .i32 o.ra o.ea).setWidth 64
    act.map fun r => (r, effReg o.rd (maskOf (((s.contribs act).filter fun q => v q == v r).map (·.lane))))

/-- WFIRST (R207). -/
def execWfirst (o : F3) (s : State) : Out :=
  entryWord s [o.ra] fun s act =>
    act.map fun r =>
      let q := (s.contribs act).head?.getD r
      (r, if o.x then effPair o.rd (s.src64 q o.ra) else effReg o.rd (s.src q .i32 o.ra o.ea))

/-- An integer combination of width `w` (R208): 0 add, 1 min, 2 max, 3 and, 4 or, 5 xor. -/
def redComb {w : Nat} (op : Nat) (uns : Bool) (a b : BitVec w) : BitVec w :=
  match op with
  | 0 => a + b
  | 1 => if (if uns then (b.toNat : Int) else b.toInt) < (if uns then (a.toNat : Int) else a.toInt) then b else a
  | 2 => if (if uns then (a.toNat : Int) else a.toInt) < (if uns then (b.toNat : Int) else b.toInt) then b else a
  | 3 => a &&& b
  | 4 => a ||| b
  | _ => a ^^^ b

/-- The empty combination (R208). -/
def redEmpty {w : Nat} (op : Nat) (uns : Bool) : BitVec w :=
  match op with
  | 1 => if uns then BitVec.allOnes w else BitVec.intMax w
  | 2 => if uns then 0 else BitVec.intMin w
  | 3 => BitVec.allOnes w
  | _ => 0

/-- The combination of a list of values (R208). -/
def redAll {w : Nat} (op : Nat) (uns : Bool) (vs : List (BitVec w)) : BitVec w := vs.foldl (redComb op uns) (redEmpty op uns)

/-- WRED (R208). -/
def execWred (o : F3) (s : State) : Out :=
  entryWord s [o.ra] fun s act =>
    let v := redAll (o.rc.toNat % 8) o.x ((s.contribs act).map fun q => s.src q .i32 o.ra o.ea)
    act.map fun r => (r, effReg o.rd v)

/-- WRED64 (R208). -/
def execWred64 (o : F3) (s : State) : Out :=
  entryWord s [] fun s act =>
    let v := redAll (o.rc.toNat % 8) o.x ((s.contribs act).map fun q => s.src64 q o.ra)
    act.map fun r => (r, effPair o.rd v)

/-- WSCAN (R208). -/
def execWscan (o : F3) (s : State) : Out :=
  entryWord s [o.ra] fun s act =>
    act.map fun r =>
      let side := (s.contribs act).filter fun q => if o.rc.getLsbD 3 then q.lane < r.lane else q.lane ≤ r.lane
      (r, effReg o.rd (redAll (o.rc.toNat % 8) o.x (side.map fun q => s.src q .i32 o.ra o.ea)))

/-- Comb of R209 on two present values. -/
def fComb (op : Nat) (a b : Nat) : Nat × Flags :=
  match op with
  | 0 => f32Add a b
  | 1 => minMaxNum Fmt.b32 false a b
  | _ => minMaxNum Fmt.b32 true a b

/-- Comb with EMPTY as none, flags gathered (R209). -/
def fComb? (op : Nat) (a b : Option Nat) : Option Nat × Flags :=
  match a, b with
  | none, y => (y, 0)
  | x, none => (x, 0)
  | some x, some y => let (v, f) := fComb op x y; (some v, f)

/-- One step of the fixed tree: neighbours at distance one are combined (R209). -/
def treeStep (op : Nat) : List (Option Nat) → List (Option Nat) × Flags
  | a :: b :: rest =>
    let (v, f) := fComb? op a b
    let (vs, g) := treeStep op rest
    (v :: vs, f ||| g)
  | rest => (rest, 0)

/-- Five tree steps over 32 values. -/
def treeAll (op : Nat) : Nat → List (Option Nat) → Option Nat × Flags
  | 0, vs => (vs.head?.getD none, 0)
  | n + 1, vs =>
    let (ws, f) := treeStep op vs
    let (v, g) := treeAll op n ws
    (v, f ||| g)

/-- A delivered value: EMPTY as the empty value, a NaN as the default NaN (R209). -/
def fDeliver (op : Nat) (v : Option Nat) : Word :=
  match v with
  | none => if op = 0 then 0 else BitVec.ofNat 32 Fmt.b32.nan
  | some x => if (f32Val x).isNan then BitVec.ofNat 32 Fmt.b32.nan else BitVec.ofNat 32 x

/-- NV of a signalling contributor (R209). -/
def fSigFlags (vs : List Nat) : Flags := if vs.any fun x => (f32Val x).isSig then flagNV else 0

/-- WREDF (R209). -/
def execWredf (o : F3) (s : State) : Out :=
  entryWord s [o.ra] fun s act =>
    let op := o.rc.toNat % 4
    let cs := s.contribs act
    let v := fun (q : Ref) => (s.src q .f32 o.ra o.ea).toNat
    let (t, f) := treeAll op 5 ((List.range 32).map fun k => (cs.find? fun q => q.lane == k).map v)
    act.map fun r => (r, { regs := [(o.rd.toNat, fDeliver op t)], flags := f ||| fSigFlags (cs.map v) })

/-- The running combinations of R210: for each contributing lane, the value before and after it. -/
def scanGo (op : Nat) : Option Nat → List (Nat × Nat) → List (Nat × Option Nat) × Flags
  | _, [] => ([], 0)
  | p, (k, x) :: rest =>
    let (q, f) := fComb? op p (some x)
    let (vs, g) := scanGo op q rest
    ((k, q) :: vs, f ||| g)

/-- WSCANF (R210). -/
def execWscanf (o : F3) (s : State) : Out :=
  entryWord s [o.ra] fun s act =>
    let op := o.rc.toNat % 4
    let cs := s.contribs act
    let vals := cs.map fun q => (q.lane, (s.src q .f32 o.ra o.ea).toNat)
    let (ps, f) := scanGo op none vals
    act.map fun r =>
      let upto := ps.filter fun x => if o.rc.getLsbD 3 then x.1 < r.lane else x.1 ≤ r.lane
      (r, { regs := [(o.rd.toNat, fDeliver op ((upto.getLast?.map (·.2)).getD none))],
            flags := f ||| fSigFlags (vals.map (·.2)) })

end Sys2Proof.Machine
end

