-- ==== Sys2Proof/Machine/Tex.lean ====
section
/-! DEFINITION. Sys2Proof/Machine/Tex.lean: texture descriptors, sampling and residency (R246 to R248, R294 to R307). -/

namespace Sys2Proof.Machine

/-! ### Descriptors -/

/-- A texture descriptor (R294). -/
structure TexDesc where
  base : Nat
  resmap : Nat
  fbmap : Nat
  tiled : Bool
  mip : Nat
  flt : Bool
  amu : Nat
  amv : Nat
  fmt : Nat
  lmax : Nat
  wm1 : Nat
  hm1 : Nat
  deriving DecidableEq, Repr

/-- Channels, bytes per texel, and whether they are binary16 (R295). -/
def texFmt (f : Nat) : Nat × Nat × Bool :=
  match f with
  | 0 => (1, 2, true) | 1 => (2, 4, true) | 2 => (4, 8, true)
  | 3 => (1, 4, false) | 4 => (2, 8, false) | _ => (4, 16, false)

/-- A descriptor from its 64 bytes; none raises LAYOUT (R294). -/
def texDesc (b : List Byte) : Option TexDesc :=
  let c := recU64 b 0x18
  let d : TexDesc :=
    { base := recU64 b 0, resmap := recU64 b 8, fbmap := recU64 b 0x10, tiled := bitOf c 49, mip := bitsOf c 47 2,
      flt := bitOf c 46, amv := bitsOf c 44 2, amu := bitsOf c 42 2, fmt := bitsOf c 38 4, lmax := bitsOf c 34 4,
      hm1 := bitsOf c 16 14, wm1 := bitsOf c 0 14 }
  let zeros := [0x20, 0x28, 0x30, 0x38].all fun k => recU64 b k == 0
  if zeros && bitsOf c 50 14 == 0 && bitsOf c 30 4 == 0 && bitsOf c 14 2 == 0 && d.mip != 3 && decide (d.fmt ≤ 5) &&
      decide (d.lmax ≤ 14) && max (d.wm1 + 1) (d.hm1 + 1) / 2 ^ d.lmax != 0 && d.base % 256 == 0 &&
      (if d.tiled then d.base % 65536 == 0 && d.resmap % 8 == 0 && d.fbmap % 8 == 0 else d.resmap == 0 && d.fbmap == 0) then
    some d
  else none

/-- Extent of a level along u and v (R296). -/
def TexDesc.w (d : TexDesc) (l : Nat) : Nat := max 1 ((d.wm1 + 1) / 2 ^ l)
def TexDesc.h (d : TexDesc) (l : Nat) : Nat := max 1 ((d.hm1 + 1) / 2 ^ l)

/-- Offset of a level from BASE (R296). -/
def TexDesc.levelOff (d : TexDesc) : Nat → Nat
  | 0 => 0
  | l + 1 => d.levelOff l + 65536 * ((d.w l * d.h l * (texFmt d.fmt).2.1 + 65535) / 65536)

/-- R297: the index inside [0, n), or a border texel. -/
def texIndex (mode : Nat) (i : Int) (n : Nat) : Option Nat :=
  match mode with
  | 0 => some (i % n).toNat
  | 1 => some (clampInt i 0 ((n : Int) - 1)).toNat
  | 2 => if 0 ≤ i ∧ i < n then some i.toNat else none
  | _ => let m := (i % (2 * n : Nat)).toNat; some (if m < n then m else 2 * n - 1 - m)

/-! ### Coordinates -/

/-- floor of a finite binary32 value. -/
def floorF (c : Nat) : Int :=
  match f32Val c with
  | .fin neg m e =>
    let x : Int := if neg then -(m : Int) else m
    if e ≥ 0 then x * (2 ^ e.toNat : Nat) else asr x (-e).toNat
  | _ => 0

/-- An integer as binary32. -/
def f32Int (x : Int) : Nat := (f32Round (intExact x 0)).1

/-- R298: a coordinate made finite. -/
def finiteCoord (c : Nat) : Nat :=
  let c := if (f32Val c).isNan then 0 else c
  (minMaxNum Fmt.b32 false (minMaxNum Fmt.b32 true c 0xC7800000).1 0x47800000).1

/-- R85: integer index and fraction. -/
def filtCoord (c n : Nat) : Int × Nat :=
  let tc := (f32Round (fmaE 0 (f32Val c) (f32Val (f32Int n)) (f32Val 0xBF000000))).1
  (floorF tc, (f32Sub tc (f32Int (floorF tc))).1)

/-- The level of detail of four gradients (R299). -/
def lodOf (d : TexDesc) (dux dvx duy dvy : Nat) : Nat :=
  let w := f32Int (d.w 0)
  let h := f32Int (d.h 0)
  let p := fun (x y : Nat) => let a := (f32Mul x w).1; let b := (f32Mul y h).1; (f32Fma a a (f32Mul b b).1).1
  let m := (minMaxNum Fmt.b32 true (p dux dvx) (p duy dvy)).1
  (f32Mul 0x3F000000 (transc .log2 Fmt.b32 (f32Val m)).1).1

/-- R299's last step. -/
def lodClamp (d : TexDesc) (lod : Nat) : Nat :=
  let l := if (f32Val lod).isNan then 0 else lod
  (minMaxNum Fmt.b32 false (minMaxNum Fmt.b32 true l 0).1 (f32Int d.lmax)).1

/-- R300: the first level, and the fraction when two levels combine. -/
def levelOf (d : TexDesc) (gather : Bool) (lod : Nat) : Nat × Option Nat :=
  if d.mip = 0 then (0, none)
  else if d.mip = 1 || gather then (min (floorF (f32Add lod 0x3F000000).1).toNat d.lmax, none)
  else
    let l0 := (floorF lod).toNat
    let fl := (f32Sub lod (f32Int l0)).1
    (l0, if fl = 0 then none else some fl)

/-! ### Texels -/

/-- What one lane's sample has met. -/
structure Met where
  /-- non-resident tiles, in order -/
  tiles : List Nat := []
  /-- causes of texel fetches: cause, walk, address -/
  bad : List Bad := []
  /-- virtual addresses of texels with an uncorrectable error -/
  ecc : List DWord := []
  /-- physical addresses of uncorrectable code words read -/
  ue : List Nat := []
  deriving DecidableEq, Repr

/-- A sample that touches a non-resident tile meets no cause (R247). -/
def Met.settled (m : Met) : Met := if m.tiles.isEmpty then m else { m with ecc := [] }

def Met.join (a b : Met) : Met := { tiles := a.tiles ++ b.tiles, bad := a.bad ++ b.bad, ecc := a.ecc ++ b.ecc, ue := a.ue ++ b.ue }

/-- The channels of a texel's bytes as binary32 (R295). DESIGN CHOICE (log 104): a binary32 channel is taken as it stands, the sign and
payload of a NaN too. -/
def texelChannels (fmt : Nat) (b : List Byte) : List Nat :=
  let (n, bpt, half) := texFmt fmt
  (List.range 4).map fun k =>
    if n ≤ k then (if k = 3 then f32One else 0)
    else
      let v := leNat (sliceBytes b (k * (bpt / n)) (bpt / n))
      if half then (f32Round (Fmt.b16.value v).exact).1 else v

/-- A texel for a lane (R247, R295 to R297): its channels, and what was met. -/
def State.texel (s : State) (tid : Nat) (d : TexDesc) (fetch : Bool) (l : Nat) (i j : Int) : List Nat × Met :=
  match texIndex d.amu i (d.w l), texIndex d.amv j (d.h l) with
  | some i, some j =>
    let (_, bpt, _) := texFmt d.fmt
    let off := d.levelOff l + (j * d.w l + i) * bpt
    let va : DWord := BitVec.ofNat 64 (d.base + off)
    let tile := off / 65536
    let (res, ue) := if !d.tiled then (true, [])
      else
        match s.engRead tid (BitVec.ofNat 64 (d.resmap + tile / 8)) 1 with
        | .ok b => (bitOf (leNat b) (tile % 8), [])
        | .ecc pa => (false, [pa])
        | .bad _ _ => (false, [])
    if !res then ([0, 0, 0, 0], { tiles := [tile], ue })
    else if !fetch then ([0, 0, 0, 0], {})
    else
      match s.engRead tid va bpt with
      | .ok b => (texelChannels d.fmt b, {})
      | .ecc pa => ([0, 0, 0, 0], { ecc := [va], ue := [pa] })
      | .bad c walk => if d.tiled then ([0, 0, 0, 0], { tiles := [tile] })
          else ([0, 0, 0, 0], { bad := [{ cause := c, addr := va, walk }] })
  | _, _ => ([0, 0, 0, 0], {})

/-- The four texels of a footprint, in the order t00, t10, t01, t11 (R86, R304). -/
def State.footprint (s : State) (tid : Nat) (d : TexDesc) (fetch : Bool) (l : Nat) (i j : Int) : List (List Nat) × Met :=
  let ts := [(i, j), (i + 1, j), (i, j + 1), (i + 1, j + 1)].map fun p => s.texel tid d fetch l p.1 p.2
  (ts.map (·.1), ts.foldl (fun m t => m.join t.2) {})

/-- The result of one level in a format (R298): four channels. DESIGN CHOICE (log 104): a point sample in binary32 answers a NaN texel
with its sign and payload. -/
def State.levelSample (s : State) (tid : Nat) (d : TexDesc) (fetch : Bool) (l u v : Nat) (F : Fmt) : List Nat × Met :=
  if d.flt then
    let (i, fu) := filtCoord u (d.w l)
    let (j, fv) := filtCoord v (d.h l)
    let (ts, m) := s.footprint tid d fetch l i j
    let t := fun a k => (ts.getD a []).getD k 0
    ((List.range 4).map fun k => (bilinear F (t 0 k) (t 1 k) (t 2 k) (t 3 k) fu fv).1, m)
  else
    let i := floorF (f32Mul u (f32Int (d.w l))).1
    let j := floorF (f32Mul v (f32Int (d.h l))).1
    let (t, m) := s.texel tid d fetch l i j
    (if F == Fmt.b32 then t else t.map fun c => (deliver F 0 false 0 (f32Val c).exact).1, m)

/-- The filtered sample of R300: four channels in a format. -/
def State.sample (s : State) (tid : Nat) (d : TexDesc) (fetch : Bool) (u v lod : Nat) (F : Fmt) : List Nat × Met :=
  match levelOf d false lod with
  | (l, none) => s.levelSample tid d fetch l u v F
  | (l, some fl) =>
    let (lo, m) := s.levelSample tid d fetch l u v Fmt.b32
    let (hi, n) := s.levelSample tid d fetch (l + 1) u v Fmt.b32
    ((List.range 4).map fun k => (trilinear F (lo.getD k 0) (hi.getD k 0) fl).1, m.join n)

/-! ### Texture words -/

/-- What a texture word gives one lane. -/
structure TexOut where
  regs : List Word
  status : Bool
  met : Met
  deriving DecidableEq, Repr

/-- Which texture word. -/
inductive TexKind where
  | samp | sampl | sampd | sampg | resq
  deriving DecidableEq, Repr

/-- A binary32 operand of the rb block. -/
def State.texReg (s : State) (r : Ref) (rb k : Nat) : Nat := ((s.lane r).gr (rb + k)).toNat

/-- The level of detail of a lane (R299): `act` are its entry's active lanes. -/
def State.texLod (s : State) (k : TexKind) (o : FA) (d : TexDesc) (act : List Ref) (r : Ref) : Nat :=
  let rb := o.rb.toNat
  let g := fun k => s.texReg r rb k
  match k with
  | .samp =>
    let c := fun (q k : Nat) => fromLane act (fun p => finiteCoord (s.texReg p rb k)) r (quadLane r q)
    let df := fun (q k : Nat) => (f32Sub (c q k) (c 0 k)).1
    let lod := lodOf d (df 1 0) (df 1 1) (df 2 0) (df 2 1)
    lodClamp d (if o.sub.getLsbD 10 then (f32Add lod (g 2)).1 else lod)
  | .sampd => lodClamp d (lodOf d (g 2) (g 3) (g 4) (g 5))
  | _ => lodClamp d (g 2)

/-- Registers that a texture word writes. -/
def texRegs (k : TexKind) (o : FA) : Nat :=
  match k with
  | .sampg => 6
  | .resq => 1
  | _ => if o.sub.getLsbD 9 then 2 else 4

/-- Results of a lane whose descriptor is good (R302 to R304). -/
def State.texLane (s : State) (k : TexKind) (o : FA) (d : TexDesc) (act : List Ref) (r : Ref) : TexOut :=
  let rb := o.rb.toNat
  let u := finiteCoord (s.texReg r rb 0)
  let v := finiteCoord (s.texReg r rb 1)
  let lod := s.texLod k o d act r
  let half := o.sub.getLsbD 9
  let w := fun (x : Nat) => BitVec.ofNat 32 x
  match k with
  | .sampg =>
    let l := (levelOf d true lod).1
    let (i, fu) := filtCoord u (d.w l)
    let (j, fv) := filtCoord v (d.h l)
    let (ts, m) := s.footprint r.team d true l i j
    let st := m.tiles.isEmpty
    { regs := (ts.map fun t => if st then w (t.getD (bitsOf o.sub.toNat 7 2) 0) else 0) ++ [w fu, w fv], status := st, met := m.settled }
  | .resq =>
    let (_, m) := s.sample r.team d false u v lod Fmt.b32
    { regs := [match m.tiles with | t :: _ => w t | [] => 0xFFFFFFFF], status := m.tiles.isEmpty, met := m }
  | _ =>
    let (c, m) := s.sample r.team d true u v lod (if half then Fmt.b16 else Fmt.b32)
    let st := m.tiles.isEmpty
    let c := if st then c else [0, 0, 0, 0]
    let g := fun k => c.getD k 0
    { regs := if half then [w (g 0 + g 1 * 2 ^ 16), w (g 2 + g 3 * 2 ^ 16)] else c.map w, status := st, met := m.settled }

/-- Zero results and status 0 of a helper lane that would meet a cause (R306). -/
def texZero (k : TexKind) (o : FA) : TexOut := { regs := List.replicate (texRegs k o) 0, status := false, met := {} }

/-- One lane of a texture word (R305, R306): its result, or a cause with the address of an uncorrectable read. -/
def State.texOne (s : State) (k : TexKind) (o : FA) (act : List Ref) (r : Ref) : Except (Bad × List Nat) TexOut :=
  let a := s.src64 r o.ra
  if a.toNat % 64 ≠ 0 then .error ({ cause := .misalign, addr := a, walk := false }, [])
  else
    match s.engRead r.team a 64 with
    | .bad c walk => .error ({ cause := c, addr := a, walk }, [])
    | .ecc pa => .error ({ cause := .ecc, addr := a, walk := false }, [pa])
    | .ok b =>
      match texDesc b with
      | none => .error ({ cause := .layout, addr := 0, walk := false }, [])
      | some d =>
        let out := s.texLane k o d act r
        match reported (out.met.bad.map fun x => x.at r false) with
        | some f => .error ({ cause := f.cause, addr := f.addr, walk := f.walk }, out.met.ue)
        | none => .ok out

/-- Feedback bits that a lane sets (R247, R302, R304). -/
def State.texFeedback (s : State) (k : TexKind) (o : FA) (r : Ref) (tiles : List Nat) : List FeedbackBit :=
  if (s.lane r).isHelper || (k == .resq && !o.sub.getLsbD 10) then []
  else
    match s.engRead r.team (s.src64 r o.ra) 64 with
    | .ok b =>
      match texDesc b with
      | none => []
      | some d => tiles.eraseDups.filterMap fun t =>
        let a : DWord := BitVec.ofNat 64 (d.fbmap + t / 8)
        if inWindow a then none
        else
          match s.resolve r.team a 1 needRW true with
          | .ok x => some { lane := r.lane, va := a, dst := x, bit := t % 8 }
          | _ => none
    | _ => []

/-- What a texture word finds for every active lane. -/
def State.texOuts (s : State) (k : TexKind) (o : FA) : List (Ref × Except (Bad × List Nat) TexOut) :=
  s.bundle.members.flatMap fun m =>
    let mine := s.activeOf m
    mine.map fun r => (r, s.texOne k o mine r)

/-- Uncorrectable code words that a texture word reads. -/
def State.texCodes (s : State) (k : TexKind) (o : FA) : List Nat :=
  ((s.texOuts k o).flatMap fun x => match x.2 with
    | .ok t => t.met.ue.map (· / 32)
    | .error e => e.2.map (· / 32)).eraseDups

/-- The reads of a texture word, as they count at the memory dies (R532, R533): each code word once, a word with a correctable error
being one that it would find uncorrectable; and the walk of an address that faults. -/
def State.noteTexture (s : State) (k : TexKind) (o : FA) : State :=
  let read := s.mem.flips.filter fun c => ((s.modMem fun m => { m with poison := c :: m.poison }).texCodes k o).contains c
  let faults := (s.texOuts k o).filterMap fun x => match x.2 with
    | .error (b, _) => if b.walk then some (x.1, b.addr) else none
    | .ok _ => none
  let s := (read ++ s.texCodes k o).foldl (fun s c => s.noteWord c false) s
  faults.foldl (fun s x => s.noteAccess x.1.team x.2 1 needR) s

/-- A texture word (R301 to R307). -/
def texWord (s : State) (k : TexKind) (o : FA) : Out :=
  whenIssued s fun s =>
    if s.counterFull .tx then s.hold
    else
      let act := s.active
      let outs := s.texOuts k o
      let faults : List LaneFault := outs.filterMap fun x => match x.2 with
        | .error e => if (s.lane x.1).isHelper then none else some (e.1.at x.1 false)
        | .ok _ => none
      let good := outs.filterMap fun x => match x.2 with
        | .ok t => if (s.lane x.1).isHelper && !t.met.ecc.isEmpty then some (x.1, texZero k o) else some (x.1, t)
        | .error _ => if (s.lane x.1).isHelper then some (x.1, texZero k o) else none
      let eccs := good.filterMap fun x => x.2.met.ecc.head?.map fun a => (x.1, a)
      let fine := good.filter fun x => x.2.met.ecc.isEmpty
      let fb := fine.map fun x => (x.1, s.texFeedback k o x.1 x.2.met.tiles)
      let ps := bitsOf o.sub.toNat 0 7
      let regs := fine.flatMap fun x => laneRegs x.1 (x.2.regs.zipIdx.map fun p => (o.rd.toNat + p.2, p.1))
      let preds := if ps = 96 then [] else fine.map fun x => (x.1, ({ lane := x.1.lane, p := ps, val := x.2.status } : PredRes))
      let s := s.noteTexture k o
      let s := s.faultLanes faults
      let s := s.postOpsP (wavesOf act) .tx true regs preds eccs fun w =>
        .texture ((fb.filter fun x => (x.1.team, x.1.wave) == w).flatMap (·.2))
      s.finish act []

/-- SAMP (R302). -/
def execSamp (o : FA) (s : State) : Out := texWord s .samp o

/-- SAMPL (R302). -/
def execSampl (o : FA) (s : State) : Out := texWord s .sampl o

/-- SAMPD (R302). -/
def execSampd (o : FA) (s : State) : Out := texWord s .sampd o

/-- SAMPG (R303). -/
def execSampg (o : FA) (s : State) : Out := texWord s .sampg o

/-- RESQ (R304). -/
def execResq (o : FA) (s : State) : Out := texWord s .resq o

/-- One feedback OR at device scope (R247, R433). -/
def State.feedbackOr (s : State) (op : Op) (f : FeedbackBit) : State :=
  match s.readTarget (s.team op.team).die (s.team op.team).core f.dst 1 .hub with
  | (s, none) => s
  | (s, some b) =>
    let (s, refused) := s.writeTarget (s.writer op.team) f.dst [BitVec.ofNat 8 (leNat b ||| 2 ^ f.bit)] true
    if refused then s.recordRperm op.team op.wave { clause := op.clause, idx := op.idx, addr := f.va, lane := f.lane } else s

/-- TEXTURE_COMPLETE (R46, R305): the results of an older word go first where both write one register. -/
def execTextureComplete (s : State) : Out :=
  .next (match s.liveOp s.args.a with
    | some op =>
      match op.body with
      | .texture fb =>
        if s.resultWaits op then s else ((fb.foldl (fun s x => s.feedbackOr op x) s).writeResults op).opDone op.id
      | _ => s
    | none => s)

end Sys2Proof.Machine
end

