-- ==== Sys2Proof/Machine/Turns.lean ====
section
/-! DEFINITION. Sys2Proof/Machine/Turns.lean: who may act next, how a turn runs (R40, R53, R188), the passing of time (R12,
R25), and a word placed so that the next step runs it. -/

namespace Sys2Proof.Machine

/-- Clocks pass (log 3); a counter tick that falls within them is not passed over (R487). DESIGN CHOICE (log 3): power management
gates only cores that hold a resident team, so that sr_clock of an idle core lags no further (R25). -/
def State.tick (s : State) : State :=
  let n := Config.clocks s.free
  let p := 2 ^ (s.hub.pmact.toNat % 32)
  let left := p - s.hub.gtime.toNat % p
  let due := (s.hub.pmact.getLsbD 7 || s.hub.pmact != s.hub.pmctl) && decide (left ≤ n)
  let adv := if due then left else n
  let busy := s.teams.filterMap fun t => if t.place == .resident then some (t.die, t.core) else none
  { s with
    free := s.free + 1,
    agenda := if due then .ev .pmTick {} :: s.agenda else s.agenda,
    hub := { s.hub with gtime := s.hub.gtime + BitVec.ofNat 64 adv },
    teams := s.teams.map fun t => t.noteBlocked s.hub.gtime.toNat,
    dies := s.dies.zipIdx.map fun p => { p.1 with lag :=
      (busy.eraseDups.filter fun x => x.1 == p.2).foldl (fun l x =>
        let old := ((p.1.lag.find? fun y => y.1 == x.2).map (·.2)).getD 0
        (x.2, old + Config.gated s.free x.1 x.2 % (adv + 1)) :: l.filter fun y => y.1 != x.2) p.1.lag } }

/-- A decode cause is the cause of every active lane of the word, whatever its guard (R36, R53, R426). -/
def State.decodeFault (s : State) (c : Cause) : State :=
  (s.faultLanes (s.bundle.members.flatMap fun m => (memberRefs m).map fun r => { r, cause := c })).putIssue

/-- The next word of a bundle issues (R40): its decode cause, or its meaning `ex`. DESIGN CHOICE (log 17): of the words before
the one that R54 reports, one that does not decode has no effect, and one that fails only a check of the launch allocation
executes, with each register beyond the allocation reading 0 and dropping its writes. -/
def State.issueWord (ex : Instr → State → Out) (s : State) (b : Bundle) : Out :=
  let s := { s with issue := some b, args := {} }
  match b.bad, decodeWord s.word with
  | some (c, k), d =>
    if k ≤ b.idx then .next (s.decodeFault c)
    else
      match d with
      | .ok i => ex i s
      | .error _ => .next s.nextWord
  | none, .ok i => ex i s
  | none, .error .illop => .next (s.decodeFault .illop)
  | none, .error .rsvd => .next (s.decodeFault .rsvd)

/-- A bundle's next word can issue: no switch marker parks it (R44), and its lanes are there. -/
def Bundle.canIssue (b : Bundle) : Bool := !b.marker && !b.members.isEmpty && decide (b.idx < b.n)

/-- The bundle may go on: no team of its entries is being flushed (R448). -/
def State.goesOn (s : State) (b : Bundle) : Bool := !(b.members.any fun m => (s.team m.team).leaving == .flush)

/-- The bundles that their partitions issue from: of those whose next word can issue and does not wait, the oldest (R188). -/
def State.issuers (s : State) : List Bundle :=
  let can := s.bundles.filter fun b => b.canIssue && s.goesOn b && !b.stalled
  can.filter fun b => !can.any fun x => x.die == b.die && x.core == b.core && x.part == b.part && decide (x.id < b.id)

/-- A word that waited is tried again once anything else has happened (R188). -/
def Bundle.retry (b : Bundle) : Bundle := { b with stalled := false }

/-- What follows a next state. -/
def andThen (o : Out) (f : State → State) : Out :=
  match o with
  | .next s => .next (f s)
  | .fault e => .fault e
  | .refused e => .refused e

/-- A bundle's turn: its next word, then a single step's end (R188, R482). -/
def State.wordTurn (ex : Instr → State → Out) (s : State) (id : Nat) : Out :=
  match s.bundles.find? fun b => b.id == id with
  | none => .next s
  | some b => if b.canIssue && s.goesOn b then andThen (s.issueWord ex b) fun u => u.afterStep id (s.steppers b) else .next s

/-- One turn; afterwards the dies send the watermarks that have changed (R515). -/
def State.runTurn (ex : Instr → State → Out) (s : State) (t : Turn) : Out :=
  let s := { s with bundles := s.bundles.map Bundle.retry }
  andThen
    (match t with
     | .word id => s.wordTurn ex id
     | .ev i a => ex i { s with issue := none, args := a }
     | .upset w c => .next (s.upset w c))
    State.sendMarks

/-- A free number below `n`. -/
def State.freeNat (s : State) (k n : Nat) : Nat := (Config.freeWord (s.free + k)).toNat % n

/-- Turns of the host's that may come at any moment, their contents free (R277, R523, R525, R527, R528, R535 to R537). -/
def State.hostTurns (s : State) : List Turn :=
  let f := fun k => Config.freeWord (s.free + k)
  [.ev .moduleReset {}, .ev .fwgo { v := f 0 }, .ev .sqtailWrite { v := f 0 }, .ev .eqtailWrite { v := f 0 },
   .ev .registerWrite { a := s.freeNat 0 hubBlock, b := if (f 1).getLsbD 0 then 8 else 4, v := f 2 },
   .ev .hostMemoryAccess { a := s.freeNat 0 Config.gddrTop, flag := (f 1).getLsbD 0, b := s.freeNat 2 65,
                            data := [f 3, f 4, f 5, f 6, f 7, f 8, f 9, f 10] },
   .ev .hostMemoryAccess { a := Config.gddrTop + s.freeNat 0 (Config.physTop - Config.gddrTop), flag := true, b := s.freeNat 2 65,
                            data := [f 3, f 4, f 5, f 6, f 7, f 8, f 9, f 10] },
   .ev .hostBarAssignment { v := f 0 },
   .ev .mailboxPacketFromHost { data := [f 0, f 1, f 2, f 3, f 4, f 5, f 6, f 7] },
   .ev .launch {}, .ev .frame {}, .ev .endframe {}, .ev .badpacket {},
   .ev .fwgo { flag := true }, .ev .clockChange { a := s.freeNat 0 57, v := f 2 }, .ev .thermalThrottle { a := s.freeNat 0 256 },
   .ev .tlbSyncComplete {}, .ev .tileHandoff {}]

/-- Events of one operation of an engine. -/
def opTurns (o : Op) : List Turn :=
  match o.body with
  | .plain => [.ev .loadResultReturn { a := o.id }]
  | .store _ => [.ev .storePerformed { a := o.id }]
  | .copies cs => .ev .copyComplete { a := o.id } ::
      cs.flatMap fun c => (List.range c.pieces.length).map fun k => .ev .copyLineArrival { a := o.id, b := c.lane, c := k }
  | .shuttle .. => [.ev .shuttleOpPerform { a := o.id }]
  | .mx .. => [.ev .mxStart { a := o.id }, .ev .mxFinish { a := o.id }]
  | .mangle .. => [.ev .mangleOpPerform { a := o.id }]
  | .rays rs => rs.map fun r => .ev .rayReturn { a := o.id, b := r.lane }
  | .dice .. => [.ev .shearsDelivery { a := o.id }]
  | .gemit .. => [.ev .gemitRetire { a := o.id }]
  | .texture _ => [.ev .textureComplete { a := o.id }]
  | .dump .. => [.ev .storePerformed { a := o.id }]
  | .packet .. => [.ev .storePerformed { a := o.id }]
  | .spawn .. => [.ev .loadResultReturn { a := o.id }]
  | .bind => [.ev .gemitRetire { a := o.id }]

/-- Events of one team. -/
def teamTurns (k : Nat) (t : Team) : List Turn :=
  [.ev .teamEnd { a := k }, .ev .teamFatalEnd { a := k }, .ev .teamFlush { a := k }, .ev .drainTimeout { a := k },
   .ev .teamSave { a := k }] ++
  (List.range Config.cores).map (fun c => .ev .teamRestore { a := k, b := c }) ++
  t.waves.zipIdx.flatMap fun w =>
    (w.1.entries.filter fun e => e.park == 2).map (fun e => Turn.ev .mwaitWake { a := k, b := w.2, c := e.slot }) ++
    ((List.range 32).filter fun l => (w.1.lanes.getD l Lane.blank).trap.isSome).map fun l => .ev .trapEntry { a := k, b := w.2, c := l }

/-- Events of one die. -/
def dieTurns (s : State) (d : Nat) : List Turn :=
  let parts := (s.teams.filter fun t => t.die == d && t.place == .resident).flatMap fun t => t.waves.map fun w => (t.core, w.part)
  parts.eraseDups.map (fun p => Turn.ev .pick { a := d, b := p.1, c := p.2 }) ++
  (List.range Config.cores).map (fun c => .ev .teamClaim { a := d, b := c }) ++
  (List.range s.grids.length).flatMap (fun g => [Turn.ev .rangeSteal { a := d, b := g }, .ev .timeSlice { a := d, b := g }]) ++
  [.ev .watermarkDelivery { a := d }, .ev .gridCopyArrival { a := d }, .ev .copySampling { a := d }] ++
  (s.mem.l1.filter fun x => x.die == d).map (fun x => .ev .cacheEviction { a := d, b := x.core, c := x.sector / 8 }) ++
  (s.mem.l2.filter fun x => x.die == d).map (fun x => .ev .cacheEviction { a := d, c := x.sector / 8, flag := true })

/-- Every turn that may come next; one that cannot act yet leaves the state as it is. -/
def State.candidates (s : State) : List Turn :=
  s.issuers.map (fun b => Turn.word b.id) ++
  s.bundles.flatMap (fun b => [Turn.ev .switchMarkerResume { a := b.id }, .ev .pageWalkComplete { a := b.id }]) ++
  s.ops.flatMap opTurns ++
  s.teams.zipIdx.flatMap (fun t => teamTurns t.2 t.1) ++
  (List.range Config.dies).flatMap (fun d => dieTurns s d) ++
  (List.range s.grids.length).map (fun g => .ev .commitTokenPass { a := g }) ++
  s.hostTurns ++ [.upset (s.freeNat 0 (Config.gddrTop / 32)) ((Config.freeWord (s.free + 1)).getLsbD 0)]

/-- One step: the agenda's first turn, or a free choice among the candidates (log 2). -/
def State.takeTurn (ex : Instr → State → Out) (s : State) : Out :=
  match s.agenda with
  | t :: rest => State.runTurn ex { s with agenda := rest } t
  | [] =>
    let cs := s.candidates
    match cs[Config.choose s.free cs.length % cs.length]? with
    | some t => { s with free := s.free + 16 }.runTurn ex t
    | none => .next s

/-! ### A word placed to run next -/

/-- A grid of one team of one wave, privileged, whose every position is a thread. -/
def placedGrid : Grid :=
  { Grid.blank with firmware := true, entry := 0x1000, handler := 0x2000, stkBase := 0x10000, stkSize := 256, tx := 32,
                    regs := 128, scr := 1, acct := 16, priv := true, phase := .running, winit := List.replicate 64 0 }

/-- Its lanes right after R52. -/
def placedLane : Lane :=
  { Lane.blank with absent := false, ended := false, g := List.replicate 128 0, clause := 0x1000 }

def placedWave (k : Nat) : Lane := { placedLane with sp := stackBase placedGrid 0 k + 256 }

def placedTeam : Team :=
  { Team.blank with
    place := .resident,
    bars := List.replicate 16 (Barrier.init 32), handles := List.replicate 32 Handle.blank,
    tiles := List.replicate 16 Tile.blank,
    waves := [{ Wave.blank with
      w := List.replicate 64 0, lanes := (List.range 32).map placedWave,
      entries := [{ slot := 0, stamp := 0, runs := 0, clause := 0x1000, idx := 0, depth := 0, path := 0, park := 0,
                    why := .none, yh := false, defer := 0, mask := 0xFFFFFFFF, flight := some 0 }] }] }

/-- A bundle in flight that holds one word. -/
def placedBundle (id team : Nat) (w : DWord) : Bundle :=
  { Bundle.blank with id, members := [{ team, wave := 0, slot := 0, mask := 0xFFFFFFFF }], clause := 0x1000, n := 1, words := [w] }

/-- The state with one team placed whose bundle's next word is `w`, and that word's turn at the head of the agenda. -/
def State.placeWord (s : State) (w : DWord) : State :=
  { s with
    grids := s.grids ++ [placedGrid],
    teams := s.teams ++ [{ placedTeam with grid := s.grids.length, waves := placedTeam.waves.map fun x =>
      { x with entries := x.entries.map fun e => { e with flight := some s.nextBundle } } }],
    bundles := s.bundles ++ [placedBundle s.nextBundle s.teams.length w],
    nextBundle := s.nextBundle + 1,
    agenda := .word s.nextBundle :: s.agenda }

end Sys2Proof.Machine
end

