-- ==== Sys2Proof/Machine/Dispatch.lean ====
section
/-! DEFINITION. Sys2Proof/Machine/Dispatch.lean: one arm per row of the table. -/

namespace Sys2Proof.Machine

def exec (i : Instr) (s : State) : Host.Outcome State Fault Refusal :=
  match i with
  | .iadd o => Sys2Proof.Machine.execIadd o s
  | .iaddImm o => Sys2Proof.Machine.execIaddImm o s
  | .isub o => Sys2Proof.Machine.execIsub o s
  | .isubImm o => Sys2Proof.Machine.execIsubImm o s
  | .imul o => Sys2Proof.Machine.execImul o s
  | .imulImm o => Sys2Proof.Machine.execImulImm o s
  | .imulh o => Sys2Proof.Machine.execImulh o s
  | .imulhImm o => Sys2Proof.Machine.execImulhImm o s
  | .imad o => Sys2Proof.Machine.execImad o s
  | .idiv o => Sys2Proof.Machine.execIdiv o s
  | .idivImm o => Sys2Proof.Machine.execIdivImm o s
  | .irem o => Sys2Proof.Machine.execIrem o s
  | .iremImm o => Sys2Proof.Machine.execIremImm o s
  | .imin o => Sys2Proof.Machine.execImin o s
  | .iminImm o => Sys2Proof.Machine.execIminImm o s
  | .imax o => Sys2Proof.Machine.execImax o s
  | .imaxImm o => Sys2Proof.Machine.execImaxImm o s
  | .iabs o => Sys2Proof.Machine.execIabs o s
  | .ineg o => Sys2Proof.Machine.execIneg o s
  | .and o => Sys2Proof.Machine.execAnd o s
  | .andImm o => Sys2Proof.Machine.execAndImm o s
  | .or o => Sys2Proof.Machine.execOr o s
  | .orImm o => Sys2Proof.Machine.execOrImm o s
  | .xor o => Sys2Proof.Machine.execXor o s
  | .xorImm o => Sys2Proof.Machine.execXorImm o s
  | .not o => Sys2Proof.Machine.execNot o s
  | .mov o => Sys2Proof.Machine.execMov o s
  | .movImm o => Sys2Proof.Machine.execMovImm o s
  | .iadd64 o => Sys2Proof.Machine.execIadd64 o s
  | .iadd64Imm o => Sys2Proof.Machine.execIadd64Imm o s
  | .isub64 o => Sys2Proof.Machine.execIsub64 o s
  | .isub64Imm o => Sys2Proof.Machine.execIsub64Imm o s
  | .imul64 o => Sys2Proof.Machine.execImul64 o s
  | .imul64Imm o => Sys2Proof.Machine.execImul64Imm o s
  | .imad64 o => Sys2Proof.Machine.execImad64 o s
  | .movk o => Sys2Proof.Machine.execMovk o s
  | .movk64 o => Sys2Proof.Machine.execMovk64 o s
  | .shl o => Sys2Proof.Machine.execShl o s
  | .shlImm o => Sys2Proof.Machine.execShlImm o s
  | .shr o => Sys2Proof.Machine.execShr o s
  | .shrImm o => Sys2Proof.Machine.execShrImm o s
  | .rol o => Sys2Proof.Machine.execRol o s
  | .rolImm o => Sys2Proof.Machine.execRolImm o s
  | .bfe o => Sys2Proof.Machine.execBfe o s
  | .bfeImm o => Sys2Proof.Machine.execBfeImm o s
  | .bfi o => Sys2Proof.Machine.execBfi o s
  | .popc o => Sys2Proof.Machine.execPopc o s
  | .clz o => Sys2Proof.Machine.execClz o s
  | .brev o => Sys2Proof.Machine.execBrev o s
  | .shf o => Sys2Proof.Machine.execShf o s
  | .padd8 o => Sys2Proof.Machine.execPadd8 o s
  | .padd8Imm o => Sys2Proof.Machine.execPadd8Imm o s
  | .padd16 o => Sys2Proof.Machine.execPadd16 o s
  | .padd16Imm o => Sys2Proof.Machine.execPadd16Imm o s
  | .pdot4 o => Sys2Proof.Machine.execPdot4 o s
  | .pdot8 o => Sys2Proof.Machine.execPdot8 o s
  | .bpx o => Sys2Proof.Machine.execBpx o s
  | .bpi o => Sys2Proof.Machine.execBpi o s
  | .bmsk o => Sys2Proof.Machine.execBmsk o s
  | .bmskImm o => Sys2Proof.Machine.execBmskImm o s
  | .fadd o => Sys2Proof.Machine.execFadd o s
  | .faddImm o => Sys2Proof.Machine.execFaddImm o s
  | .fsub o => Sys2Proof.Machine.execFsub o s
  | .fsubImm o => Sys2Proof.Machine.execFsubImm o s
  | .fmul o => Sys2Proof.Machine.execFmul o s
  | .fmulImm o => Sys2Proof.Machine.execFmulImm o s
  | .ffma o => Sys2Proof.Machine.execFfma o s
  | .ffms o => Sys2Proof.Machine.execFfms o s
  | .fmin o => Sys2Proof.Machine.execFmin o s
  | .fminImm o => Sys2Proof.Machine.execFminImm o s
  | .fmax o => Sys2Proof.Machine.execFmax o s
  | .fmaxImm o => Sys2Proof.Machine.execFmaxImm o s
  | .fabs o => Sys2Proof.Machine.execFabs o s
  | .fneg o => Sys2Proof.Machine.execFneg o s
  | .fcpys o => Sys2Proof.Machine.execFcpys o s
  | .fcpysImm o => Sys2Proof.Machine.execFcpysImm o s
  | .fdiv o => Sys2Proof.Machine.execFdiv o s
  | .fdivImm o => Sys2Proof.Machine.execFdivImm o s
  | .fsqrt o => Sys2Proof.Machine.execFsqrt o s
  | .frnd o => Sys2Proof.Machine.execFrnd o s
  | .ffrac o => Sys2Proof.Machine.execFfrac o s
  | .fscale o => Sys2Proof.Machine.execFscale o s
  | .fscaleImm o => Sys2Proof.Machine.execFscaleImm o s
  | .fclamp o => Sys2Proof.Machine.execFclamp o s
  | .fsat o => Sys2Proof.Machine.execFsat o s
  | .hadd o => Sys2Proof.Machine.execHadd o s
  | .haddImm o => Sys2Proof.Machine.execHaddImm o s
  | .hsub o => Sys2Proof.Machine.execHsub o s
  | .hsubImm o => Sys2Proof.Machine.execHsubImm o s
  | .hmul o => Sys2Proof.Machine.execHmul o s
  | .hmulImm o => Sys2Proof.Machine.execHmulImm o s
  | .hfma o => Sys2Proof.Machine.execHfma o s
  | .hfms o => Sys2Proof.Machine.execHfms o s
  | .hmin o => Sys2Proof.Machine.execHmin o s
  | .hminImm o => Sys2Proof.Machine.execHminImm o s
  | .hmax o => Sys2Proof.Machine.execHmax o s
  | .hmaxImm o => Sys2Proof.Machine.execHmaxImm o s
  | .habs o => Sys2Proof.Machine.execHabs o s
  | .hneg o => Sys2Proof.Machine.execHneg o s
  | .hcpys o => Sys2Proof.Machine.execHcpys o s
  | .hcpysImm o => Sys2Proof.Machine.execHcpysImm o s
  | .hdot2 o => Sys2Proof.Machine.execHdot2 o s
  | .hrnd o => Sys2Proof.Machine.execHrnd o s
  | .hscale o => Sys2Proof.Machine.execHscale o s
  | .hscaleImm o => Sys2Proof.Machine.execHscaleImm o s
  | .hclamp o => Sys2Proof.Machine.execHclamp o s
  | .f2f o => Sys2Proof.Machine.execF2f o s
  | .f2i o => Sys2Proof.Machine.execF2i o s
  | .i2f o => Sys2Proof.Machine.execI2f o s
  | .f2f8 o => Sys2Proof.Machine.execF2f8 o s
  | .f8f o => Sys2Proof.Machine.execF8f o s
  | .h2f o => Sys2Proof.Machine.execH2f o s
  | .bscale o => Sys2Proof.Machine.execBscale o s
  | .qnt8 o => Sys2Proof.Machine.execQnt8 o s
  | .qnt8Err o => Sys2Proof.Machine.execQnt8Err o s
  | .dq8 o => Sys2Proof.Machine.execDq8 o s
  | .fxpn o => Sys2Proof.Machine.execFxpn o s
  | .fmnt o => Sys2Proof.Machine.execFmnt o s
  | .exp2 o => Sys2Proof.Machine.execExp2 o s
  | .log2 o => Sys2Proof.Machine.execLog2 o s
  | .rcp o => Sys2Proof.Machine.execRcp o s
  | .rsqrt o => Sys2Proof.Machine.execRsqrt o s
  | .sqrt o => Sys2Proof.Machine.execSqrt o s
  | .sin o => Sys2Proof.Machine.execSin o s
  | .cos o => Sys2Proof.Machine.execCos o s
  | .filt o => Sys2Proof.Machine.execFilt o s
  | .filtl o => Sys2Proof.Machine.execFiltl o s
  | .alrnd o => Sys2Proof.Machine.execAlrnd o s
  | .icmp o => Sys2Proof.Machine.execIcmp o s
  | .icmpImm o => Sys2Proof.Machine.execIcmpImm o s
  | .icmp64 o => Sys2Proof.Machine.execIcmp64 o s
  | .icmp64Imm o => Sys2Proof.Machine.execIcmp64Imm o s
  | .fcmp o => Sys2Proof.Machine.execFcmp o s
  | .fcmpImm o => Sys2Proof.Machine.execFcmpImm o s
  | .hcmp o => Sys2Proof.Machine.execHcmp o s
  | .hcmpImm o => Sys2Proof.Machine.execHcmpImm o s
  | .pand o => Sys2Proof.Machine.execPand o s
  | .por o => Sys2Proof.Machine.execPor o s
  | .pxor o => Sys2Proof.Machine.execPxor o s
  | .pnot o => Sys2Proof.Machine.execPnot o s
  | .sel o => Sys2Proof.Machine.execSel o s
  | .selImm o => Sys2Proof.Machine.execSelImm o s
  | .sel64 o => Sys2Proof.Machine.execSel64 o s
  | .p2g o => Sys2Proof.Machine.execP2g o s
  | .g2p o => Sys2Proof.Machine.execG2p o s
  | .fclass o => Sys2Proof.Machine.execFclass o s
  | .fclassImm o => Sys2Proof.Machine.execFclassImm o s
  | .btest o => Sys2Proof.Machine.execBtest o s
  | .btestImm o => Sys2Proof.Machine.execBtestImm o s
  | .bra o => Sys2Proof.Machine.execBra o s
  | .call o => Sys2Proof.Machine.execCall o s
  | .calli o => Sys2Proof.Machine.execCalli o s
  | .jmpi o => Sys2Proof.Machine.execJmpi o s
  | .ld o => Sys2Proof.Machine.execLd o s
  | .st o => Sys2Proof.Machine.execSt o s
  | .ldw o => Sys2Proof.Machine.execLdw o s
  | .pref o => Sys2Proof.Machine.execPref o s
  | .wback o => Sys2Proof.Machine.execWback o s
  | .atomAdd o => Sys2Proof.Machine.execAtomAdd o s
  | .atomMin o => Sys2Proof.Machine.execAtomMin o s
  | .atomMax o => Sys2Proof.Machine.execAtomMax o s
  | .atomAnd o => Sys2Proof.Machine.execAtomAnd o s
  | .atomOr o => Sys2Proof.Machine.execAtomOr o s
  | .atomXor o => Sys2Proof.Machine.execAtomXor o s
  | .atomExch o => Sys2Proof.Machine.execAtomExch o s
  | .atomFadd o => Sys2Proof.Machine.execAtomFadd o s
  | .atomFmin o => Sys2Proof.Machine.execAtomFmin o s
  | .atomFmax o => Sys2Proof.Machine.execAtomFmax o s
  | .cas o => Sys2Proof.Machine.execCas o s
  | .fence o => Sys2Proof.Machine.execFence o s
  | .acqRemote o => Sys2Proof.Machine.execAcqRemote o s
  | .mwait o => Sys2Proof.Machine.execMwait o s
  | .barr o => Sys2Proof.Machine.execBarr o s
  | .bwait o => Sys2Proof.Machine.execBwait o s
  | .btxn o => Sys2Proof.Machine.execBtxn o s
  | .bgenRead o => Sys2Proof.Machine.execBgenRead o s
  | .bgenInit o => Sys2Proof.Machine.execBgenInit o s
  | .qswap o => Sys2Proof.Machine.execQswap o s
  | .qddx o => Sys2Proof.Machine.execQddx o s
  | .qddy o => Sys2Proof.Machine.execQddy o s
  | .qbcast o => Sys2Proof.Machine.execQbcast o s
  | .wshfl o => Sys2Proof.Machine.execWshfl o s
  | .wvote o => Sys2Proof.Machine.execWvote o s
  | .wballot o => Sys2Proof.Machine.execWballot o s
  | .wred o => Sys2Proof.Machine.execWred o s
  | .wred64 o => Sys2Proof.Machine.execWred64 o s
  | .wredf o => Sys2Proof.Machine.execWredf o s
  | .wscan o => Sys2Proof.Machine.execWscan o s
  | .wscanf o => Sys2Proof.Machine.execWscanf o s
  | .wmatch o => Sys2Proof.Machine.execWmatch o s
  | .wfirst o => Sys2Proof.Machine.execWfirst o s
  | .wsyncm o => Sys2Proof.Machine.execWsyncm o s
  | .cpyT o => Sys2Proof.Machine.execCpyT o s
  | .cpyL o => Sys2Proof.Machine.execCpyL o s
  | .obres o => Sys2Proof.Machine.execObres o s
  | .obstateRead o => Sys2Proof.Machine.execObstateRead o s
  | .obstatePend o => Sys2Proof.Machine.execObstatePend o s
  | .obstateRefill o => Sys2Proof.Machine.execObstateRefill o s
  | .prset o => Sys2Proof.Machine.execPrset o s
  | .prclr o => Sys2Proof.Machine.execPrclr o s
  | .prtest o => Sys2Proof.Machine.execPrtest o s
  | .waitc o => Sys2Proof.Machine.execWaitc o s
  | .mxI8 o => Sys2Proof.Machine.execMxI8 o s
  | .mxE4 o => Sys2Proof.Machine.execMxE4 o s
  | .mxE5 o => Sys2Proof.Machine.execMxE5 o s
  | .mxH o => Sys2Proof.Machine.execMxH o s
  | .mxBf o => Sys2Proof.Machine.execMxBf o s
  | .accld o => Sys2Proof.Machine.execAccld o s
  | .accst o => Sys2Proof.Machine.execAccst o s
  | .accstNi8 o => Sys2Proof.Machine.execAccstNi8 o s
  | .alset o => Sys2Proof.Machine.execAlset o s
  | .alsetLim o => Sys2Proof.Machine.execAlsetLim o s
  | .alget o => Sys2Proof.Machine.execAlget o s
  | .diceRun o => Sys2Proof.Machine.execDiceRun o s
  | .diceBind o => Sys2Proof.Machine.execDiceBind o s
  | .patchq o => Sys2Proof.Machine.execPatchq o s
  | .gemit o => Sys2Proof.Machine.execGemit o s
  | .samp o => Sys2Proof.Machine.execSamp o s
  | .sampl o => Sys2Proof.Machine.execSampl o s
  | .sampd o => Sys2Proof.Machine.execSampd o s
  | .sampg o => Sys2Proof.Machine.execSampg o s
  | .resq o => Sys2Proof.Machine.execResq o s
  | .trace o => Sys2Proof.Machine.execTrace o s
  | .tresume o => Sys2Proof.Machine.execTresume o s
  | .taccept o => Sys2Proof.Machine.execTaccept o s
  | .tstateRead o => Sys2Proof.Machine.execTstateRead o s
  | .tstateEnd o => Sys2Proof.Machine.execTstateEnd o s
  | .rdsr o => Sys2Proof.Machine.execRdsr o s
  | .wrsr o => Sys2Proof.Machine.execWrsr o s
  | .stpred o => Sys2Proof.Machine.execStpred o s
  | .ldpred o => Sys2Proof.Machine.execLdpred o s
  | .trap o => Sys2Proof.Machine.execTrap o s
  | .bkpt o => Sys2Proof.Machine.execBkpt o s
  | .splrd o => Sys2Proof.Machine.execSplrd o s
  | .splwr o => Sys2Proof.Machine.execSplwr o s
  | .barsv o => Sys2Proof.Machine.execBarsv o s
  | .barld o => Sys2Proof.Machine.execBarld o s
  | .ctxrd o => Sys2Proof.Machine.execCtxrd o s
  | .ctxwr o => Sys2Proof.Machine.execCtxwr o s
  | .mbrecv o => Sys2Proof.Machine.execMbrecv o s
  | .mbsend o => Sys2Proof.Machine.execMbsend o s
  | .spawnRange o => Sys2Proof.Machine.execSpawnRange o s
  | .fwd o => Sys2Proof.Machine.execFwd o s
  | .dump o => Sys2Proof.Machine.execDump o s
  | .spawnTrim o => Sys2Proof.Machine.execSpawnTrim o s
  | .srgen => Sys2Proof.Machine.execSrgen s
  | .ret => Sys2Proof.Machine.execRet s
  | .rett => Sys2Proof.Machine.execRett s
  | .exit => Sys2Proof.Machine.execExit s
  | .yield => Sys2Proof.Machine.execYield s
  | .syncw => Sys2Proof.Machine.execSyncw s
  | .elect => Sys2Proof.Machine.execElect s
  | .obrel => Sys2Proof.Machine.execObrel s
  | .obstateFull => Sys2Proof.Machine.execObstateFull s
  | .accz => Sys2Proof.Machine.execAccz s
  | .diceUnbind => Sys2Proof.Machine.execDiceUnbind s
  | .patchdq => Sys2Proof.Machine.execPatchdq s
  | .wmarkRel => Sys2Proof.Machine.execWmarkRel s
  | .wmarkGlob => Sys2Proof.Machine.execWmarkGlob s
  | .wmarkDie => Sys2Proof.Machine.execWmarkDie s
  | .nop => Sys2Proof.Machine.execNop s
  | .moduleReset => Sys2Proof.Machine.execModuleReset s
  | .fwgo => Sys2Proof.Machine.execFwgo s
  | .sqtailWrite => Sys2Proof.Machine.execSqtailWrite s
  | .launch => Sys2Proof.Machine.execLaunch s
  | .frame => Sys2Proof.Machine.execFrame s
  | .endframe => Sys2Proof.Machine.execEndframe s
  | .teamClaim => Sys2Proof.Machine.execTeamClaim s
  | .rangeSteal => Sys2Proof.Machine.execRangeSteal s
  | .pick => Sys2Proof.Machine.execPick s
  | .switchMarkerResume => Sys2Proof.Machine.execSwitchMarkerResume s
  | .trapEntry => Sys2Proof.Machine.execTrapEntry s
  | .loadResultReturn => Sys2Proof.Machine.execLoadResultReturn s
  | .storePerformed => Sys2Proof.Machine.execStorePerformed s
  | .cacheEviction => Sys2Proof.Machine.execCacheEviction s
  | .teamEnd => Sys2Proof.Machine.execTeamEnd s
  | .teamFatalEnd => Sys2Proof.Machine.execTeamFatalEnd s
  | .tlbsyncWrite => Sys2Proof.Machine.execTlbsyncWrite s
  | .tlbSyncComplete => Sys2Proof.Machine.execTlbSyncComplete s
  | .fqcmdReplay => Sys2Proof.Machine.execFqcmdReplay s
  | .fqcmdCancel => Sys2Proof.Machine.execFqcmdCancel s
  | .fqcmdAck => Sys2Proof.Machine.execFqcmdAck s
  | .preqPreempt => Sys2Proof.Machine.execPreqPreempt s
  | .preqResume => Sys2Proof.Machine.execPreqResume s
  | .teamFlush => Sys2Proof.Machine.execTeamFlush s
  | .drainTimeout => Sys2Proof.Machine.execDrainTimeout s
  | .timeSlice => Sys2Proof.Machine.execTimeSlice s
  | .teamSave => Sys2Proof.Machine.execTeamSave s
  | .teamRestore => Sys2Proof.Machine.execTeamRestore s
  | .dbgcmdResume => Sys2Proof.Machine.execDbgcmdResume s
  | .dbgcmdStep => Sys2Proof.Machine.execDbgcmdStep s
  | .dbgcmdKill => Sys2Proof.Machine.execDbgcmdKill s
  | .pmTick => Sys2Proof.Machine.execPmTick s
  | .pmctlWrite => Sys2Proof.Machine.execPmctlWrite s
  | .qctlWrite => Sys2Proof.Machine.execQctlWrite s
  | .clockChange => Sys2Proof.Machine.execClockChange s
  | .thermalThrottle => Sys2Proof.Machine.execThermalThrottle s
  | .bskcmdSpill => Sys2Proof.Machine.execBskcmdSpill s
  | .bskcmdReturn => Sys2Proof.Machine.execBskcmdReturn s
  | .ownmove => Sys2Proof.Machine.execOwnmove s
  | .tileHandoff => Sys2Proof.Machine.execTileHandoff s
  | .registerWrite => Sys2Proof.Machine.execRegisterWrite s
  | .hostMemoryAccess => Sys2Proof.Machine.execHostMemoryAccess s
  | .copyLineArrival => Sys2Proof.Machine.execCopyLineArrival s
  | .copyComplete => Sys2Proof.Machine.execCopyComplete s
  | .shuttleOpPerform => Sys2Proof.Machine.execShuttleOpPerform s
  | .mxStart => Sys2Proof.Machine.execMxStart s
  | .mxFinish => Sys2Proof.Machine.execMxFinish s
  | .mangleOpPerform => Sys2Proof.Machine.execMangleOpPerform s
  | .textureComplete => Sys2Proof.Machine.execTextureComplete s
  | .rayReturn => Sys2Proof.Machine.execRayReturn s
  | .shearsDelivery => Sys2Proof.Machine.execShearsDelivery s
  | .gemitRetire => Sys2Proof.Machine.execGemitRetire s
  | .watermarkDelivery => Sys2Proof.Machine.execWatermarkDelivery s
  | .gridCopyArrival => Sys2Proof.Machine.execGridCopyArrival s
  | .copySampling => Sys2Proof.Machine.execCopySampling s
  | .mwaitWake => Sys2Proof.Machine.execMwaitWake s
  | .commitTokenPass => Sys2Proof.Machine.execCommitTokenPass s
  | .badpacket => Sys2Proof.Machine.execBadpacket s
  | .mailboxPacketFromHost => Sys2Proof.Machine.execMailboxPacketFromHost s
  | .eqtailWrite => Sys2Proof.Machine.execEqtailWrite s
  | .hostBarAssignment => Sys2Proof.Machine.execHostBarAssignment s
  | .pageWalkComplete => Sys2Proof.Machine.execPageWalkComplete s

end Sys2Proof.Machine
end

