-- ==== Sys2Proof/Machine/Step.lean ====
section
/-! DEFINITION. Sys2Proof/Machine/Step.lean: one step of the module: clocks pass, then one turn is taken. -/

namespace Sys2Proof.Machine

/-- The step (R40, R188; log 2, log 3). -/
def step (s : State) : Host.Outcome State Fault Refusal := s.tick.takeTurn exec

/-- The instruction of `nbits` table bits `w` placed in a bundle in flight whose turn is next (log 27). -/
def State.withFetchWord (s : State) (_nbits w : Nat) : State := s.placeWord (BitVec.ofNat 64 w)

end Sys2Proof.Machine
end

