-- ==== Sys2Proof/Safety.lean ====
section
/-! DEFINITION. Sys2Proof/Safety.lean: what a safe step and a sound state are, and the words in which the statements about
the machine are written. -/

namespace Sys2Proof.Machine

/-- A step is safe when it stops neither with a fault nor with a refusal. -/
def safeStep (s : State) : Prop := ∃ t, step s = .next t

/-- Memory, the firmware store and every team's scratchpad stand in canonical form. -/
def State.memOk (s : State) : Bool := s.mem.wf && s.teams.all fun t => cellsWf t.spad

/-! ### A state but for where its lanes stand -/

/-- A lane without its PC and its waits: an arrival, a BWAIT's target, and the mark that wakes its monitor. -/
def Lane.still (l : Lane) : Lane :=
  { l with clause := 0, idx := 0, arrival := none, target := none, mon := l.mon.map fun m => { m with woken := false } }

/-- A wave without its split table (R178). -/
def Wave.still (w : Wave) : Wave := { w with entries := [], lanes := w.lanes.map Lane.still }

/-- A team without its count of retired clauses (R447). -/
def Team.still (t : Team) : Team := { t with waves := t.waves.map Wave.still, retc := 0 }

/-- Everything but where the lanes stand and what they wait for: the PCs, the split tables, the bundles and the retired clauses
are left out. Two
states with equal `still` agree on every register, predicate, flag, counter, byte of memory, unit and outstanding operation. -/
def State.still (s : State) : State := { s with teams := s.teams.map Team.still, bundles := [], issue := none }

/-- Nothing beside the word acts at its end: no die has a debugger attached (R476), no lane is single-stepped (R482), and no
lane waits to become a helper or to cease being one (R377). -/
structure State.Quiet (s : State) : Prop where
  debug : ∀ d ∈ s.dies, d.dbgctl.toNat % 4 = 0
  step : ∀ t ∈ s.teams, t.step = none
  bind : ∀ t ∈ s.teams, ∀ w ∈ t.waves, ∀ l ∈ w.lanes, l.pend = none

/-- A word issues and nothing beside it acts at its end. -/
structure State.Ready (s : State) : Prop extends s.Quiet where
  issues : s.issue.isSome = true

/-- The word completes, and its next state is the one to which NOP leads from `u`: NOP moves the lanes on (R40, R144) and does
nothing else, so the word has `u`'s changes and no other. -/
def Ends (i : Instr) (s u : State) : Prop := ∃ t, exec i s = .next t ∧ exec .nop u = .next t

/-- The instruction completes in the state `t`. -/
abbrev Gives (i : Instr) (s t : State) : Prop := exec i s = .next t

/-- Every access passes its checks, its place being `f` of it; none is governed by a commit token, none lies on a scratchpad line
whose presence bit is clear, none reads a hub register that a store of its lane has still to write, and none touches bytes that an
ACCLD or ACCST of its lane has still to read or write. -/
structure State.Grants (s : State) (asks : List Ask) (f : Ask → Target) : Prop where
  checks : ∀ a ∈ asks, s.check a.r.team a.va a.n a.al a.need false = .ok (f a)
  free : ∀ a ∈ asks, s.governed a = false
  present : ∀ a ∈ asks, s.absentAt (f a) a.n = none
  settled : ∀ a ∈ asks, s.ownHubStore a (f a) = false
  apart : ∀ a ∈ asks, s.tileClash a.r (f a) a.n a.writes = false

/-- No store is outstanding, an ACCST among them. -/
def State.NoStores (s : State) : Prop := ∀ x ∈ s.ops, (∀ l, x.body ≠ .store l) ∧ ∀ j, x.tileJob = some j → j.stores = false

/-- A lane's access by a word of format FM: 2^SZ bytes at the base and the offset (R94, R135). -/
def State.askOf (s : State) (o : FM) (need : Nat) (atomic : Bool) (r : Ref) : Ask :=
  { r, va := s.src64 r o.base + o.off.signExtend 64, n := 2 ^ o.sz.toNat, al := 2 ^ o.sz.toNat, need, atomic }

/-- The word issues for one entry, whose lowest active lane that is no helper is `r` (R201, R203). -/
structure State.Alone (s : State) (m : Member) (r : Ref) : Prop where
  members : s.bundle.members = [m]
  leads : (s.activeOf m).find? (fun q => !((s.lane q).helper || (s.lane q).bound)) = some r

/-- Lanes that return one after another; none when a lane meets a cause (R129, R60). -/
def popEach {α : Type} (f : State → Ref → State × Except Bad α) : State → List Ref → Option (State × List (Ref × α))
  | s, [] => some (s, [])
  | s, r :: rs =>
    match f s r with
    | (u, .ok a) => (popEach f u rs).map fun p => (p.1, (r, a) :: p.2)
    | (_, .error _) => none

/-! ### Effects on lanes -/

/-- The value that an effect writes to a register. -/
def Eff.reg (e : Eff) (k : Nat) : Option Word := (e.regs.reverse.find? fun x => x.1 == k).map (·.2)

/-- The value that an effect writes to a predicate. -/
def Eff.pred (e : Eff) (k : Nat) : Option Bool := (e.preds.reverse.find? fun x => x.1 == k).map (·.2)

/-- The lane exists. -/
abbrev State.has (s : State) (r : Ref) : Prop :=
  r.team < s.teams.length ∧ r.wave < (s.team r.team).waves.length ∧ r.lane < (s.wave r.team r.wave).lanes.length

/-- Every active lane has latched the high halves of the special registers that its word reads (R24). -/
def State.latched (s : State) (srcs : List (BitVec 8)) : State :=
  s.active.foldl (fun s r => srcs.foldl (fun s x => s.latchRead r x.toNat) s) s

/-- Every active lane has the effect `f` gives it (R21, R41, R42). -/
def State.gives (s : State) (srcs : List (BitVec 8)) (f : Ref → Eff) : State :=
  (s.latched srcs).applyAll (s.active.map fun r => (r, f r))

/-- Every active lane has the effect that `f` computes from the active lanes of its entry (R201). -/
def State.givesEach (s : State) (srcs : List (BitVec 8)) (f : List Ref → Ref → Eff) : State :=
  (s.latched srcs).applyAll (s.bundle.members.flatMap fun m => (s.activeOf m).map fun r => (r, f (s.activeOf m) r))

/-- F3 with a 32-bit source a: its effect on every active lane. -/
def State.with1 (s : State) (o : F3) (ta : ETy) (f : Word → Eff) : State := s.gives [o.ra] fun r => f (s.src r ta o.ra o.ea)

/-- F3 with 32-bit sources a and b. -/
def State.with2 (s : State) (o : F3) (ta tb : ETy) (f : Word → Word → Eff) : State :=
  s.gives [o.ra, o.rb] fun r => f (s.src r ta o.ra o.ea) (s.src r tb o.rb o.eb)

/-- F3 with 32-bit sources a, b and c. -/
def State.with3 (s : State) (o : F3) (ta tb tc : ETy) (f : Word → Word → Word → Eff) : State :=
  s.gives [o.ra, o.rb, o.rc] fun r => f (s.src r ta o.ra o.ea) (s.src r tb o.rb o.eb) (s.src r tc o.rc o.ec)

/-- FI with a 32-bit source a and the immediate. -/
def State.withI (s : State) (o : FI) (ta tb : ETy) (f : Word → Word → Eff) : State :=
  s.gives [o.ra] fun r => f (s.src r ta o.ra o.ea) (immOf tb o.imm)

/-- F3 with sources a and b that are pairs. -/
def State.with64 (s : State) (o : F3) (f : DWord → DWord → Eff) : State :=
  s.gives [] fun r => f (s.src64 r o.ra) (s.src64 r o.rb)

/-- FI with a source a that is a pair, and the immediate sign-extended to 64 bits. -/
def State.with64I (s : State) (o : FI) (f : DWord → DWord → Eff) : State :=
  s.gives [] fun r => f (s.src64 r o.ra) (o.imm.signExtend 64)

/-- An exact integer saturated to a signed type of `w` bits (R62). -/
def satTo (w : Nat) (x : Int) : BitVec w := BitVec.ofInt w (max (-2 ^ (w - 1)) (min (2 ^ (w - 1) - 1) x))

/-- A lane without what an effect may change. -/
def Lane.bare (l : Lane) : Lane :=
  { l with g := [], p := 0, flags := 0, gen := 0, latchClock := none, latchGtime := none, latchSeed := none, latchSp := none }

/-- A wave without registers that an effect may change. -/
def Wave.bare (w : Wave) : Wave := { w with w := [], lanes := w.lanes.map Lane.bare }

/-- Everything but the lanes' registers, predicates, flags, generators and latches. -/
def State.bare (s : State) : State := { s with teams := s.teams.map fun t => { t with waves := t.waves.map Wave.bare } }

end Sys2Proof.Machine
end

