-- ==== Sys2Proof/Certificates/Slice0/Obligations.lean ====
section
/-! DEFINITION. Sys2Proof/Certificates/Slice0/Obligations.lean: what is claimed of the machine. -/

open Sys2Proof Sys2Proof.Machine



/-- R118 (IADD to MOV) and R92: the 32-bit integer words, in the register and the immediate form, deliver the exact result
modulo 2^32, or saturated under .sat. R118 (the words on pairs) and R120 (MOVK). -/
def Obligations.IntegerWords : Prop :=
  (∀ s : State, s.Ready → ∀ (o : F3) (i : FI),
    Ends (.iadd o) s (s.with2 o .i32 .i32 fun a b => effReg o.rd (if o.x then satTo 32 (a.toInt + b.toInt) else a + b)) ∧
    Ends (.iaddImm i) s (s.withI i .i32 .i32 fun a b => effReg i.rd (if i.x then satTo 32 (a.toInt + b.toInt) else a + b)) ∧
    Ends (.isub o) s (s.with2 o .i32 .i32 fun a b => effReg o.rd (if o.x then satTo 32 (a.toInt - b.toInt) else a - b)) ∧
    Ends (.isubImm i) s (s.withI i .i32 .i32 fun a b => effReg i.rd (if i.x then satTo 32 (a.toInt - b.toInt) else a - b)) ∧
    Ends (.imul o) s (s.with2 o .i32 .i32 fun a b => effReg o.rd (if o.x then satTo 32 (a.toInt * b.toInt) else a * b)) ∧
    Ends (.imulImm i) s (s.withI i .i32 .i32 fun a b => effReg i.rd (if i.x then satTo 32 (a.toInt * b.toInt) else a * b)) ∧
    Ends (.imad o) s (s.with3 o .i32 .i32 .i32 fun a b c =>
      effReg o.rd (if o.x then satTo 32 (a.toInt * b.toInt + c.toInt) else a * b + c)) ∧
    Ends (.iabs o) s (s.with1 o .i32 fun a => effReg o.rd (if o.x then satTo 32 |a.toInt| else if a.msb then -a else a)) ∧
    Ends (.ineg o) s (s.with1 o .i32 fun a => effReg o.rd (if o.x then satTo 32 (-a.toInt) else -a)) ∧
    Ends (.and o) s (s.with2 o .i32 .i32 fun a b => effReg o.rd (a &&& b)) ∧
    Ends (.andImm i) s (s.withI i .i32 .i32 fun a b => effReg i.rd (a &&& b)) ∧
    Ends (.or o) s (s.with2 o .i32 .i32 fun a b => effReg o.rd (a ||| b)) ∧
    Ends (.orImm i) s (s.withI i .i32 .i32 fun a b => effReg i.rd (a ||| b)) ∧
    Ends (.xor o) s (s.with2 o .i32 .i32 fun a b => effReg o.rd (a ^^^ b)) ∧
    Ends (.xorImm i) s (s.withI i .i32 .i32 fun a b => effReg i.rd (a ^^^ b)) ∧
    Ends (.not o) s (s.with1 o .i32 fun a => effReg o.rd (~~~a)) ∧
    Ends (.mov o) s (s.with1 o .i32 fun a => effReg o.rd a) ∧
    Ends (.movImm i) s (s.gives [] fun _ => effReg i.rd (i.imm.signExtend 32))) ∧
  ∀ s : State, s.Ready → ∀ (o : F3) (i : FI) (k : FK),
    Ends (.iadd64 o) s (s.with64 o fun a b => effPair o.rd (if o.x then satTo 64 (a.toInt + b.toInt) else a + b)) ∧
    Ends (.iadd64Imm i) s (s.with64I i fun a b => effPair i.rd (if i.x then satTo 64 (a.toInt + b.toInt) else a + b)) ∧
    Ends (.isub64 o) s (s.with64 o fun a b => effPair o.rd (if o.x then satTo 64 (a.toInt - b.toInt) else a - b)) ∧
    Ends (.isub64Imm i) s (s.with64I i fun a b => effPair i.rd (if i.x then satTo 64 (a.toInt - b.toInt) else a - b)) ∧
    Ends (.imul64 o) s (s.with64 o fun a b => effPair o.rd (a * b)) ∧
    Ends (.imul64Imm i) s (s.with64I i fun a b => effPair i.rd (a * b)) ∧
    Ends (.imad64 o) s (s.gives [] fun r => effPair o.rd (s.src64 r o.ra * s.src64 r o.rb + s.src64 r o.rc)) ∧
    Ends (.movk k) s (s.gives [] fun _ => effReg k.rd k.imm) ∧
    Ends (.movk64 k) s (s.gives [] fun _ => effPair k.rd (k.imm.signExtend 64))

/-- R118 (IMULH, IMIN, IMAX) and R119 (IDIV, IREM): the words whose operands .uns reads as unsigned. -/
def Obligations.SignedOrUnsignedWords : Prop :=
  ∀ s : State, s.Ready → ∀ (o : F3) (i : FI),
    let high := fun (u : Bool) (a b : Word) =>
      if u then (a.setWidth 64 * b.setWidth 64).extractLsb' 32 32 else (a.signExtend 64 * b.signExtend 64).extractLsb' 32 32
    let quot := fun (u : Bool) (a b : Word) => if b = 0 then 0xFFFFFFFF else if u then a / b else a.sdiv b
    let rem := fun (u : Bool) (a b : Word) => if b = 0 then a else if u then a % b else a.srem b
    let less := fun (u : Bool) (a b : Word) => if u then a.ult b else a.slt b
    Ends (.imulh o) s (s.with2 o .i32 .i32 fun a b => effReg o.rd (high o.x a b)) ∧
    Ends (.imulhImm i) s (s.withI i .i32 .i32 fun a b => effReg i.rd (high i.x a b)) ∧
    Ends (.idiv o) s (s.with2 o .i32 .i32 fun a b => effReg o.rd (quot o.x a b)) ∧
    Ends (.idivImm i) s (s.withI i .i32 .i32 fun a b => effReg i.rd (quot i.x a b)) ∧
    Ends (.irem o) s (s.with2 o .i32 .i32 fun a b => effReg o.rd (rem o.x a b)) ∧
    Ends (.iremImm i) s (s.withI i .i32 .i32 fun a b => effReg i.rd (rem i.x a b)) ∧
    Ends (.imin o) s (s.with2 o .i32 .i32 fun a b => effReg o.rd (if less o.x b a then b else a)) ∧
    Ends (.iminImm i) s (s.withI i .i32 .i32 fun a b => effReg i.rd (if less i.x b a then b else a)) ∧
    Ends (.imax o) s (s.with2 o .i32 .i32 fun a b => effReg o.rd (if less o.x a b then b else a)) ∧
    Ends (.imaxImm i) s (s.withI i .i32 .i32 fun a b => effReg i.rd (if less i.x a b then b else a))

/-- R121: shifts, rotations, bit fields and bit counts. R122 (PADD8, PADD16) and R121 (PDOT4, PDOT8): packed integers. -/
def Obligations.BitWords : Prop :=
  (∀ s : State, s.Ready → ∀ (o : F3) (i : FI),
    let right := fun (sgn : Bool) (a b : Word) =>
      if sgn then a.sshiftRight (b.extractLsb' 0 8).toNat else a >>> (b.extractLsb' 0 8).toNat
    let width := fun (off w : Nat) => min w (32 - off)
    let field := fun (a : Word) (off w : Nat) => a.toNat / 2 ^ off % 2 ^ width off w
    let extract := fun (sgn : Bool) (a b : Word) =>
      let off := (b.extractLsb' 0 5).toNat
      let w := (b.extractLsb' 8 6).toNat
      if w = 0 then 0
      else if sgn && (a.getLsbD (off + width off w - 1)) then BitVec.ofInt 32 ((field a off w : Int) - 2 ^ width off w)
      else BitVec.ofNat 32 (field a off w)
    Ends (.shl o) s (s.with2 o .i32 .i32 fun a b => effReg o.rd (a <<< (b.extractLsb' 0 8).toNat)) ∧
    Ends (.shlImm i) s (s.withI i .i32 .i32 fun a b => effReg i.rd (a <<< (b.extractLsb' 0 8).toNat)) ∧
    Ends (.shr o) s (s.with2 o .i32 .i32 fun a b => effReg o.rd (right o.x a b)) ∧
    Ends (.shrImm i) s (s.withI i .i32 .i32 fun a b => effReg i.rd (right i.x a b)) ∧
    Ends (.rol o) s (s.with2 o .i32 .i32 fun a b => effReg o.rd (a.rotateLeft (b.extractLsb' 0 5).toNat)) ∧
    Ends (.rolImm i) s (s.withI i .i32 .i32 fun a b => effReg i.rd (a.rotateLeft (b.extractLsb' 0 5).toNat)) ∧
    Ends (.bfe o) s (s.with2 o .i32 .i32 fun a b => effReg o.rd (extract o.x a b)) ∧
    Ends (.bfeImm i) s (s.withI i .i32 .i32 fun a b => effReg i.rd (extract i.x a b)) ∧
    Ends (.bfi o) s (s.with3 o .i32 .i32 .i32 fun a b c => effReg o.rd (BitVec.ofFnLE fun k : Fin 32 =>
      let off := (c.extractLsb' 0 5).toNat
      if off ≤ k ∧ k < off + (c.extractLsb' 8 6).toNat then b.getLsbD (k - off) else a.getLsbD k)) ∧
    Ends (.popc o) s (s.with1 o .i32 fun a => effReg o.rd (BitVec.ofNat 32 ((List.range 32).countP fun k => a.getLsbD k))) ∧
    Ends (.clz o) s (s.with1 o .i32 fun a => effReg o.rd
      (if o.x then (if a.getLsbD 31 then ~~~a else a).clz - 1 else a.clz)) ∧
    Ends (.brev o) s (s.with1 o .i32 fun a => effReg o.rd a.reverse) ∧
    Ends (.shf o) s (s.with3 o .i32 .i32 .i32 fun a b c => effReg o.rd (BitVec.ofNat 32
      ((b.toNat * 2 ^ 32 + a.toNat) / 2 ^ (c.toNat % 64)))) ∧
    Ends (.bmsk o) s (s.with2 o .i32 .i32 fun a b => effReg o.rd (BitVec.ofFnLE fun k : Fin 32 =>
      decide ((a.extractLsb' 0 5).toNat ≤ k ∧ k < (a.extractLsb' 0 5).toNat + (b.extractLsb' 0 8).toNat))) ∧
    Ends (.bmskImm i) s (s.withI i .i32 .i32 fun a b => effReg i.rd (BitVec.ofFnLE fun k : Fin 32 =>
      decide ((a.extractLsb' 0 5).toNat ≤ k ∧ k < (a.extractLsb' 0 5).toNat + (b.extractLsb' 0 8).toNat)))) ∧
  ∀ s : State, s.Ready → ∀ (o : F3) (i : FI),
    let sum := fun (w : Nat) (sub sat usat : Bool) (a b : BitVec w) =>
      if !sat then (if sub then a - b else a + b)
      else if usat then BitVec.ofInt w (max 0 (min (2 ^ w - 1) (if sub then (a.toNat : Int) - b.toNat else a.toNat + b.toNat)))
      else satTo w (if sub then a.toInt - b.toInt else a.toInt + b.toInt)
    let bytes := fun (f : BitVec 8 → BitVec 8 → BitVec 8) (a b : Word) =>
      f (a.extractLsb' 24 8) (b.extractLsb' 24 8) ++ f (a.extractLsb' 16 8) (b.extractLsb' 16 8) ++
        f (a.extractLsb' 8 8) (b.extractLsb' 8 8) ++ f (a.extractLsb' 0 8) (b.extractLsb' 0 8)
    let halves := fun (f : BitVec 16 → BitVec 16 → BitVec 16) (a b : Word) =>
      f (a.extractLsb' 16 16) (b.extractLsb' 16 16) ++ f (a.extractLsb' 0 16) (b.extractLsb' 0 16)
    let dot := fun (w : Nat) (uns : Bool) (a b c : Word) =>
      let e := fun (v : Word) (k : Nat) => if uns then (v.extractLsb' (w * k) w).setWidth 32 else (v.extractLsb' (w * k) w).signExtend 32
      (List.range (32 / w)).foldl (fun acc k => acc + e a k * e b k) c
    Ends (.padd8 o) s (s.with2 o .i8 .i8 fun a b => effReg o.rd (bytes (sum 8 (o.rc.getLsbD 0) o.x (o.rc.getLsbD 1)) a b)) ∧
    Ends (.padd8Imm i) s (s.withI i .i8 .i8 fun a b => effReg i.rd (bytes (sum 8 false i.x false) a b)) ∧
    Ends (.padd16 o) s (s.with2 o .i16 .i16 fun a b => effReg o.rd (halves (sum 16 (o.rc.getLsbD 0) o.x (o.rc.getLsbD 1)) a b)) ∧
    Ends (.padd16Imm i) s (s.withI i .i16 .i16 fun a b => effReg i.rd (halves (sum 16 false i.x false) a b)) ∧
    Ends (.pdot4 o) s (s.with3 o .i8 .i8 .i32 fun a b c => effReg o.rd (dot 8 o.x a b c)) ∧
    Ends (.pdot8 o) s (s.with3 o .i4 .i4 .i32 fun a b c => effReg o.rd (dot 4 o.x a b c))

/-- R123: BPX gathers bit j of each byte into nibble j, byte 0 lowest, and BPI is its inverse. Nibble j of sixteen results, in
order, is plane j of sixty-four bytes. The rule's example. -/
def Obligations.BitPlaneWords : Prop :=
  let bpx := fun (a : Word) => (BitVec.ofFnLE fun i : Fin 32 => a.getLsbD (8 * (i % 4) + i / 4) : Word)
  let bpi := fun (a : Word) => (BitVec.ofFnLE fun i : Fin 32 => a.getLsbD (4 * (i % 8) + i / 8) : Word)
  (∀ s : State, s.Ready → ∀ o : F3,
    Ends (.bpx o) s (s.with1 o .i32 fun a => effReg o.rd (bpx a)) ∧
    Ends (.bpi o) s (s.with1 o .i32 fun a => effReg o.rd (bpi a))) ∧
  (∀ a : Word, bpi (bpx a) = a ∧ bpx (bpi a) = a) ∧
  (∀ (x : Fin 16 → Word) (j : Fin 8) (i : Fin 64),
    (bpx (x ⟨i / 4, by omega⟩)).getLsbD (4 * j + i % 4) = (x ⟨i / 4, by omega⟩).getLsbD (8 * (i % 4) + j)) ∧
  bpx 0x01020304 = 0x16A ∧ bpi 0x16A = 0x01020304

/-- R150 to R152 with R146 and R148: the binary32 words round once, in the mode and with the draw that the word names. That
FSCALE.sat of an infinity delivers the largest finite magnitude is the model's choice (log 80). -/
def Obligations.Float32Words : Prop :=
  ∀ s : State, s.Ready → ∀ (o : F3) (i : FI),
    Ends (.fadd o) s (s.gives [o.ra, o.rb] fun r =>
        let a := f32Val (s.src r .f32 o.ra o.ea).toNat
        let b := f32Val (s.src r .f32 o.rb o.eb).toNat
        effRound o.rd (modeOf o.rc) o.x (s.lane r).gen (addE (modeOf o.rc) a b)) ∧
    Ends (.faddImm i) s (s.withI i .f32 .f32 fun a b => effRound i.rd 0 i.x 0 (addE 0 (f32Val a.toNat) (f32Val b.toNat))) ∧
    Ends (.fsub o) s (s.gives [o.ra, o.rb] fun r =>
        let a := f32Val (s.src r .f32 o.ra o.ea).toNat
        let b := f32Val (s.src r .f32 o.rb o.eb).toNat
        effRound o.rd (modeOf o.rc) o.x (s.lane r).gen (addE (modeOf o.rc) a b.negate)) ∧
    Ends (.fsubImm i) s (s.withI i .f32 .f32 fun a b => effRound i.rd 0 i.x 0 (addE 0 (f32Val a.toNat) (f32Val b.toNat).negate)) ∧
    Ends (.fmul o) s (s.gives [o.ra, o.rb] fun r =>
        let a := f32Val (s.src r .f32 o.ra o.ea).toNat
        let b := f32Val (s.src r .f32 o.rb o.eb).toNat
        effRound o.rd (modeOf o.rc) o.x (s.lane r).gen (mulE a b)) ∧
    Ends (.fmulImm i) s (s.withI i .f32 .f32 fun a b => effRound i.rd 0 i.x 0 (mulE (f32Val a.toNat) (f32Val b.toNat))) ∧
    Ends (.ffma o) s (s.with3 o .f32 .f32 .f32 fun a b c => effRound o.rd 0 o.x 0 (fmaE 0 (f32Val a.toNat) (f32Val b.toNat) (f32Val c.toNat))) ∧
    Ends (.ffms o) s (s.with3 o .f32 .f32 .f32 fun a b c =>
      effRound o.rd 0 o.x 0 (fmaE 0 (f32Val a.toNat) (f32Val b.toNat) (f32Val c.toNat).negate)) ∧
    Ends (.fmin o) s (s.with2 o .f32 .f32 fun a b => effFlag o.rd (minMaxNum Fmt.b32 false a.toNat b.toNat)) ∧
    Ends (.fminImm i) s (s.withI i .f32 .f32 fun a b => effFlag i.rd (minMaxNum Fmt.b32 false a.toNat b.toNat)) ∧
    Ends (.fmax o) s (s.with2 o .f32 .f32 fun a b => effFlag o.rd (minMaxNum Fmt.b32 true a.toNat b.toNat)) ∧
    Ends (.fmaxImm i) s (s.withI i .f32 .f32 fun a b => effFlag i.rd (minMaxNum Fmt.b32 true a.toNat b.toNat)) ∧
    Ends (.fabs o) s (s.with1 o .f32 fun a => effReg o.rd (a &&& 0x7FFFFFFF)) ∧
    Ends (.fneg o) s (s.with1 o .f32 fun a => effReg o.rd (a ^^^ 0x80000000)) ∧
    Ends (.fcpys o) s (s.with2 o .f32 .f32 fun a b => effReg o.rd (a &&& 0x7FFFFFFF ||| b &&& 0x80000000)) ∧
    Ends (.fcpysImm i) s (s.withI i .f32 .f32 fun a b => effReg i.rd (a &&& 0x7FFFFFFF ||| b &&& 0x80000000)) ∧
    Ends (.fdiv o) s (s.gives [o.ra, o.rb] fun r =>
        let a := f32Val (s.src r .f32 o.ra o.ea).toNat
        let b := f32Val (s.src r .f32 o.rb o.eb).toNat
        effRound o.rd (modeOf o.rc) o.x (s.lane r).gen (divE a b)) ∧
    Ends (.fdivImm i) s (s.withI i .f32 .f32 fun a b => effRound i.rd 0 i.x 0 (divE (f32Val a.toNat) (f32Val b.toNat))) ∧
    Ends (.fsqrt o) s (s.gives [o.ra] fun r => effRound o.rd (modeOf o.rc) false (s.lane r).gen (sqrtE (f32Val (s.src r .f32 o.ra o.ea).toNat))) ∧
    Ends (.frnd o) s (s.gives [o.ra] fun r =>
        let (v, g) := frndDraw Fmt.b32 (modeOf o.rc) (s.lane r).gen (s.src r .f32 o.ra o.ea).toNat
        { effFlag o.rd v with gen := if isSR (modeOf o.rc) then some g else none }) ∧
    Ends (.ffrac o) s (s.with1 o .f32 fun a => effFlag o.rd (ffrac a.toNat)) ∧
    Ends (.fscale o) s (s.gives [o.ra, o.rb] fun r =>
        effRound o.rd (modeOf o.rc) o.x (s.lane r).gen
          (scaleE (f32Val (s.src r .f32 o.ra o.ea).toNat) (s.src r .i32 o.rb o.eb).toInt)) ∧
    Ends (.fscaleImm i) s (s.withI i .f32 .i32 fun a b => effRound i.rd 0 i.x 0 (scaleE (f32Val a.toNat) b.toInt)) ∧
    Ends (.fclamp o) s (s.with3 o .f32 .f32 .f32 fun a b c => effFlag o.rd (clampNum Fmt.b32 a.toNat b.toNat c.toNat)) ∧
    Ends (.fsat o) s (s.with1 o .f32 fun a => effFlag o.rd (clampNum Fmt.b32 a.toNat 0 f32One))

/-- R153: the words on packed binary16 or BF16 elements. -/
def Obligations.Float16Words : Prop :=
  ∀ s : State, s.Ready → ∀ (o : F3) (i : FI),
    Ends (.hadd o) s (s.gives [o.ra, o.rb] fun r =>
        let F := fmt16 o.x
        let a := s.src r (f16 o.x) o.ra o.ea
        let b := s.src r (f16 o.x) o.rb o.eb
        effHalves o.rd (isSR (modeOf o.rc)) (s.lane r).gen fun g k =>
          rounded F (modeOf o.rc) false g (addE (modeOf o.rc) (halfVal F a k) (halfVal F b k))) ∧
    Ends (.haddImm i) s (s.withI i (f16 i.x) (f16 i.x) fun a b =>
        let F := fmt16 i.x
        effHalves i.rd false 0 fun g k => rounded F 0 false g (addE 0 (halfVal F a k) (halfVal F b k))) ∧
    Ends (.hsub o) s (s.gives [o.ra, o.rb] fun r =>
        let F := fmt16 o.x
        let a := s.src r (f16 o.x) o.ra o.ea
        let b := s.src r (f16 o.x) o.rb o.eb
        effHalves o.rd (isSR (modeOf o.rc)) (s.lane r).gen fun g k =>
          rounded F (modeOf o.rc) false g (addE (modeOf o.rc) (halfVal F a k) (halfVal F b k).negate)) ∧
    Ends (.hsubImm i) s (s.withI i (f16 i.x) (f16 i.x) fun a b =>
        let F := fmt16 i.x
        effHalves i.rd false 0 fun g k => rounded F 0 false g (addE 0 (halfVal F a k) (halfVal F b k).negate)) ∧
    Ends (.hmul o) s (s.gives [o.ra, o.rb] fun r =>
        let F := fmt16 o.x
        let a := s.src r (f16 o.x) o.ra o.ea
        let b := s.src r (f16 o.x) o.rb o.eb
        effHalves o.rd (isSR (modeOf o.rc)) (s.lane r).gen fun g k =>
          rounded F (modeOf o.rc) false g (mulE (halfVal F a k) (halfVal F b k))) ∧
    Ends (.hmulImm i) s (s.withI i (f16 i.x) (f16 i.x) fun a b =>
        let F := fmt16 i.x
        effHalves i.rd false 0 fun g k => rounded F 0 false g (mulE (halfVal F a k) (halfVal F b k))) ∧
    Ends (.hfma o) s (s.with3 o (f16 o.x) (f16 o.x) (f16 o.x) fun a b c =>
        let F := fmt16 o.x
        effHalves o.rd false 0 fun g k => rounded F 0 false g (fmaE 0 (halfVal F a k) (halfVal F b k) (halfVal F c k))) ∧
    Ends (.hfms o) s (s.with3 o (f16 o.x) (f16 o.x) (f16 o.x) fun a b c =>
        let F := fmt16 o.x
        effHalves o.rd false 0 fun g k => rounded F 0 false g (fmaE 0 (halfVal F a k) (halfVal F b k) (halfVal F c k).negate)) ∧
    Ends (.hmin o) s (s.with2 o (f16 o.x) (f16 o.x) fun a b => effEach o.rd fun k => minMaxNum (fmt16 o.x) false (elem 16 a k) (elem 16 b k)) ∧
    Ends (.hminImm i) s (s.withI i (f16 i.x) (f16 i.x) fun a b => effEach i.rd fun k => minMaxNum (fmt16 i.x) false (elem 16 a k) (elem 16 b k)) ∧
    Ends (.hmax o) s (s.with2 o (f16 o.x) (f16 o.x) fun a b => effEach o.rd fun k => minMaxNum (fmt16 o.x) true (elem 16 a k) (elem 16 b k)) ∧
    Ends (.hmaxImm i) s (s.withI i (f16 i.x) (f16 i.x) fun a b => effEach i.rd fun k => minMaxNum (fmt16 i.x) true (elem 16 a k) (elem 16 b k)) ∧
    Ends (.habs o) s (s.with1 o (f16 o.x) fun a => effReg o.rd (a &&& 0x7FFF7FFF)) ∧
    Ends (.hneg o) s (s.with1 o (f16 o.x) fun a => effReg o.rd (a ^^^ 0x80008000)) ∧
    Ends (.hcpys o) s (s.with2 o (f16 o.x) (f16 o.x) fun a b => effReg o.rd (a &&& 0x7FFF7FFF ||| b &&& 0x80008000)) ∧
    Ends (.hcpysImm i) s (s.withI i (f16 i.x) (f16 i.x) fun a b => effReg i.rd (a &&& 0x7FFF7FFF ||| b &&& 0x80008000)) ∧
    Ends (.hdot2 o) s (s.with3 o (f16 o.x) (f16 o.x) .f32 fun a b c =>
        let F := fmt16 o.x
        effRound o.rd 0 false 0 (dot2E (halfVal F a 0) (halfVal F b 0) (halfVal F a 1) (halfVal F b 1) (f32Val c.toNat))) ∧
    Ends (.hrnd o) s (s.gives [o.ra] fun r =>
        let a := s.src r (f16 o.x) o.ra o.ea
        effHalves o.rd (isSR (modeOf o.rc)) (s.lane r).gen fun g k => frndDraw (fmt16 o.x) (modeOf o.rc) g (elem 16 a k)) ∧
    Ends (.hscale o) s (s.gives [o.ra, o.rb] fun r =>
        let F := fmt16 o.x
        let a := s.src r (f16 o.x) o.ra o.ea
        let b := s.src r .i16 o.rb o.eb
        effHalves o.rd (isSR (modeOf o.rc)) (s.lane r).gen fun g k =>
          rounded F (modeOf o.rc) false g (scaleE (halfVal F a k) (sextOf (elem 16 b k) 16))) ∧
    Ends (.hscaleImm i) s (s.withI i (f16 i.x) .i16 fun a b =>
        let F := fmt16 i.x
        effHalves i.rd false 0 fun g k => rounded F 0 false g (scaleE (halfVal F a k) (sextOf (elem 16 b k) 16))) ∧
    Ends (.hclamp o) s (s.with3 o (f16 o.x) (f16 o.x) (f16 o.x) fun a b c =>
        effEach o.rd fun k => clampNum (fmt16 o.x) (elem 16 a k) (elem 16 b k) (elem 16 c k))

/-- R154 to R165: conversions, block helpers, frozen transcendentals, filtering, the rounding of bounds, and the generator. That
F8F reads an inline constant as an 8-bit integer is the model's reading (log 18). -/
def Obligations.ConversionWords : Prop :=
  ∀ s : State, s.Ready → ∀ (o : F3),
    Ends (.f2f o) s (s.gives [o.ra, o.rb] fun r =>
        let F := fmt16 (o.rc.getLsbD 3)
        let a := s.src r .f32 o.ra o.ea
        let b := s.src r .f32 o.rb o.eb
        effHalves o.rd (isSR (modeOf o.rc)) (s.lane r).gen fun g k =>
          rounded F (modeOf o.rc) o.x g (f32Val (if k = 0 then a else b).toNat).exact) ∧
    Ends (.f2i o) s (s.gives [o.ra] fun r =>
        let (g, dr) := drawIf (modeOf o.rc) (s.lane r).gen
        let v := f2iRes o.rc o.x dr (s.src r .f32 o.ra o.ea)
        { regs := [(o.rd.toNat, v.1)], flags := v.2, gen := if isSR (modeOf o.rc) then some g else none }) ∧
    Ends (.i2f o) s (s.gives [o.ra] fun r =>
        let x := if o.rc.getLsbD 3 then intOf o.x (s.src64 r o.ra) else intOf o.x (s.src r .i32 o.ra o.ea)
        effRound o.rd (modeOf o.rc) false (s.lane r).gen (intToExact x)) ∧
    Ends (.f2f8 o) s (s.gives [o.ra, o.rb] fun r =>
        let F := fmt8 o.rc
        let (x, g) := rounded F (modeOf o.rc) o.x (s.lane r).gen (f32Val (s.src r .f32 o.ra o.ea).toNat).exact
        let (y, g) := rounded F (modeOf o.rc) o.x g (f32Val (s.src r .f32 o.rb o.eb).toNat).exact
        { regs := [(o.rd.toNat, BitVec.ofNat 32 ((x.1 + 256 * y.1) * (if o.rc.getLsbD 4 then 65536 else 1)))],
          flags := x.2 ||| y.2, gen := if isSR (modeOf o.rc) then some g else none }) ∧
    Ends (.f8f o) s (s.with1 o .i8 fun a => { effFlag o.rd (widen (fmt8 o.rc) (elem 8 a 0)) with flags := 0 }) ∧
    Ends (.h2f o) s (s.with1 o (f16 o.x) fun a => effFlag o.rd (widen (fmt16 o.x) (elem 16 a 0))) ∧
    Ends (.bscale o) s (s.with2 o .f32 .i32 fun a b => effReg o.rd (BitVec.ofNat 32 (bscaleStep (b.toNat % 256) (f32Val a.toNat)))) ∧
    Ends (.qnt8 o) s (s.gives [o.ra, o.rb] fun r =>
        let (g, dr) := drawIf (modeOf o.rc) (s.lane r).gen
        let v := qnt8Res (modeOf o.rc) dr (s.src r .f32 o.ra o.ea) (s.src r .i32 o.rb o.eb)
        { regs := [(o.rd.toNat, v.1)], flags := v.2, gen := if isSR (modeOf o.rc) then some g else none }) ∧
    Ends (.qnt8Err o) s (s.with2 o .f32 .i32 fun a b => effReg o.rd (qnt8ErrRes a b)) ∧
    Ends (.dq8 o) s (s.with2 o .i8 .i32 fun a b => effFlag o.rd (dq8Res o.rc a b)) ∧
    Ends (.fxpn o) s (s.with1 o .f32 fun a => { regs := [(o.rd.toNat, (fxpnRes a).1)], flags := (fxpnRes a).2 }) ∧
    Ends (.fmnt o) s (s.with1 o .f32 fun a => effFlag o.rd (fmntRes a)) ∧
    Ends (.exp2 o) s (s.with1 o (f32h16 o.x) fun a =>
        if o.x then effFlag o.rd (transc .exp2 Fmt.b16 (Fmt.b16.value (elem 16 a 0)))
        else effFlag o.rd (transc .exp2 Fmt.b32 (f32Val a.toNat))) ∧
    Ends (.log2 o) s (s.with1 o (f32h16 o.x) fun a =>
        if o.x then effFlag o.rd (transc .log2 Fmt.b16 (Fmt.b16.value (elem 16 a 0)))
        else effFlag o.rd (transc .log2 Fmt.b32 (f32Val a.toNat))) ∧
    Ends (.rcp o) s (s.with1 o (f32h16 o.x) fun a =>
        if o.x then effFlag o.rd (transc .rcp Fmt.b16 (Fmt.b16.value (elem 16 a 0)))
        else effFlag o.rd (transc .rcp Fmt.b32 (f32Val a.toNat))) ∧
    Ends (.rsqrt o) s (s.with1 o (f32h16 o.x) fun a =>
        if o.x then effFlag o.rd (transc .rsqrt Fmt.b16 (Fmt.b16.value (elem 16 a 0)))
        else effFlag o.rd (transc .rsqrt Fmt.b32 (f32Val a.toNat))) ∧
    Ends (.sqrt o) s (s.with1 o (f32h16 o.x) fun a =>
        if o.x then effFlag o.rd (transc .sqrt Fmt.b16 (Fmt.b16.value (elem 16 a 0)))
        else effFlag o.rd (transc .sqrt Fmt.b32 (f32Val a.toNat))) ∧
    Ends (.sin o) s (s.with1 o (f32h16 o.x) fun a =>
        if o.x then effFlag o.rd (transc .sin Fmt.b16 (Fmt.b16.value (elem 16 a 0)))
        else effFlag o.rd (transc .sin Fmt.b32 (f32Val a.toNat))) ∧
    Ends (.cos o) s (s.with1 o (f32h16 o.x) fun a =>
        if o.x then effFlag o.rd (transc .cos Fmt.b16 (Fmt.b16.value (elem 16 a 0)))
        else effFlag o.rd (transc .cos Fmt.b32 (f32Val a.toNat))) ∧
    Ends (.filt o) s (s.gives [o.rb, o.rc] fun r =>
        let t := fun k => ((s.lane r).gr (o.ra.toNat + k)).toNat
        effFlag o.rd (bilinear (filtFmt o.x) (t 0) (t 1) (t 2) (t 3) (s.src r .f32 o.rb o.eb).toNat (s.src r .f32 o.rc o.ec).toNat)) ∧
    Ends (.filtl o) s (s.with3 o .f32 .f32 .f32 fun a b c => effFlag o.rd (trilinear (filtFmt o.x) a.toNat b.toNat c.toNat)) ∧
    Ends (.alrnd o) s (s.with2 o .i32 .f32 fun a b => effReg o.rd (alrndRes (o.rc.getLsbD 3) a b)) ∧
    Ends (.srgen) s (s.gives [] fun r =>
        let (g, d) := draw32 (s.lane r).gen
        { regs := [((s.word.extractLsb' 37 8).toNat, BitVec.ofNat 32 d)], gen := some g })

/-- R67: a value that a format represents is delivered as it stands by every mode and every draw, without a flag. -/
def Obligations.RepresentableNeverMoves : Prop :=
  ∀ F ∈ [Fmt.b32, Fmt.b16, Fmt.bf16, Fmt.e4m3, Fmt.e5m2], ∀ (mode : Nat) (sat : Bool) (draw c : Nat),
    mode ≤ 4 → draw < 2 ^ 32 → c < 2 ^ F.width → (F.value c).isFinite → deliver F mode sat draw (F.value c).exact = (c, 0)

/-- R124: ICMP, ICMP64, FCMP and HCMP write their run of predicates; FCMP and HCMP set NV and nothing else. R125 and R126:
predicate logic, selects, moves between predicates and registers, and class tests. -/
def Obligations.CompareWords : Prop :=
  (∀ s : State, s.Ready → ∀ (o : F3) (i : FI),
    let run := fun (p : BitVec 8) (lt eq gt : Bool) => [(p.toNat, lt), (p.toNat + 1, eq), (p.toNat + 2, gt)]
    let int32 := fun (u : Bool) (p : BitVec 8) (a b : Word) =>
      ({ preds := if u then run p (a.ult b) (a == b) (b.ult a) else run p (a.slt b) (a == b) (b.slt a) } : Eff)
    let int64 := fun (u : Bool) (p : BitVec 8) (a b : DWord) =>
      ({ preds := if u then run p (a.ult b) (a == b) (b.ult a) else run p (a.slt b) (a == b) (b.slt a) } : Eff)
    let ordered := fun (p : Nat) (a b : FV) =>
      if a.isNan || b.isNan then [(p, false), (p + 1, false), (p + 2, false), (p + 3, true)]
      else [(p, cmpFV a b == .lt), (p + 1, cmpFV a b == .eq), (p + 2, cmpFV a b == .gt), (p + 3, false)]
    let invalid := fun (sig : Bool) (a b : FV) => (if a.isSig || b.isSig || sig && (a.isNan || b.isNan) then 1 else 0 : Flags)
    let single := fun (sig : Bool) (p : BitVec 8) (a b : Word) =>
      let x := Fmt.b32.value a.toNat
      let y := Fmt.b32.value b.toNat
      ({ preds := ordered p.toNat x y, flags := invalid sig x y } : Eff)
    let half := fun (bf : Bool) (p : BitVec 8) (a b : Word) =>
      let v := fun (w : Word) (k : Nat) => (if bf then Fmt.bf16 else Fmt.b16).value (w.extractLsb' (16 * k) 16).toNat
      ({ preds := ordered p.toNat (v a 0) (v b 0) ++ ordered (p.toNat + 4) (v a 1) (v b 1),
         flags := invalid false (v a 0) (v b 0) ||| invalid false (v a 1) (v b 1) } : Eff)
    Ends (.icmp o) s (s.with2 o .i32 .i32 (int32 o.x o.rd)) ∧
    Ends (.icmpImm i) s (s.withI i .i32 .i32 (int32 i.x i.rd)) ∧
    Ends (.icmp64 o) s (s.with64 o (int64 o.x o.rd)) ∧
    Ends (.icmp64Imm i) s (s.with64I i (int64 i.x i.rd)) ∧
    Ends (.fcmp o) s (s.with2 o .f32 .f32 (single o.x o.rd)) ∧
    Ends (.fcmpImm i) s (s.withI i .f32 .f32 (single i.x i.rd)) ∧
    Ends (.hcmp o) s (s.with2 o (f16 o.x) (f16 o.x) (half o.x o.rd)) ∧
    Ends (.hcmpImm i) s (s.withI i (f16 i.x) (f16 i.x) (half i.x i.rd))) ∧
  ∀ s : State, s.Ready → ∀ (o : F3) (i : FI),
    let p := fun (r : Ref) (sel : BitVec 8) => if sel = 96 then true else (s.lane r).p.getLsbD sel.toNat
    let set := fun (v : Ref → Bool) => s.gives [] fun r => { preds := [(o.rd.toNat, v r)] }
    let class' := fun (h : Bool) (a b : Word) =>
      b.getLsbD (if h then fclass Fmt.b16 (a.extractLsb' 0 16).toNat else fclass Fmt.b32 a.toNat)
    Ends (.pand o) s (set fun r => p r o.ra && p r o.rb) ∧
    Ends (.por o) s (set fun r => p r o.ra || p r o.rb) ∧
    Ends (.pxor o) s (set fun r => p r o.ra ^^ p r o.rb) ∧
    Ends (.pnot o) s (set fun r => !p r o.ra) ∧
    Ends (.sel o) s (s.gives [o.ra, o.rb] fun r =>
      effReg o.rd (if p r o.rc then s.src r .i32 o.ra o.ea else s.src r .i32 o.rb o.eb)) ∧
    Ends (.selImm i) s (s.withI i .i32 .i32 fun a b => effReg i.rd (if a ≠ 0 then a else b)) ∧
    Ends (.sel64 o) s (s.gives [] fun r => effPair o.rd (if p r o.rc then s.src64 r o.ra else s.src64 r o.rb)) ∧
    Ends (.p2g o) s (s.gives [] fun r => effReg o.rd ((s.lane r).p.extractLsb' (32 * o.rc.toNat) 32)) ∧
    Ends (.g2p o) s (s.with1 o .i32 fun a => { preds := (List.range 32).map fun k => (32 * o.rc.toNat + k, a.getLsbD k) }) ∧
    Ends (.fclass o) s (s.with2 o (f32h16 o.x) .i32 fun a b => { preds := [(o.rd.toNat, class' o.x a b)] }) ∧
    Ends (.fclassImm i) s (s.withI i (f32h16 i.x) .i32 fun a b => { preds := [(i.rd.toNat, class' i.x a b)] }) ∧
    Ends (.btest o) s (s.with2 o .i32 .i32 fun a b => { preds := [(o.rd.toNat, a.getLsbD (b.extractLsb' 0 5).toNat)] }) ∧
    Ends (.btestImm i) s (s.withI i .i32 .i32 fun a b => { preds := [(i.rd.toNat, a.getLsbD (b.extractLsb' 0 5).toNat)] })

/-- R21, R26, R42, R189, R190: what the effects of a word's lanes leave. A lane's registers, predicates, flags and generator
take its own effect; a w register takes the value of the lowest lane that writes it; nothing else changes. R24 and R41: an
active lane's read of a low half latches its high half, no other lane latches, and nothing else changes; the active lanes of
a word exist. -/
def Obligations.EffectsOnLanes : Prop :=
  (∀ (s : State) (effs : List (Ref × Eff)),
    (∀ x ∈ effs, s.has x.1 ∧ x.1.lane < 32) → (∀ x ∈ effs, ∀ y ∈ effs, x.1 = y.1 → x.2 = y.2) →
    let t := s.applyAll effs
    let mine := fun (r : Ref) => (effs.find? fun x => x.1 == r).map (·.2)
    (∀ r k, k < 128 → k < (s.lane r).g.length → (t.lane r).gr k = ((mine r).bind (·.reg k)).getD ((s.lane r).gr k)) ∧
    (∀ T W k, k < (s.wave T W).w.length → (t.wave T W).w.getD k 0 =
      ((List.range 32).findSome? fun j => (mine ⟨T, W, j⟩).bind (·.reg (128 + k))).getD ((s.wave T W).w.getD k 0)) ∧
    (∀ r k, k < 96 → (t.lane r).pr k = ((mine r).bind (·.pred k)).getD ((s.lane r).pr k)) ∧
    (∀ r, (t.lane r).flags = (s.lane r).flags ||| ((mine r).map (·.flags)).getD 0) ∧
    (∀ r, (t.lane r).gen = ((mine r).bind (·.gen)).getD (s.lane r).gen) ∧
    t.bare = s.bare) ∧
  ∀ (s : State) (srcs : List (BitVec 8)),
    let t := s.latched srcs
    let takes := fun (r : Ref) (sel : Nat) => r ∈ s.active ∧ sel ∈ srcs.map BitVec.toNat
    (∀ r ∈ s.active, s.has r ∧ r.lane < 32) ∧
    (∀ r, (takes r 205 → (t.lane r).latchClock = some (hi32 (s.coreClock (s.team r.team).die (s.team r.team).core))) ∧
      (¬takes r 205 → (t.lane r).latchClock = (s.lane r).latchClock) ∧
      (takes r 207 → (t.lane r).latchGtime = some (hi32 s.hub.gtime)) ∧
      (¬takes r 207 → (t.lane r).latchGtime = (s.lane r).latchGtime) ∧
      (takes r 210 → (t.lane r).latchSeed = some (hi32 (s.lane r).gen)) ∧
      (¬takes r 210 → (t.lane r).latchSeed = (s.lane r).latchSeed) ∧
      (takes r 212 → (t.lane r).latchSp = some (hi32 (s.lane r).sp)) ∧
      (¬takes r 212 → (t.lane r).latchSp = (s.lane r).latchSp) ∧
      (t.lane r).g = (s.lane r).g ∧ (t.lane r).p = (s.lane r).p ∧ (t.lane r).flags = (s.lane r).flags ∧
      (t.lane r).gen = (s.lane r).gen) ∧
    (∀ T W, (t.wave T W).w = (s.wave T W).w) ∧ t.bare = s.bare

/-- R201, R202, R205, R206: a lane reads another lane of its entry as captured at issue, and its own value where that lane is
not active. R203, R207: votes, ballots, ELECT, WMATCH and WFIRST combine the active lanes that are no helpers; every active
lane takes the result. -/
def Obligations.ExchangeWords : Prop :=
  (∀ s : State, s.Ready → ∀ o : F3,
    let a := fun (t : ETy) (act : List Ref) (me : Ref) (lane : Nat) =>
      match act.find? fun q => q.lane == lane with
      | some q => s.src q t o.ra o.ea
      | none => s.src me t o.ra o.ea
    let quad := fun (t : ETy) (act : List Ref) (me : Ref) (ql : Nat) => a t act me (me.lane / 4 * 4 + ql)
    let difference := fun (hi lo : Nat → Nat) =>
      s.givesEach [o.ra] fun act r =>
        quadDiff o.x o.rd (quad (f32h16 o.x) act r (hi (r.lane % 4))) (quad (f32h16 o.x) act r (lo (r.lane % 4)))
    let crs := o.rc.getLsbD 0
    (o.rc.toNat % 4 < 3 → Ends (.qswap o) s (s.givesEach [o.ra] fun act r =>
      effReg o.rd (quad .i32 act r (r.lane % 4 ^^^ (o.rc.toNat % 4 + 1))))) ∧
    Ends (.qddx o) s (difference (fun ql => if crs then 1 else ql ||| 1) (fun ql => if crs then 0 else ql &&& 2)) ∧
    Ends (.qddy o) s (difference (fun ql => if crs then 2 else ql ||| 2) (fun ql => if crs then 0 else ql &&& 1)) ∧
    Ends (.qbcast o) s (s.givesEach [o.ra] fun act r => effReg o.rd (quad .i32 act r (o.rc.toNat % 4))) ∧
    Ends (.wshfl o) s (s.givesEach [o.ra, o.rb] fun act r =>
      let seg := 32 / 2 ^ (o.rc.toNat / 4)
      let base := r.lane - r.lane % seg
      let n := (s.src r .i32 o.rb o.eb).toNat
      effReg o.rd (match o.rc.toNat % 4 with
        | 0 => a .i32 act r (base + n % seg)
        | 1 => if n ≤ r.lane - base then a .i32 act r (r.lane - n) else s.src r .i32 o.ra o.ea
        | 2 => if n < base + seg - r.lane then a .i32 act r (r.lane + n) else s.src r .i32 o.ra o.ea
        | _ => a .i32 act r (base + (r.lane % seg ^^^ n % seg))))) ∧
  ∀ s : State, s.Ready → ∀ o : F3,
    let own := fun (act : List Ref) => act.filter fun q => !((s.lane q).helper || (s.lane q).bound)
    let p := fun (q : Ref) => if o.ra = 96 then true else (s.lane q).p.getLsbD o.ra.toNat
    let mask := fun (qs : List Ref) => qs.foldl (fun (m : BitVec 32) q => m ||| (1 <<< q.lane)) 0
    Ends (.wvote o) s (s.givesEach [] fun act _ =>
      { preds := [(o.rd.toNat, match o.rc.toNat % 4 with
        | 0 => (own act).any p
        | 1 => (own act).all p
        | _ => (own act).all p || (own act).all fun q => !p q)] }) ∧
    Ends (.wballot o) s (s.givesEach [] fun act _ => effReg o.rd (mask ((own act).filter p))) ∧
    Ends .elect s (s.givesEach [] fun act r =>
      { preds := [((s.word.extractLsb' 37 8).toNat, (own act).head? == some r)] }) ∧
    Ends (.wmatch o) s (s.givesEach [o.ra] fun act r =>
      effReg o.rd (mask ((own act).filter fun q =>
        if o.x then s.src64 q o.ra == s.src64 r o.ra else s.src q .i32 o.ra o.ea == s.src r .i32 o.ra o.ea))) ∧
    Ends (.wfirst o) s (s.givesEach [o.ra] fun act r =>
      if o.x then effPair o.rd (s.src64 ((own act).head?.getD r) o.ra)
      else effReg o.rd (s.src ((own act).head?.getD r) .i32 o.ra o.ea))

/-- R203, R208 to R210: reductions and scans over the active lanes that are no helpers. -/
def Obligations.ReductionWords : Prop :=
  ∀ s : State, s.Ready → ∀ o : F3,
    let own := fun (act : List Ref) => act.filter fun q => !((s.lane q).helper || (s.lane q).bound)
    let upto := fun (act : List Ref) (r : Ref) => (own act).filter fun q => if o.rc.getLsbD 3 then q.lane < r.lane else q.lane ≤ r.lane
    let op := o.rc.toNat % 8
    let fop := o.rc.toNat % 4
    let v := fun (q : Ref) => (s.src q .f32 o.ra o.ea).toNat
    let invalid := fun (act : List Ref) => (if (own act).any fun q => (Fmt.b32.value (v q)).isSig then flagNV else 0 : Flags)
    Ends (.wred o) s (s.givesEach [o.ra] fun act _ => effReg o.rd (redAll op o.x ((own act).map fun q => s.src q .i32 o.ra o.ea))) ∧
    Ends (.wred64 o) s (s.givesEach [] fun act _ => effPair o.rd (redAll op o.x ((own act).map fun q => s.src64 q o.ra))) ∧
    Ends (.wscan o) s (s.givesEach [o.ra] fun act r =>
      effReg o.rd (redAll op o.x ((upto act r).map fun q => s.src q .i32 o.ra o.ea))) ∧
    Ends (.wredf o) s (s.givesEach [o.ra] fun act _ =>
      let t := treeAll fop 5 ((List.range 32).map fun k => ((own act).find? fun q => q.lane == k).map v)
      { regs := [(o.rd.toNat, fDeliver fop t.1)], flags := t.2 ||| invalid act }) ∧
    Ends (.wscanf o) s (s.givesEach [o.ra] fun act r =>
      let ps := scanGo fop none ((own act).map fun q => (q.lane, v q))
      let last := (ps.1.filter fun x => if o.rc.getLsbD 3 then x.1 < r.lane else x.1 ≤ r.lane).getLast?
      { regs := [(o.rd.toNat, fDeliver fop ((last.map (·.2)).getD none))], flags := ps.2 ||| invalid act })

/-! ### Encodings -/

/-- R34, R90 to R106: words written out from the encoding tables decode to what they stand for. -/
def Obligations.WordsDecode : Prop :=
  decodeWord 0x6070_C000_0000_0000 = .ok .nop ∧
  decodeWord 0x6030_8000_0000_0000 = .ok .rett ∧
  decodeWord 0x6030_2000_000C_0000 = .ok (.call { off := 0x60, ra := 0, kind := 0 }) ∧
  decodeWord 0x6038_20C1_1FFF_E0E0 = .ok (.st { rd := 6, base := 8, off := 0xFFFF0, sz := 3, cc := 2, scope := 0, sx := false }) ∧
  decodeWord 0x602C_0080_4000_0014 = .ok (.icmpImm { rd := 4, ra := 2, ea := 0, imm := 10, x := false }) ∧
  decodeWord 0x6010_6080_2004_0060 =
    .ok (.ffma { rd := 4, ra := 1, ea := 0, rb := 2, eb := 0, rc := 3, ec := 0, x := false }) ∧
  decodeWord 0xE070_C000_0000_0001 = .error .rsvd ∧
  decodeWord 0xFFFF_FFFF_FFFF_FFFF = .error .illop

/-- R34 and R90 to R106: the decoder gives back every instruction that the encoder lays out, whatever its operands, so long
as the word passes the checks of R53. SPAWN_TRIM has SPAWN_RANGE's encoding and is told from it by its operands alone. -/
def Obligations.EncodeDecode : Prop :=
  ∀ (g : Guard) (raw : BitVec 45) (i : Instr) (w : DWord), encode g raw i = some w → (∀ o, i ≠ .spawnTrim o) →
    g.ok = true → (wordChecks i w).all Chk.ok = true → decodeWord w = .ok i

/-- R34 and R90 to R106: no bit of a word that decodes is dropped. -/
def Obligations.DecodeEncode : Prop :=
  ∀ (w : DWord) (i : Instr), decodeWord w = .ok i → encode (guardOfWord w) (w.extractLsb' 0 45) i = some w

/-- R53 and R102 to R106: a word raises ILLOP exactly when no row of the opcode tables has its OPC. -/
def Obligations.UnassignedOpcodes : Prop :=
  ∀ w : DWord, decodeWord w = .error .illop ↔ ∀ i : Instr, opcOf i ≠ some (w.extractLsb' 45 10)

/-! ### The step -/

/-- R40, R53: when the next turn is a bundle's next word, the step runs what that word decodes to; a word that does not
decode is the cause of every lane that stands at it. A bundle of a team that is being flushed issues nothing further (R448). Before
that, clocks pass. An event whose turn comes next runs with its
operands. That events are taken from a list of turns, and that the list may be chosen freely, is the model's choice (log 2).
R34: a placed word is the next to run (log 27). -/
def Obligations.StepRunsDecodedWord : Prop :=
  (∀ (s : State) (id : Nat) (rest : List Turn) (b : Bundle), s.tick.agenda = .word id :: rest →
    s.bundles.find? (fun x => x.id == id) = some b → b.marker = false → b.members ≠ [] → b.idx < b.n → b.bad = none →
    let v : State := { s.tick with agenda := rest, bundles := s.tick.bundles.map Bundle.retry }
    let u : State := { v with issue := some b.retry, args := {} }
    let ended := fun (o : Out) => andThen (andThen o fun t => t.afterStep id (v.steppers b.retry)) State.sendMarks
    let flushed := ∃ m ∈ b.members, (s.tick.team m.team).leaving = .flush
    (flushed → step s = .next v.sendMarks) ∧
    (¬flushed →
      (∀ i, decodeWord (b.words.getD b.idx 0) = .ok i → step s = ended (exec i u)) ∧
      (decodeWord (b.words.getD b.idx 0) = .error .illop → step s = ended (.next (u.decodeFault .illop))) ∧
      (decodeWord (b.words.getD b.idx 0) = .error .rsvd → step s = ended (.next (u.decodeFault .rsvd)))) ∧
    ((∀ m ∈ b.members, (s.tick.team m.team).step = none) → ∀ o, ended o = andThen o State.sendMarks)) ∧
  (∀ (s : State) (i : Instr) (a : EvArgs) (rest : List Turn), s.tick.agenda = .ev i a :: rest →
    step s = andThen (exec i { s.tick with agenda := rest, bundles := s.tick.bundles.map Bundle.retry, issue := none, args := a })
      State.sendMarks) ∧
  (∀ t : State, t.hub.frame = none → t.hub.charges = [] → (∀ d ∈ t.dies, d.vsent = noMark) →
    (∀ v ∈ t.hub.vtaken, v = noMark) → (∀ v ∈ t.hub.vlast, v = noMark) → t.sendMarks = t) ∧
  ∀ (nbits w : Nat) (i : Instr), decodeWord (BitVec.ofNat 64 w) = .ok i →
    ∃ u : State, u.word = BitVec.ofNat 64 w ∧ u.active.length ≤ 32 ∧ u.issueGrid.priv = true ∧
      step (State.reset.withFetchWord nbits w) = andThen (exec i u) State.sendMarks

/-! ### Reset, memory and time -/

/-- R12, R197, R443, R446, R451, R457, R469, R474, R476, R487, R533, R534: what the register tables give for reset. That GLHEAD
is 0 is the model's choice (log 6): R534 gives it no reset value. -/
def Obligations.ResetState : Prop :=
  State.reset.hub.gtime = 0 ∧ State.reset.dies.length = 8 ∧
  (∀ d ∈ State.reset.dies, d.tslice = 0x1000 ∧ d.preq = 0 ∧ d.pctl = 0x0001_0000_0000_0400 ∧ d.spbase = 0 ∧ d.spsize = 0 ∧
    d.lost = 0 ∧ d.faultQ = [] ∧ d.lintctl = 0 ∧ d.dbgctl = 0 ∧ d.bps = List.replicate 8 0 ∧ d.wps = List.replicate 4 0 ∧
    ∀ r ∈ [d.lint, d.dbg, d.pm], r = { base := 0, size := 0, head := 0, tail := 0, lost := 0 }) ∧
  State.reset.hub.fnmode = 0 ∧ State.reset.hub.tlbsync = 0 ∧ State.reset.hub.pmctl = 16 ∧
  (∀ g ∈ State.reset.hub.guards, g = { w0 := 0, w1 := 0 }) ∧ State.reset.hub.guards.length = 32 ∧
  (∀ e ∈ State.reset.hub.mderr, e = { ce := 0, ue := 0, last := 0 }) ∧ State.reset.hub.mderr.length = 4 ∧
  State.reset.hub.glhead = 0 ∧ State.reset.grids = [] ∧ State.reset.teams = [] ∧ State.reset.hub.frame = none

/-- Memory stands in canonical form after reset. The form is the model's own (log 1). -/
def Obligations.ResetMemOk : Prop := State.reset.memOk = true

/-- Every step keeps memory, the firmware store and the scratchpads in canonical form, whatever the state. -/
def Obligations.StepKeepsMemOk : Prop := ∀ s t : State, s.memOk = true → step s = .next t → t.memOk = true

/-- R45, R232, R260: a byte reads as it was last written, and a write leaves every other byte alone. Canonical lists of bytes that
read alike are the same list; the canonical form is the model's own (log 1). -/
def Obligations.ByteMemory : Prop :=
  (∀ (c : List Host.Cell) (a : Nat) (v : Byte), cellsWf c = true →
    cellsRead (cellsWrite c a v) a = v ∧ ∀ b, b ≠ a → cellsRead (cellsWrite c a v) b = cellsRead c b) ∧
  (∀ (c : List Host.Cell) (a : Nat) (bs : List Byte), cellsWf c = true →
    cellsReadN (cellsWriteN c a bs) a bs.length = bs ∧
    ∀ b, b < a ∨ a + bs.length ≤ b → cellsRead (cellsWriteN c a bs) b = cellsRead c b) ∧
  ∀ c d : List Host.Cell, cellsWf c = true → cellsWf d = true → (∀ a, cellsRead c a = cellsRead d a) → c = d

/-- R52: the state of a thread when it begins, for every thread of a team that is placed, whatever the scope of the acquire that
comes before its first word. No half is latched: a read of a high half gives the live one. -/
def Obligations.ThreadStart : Prop :=
  ∀ (s : State) (tid die core part scope wave lane : Nat), tid < s.teams.length →
    let t := s.startTeam tid die core part scope
    let g := s.gridOf tid
    let r : Ref := ⟨tid, wave, lane⟩
    let l := t.lane r
    wave < g.waves → lane < 32 → 32 * wave + lane < (g.nt + 3) / 4 * 4 →
    (∀ k, l.gr k = 0) ∧ l.g.length = g.regs ∧ l.p = 0 ∧ (∀ k < 64, t.rawReg r (128 + k) = g.winit.getD k 0) ∧
    l.clause = g.entry ∧ l.idx = 0 ∧ l.sp = t.stackBase r + BitVec.ofNat 64 g.stkSize ∧ l.chip = [] ∧ l.flags = 0 ∧
    l.gen = seedGen g.seed (BitVec.ofNat 64 (threadG g (s.team tid).t (32 * wave + lane))) ∧
    l.latchClock = none ∧ l.latchGtime = none ∧ l.latchSeed = none ∧ l.latchSp = none ∧
    t.srValue r 206 = hi32 (t.coreClock (t.team tid).die (t.team tid).core) ∧ t.srValue r 208 = hi32 t.hub.gtime ∧
    t.srValue r 211 = hi32 l.gen ∧ t.srValue r 213 = hi32 l.sp ∧
    (∀ c : Ctr, (t.wave tid wave).ctrs.getD c.index 0 = 0) ∧ l.ended = false ∧ l.helper = decide (g.nt ≤ 32 * wave + lane)

/-! ### How a word ends -/

/-- R144, R40, R44: NOP completes, and its bundle goes on to its next word; under the switch marker the bundle is parked.
R144: NOP completes wherever it stands, and changes nothing but where the lanes stand: every register, predicate, flag,
counter, byte of memory, unit and outstanding operation is as before. The rule's word decodes to NOP under the switch marker,
and a bundle so parked goes on, or ends its clause, once no result of its waves is outstanding, and not before, nor while a
team of it is being flushed (R448). -/
def Obligations.NopGoesOn : Prop :=
  (∀ (s : State) (b : Bundle), s.Quiet → s.issue = some b → b.members ≠ [] → (b.idx + 1 < b.n ∨ s.guard.sw = true) →
    Gives .nop s { s with issue := none, bundles := s.bundles.map fun x => if x.id == b.id then
      { b with idx := b.idx + 1, marker := if s.guard.sw then true else b.marker, walks := [], walked := [], told := [],
               diced := none } else x }) ∧
  (∀ s : State, s.Ready → ∃ t, exec .nop s = .next t ∧ t.still = s.still) ∧
  decodeWord 0xE070_C000_0000_0000 = .ok .nop ∧ (guardOfWord 0xE070_C000_0000_0000).sw = true ∧
  ∀ (s : State) (b : Bundle), (s.bundles.find? fun x => x.id == s.args.a && x.marker) = some b →
    ((∃ m ∈ b.members, s.outstanding m.team m.wave = true ∨ (s.team m.team).leaving = .flush) → Gives .switchMarkerResume s s) ∧
    ((∀ m ∈ b.members, s.outstanding m.team m.wave = false ∧ (s.team m.team).leaving ≠ .flush ∧
        ∀ r ∈ memberRefs m, (s.lane r).ecc = none) →
      b.members ≠ [] →
      (b.idx < b.n → Gives .switchMarkerResume s { s with issue := none, bundles := s.bundles.map fun x =>
        if x.id == b.id then { b with marker := false } else x }) ∧
      (b.n ≤ b.idx → Gives .switchMarkerResume s ({ s with issue := some { b with marker := false } } : State).endClause))

/-- R30, R128: when a clause ends, the lanes of an entry that all go to one place stand there in one entry that is in no
bundle: at the next clause, or where the last word sent them. -/
def Obligations.ClauseEnds : Prop :=
  ∀ (s : State) (b : Bundle) (m : Member) (e : Entry) (pc : DWord × Nat), s.Ready → s.issue = some b → b.members = [m] →
    b.n ≤ b.idx + 1 → s.guard.sw = false → b.images = [] → m.mask ≠ 0 → m.team < s.teams.length →
    m.wave < (s.team m.team).waves.length → (s.wave m.team m.wave).entries.filter (fun x => x.slot == m.slot) = [e] →
    e.defer = 0 → (∀ k, m.mask.getLsbD k = true → b.nextPc m.team m.wave k = pc) →
    ∃ t, exec .nop s = .next t ∧
      ∃ x ∈ (t.wave m.team m.wave).entries, m.mask &&& ~~~x.mask = 0 ∧ x.flight = none ∧ (x.clause, x.idx) = pc

/-! ### Control -/

/-- R128, R129, R132: BRA sends the lanes that its kind names, JMPI every active lane to its own target, and YIELD ends the
clause as though Y were set. A lane whose JMPI target is no multiple of 8 raises MISALIGN, with the target as the address, while
the others go to theirs. -/
def Obligations.BranchWords : Prop :=
  ∀ s : State, s.Ready → ∀ o : FB,
    let group := fun (m : Member) => (memberRefs m).filter fun r => !(s.lane r).ended
    let own := fun (m : Member) => (group m).filter fun r => !((s.lane r).helper || (s.lane r).bound)
    let holds := fun (r : Ref) => guardHolds s.guard (s.lane r)
    let go := fun (m : Member) => match o.kind.toNat with
      | 0 => (group m).filter holds
      | 1 => if (own m).any holds then group m else []
      | 2 => if (own m).all holds then group m else []
      | _ => if (own m).all fun r => !holds r then group m else []
    Ends (.bra o) s (s.sendTo ((s.bundle.members.flatMap go).map fun r => (r, s.bundle.clause + 8 * o.off.signExtend 64, 0))) ∧
    ((∀ r ∈ s.active, (s.src64 r o.ra).toNat % 8 = 0) →
      Ends (.jmpi o) s (s.sendTo (s.active.map fun r => (r, s.src64 r o.ra, 0)))) ∧
    (let odd := fun (r : Ref) => decide ((s.src64 r o.ra).toNat % 8 ≠ 0)
     Gives (.jmpi o) s (((s.sendTo ((s.active.filter fun r => !odd r).map fun r => (r, s.src64 r o.ra, 0))).faultLanes
      ((s.active.filter odd).map fun r => { r, cause := .misalign, addr := s.src64 r o.ra })).finish s.active [])) ∧
    ((∀ r ∈ s.active, (s.gridOf r.team).det = false) →
      Ends .yield s (s.bundle.members.foldl (fun u m =>
        if (s.activeOf m).isEmpty then u else u.modEntry m.team m.wave m.slot fun e => { e with yh := true }) s))

/-- R131, R212, R213: EXIT ends its active lanes and no other lane but helpers, and changes no register and no memory, where no
lane of its waves has arrived at SYNCW or WSYNCM, or lanes that have arrived at SYNCW wait for one that is neither active nor
there. Where the lanes that end are the last that the others of their wave wait for at such a word, those go on: their arrival is
over, and they stand at the next clause in an entry that is in no bundle, with their registers and predicates as before. -/
def Obligations.ExitEndsLanes : Prop :=
  (∀ s : State, s.Ready →
    (∀ m ∈ s.bundle.members, (∀ l ∈ (s.wave m.team m.wave).lanes, l.arrival = none) ∨
      (∀ l ∈ (s.wave m.team m.wave).lanes, ∀ a, l.arrival = some a → a.mask = none) ∧
        ∃ k < 32, (⟨m.team, m.wave, k⟩ : Ref) ∉ s.active ∧ (s.lane ⟨m.team, m.wave, k⟩).ended = false ∧
          (s.lane ⟨m.team, m.wave, k⟩).isHelper = false ∧ (s.lane ⟨m.team, m.wave, k⟩).arrival = none) →
    ∃ t, exec .exit s = .next t ∧ (∀ r ∈ s.active, (t.lane r).ended = true) ∧
      (∀ r, r ∉ s.active → (s.lane r).isHelper = false → (t.lane r).ended = (s.lane r).ended) ∧
      (∀ r, (t.lane r).g = (s.lane r).g ∧ (t.lane r).p = (s.lane r).p ∧ (t.lane r).sp = (s.lane r).sp) ∧
      (∀ a b, (t.wave a b).w = (s.wave a b).w) ∧ t.mem = s.mem ∧ t.hub = s.hub) ∧
  ∀ (s : State) (m : Member) (e x : Entry) (c : DWord) (i : Nat) (mask : Option (BitVec 32)), s.Ready → s.bundle.members = [m] →
    m.mask ≠ 0 → s.active = memberRefs m → (s.wave m.team m.wave).entries = [e, x] → e.slot = m.slot → e.mask = m.mask →
    e.defer = 0 → x.slot ≠ e.slot → x.flight = none → x.defer = 0 → x.mask ≠ 0 → m.mask &&& x.mask = 0 →
    (∀ k < 32, let l := s.lane ⟨m.team, m.wave, k⟩
      if x.mask.getLsbD k then l.ended = false ∧ l.isHelper = false ∧ l.arrival = some ⟨c, i, mask⟩
      else m.mask.getLsbD k = true ∨ l.ended = true) →
    ∃ t, exec .exit s = .next t ∧ ∀ k, x.mask.getLsbD k = true →
      let r : Ref := ⟨m.team, m.wave, k⟩
      (t.lane r).ended = false ∧ (t.lane r).arrival = none ∧ (t.lane r).g = (s.lane r).g ∧ (t.lane r).p = (s.lane r).p ∧
      ∃ y ∈ (t.wave m.team m.wave).entries, y.mask.getLsbD k = true ∧ y.flight = none ∧
        y.clause = c + BitVec.ofNat 64 (8 * (i + 2)) ∧ y.idx = 0

/-- R47 to R49, R51, R129, R130, R60: calls push one entry for each lane, RET pops one and RETT a trap frame; a lane's PC
changes with them. R48, R49, R51, R129: a push and a return of one lane whose stack entries stand on chip. A push lowers
sr_sp by 16 and puts the entry on top, its memory taking free values until it is spilled (log 12); a RET whose entries below
are on chip, or are none, gives that entry's return address and takes it away again. R50, R129, R60: for one
lane, CALL and CALLI without room for an entry and a frame above it raise STACKOVF, CALLI to a target that is no multiple of 8
MISALIGN with that target, and a spilled entry the cause of its place; a return raises the cause that it meets, which is STACKOVF on
an empty stack and on an entry of the wrong KIND. Nothing that is read or spilled here lies where an ACCLD or ACCST of the lane has
still to read or write, for which the word would wait (log 102). -/
def Obligations.CallWords : Prop :=
  (∀ s : State, s.Ready → ∀ o : FB,
    let b := s.bundle
    let push := fun (xs : List Ref) => xs.foldl (fun u r => u.pushSlots r
      [{ lo := (b.clause + BitVec.ofNat 64 (8 * (b.n + 1))) &&& ~~~7 ||| 1, hi := b.clause &&& ~~~7, frame := false }]
      { clause := b.clause, idx := b.idx }) s
    let fits := fun (r : Ref) => (s.stackBase r).toNat + 48 ≤ (s.lane r).sp.toNat ∧ s.spillCheck r 1 = none
    let present := fun (r : Ref) (xs : List (DWord × Nat)) => s.stackAbsent r xs = none
    let apart := fun (r : Ref) (xs : List (DWord × Nat)) (write : Bool) => s.stackClash r xs write = false
    let spills := fun (r : Ref) => fits r ∧ present r (s.spillPlaces r 1) ∧ apart r (s.spillPlaces r 1) true
    let reads := fun (r : Ref) (xs : List (DWord × Nat)) => present r xs ∧ apart r xs false
    let go := s.bundle.members.flatMap (s.transfers o.kind.toNat)
    (b.clause.toNat % 8 = 0 → (∀ r ∈ go, spills r) →
      Ends (.call o) s ((push go).sendTo (go.map fun r => (r, b.clause + 8 * o.off.signExtend 64, 0)))) ∧
    ((∀ r ∈ s.active, spills r ∧ (s.src64 r o.ra).toNat % 8 = 0) →
      Ends (.calli o) s ((push s.active).sendTo (s.active.map fun r => (r, s.src64 r o.ra, 0)))) ∧
    (∀ u goes, (∀ r ∈ s.active, reads r ((s.popPlaces r 1).drop 1) ∧ ∃ a, (s.retLane r).2 = .ok a) →
      popEach State.retLane s s.active = some (u, goes) →
      Ends .ret s (u.sendTo (goes.map fun x => (x.1, x.2, 0)))) ∧
    (∀ u goes, (∀ r ∈ s.active, reads r (s.popPlaces r 2) ∧ ∃ a, (s.returnTrap r).2 = .ok a) →
      popEach State.returnTrap s s.active = some (u, goes) →
      Ends .rett s (u.sendTo (goes.map fun x => (x.1, x.2.1, x.2.2))))) ∧
  (∀ (s : State) (o : FB) (m : Member) (e : Entry) (r : Ref), s.Ready → s.bundle.members = [m] → s.active = [r] →
    (s.lane r).isHelper = false → (s.wave m.team m.wave).entry m.slot = some e → e.mask = m.mask →
    let raises := fun (i : Instr) (u : State) (f : LaneFault) => Gives i s ((u.faultLanes [f]).finish [r] [])
    let odd := (s.src64 r o.ra).toNat % 8 ≠ 0
    let full := (s.lane r).sp.toNat < (s.stackBase r).toNat + 48
    let apart := s.stackClash r (s.spillPlaces r 1) true = false
    let calls := apart ∧ s.bundle.clause.toNat % 8 = 0 ∧ s.bundle.members.flatMap (s.transfers o.kind.toNat) = [r]
    (calls → full → raises (.call o) s { r, cause := .stackovf }) ∧
    (∀ b, calls → ¬full → s.spillCheck r 1 = some b → raises (.call o) s (b.at r true)) ∧
    (apart → odd → raises (.calli o) s { r, cause := .misalign, addr := s.src64 r o.ra }) ∧
    (apart → ¬odd → full → raises (.calli o) s { r, cause := .stackovf }) ∧
    (∀ b, apart → ¬odd → ¬full → s.spillCheck r 1 = some b → raises (.calli o) s (b.at r true)) ∧
    (∀ u b, s.stackAbsent r (s.retPlaces r) = none → s.stackClash r (s.retPlaces r) false = false → s.retLane r = (u, .error b) → raises .ret u (b.at r false)) ∧
    (∀ u b, s.stackAbsent r (s.rettPlaces r) = none → s.stackClash r (s.rettPlaces r) false = false → s.returnTrap r = (u, .error b) → raises .rett u (b.at r false))) ∧
  (∀ (s : State) (r : Ref),
    let l := s.lane r
    let empty := s.stackTop r = l.sp
    let ovf : Bad := { cause := .stackovf, addr := 0, walk := false }
    (empty ∨ l.chip = [] ∨ (∃ x xs, l.chip = x :: xs ∧ x.frame = true) →
      s.retPlaces r = [] ∧ s.retLane r = (s, .error ovf)) ∧
    (empty ∨ (∃ x xs, l.chip = x :: xs ∧ x.frame = false) → s.rettPlaces r = [] ∧ s.returnTrap r = (s, .error ovf)) ∧
    ∀ u f fs, ¬empty → (∀ x xs, l.chip = x :: xs → x.frame = true) → s.readDwords r l.sp 2 = (u, .ok (f :: fs)) →
      f.toNat % 8 ≠ 2 → s.returnTrap r = (u, .error ovf)) ∧
  ∀ (s : State) (r : Ref) (entry : Slot) (w : WordRec), s.has r → (s.lane r).chip.length < 4 →
    let t := s.pushSlots r [entry] w
    let u := s.modLane r fun l => { l with sp := l.sp - 16, chip := entry :: l.chip }
    t = (if entry.frame then u else u.undefine r.team ((s.lane r).sp - 16) 2) ∧
    (entry.frame = false → 16 ≤ (s.lane r).sp.toNat → (s.lane r).sp.toNat ≤ (s.stackTop r).toNat →
      (s.stackTop r).toNat - (s.lane r).sp.toNat = 16 * (s.lane r).chip.length →
      t.retLane r = (t.modLane r fun _ => s.lane r, .ok (entry.lo &&& ~~~7)))

/-- R57 to R59: what taking a trap leaves. The frame of four doublewords is written below sr_sp, which falls by 32, and the
lane stands at the handler; its registers, predicates, flags and generator are as before. Without a handler, or without room,
the team ends as fatal. -/
def Obligations.TrapFrame : Prop :=
  ∀ (s : State) (r : Ref) (x : Trap), s.has r →
    let g := s.gridOf r.team
    let sp := (s.lane r).sp
    let t := s.takeTrap r x
    (g.handler ≠ 0 → (s.stackBase r).toNat + 32 ≤ sp.toNat → s.spillCheck r 2 = none →
      s.checkDwords r.team (sp - 32) 4 needW = none →
      (t = ((s.pushSlots r [⟨0, 0, true⟩, ⟨0, 0, true⟩] { clause := x.clause, idx := x.idx }).writeDwords r (sp - 32)
          [x.rclause &&& ~~~7 ||| 2,
           BitVec.ofNat 64 (x.ridx + x.idx * 16 + x.cause.code * 256 + (if x.fetch then 8192 else 0) +
             (if x.write then 16384 else 0) + (if x.deferred then 32768 else 0) + r.lane * 65536),
           x.addr, x.clause &&& ~~~7] { clause := x.clause, idx := x.idx }).modLane r
            fun l => { l with trap := none, clause := g.handler, idx := 0 }) ∧
      (t.lane r).clause = g.handler ∧ (t.lane r).idx = 0 ∧ (t.lane r).sp = sp - 32 ∧ (t.lane r).g = (s.lane r).g ∧
      (t.lane r).p = (s.lane r).p ∧ (t.lane r).flags = (s.lane r).flags ∧ (t.lane r).gen = (s.lane r).gen) ∧
    (g.handler = 0 → (s.team r.team).fatal = none → ∃ f, (t.team r.team).fatal = some f ∧
      (x.told = none → f.cause = x.cause.code ∧ f.wave = r.wave ∧ f.lane = r.lane ∧ f.clause = x.clause ∧ f.idx = x.idx ∧
        f.addr = x.addr) ∧
      ∀ w, x.told = some w → f.cause = w.cause.code ∧ f.wave = w.wave ∧ f.lane = w.lane ∧ f.clause = w.clause ∧ f.idx = w.idx ∧
        f.addr = w.addr) ∧
    (g.handler ≠ 0 → sp.toNat < (s.stackBase r).toNat + 32 → (s.team r.team).fatal = none →
      ∃ f, (t.team r.team).fatal = some f ∧ f.cause = 16)

/-- R58, R59, R143: TRAP and BKPT raise USER and BREAK on every active lane that is no helper, with imm32 as the address, to
be resumed after the word; a lane with a cause pending enters its handler once no result of its wave is outstanding. R241:
before a line of its frame whose presence bit is clear its entry parks, if the frame can be pushed at all (log 87). Where an ACCLD or
ACCST of the lane has still to be performed on the bytes of the frame it waits (log 102). -/
def Obligations.TrapWords : Prop :=
  (∀ s : State, s.Ready → ∀ o : FK,
    let own := s.active.filter fun r => !((s.lane r).helper || (s.lane r).bound)
    let raise := fun (c : Cause) => s.faultLanes (own.map fun r =>
      { r, cause := c, addr := o.imm.setWidth 64, resume := some (s.bundle.after r.team r.wave r.lane) })
    Gives (.trap o) s ((raise .user).finish s.active []) ∧ Gives (.bkpt o) s ((raise .brk).finish s.active [])) ∧
  ∀ s : State,
    let r : Ref := ⟨s.args.a, s.args.b, s.args.c⟩
    let here := (s.team r.team).place = .resident
    let quiet := (∀ op ∈ s.ops, op.team = r.team → op.wave = r.wave → op.writes = false ∨ op.done = true) ∧
      s.stackClash r (s.pushPlaces r 2) true = false
    let pushes := (s.gridOf r.team).handler ≠ 0 ∧ (s.stackBase r).toNat + 32 ≤ (s.lane r).sp.toNat ∧ s.spillCheck r 2 = none ∧
      s.checkDwords r.team ((s.lane r).sp - 32) 4 needW = none
    (∀ x, here → (s.lane r).trap = some x → quiet → (pushes → s.stackAbsent r (s.pushPlaces r 2) = none) →
      Gives .trapEntry s (s.takeTrap r x)) ∧
    (∀ x l, here → (s.lane r).trap = some x → quiet → pushes → s.stackAbsent r (s.pushPlaces r 2) = some l →
      let parks := fun (e : Entry) => if e.mask.getLsbD r.lane then { e with park := 4, why := .presence l.1 l.2 } else e
      Gives .trapEntry s (s.modWave r.team r.wave fun w => { w with entries := w.entries.map parks })) ∧
    (¬quiet ∨ ¬here ∨ (s.lane r).trap = none → Gives .trapEntry s s)

/-- R56, R105: in an ordinary launch every privileged word raises PRIV on its active lanes and does nothing else. The
privileged words are those of OPC 0x387 to 0x391. -/
def Obligations.PrivilegedWordsTrap : Prop :=
  (∀ s : State, s.Ready → s.issueGrid.priv = false → s.active ≠ [] → ∀ i : Instr, privOf i = true →
    Gives i s ((s.faultLanes (s.active.map fun r => { r, cause := .priv })).finish [] [])) ∧
  ∀ i : Instr, privOf i = true ↔ ∃ c, opcOf i = some c ∧ 0x387 ≤ c.toNat ∧ c.toNat ≤ 0x391

/-! ### Special registers and predicates in memory -/

/-- R24, R140, R141, R165, R219: reads of special registers deliver all 64 bits or zero-extend 32; a write to sr_fpflags
takes bits [4:0], a write to a half of the generator that half, and SRGEN, BGEN and the barriers are read as they stand.
R142: STPRED writes the 96 predicates of a lane to 16 bytes, the last four of them zero, and LDPRED reads them back; here
with scratchpad places, no store of a lane waiting and the lint filter off. -/
def Obligations.SpecialRegisterWords : Prop :=
  (∀ s : State, s.Ready → ∀ (o : F3) (a : FA),
    let whole := fun (r : Ref) => match o.ra.toNat with
      | 205 => s.coreClock (s.team r.team).die (s.team r.team).core
      | 207 => s.hub.gtime
      | 210 => (s.lane r).gen
      | 212 => (s.lane r).sp
      | n => (s.srValue r n).setWidth 64
    Ends (.rdsr o) s (s.gives [] fun r => effPair o.rd (whole r)) ∧
    Ends (.wrsr o) s (s.active.foldl (fun u r => u.modLane r fun l =>
        let v := s.src r .i32 o.ra o.ea
        match o.rd.toNat with
        | 209 => { l with flags := v.extractLsb' 0 5 }
        | 210 => { l with gen := if o.x then s.src64 r o.ra else l.gen.extractLsb' 32 32 ++ v }
        | 211 => { l with gen := v ++ l.gen.extractLsb' 0 32 }
        | _ => l) (s.latched [o.ra])) ∧
    Ends (.bgenRead a) s (s.gives [] fun r => effReg a.rd ((s.team r.team).bars.getD a.bar.toNat (Barrier.init 0)).gen)) ∧
  ∀ (s : State) (o : F3) (r : Ref) (off : Nat), s.Ready → s.active = [r] → (s.lane r).isHelper = false →
    s.lintOn r.team = false → (∀ op ∈ s.ops, op.accs = []) →
    let ask := fun (need : Nat) => ({ r, va := s.src64 r o.ra, n := 16, al := 16, need } : Ask)
    (s.Grants [ask needW] (fun _ => .spad r.team off) →
      Ends (.stpred o) s ((s.wakeMonitors (.spad r.team off) 16).modTeam r.team fun x =>
        { x with spad := cellsWriteN x.spad off (leBytes 16 (s.lane r).p.toNat) })) ∧
    (s.Grants [ask needR] (fun _ => .spad r.team off) →
      Ends (.ldpred o) s (s.modLane r fun l =>
        { l with p := BitVec.ofNat 96 (leNat (cellsReadN (s.team r.team).spad off 16)) }))

/-- R223, R224, R456: the privileged words that read and write the split table and a wave's context. SPLWR of an image that fails a
check of R224 raises RSVD and places nothing. The model's choices: which lanes latch the high half of an operand read for the entry
(log 81), which lanes an image moves in the end (log 83), and that without a contributing lane SPLRD writes nothing (log 84). -/
def Obligations.ContextWords : Prop :=
  ∀ s : State, s.Ready → s.issueGrid.priv = true → ∀ o : F3,
    let lead := fun (m : Member) => (s.activeOf m).find? fun r => !((s.lane r).helper || (s.lane r).bound)
    let image := fun (r : Ref) => (List.range 8).map fun k => s.rawReg r (o.ra.toNat + k)
    let lanes := fun (m : Member) => maskOf ((s.activeOf m).map (·.lane))
    Ends (.splrd o) s ((s.latched [o.ra]).applyAll (s.bundle.members.flatMap fun m => match lead m with
      | none => []
      | some r => (s.activeOf m).map fun q =>
        (q, { regs := (s.splImage m.team m.wave (s.src r .i32 o.ra o.ea)).zipIdx.map fun p => (o.rd.toNat + p.2, p.1) }))) ∧
    Ends (.ctxrd o) s ((s.latched [o.ra]).applyAll (s.bundle.members.flatMap fun m => match lead m with
      | none => []
      | some r => (s.activeOf m).map fun q => (q, effReg o.rd (s.ctxItem m.team m.wave (s.src r .i32 o.ra o.ea).toNat)))) ∧
    Ends (.ctxwr o) s ((s.bundle.members.filterMap fun m => (lead m).map fun r => (m, r)).foldl (fun u x =>
      u.modWave x.1.team x.1.wave fun w => w.ctxWrite (s.src x.2 .i32 o.ra o.ea).toNat (s.src x.2 .i32 o.rb o.eb))
      (s.active.foldl (fun u r => (u.latchRead r o.ra.toNat).latchRead r o.rb.toNat) s)) ∧
    (∀ (m : Member) (r : Ref) (rest : List Ref), s.bundle.members = [m] → s.activeOf m = r :: rest →
      imageOk (image r) (lanes m) (s.bundle.named m.team m.wave) = true →
      Ends (.splwr o) s (s.modIssue fun b => { b with images := b.images ++ [(m.team, m.wave, image r)] })) ∧
    (∀ (m : Member) (r : Ref) (rest : List Ref), s.bundle.members = [m] → s.activeOf m = r :: rest →
      imageOk (image r) (lanes m) (s.bundle.named m.team m.wave) = false →
      Gives (.splwr o) s ((s.faultLanes [{ r, cause := .rsvd }]).finish s.active []))

/-! ### Memory words -/

/-- R133 to R137, R139: loads complete, with one operation outstanding for each wave and its counter one higher; LDW reads
once for its entry. R135: what the loads of one lane read from a scratchpad, when the lane has no store waiting and the lint
filter is off: the bytes in ascending order, the lowest in rd; one or two bytes are zero-extended, or sign-extended under .s.
R43, R131, R134, R308: a load's results are written when they return; the wave's counter falls by one when no earlier
operation of its class is unfinished; nothing else of the wave's lanes changes. That the bytes are read when the word issues is the
model's reading (log 4). -/
def Obligations.LoadWords : Prop :=
  (∀ (s : State) (o : FM) (f : Ask → Target), s.Ready → s.counterFull .ld = false →
    let asks := s.active.map (s.askOf o needR false)
    let via := if o.cc = 2 then Via.bypass else if o.cc = 1 then Via.strm else Via.l1
    (s.Grants asks f →
      let p := s.loadPart via (asks.map fun a => (a, f a)) o.rd.toNat o.sx
      Ends (.ld o) s (p.1.postOps (wavesOf s.active) .ld true p.2.1 p.2.2 fun _ => .plain)) ∧
    (∀ m r, s.Alone m r →
      let ask := { s.askOf o needR false r with once := true }
      s.Grants [ask] f →
      let p := s.loadPart via [(ask, f ask)] o.rd.toNat o.sx
      Ends (.ldw o) s (p.1.addOp m.team m.wave .ld true (p.2.1.map fun x => { x.2 with lane := 32 }) []
        (p.2.2.map fun x => (x.1.lane, x.2)) .plain))) ∧
  (∀ (s : State) (a : Ask) (tid off rd : Nat) (sx : Bool) (via : Via), s.lintOn a.r.team = false →
    (∀ op ∈ s.ops, op.accs = []) →
    let bytes := cellsReadN (s.team tid).spad off a.n
    ∃ regs, s.loadPart via [(a, .spad tid off)] rd sx = (s, regs, []) ∧
      (a.n = 1 → regs = [(a.r, RegRes.mk a.r.lane rd
        (if sx then (BitVec.ofNat 8 (leNat bytes)).signExtend 32 else BitVec.ofNat 32 (leNat bytes)))]) ∧
      (a.n = 2 → regs = [(a.r, RegRes.mk a.r.lane rd
        (if sx then (BitVec.ofNat 16 (leNat bytes)).signExtend 32 else BitVec.ofNat 32 (leNat bytes)))]) ∧
      (∀ k, a.n = 4 * k → 0 < k → regs = (List.range k).map fun j =>
        (a.r, RegRes.mk a.r.lane (rd + j) (BitVec.ofNat 32 (leNat ((bytes.drop (4 * j)).take 4)))))) ∧
  ∀ (s : State) (op : Op) (later : List Op), s.ops = op :: later → op.id = s.args.a → op.done = false → op.body = .plain →
    (∀ x ∈ later, op.id < x.id ∧ x.done = false) → op.counts = true → op.eccs = [] → op.preds = [] →
    (∀ x ∈ op.regs, x.lane < 32 ∧ x.sel < 128) → op.team < s.teams.length → op.wave < (s.team op.team).waves.length →
    ∃ t, exec .loadResultReturn s = .next t ∧ t.ops = later ∧ t.mem = s.mem ∧ t.hub = s.hub ∧ t.dies = s.dies ∧
      (t.wave op.team op.wave).ctrs = (s.wave op.team op.wave).ctrs.modify op.ctr.index (· - 1) ∧
      (∀ r : Ref, (t.lane r).p = (s.lane r).p ∧ (t.lane r).flags = (s.lane r).flags ∧ (t.lane r).sp = (s.lane r).sp) ∧
      ∀ r : Ref, r.team = op.team → r.wave = op.wave → (s.lane r).ended = false → ∀ k < (s.lane r).g.length,
        (t.lane r).gr k = ((op.regs.reverse.find? fun x => x.lane == r.lane && x.sel == k).map (·.val)).getD ((s.lane r).gr k)

/-- R133 to R136, R139: stores complete, with their bytes as they stand at issue waiting to be performed, lanes in ascending
order, and the st counter one higher for each wave. R134, R135, R139: a store of one lane to a scratchpad is performed: the
bytes at its address are the ones stored, every other byte of that scratchpad, every other scratchpad and memory are as
before, and the operation is finished. -/
def Obligations.StoreWords : Prop :=
  (∀ (s : State) (o : FM) (f : Ask → Target), s.Ready → s.counterFull .st = false →
    let own := s.active.filter fun r => !((s.lane r).helper || (s.lane r).bound)
    let ask := s.askOf o needW false
    s.Grants (own.map ask) f →
    let u := (own.map ask).foldl (fun u a => u.lintAccess a.r (f a) a.n true false) (s.latched [o.rd])
    let part := fun (r : Ref) =>
      (StAcc.mk r.lane (ask r).va (f (ask r)) (s.storeBytes r o.rd (2 ^ o.sz.toNat)) o.cc.toNat)
    Ends (.st o) s (u.postOps (wavesOf s.active) .st false [] [] fun w => .store
      (((laneAsc (own.map fun r => (r, part r))).filter fun x => x.1.team == w.1 && x.1.wave == w.2).map (·.2)))) ∧
  ∀ (s : State) (op : Op) (a : StAcc) (tid off : Nat), s.liveOp s.args.a = some op → op.body = .store [a] →
    a.tgt = .spad tid off → tid < s.teams.length → cellsWf (s.team tid).spad = true →
    (∀ x ∈ s.ops, x.id = op.id ∨ x.accs = []) → (s.ops.filter fun x => x.id == op.id) = [op] →
    ∃ t, exec .storePerformed s = .next t ∧ cellsReadN (t.team tid).spad off a.bytes.length = a.bytes ∧
      (∀ b, b < off ∨ off + a.bytes.length ≤ b → cellsRead (t.team tid).spad b = cellsRead (s.team tid).spad b) ∧
      (∀ k, k ≠ tid → (t.team k).spad = (s.team k).spad) ∧ t.mem = s.mem ∧ t.hub = s.hub ∧ t.dies = s.dies ∧
      ∀ x ∈ t.ops, x.id = op.id → x.done = true

/-- R138: PREF completes whatever its addresses are. It reads the line of each lane that is no helper at the level its class
names, does nothing for an address that fails a check or is no memory, and changes no lane, no scratchpad, no outstanding
operation and no TLB; a walk that it makes counts at the memory dies (log 71). WBACK completes when every address lies outside the
windows and has a translation, whatever rights it grants: it writes the lines that its lanes name back to the level of its scope, a
line that is no memory being left alone, and the st counter is one higher for each wave. -/
def Obligations.LineWords : Prop :=
  ∀ (s : State) (o : FM), s.Ready →
    let own := s.active.filter fun r => !((s.lane r).helper || (s.lane r).bound)
    let va := fun (r : Ref) => s.src64 r o.base + o.off.signExtend 64
    let via := if o.cc = 2 then Via.bypass else if o.cc = 1 then Via.strm else Via.l1
    let fetched := own.foldl (fun (u : State) r => match u.resolve r.team (va r) 1 needR true with
      | .ok (.phys pa) =>
        ((u.noteAccess r.team (va r) 1 needR).physRead (u.team r.team).die (u.team r.team).core (pa / 128 * 128) 128 via).1
      | _ => u) s
    Ends (.pref o) s fetched ∧ fetched.teams = s.teams ∧ fetched.ops = s.ops ∧ fetched.mem.fw = s.mem.fw ∧
      (∀ d, (fetched.die d).tlbs = (s.die d).tlbs) ∧
    ∀ f : Ref → Target, s.counterFull .st = false →
      (∀ r ∈ own, inWindow (va r) = false ∧ (s.resolve r.team (va r) 1 needR false = .ok (f r) ∨
        ∃ walk ppn rights, s.resolve r.team (va r) 1 needR false = .bad .perm walk ∧
          s.page r.team (va r).toNat false = some (.leaf ppn rights) ∧
          f r = s.physTarget (s.gridOf r.team).priv (ppn * 65536 + (va r).toNat % 65536))) →
      (∀ r ∈ own, ∀ pa, f r = .phys pa → s.tileClash r (.phys (pa / 128 * 128)) 128 false = false) →
      Ends (.wback o) s ((own.foldl (fun u r => u.wbackLine r (f r) o.scope.toNat) s).postOps (wavesOf s.active) .st false [] []
        fun _ => .store [])

/-- R135, R428, R429: a load or a store of one lane whose address is no multiple of its size raises MISALIGN there and
accesses nothing; the word is counted. -/
def Obligations.MisalignedAccess : Prop :=
  ∀ (s : State) (o : FM) (r : Ref), s.Ready → s.active = [r] → (s.lane r).isHelper = false →
    (s.gridOf r.team).det = false → s.counterFull .ld = false → s.counterFull .st = false →
    let a := s.src64 r o.base + o.off.signExtend 64
    a.toNat % 2 ^ o.sz.toNat ≠ 0 →
    let trap := fun (w : Bool) => s.faultLanes [{ r, cause := .misalign, addr := a, write := w }]
    Gives (.ld o) s (((trap false).postOps [(r.team, r.wave)] .ld true [] [] fun _ => .plain).finish [r] []) ∧
    Gives (.st o) s ((((trap true).latchRead r o.rd.toNat).postOps [(r.team, r.wave)] .st false [] [] fun _ => .store []).finish
      [r] [])

/-- R234 to R239, R428, R435, R473, R500: a line that a cache gives up, and a walk that a bundle waits for: a leaf that it finds
enters the core's TLB, and the bundle no longer waits for that page; what the hub sent down the die's link before its answers has
arrived. The model's are: that the entries that the walk reads count at the memory dies (log 71), and that the walk reads the newest
entries (log 26). -/
def Obligations.CacheAndWalkEvents : Prop :=
  ∀ s : State,
    (s.args.flag = false → Gives .cacheEviction s (s.modMem fun m => m.evictL1 s.args.a s.args.b s.args.c)) ∧
    (s.args.flag = true → Gives .cacheEviction s ((s.evictL2 s.args.a s.args.c).evictLint s.args.a s.args.c)) ∧
    ((∀ b ∈ s.bundles, b.id ≠ s.args.a) → Gives .pageWalkComplete s s) ∧
    ∀ (b : Bundle) (grid vpn : Nat), (s.bundles.find? fun b => b.id == s.args.a) = some b → b.walks = [(grid, vpn)] →
      let found := s.walk (s.grids.getD grid Grid.blank).root (vpn * 65536 % 2 ^ 52)
      let v := (s.modDie b.die Die.takeIn).noteWalk (s.grids.getD grid Grid.blank).root (vpn * 65536 % 2 ^ 52)
      let u := match found with
        | .leaf ppn rights => v.modDie b.die fun d => d.tlbFill b.core { grid, vpn, ppn, rights }
        | .none => v
      Gives .pageWalkComplete s { u with bundles := s.bundles.map fun y => if y.id == b.id then
        { y with walks := y.walks.erase (grid, vpn), walked := (grid, vpn, found) :: y.walked } else y }

/-! ### Synchronisation -/

/-- R278 to R285: atomics complete. Each lane that is no helper reads its place and writes the new value in lane order; what
the place held is the result; a failing CAS writes nothing; helper lanes take zero; the ld counter is one higher for each
wave. Releases come first and acquires last; no ACCST of the lanes has still to be performed before a release (log 102), and no
access is governed by a commit token. R280, R281: an atomic of one lane on a scratchpad, its own earlier stores
performed and the lint filter off: it answers the old bytes, writes the new ones over them, and a CAS that fails writes
nothing. -/
def Obligations.AtomicWords : Prop :=
  (∀ (s : State) (o : FM) (f : Ask → Target), s.Ready → s.counterFull .ld = false →
    (o.cc.getLsbD 1 = true → s.tileStores s.active = false ∧ ∀ r ∈ s.active, s.governed (s.askOf o needRW true r) = false) →
    let u := if o.cc.getLsbD 1 then s.releaseWord o.scope.toNat else s
    let own := u.active.filter fun r => !((u.lane r).helper || (u.lane r).bound)
    let ask := u.askOf o needRW true
    u.Ready → u.Grants (own.map ask) f →
    let performs := fun (i : Instr) (op : Ref → Nat → Option Nat) =>
      let p := own.foldl (fun (p : State × List (Ref × RegRes) × List (Ref × DWord)) r =>
        match p.1.atomicLane o r (ask r).va (f (ask r)) (2 ^ o.sz.toNat) (op r) with
        | (t, some old) => (t, p.2.1 ++ laneRegs r (loadRegs o.rd.toNat (2 ^ o.sz.toNat) false old), p.2.2)
        | (t, none) => (t, p.2.1, p.2.2 ++ [(r, (ask r).va)])) (u, [], [])
      let zero := (u.active.filter fun r => (u.lane r).helper || (u.lane r).bound).flatMap fun r =>
        laneRegs r (loadRegs o.rd.toNat (2 ^ o.sz.toNat) false [])
      let t := if o.cc.getLsbD 0 then p.1.acquireWord o.scope.toNat else p.1
      Ends i s (t.postOps (wavesOf u.active) .ld true (p.2.1 ++ zero) p.2.2 fun _ => .plain)
    let w := 8 * 2 ^ o.sz.toNat
    let v := fun (r : Ref) => if o.sz = 1 then (u.rawReg r o.rd.toNat).toNat % 65536
      else if o.sz = 2 then (u.rawReg r o.rd.toNat).toNat else (u.rawPair r o.rd.toNat).toNat
    let int := fun (x : Nat) => (BitVec.ofNat w x).toInt
    let F := if o.sz = 1 then Fmt.b16 else Fmt.b32
    performs (.atomAdd o) (fun r old => some ((old + v r) % 2 ^ w)) ∧
    performs (.atomMin o) (fun r old => some (if int (v r) < int old then v r else old)) ∧
    performs (.atomMax o) (fun r old => some (if int old < int (v r) then v r else old)) ∧
    performs (.atomAnd o) (fun r old => some (old &&& v r)) ∧
    performs (.atomOr o) (fun r old => some (old ||| v r)) ∧
    performs (.atomXor o) (fun r old => some (old ^^^ v r)) ∧
    performs (.atomExch o) (fun r _ => some (v r)) ∧
    performs (.atomFadd o) (fun r old => some (deliver F 0 false 0 (addE 0 (F.value old) (F.value (v r)))).1) ∧
    performs (.atomFmin o) (fun r old => some (minMaxNum F false old (v r)).1) ∧
    performs (.atomFmax o) (fun r old => some (minMaxNum F true old (v r)).1) ∧
    performs (.cas o) (fun r old =>
      if o.sz = 2 then (if old = (u.rawReg r o.rd.toNat).toNat then some (u.rawReg r (o.rd.toNat + 1)).toNat else none)
      else if old = (u.rawPair r o.rd.toNat).toNat then some (u.rawPair r (o.rd.toNat + 2)).toNat else none)) ∧
  ∀ (s : State) (o : FM) (r : Ref) (va : DWord) (tid off n : Nat) (op : Nat → Option Nat), s.lintOn r.team = false →
    (∀ x ∈ s.ops, x.accs = []) →
    let old := cellsReadN (s.team tid).spad off n
    s.atomicLane o r va (.spad tid off) n op = ((match op (leNat old) with
      | some v => (s.wakeMonitors (.spad tid off) n).modTeam tid fun x => { x with spad := cellsWriteN x.spad off (leBytes n v) }
      | none => s), some old)

/-- R250, R253, R255, R287 to R289: a FENCE releases, acquires or both, at its scope, for its lanes that are no helpers, and
changes no counter, where no REMOTEPERM is pending once its release has performed the stores before it, and no ACCST of its lanes
has still to be performed before a release; ACQ.REMOTE reads at the hub directory and then acquires at device scope. -/
def Obligations.FenceWords : Prop :=
  ∀ (s : State) (o : FM), s.Ready →
    let own := s.active.filter fun r => !((s.lane r).helper || (s.lane r).bound)
    let rel := o.cc = 0 ∨ o.cc.getLsbD 1 = true
    let acq := o.cc = 0 ∨ o.cc.getLsbD 0 = true
    let u := if rel then (wavesOf own).foldl (fun u w => u.release w.1 w.2 o.scope.toNat) s else s
    let v := if acq then u.acquireWord o.scope.toNat else u
    let x := if 3 ≤ o.scope.toNat then ((own.map (·.team)).eraseDups).foldl (fun x t => x.lintFence t acq rel) v else v
    ((rel → s.tileStores s.active = false) → (∀ m ∈ s.bundle.members, (u.wave m.team m.wave).rperm = none) →
      Ends (.fence o) s (if own.isEmpty then s else x)) ∧
    ∀ f : Ask → Target, s.counterFull .ld = false →
      let ask := s.askOf o needR true
      s.Grants (s.active.map ask) f → (∀ r ∈ s.active, inWindow (ask r).va = false) →
      let l := own.foldl (fun u r => if u.lintScope r (ask r).va 5 then u.lintAtomicRead r (f (ask r)) true else u) s
      let p := l.loadPart .hub ((s.active.map ask).map fun a => (a, f a)) o.rd.toNat false
      Ends (.acqRemote o) s ((if own.isEmpty then p.1 else p.1.acquireWord 5).postOps (wavesOf s.active) .ld true p.2.1 p.2.2
        fun _ => .plain)

/-- R290 to R293, R183: an MWAIT of one lane whose location no longer reads as its register did takes the value and goes on;
otherwise the lane parks with a monitor on it. A wake of such a lane makes its final read: the register takes the value, the monitor
is free, and the lane goes on at the next clause. Here on a scratchpad, in relaxed order and with a free monitor. That the word
is executed to its end by the event that wakes its entry, and that the event may come at any moment, is the model's (logs 40 and
77). -/
def Obligations.MonitorWaits : Prop :=
  (∀ (s : State) (o : FM) (r : Ref) (off : Nat), s.Ready → s.active = [r] → (s.lane r).isHelper = false → o.sz = 2 → o.cc = 0 →
    s.lintOn r.team = false → (∀ x ∈ s.ops, x.accs = []) → (s.lane r).mon = none → (s.gridOf r.team).det = false →
    s.monitors (s.team r.team).die (s.team r.team).core < 128 →
    s.Grants [s.askOf o needR true r] (fun _ => .spad r.team off) →
    let v := BitVec.ofNat 32 (leNat (cellsReadN (s.team r.team).spad off 4))
    let seen := s.rawReg r o.rd.toNat
    (v ≠ seen → Ends (.mwait o) s ((s.modLane r fun l => { l with mon := none }).setReg r o.rd.toNat v)) ∧
    (v = seen → Gives (.mwait o) s (((s.modLane r fun l =>
      { l with mon := some { addr := s.src64 r o.base + o.off.signExtend 64, seen := seen.setWidth 64, tgt := .spad r.team off,
                             n := 4, woken := false } }).parkLanes [r] 2 (.monitor s.word)
        false).finish [r] []))) ∧
  ∀ (s : State) (e : Entry),
    ((s.wave s.args.a s.args.b).entry s.args.c = none → Gives .mwaitWake s s) ∧
    ((s.wave s.args.a s.args.b).entry s.args.c = some e → e.park ≠ 2 → Gives .mwaitWake s s) ∧
    ((s.team s.args.a).place ≠ .resident → Gives .mwaitWake s s) ∧
    ((s.wave s.args.a s.args.b).entry s.args.c = some e → s.mayGo s.args.a s.args.b e = false → Gives .mwaitWake s s) ∧
    ∀ (r : Ref) (word : DWord) (o : FM) (m : Monitor) (tid off : Nat), s.Quiet → r.team = s.args.a → r.wave = s.args.b →
      (s.wave r.team r.wave).entries = [e] → e.slot = s.args.c → e.park = 2 → e.why = .monitor word → e.mask = 1 <<< r.lane →
      e.flight = none → e.defer = 0 → r.lane < 32 → decodeWord word = .ok (.mwait o) → o.sz = 2 → o.cc = 0 → (guardOfWord word).sw = false →
      guardHolds (guardOfWord word) (s.lane r) = true → (s.lane r).mon = some m → (s.lane r).ended = false →
      (s.lane r).isHelper = false → (s.team r.team).pickable = true → (s.gridOf r.team).det = false → s.lintOn r.team = false →
      (∀ x ∈ s.ops, x.accs = []) → o.rd.toNat < 128 → o.rd.toNat < (s.lane r).g.length →
      s.window r.team (s.askOf o needR true r).va 4 = some (some (tid, off)) → (s.askOf o needR true r).va.toNat % 4 = 0 →
      s.absentAt (.spad tid off) 4 = none →
      ∃ t, exec .mwaitWake s = .next t ∧ (t.lane r).mon = none ∧
        (t.lane r).gr o.rd.toNat = BitVec.ofNat 32 (leNat (cellsReadN (s.team tid).spad off 4)) ∧
        ∃ x ∈ (t.wave r.team r.wave).entries, x.mask = e.mask ∧ x.flight = none ∧ x.park = 0 ∧
          x.clause = e.clause + BitVec.ofNat 64 (8 * (e.idx + 2)) ∧ x.idx = 0

/-- R211 to R214: SYNCW and WSYNCM for one lane, whose wave's other lanes stand in other entries, some parked as arrived before it,
none deferred. When every lane that is waited for has arrived, the lane and those parked before it go on: their arrivals are over, and
they stand at the clause after their own word, those of one word in one entry. When another lane is still to come, the lane stands
parked at the word as arrived. Both change no register, no predicate and no memory. A WSYNCM whose mask leaves out its own lane or
names an absent one, or one of whose pairs of lanes conflicts with the lane's mask, raises SYNCMASK there and on the arrived lanes
of those pairs, at their own words, and the arrivals end. No store of the wave waits to be performed here. That the word's own
summary comes after theirs is the model's (log 92). -/
def Obligations.ReconvergenceWords : Prop :=
  ∀ (s : State) (o : F3) (m : Member) (r : Ref) (e : Entry), s.Ready → s.NoStores → s.bundle.members = [m] → s.active = [r] →
    (s.lane r).isHelper = false → (s.wave m.team m.wave).rperm = none → (s.gridOf m.team).det = false → m.mask = 1 <<< r.lane →
    let lane := fun (k : Nat) => s.lane ⟨r.team, r.wave, k⟩
    let es := (s.wave m.team m.wave).entries
    let parked := fun (x : Entry) => x.park = 3 ∧ x.flight = none ∧
      ∃ a, ∀ k < 32, x.mask.getLsbD k = true → (lane k).ended = false ∧ (lane k).arrival = some a
    e ∈ es → e.slot = m.slot → e.mask = m.mask → e.defer = 0 →
    es.Pairwise (fun x y => x.slot ≠ y.slot ∧ x.mask &&& y.mask = 0) →
    (∀ x ∈ es, x ≠ e → x.defer = 0 ∧ (parked x ∨ ∀ k < 32, x.mask.getLsbD k = true → (lane k).arrival = none)) →
    (∀ k < 32, (lane k).ended = false → ∃ x ∈ es, x.mask.getLsbD k = true) →
    let here := fun (k : Option (BitVec 32)) => (⟨s.bundle.clause, s.bundle.idx, k⟩ : Arrival)
    let stands := fun (q : Nat) (k : Option (BitVec 32)) => if q = r.lane then some (here k) else (lane q).arrival
    let counts := fun (q : Nat) => q < 32 ∧ (lane q).ended = false ∧ (lane q).isHelper = false
    let keeps := fun (t : State) => t.mem = s.mem ∧
      ∀ q, let l := t.lane ⟨r.team, r.wave, q⟩
        l.g = (lane q).g ∧ l.p = (lane q).p ∧ l.sp = (lane q).sp ∧ l.ended = (lane q).ended
    let goesOn := fun (i : Instr) (k : Option (BitVec 32)) (with' : Arrival → Prop) => ∃ t, exec i s = .next t ∧ keeps t ∧
      ∀ (q : Nat) (a : Arrival), q < 32 → (lane q).ended = false → stands q k = some a → with' a →
        (t.lane ⟨r.team, r.wave, q⟩).arrival = none ∧
        ∃ x ∈ (t.wave m.team m.wave).entries, x.mask.getLsbD q = true ∧ x.flight = none ∧
          x.clause = a.clause + BitVec.ofNat 64 (8 * (a.idx + 2)) ∧ x.idx = 0 ∧
          ∀ p < 32, (lane p).ended = false → stands p k = some a → x.mask.getLsbD p = true
    let waits := fun (i : Instr) (k : Option (BitVec 32)) => ∃ t, exec i s = .next t ∧ keeps t ∧
      (t.lane r).arrival = some (here k) ∧
      ∃ x ∈ (t.wave m.team m.wave).entries, x.mask.getLsbD r.lane = true ∧ x.flight = none ∧ x.park = 3
    let mask := s.src r .i32 o.ra o.ea
    let all := ∀ q, counts q → stands q none = some (here none)
    let named := ∀ q, counts q → mask.getLsbD q = true → ∃ a, stands q (some mask) = some a ∧ a.mask = some mask
    let clash := (List.range 32).filter fun q => q != r.lane && !(lane q).ended && !(lane q).isHelper &&
      match (lane q).arrival.bind (·.mask) with
      | some k => (mask.getLsbD q || k.getLsbD r.lane) && k != mask
      | none => false
    let bad := mask.getLsbD r.lane = false ∨ (∃ q < 32, mask.getLsbD q = true ∧ (lane q).absent = true) ∨ clash ≠ []
    (all → goesOn .syncw none (· = here none)) ∧ (¬all → waits .syncw none) ∧
    (¬bad → (named → goesOn (.wsyncm o) (some mask) fun a => a.mask = some mask) ∧ (¬named → waits (.wsyncm o) (some mask))) ∧
    (bad → Gives (.wsyncm o) s (((((((s.latchRead r o.ra.toNat).syncFaults r.team r.wave clash).modLane r
      fun l => { l with arrival := none }).faultLanes [{ r, cause := .syncmask }])).syncPass r.team r.wave).finish [r] []))

/-! ### Barriers -/

/-- R215 to R222: arrivals, byte counts and generations of one lane at a barrier of its team. A phase completes when ARRIVED
has reached EXPECT and TXPEND is zero: GEN goes up by one and ARRIVED to zero. The destination takes the generation to wait
for. R225: the privileged words that save a barrier to 16 bytes and restore it, here in a scratchpad with no store waiting
and the lint filter off; a barrier comes back as it was saved. -/
def Obligations.BarrierWords : Prop :=
  (∀ (s : State) (o : FA) (m : Member) (r : Ref), s.Ready → s.bundle.members = [m] → s.active = [r] → (s.lane r).isHelper = false →
    (s.wave m.team m.wave).rperm = none → (s.gridOf m.team).det = false → s.NoStores →
    let b := (s.team r.team).bars.getD o.bar.toNat (Barrier.init 0)
    let put := fun (u : State) (c : Barrier) =>
      let done := c.expect.toNat ≤ c.arrived.toNat ∧ c.txpend = 0
      let v := u.modTeam r.team fun t => { t with bars := t.bars.modify o.bar.toNat fun _ =>
        if done then { c with gen := c.gen + 1, arrived := 0 } else c }
      if done then v.recompare r.team o.bar.toNat else v
    let count := fun (c : Barrier) => { c with arrived := if c.arrived = 0xFFFF then c.arrived else c.arrived + 1 }
    let bytes := { b with txpend := b.txpend + s.src r .i32 o.rb 0 }
    o.bar.toNat < (s.team r.team).bars.length →
    (o.sub = 0 → Ends (.barr o) s ((put s (count b)).setReg r o.rd.toNat (b.gen + 1))) ∧
    (o.sub = 1 → Ends (.barr o) s
      ((put s { b with expect := if b.expect = 0 then 0 else b.expect - 1 }).setReg r o.rd.toNat (b.gen + 1))) ∧
    (o.sub = 0 → Ends (.btxn o) s (put (s.latchRead r o.rb.toNat) bytes)) ∧
    (o.sub = 1 → Ends (.btxn o) s ((put (s.latchRead r o.rb.toNat) (count bytes)).setReg r o.rd.toNat (b.gen + 1))) ∧
    (let n := (s.src r .i32 o.rb 0).extractLsb' 0 16
     Ends (.bgenInit o) s ((s.latchRead r o.rb.toNat).modBarrier r.team o.bar.toNat fun x =>
      { x with expect := if n = 0 then BitVec.ofNat 16 (s.gridOf r.team).nt else n, arrived := 0, txpend := 0 })) ∧
    (0 ≤ (b.gen - s.src r .i32 o.rb 0).toInt → Ends (.bwait o) s ((s.latchRead r o.rb.toNat).acquire r.team 2)) ∧
    (let l := s.latchRead r o.rb.toNat
     (b.gen - s.src r .i32 o.rb 0).toInt < 0 → Gives (.bwait o) s
      (((l.modLane r fun x => { x with target := some (l.src r .i32 o.rb 0) }).parkLanes [r] 1 (.barrier o.bar.toNat) false).finish
        [] []))) ∧
  (∀ (s : State) (o : FA) (m : Member) (r : Ref) (off : Nat), s.Ready → s.issueGrid.priv = true → s.Alone m r →
    o.sub = 0 → s.lintOn r.team = false → (∀ x ∈ s.ops, x.accs = []) →
    let ask := fun (need : Nat) => ({ r, va := s.src64 r o.ra + 0, n := 16, al := 16, need, once := true, exempt := true } : Ask)
    let b := (s.team r.team).bars.getD o.bar.toNat (Barrier.init 0)
    let image := leBytes 8 (b.gen.toNat + b.expect.toNat * 2 ^ 32) ++ leBytes 8 (b.arrived.toNat + b.txpend.toNat * 2 ^ 32)
    (s.Grants [ask needW] (fun _ => .spad r.team off) →
      Ends (.barsv o) s ((s.wakeMonitors (.spad r.team off) 16).modTeam r.team fun x =>
        { x with spad := cellsWriteN x.spad off image })) ∧
    (s.Grants [ask needR] (fun _ => .spad r.team off) → Ends (.barld o) s
      (((s.modBarrier r.team o.bar.toNat fun _ => barrierOf (cellsReadN (s.team r.team).spad off 16)).phase r.team
        o.bar.toNat).recompare r.team o.bar.toNat))) ∧
  ∀ b : Barrier, barrierOf b.image = b

/-! ### The Shuttle -/

/-- R310, R314 to R318: a copy completes when every lane's probe finds no cause: each lane's copy starts, in lane order, and
the wave has one more operation of class cp. Nothing waits for a token, a draining handle, a full counter or a release here. A lane
whose probe finds a cause raises it and copies nothing: of several the one of highest priority, then of the first part, then at the
lowest address. A record at an address that is no multiple of 64, one that the read meets a cause at, and an invalid one are such,
and for CPY.L a source, a destination or a length that is no multiple of 16, and a length of zero or above 2^24.
R317, R318, R240: the last piece of a copy into a scratchpad arrives: its bytes stand there, every other byte of that
scratchpad is as before, the line is present again, and no piece is left. A copy without pieces left is complete. That a piece
reads the newest data at the moment of its arrival is the model's choice (log 23), and so are that the walks and reads of a probe
count at the memory dies when the word issues (log 71) and that FADDR of a LAYOUT cause is 0 (log 96). -/
def Obligations.CopyWords : Prop :=
  (∀ (s : State) (o : FA) (plan : Ref → Plan), s.Ready → s.NoStores → s.cpWaits = false →
    (∀ m ∈ s.bundle.members, (s.wave m.team m.wave).rperm = none) → (∀ r ∈ s.active, (s.gridOf r.team).det = false) →
    (∀ r ∈ s.active, (s.team r.team).handles.all (fun x => x.state != 3) = true) →
    let own := s.active.filter fun r => !((s.lane r).helper || (s.lane r).bound)
    s.copiesOn s.bundle.die s.bundle.core + own.length ≤ Config.coreCopies →
    let started := fun (v : State) => (laneAsc (own.map fun r => (r, plan r))).foldl (fun (q : State × List (Ref × Copy)) x =>
      ((q.1.startCopy o x.1 x.2).1, q.2 ++ [(x.1, (q.1.startCopy o x.1 x.2).2)])) (v, [])
    let u := fun (v : State) => (started v).1.postOps (wavesOf s.active) .cp false [] [] fun w =>
      .copies (((started v).2.filter fun x => x.1.team == w.1 && x.1.wave == w.2).map (·.2))
    let walks := fun (v : State) (r : Ref) (xs : List (DWord × Nat)) => xs.foldl (fun v x => v.noteRange r.team x.1 x.2 needR) v
    let readT := own.foldl (fun v r => walks (v.noteBytes r.team (v.src64 r o.ra) 64 needR) r (v.rangesT o r)) s
    let readL := own.foldl (fun v r => walks v r (v.rangesL o r)) s
    ((∀ r ∈ own, s.probeT o r = .ok (plan r)) → Ends (.cpyT o) s (u readT)) ∧
    ((∀ r ∈ own, s.probeL o r = .ok (plan r)) → Ends (.cpyL o) s (u readL)) ∧
    ∀ r b, s.active = [r] → own = [r] →
      let raises := fun (i : Instr) (v : State) => Gives i s (((v.faultLanes
        [{ r, cause := b.cause, addr := b.addr, write := b.write, walk := b.walk }]).postOps (wavesOf [r]) .cp false [] []
          fun _ => .copies []).finish [r] [])
      (s.probeT o r = .bad b → raises (.cpyT o) readT) ∧ (s.probeL o r = .bad b → raises (.cpyL o) readL)) ∧
  (∀ (s : State) (o : FA) (r : Ref),
    let a := s.src64 r o.ra
    (a.toNat % 64 ≠ 0 → s.probeT o r = .bad { cause := .misalign, part := 0, addr := a }) ∧
    (a.toNat % 64 = 0 →
      (∀ c w, s.engRead r.team a 64 = .bad c w → s.probeT o r = .bad { cause := c, part := 0, addr := a, walk := w }) ∧
      ∀ b, s.engRead r.team a 64 = .ok b → layoutOf b = none → s.probeT o r = .bad { cause := .layout, part := 0 }) ∧
    let p := s.planL o r
    (a.toNat % 16 ≠ 0 ∨ p.dst.toNat % 16 ≠ 0 → ∃ b, s.probeL o r = .bad b ∧ b.cause = .misalign) ∧
    (p.total = 0 ∨ p.total % 16 ≠ 0 ∨ 2 ^ 24 < p.total → ∃ b, s.probeL o r = .bad b)) ∧
  (∀ bs : List ProbeBad, (probeWorst bs = none ↔ bs = []) ∧ ∀ b, probeWorst bs = some b → b ∈ bs ∧
    ∀ x ∈ bs, (b.cause.code * 8 + b.part) * 2 ^ 64 + b.addr.toNat ≤ (x.cause.code * 8 + x.part) * 2 ^ 64 + x.addr.toNat) ∧
  (∀ (s : State) (op : Op) (c : Copy) (p : Piece) (t : Target) (tid off line : Nat) (b : List Byte),
    s.liveOp s.args.a = some op → op.body = .copies [c] → c.lane = s.args.b → s.args.c = 0 → c.pieces = [p] → c.bar = none →
    c.hnd = none → p.hnd = none → p.src = some t → p.dst = .spad tid off → c.lines = [(tid, line)] → s.absentAt t p.n = none →
    s.nowTarget t p.n = some b → b.length = p.n → tid < s.teams.length → cellsWf (s.team tid).spad = true →
    (s.ops.filter fun x => x.id == op.id) = [op] →
    ∃ u, exec .copyLineArrival s = .next u ∧ cellsReadN (u.team tid).spad off p.n = b ∧
      (∀ a, a < off ∨ off + p.n ≤ a → cellsRead (u.team tid).spad a = cellsRead (s.team tid).spad a) ∧
      (u.team tid).absentLines = (s.team tid).absentLines.filter (· != line) ∧
      u.mem = (s.noteTarget (s.team op.team).die t p.n).mem ∧
      ∀ x ∈ u.ops, x.id = op.id → x.body = .copies [{ c with pieces := [], lines := [] }]) ∧
  ∀ (s : State) (op : Op) (cs : List Copy), s.liveOp s.args.a = some op → op.body = .copies cs →
    ((∃ c ∈ cs, c.pieces ≠ []) → Gives .copyComplete s s) ∧
    ((∀ c ∈ cs, c.pieces = [] ∧ c.keys = []) → Gives .copyComplete s (s.opDone op.id))

/-- R320, R321: words on a handle, for one entry. OBRES reserves a free handle when the core has the granules, and answers 1,
or answers 0; OBREL and OBSTATE.refill free or refill a full one, at once or after its multiplications have read it;
OBSTATE.full marks a filling one; .read and .pend answer its image and its missing bytes. A result goes to every active lane. A word on a free
handle, and an OBRES of no granule, of too many, of more bytes than they hold or with its scales outside them, raises LAYOUT. That
the handle is judged and changed when the word issues, and the Shuttle is left the result and the count, is the model's reading
(log 21), and so is that the words that waited for the handle's state issue at once (log 40). -/
def Obligations.HandleWords : Prop :=
  ∀ (s : State) (o : FA) (m : Member) (r : Ref), s.Ready → s.Alone m r → s.cpWaits = false →
    let x := fun (h : BitVec 5) => s.handle r.team h.toNat
    let put := fun (u : State) (h : BitVec 5) (y : Handle) =>
      let v := u.modTeam r.team fun t => { t with handles := t.handles.modify h.toNat fun _ => y }
      (if (x h).state = y.state then v else v.wakeHandle r.team h.toNat).settleHandle r.team h.toNat
    let ends := fun (i : Instr) (u : State) (v : Option Word) (waits : List Nat) =>
      Ends i s (u.addOp m.team m.wave .cp v.isSome (match v with
        | some v => (s.activeOf m).map fun q => ⟨q.lane, o.rd.toNat, v⟩
        | none => []) [] [] (.shuttle [] waits))
    let layout := fun (i : Instr) (u : State) (writes : Bool) (waits : List Nat) =>
      Gives i s (((u.faultLanes [{ r, cause := .layout }]).postOps (wavesOf s.active) .cp writes [] [] fun _ =>
        .shuttle [] waits).finish s.active [])
    let h := o.h
    let g := ((s.lane r).gr o.rb.toNat).toNat
    let e := (s.lane r).gr (o.rb.toNat + 1)
    let fmt := bitsOf o.sub.toNat 0 3
    let off := bitsOf o.sub.toNat 5 6
    let used := s.granules (s.team r.team).die (s.team r.team).core
    let w := (faOfWord s.word).h
    let n := s.src r .i32 o.rb 0
    ((x h).state = 0 → 0 < g → e.toNat ≤ g * 4096 → (blockedFmt fmt = true → off < g) → used + g ≤ 64 →
      ends (.obres o) (put s h { Handle.blank with state := 1, fmt, baxis := o.sub.getLsbD 3, gcnt := g, scoff := off, pend := e })
        (some 1) []) ∧
    ((x h).state = 0 → 0 < g → g ≤ 64 → e.toNat ≤ g * 4096 → (blockedFmt fmt = true → off < g) → 64 < used + g →
      ends (.obres o) (put s h (x h)) (some 0) []) ∧
    ends (.obstateRead o) (put s h (x h)) (some (x h).image) [] ∧
    ends (.obstatePend o) (put s h (x h)) (some (x h).pend) [] ∧
    ((x w).state = 2 → s.mxHolds r.team w.toNat = false → ends .obrel (put s w Handle.blank) none []) ∧
    ((x w).state = 2 → s.mxHolds r.team w.toNat = true → ends .obrel (put s w { x w with state := 3, next := true }) none []) ∧
    ((x h).state = 2 → s.mxHolds r.team h.toNat = false →
      ends (.obstateRefill o) ((put s h { x h with state := 1, pend := n, plf := 8 }).latchRead r o.rb.toNat) none []) ∧
    ((x h).state = 2 → s.mxHolds r.team h.toNat = true →
      ends (.obstateRefill o) ((put s h { x h with state := 3, next := false, refill := n }).latchRead r o.rb.toNat) none []) ∧
    ((x w).state = 2 → ends .obstateFull (put s w (x w)) none [w.toNat]) ∧
    ((x w).state = 1 → ends .obstateFull (put s w { x w with full := true }) none [w.toNat]) ∧
    (g = 0 ∨ 64 < g ∨ g * 4096 < e.toNat ∨ (blockedFmt fmt = true ∧ g ≤ off) → layout (.obres o) s true []) ∧
    ((x w).state = 0 → layout .obrel s false [] ∧ layout .obstateFull s false [w.toNat]) ∧
    ((x h).state = 0 → layout (.obstateRefill o) (s.latchRead r o.rb.toNat) false [])

/-- R240, R241, R311, R323, R324: PRSET and PRCLR leave a change of presence bits to the Shuttle, PRTEST reads the bits, and
WAITC lets a lane go on once its counter has fallen far enough and parks it before. R240, R308, R315, R321, R323: an
operation of the Shuttle is performed: presence bits change as its word said, its results are written and its count retires;
OBSTATE.full waits for its handle to be full. That a word that waited for a line issues at once is the model's reading (log 40). -/
def Obligations.PresenceWords : Prop :=
  ((∀ (s : State) (o : FA) (m : Member) (r : Ref) (p : Nat × Nat × Nat), s.Ready → s.Alone m r → s.cpWaits = false →
    s.NoStores → (s.wave m.team m.wave).rperm = none → s.presenceLines o r = .ok (some p) →
    let post := fun (set : Bool) =>
      (s.latchRead r o.rb.toNat).addOp m.team m.wave .cp false [] [] [] (.shuttle [(p.1, p.2.1, p.2.2, set)] [])
    Ends (.prset o) s (post true) ∧ Ends (.prclr o) s (post false)) ∧
  (∀ (s : State) (o : FA) (at' : Ref → Nat × Nat), s.Ready →
    (∀ r ∈ s.active, s.window r.team (s.src64 r o.ra) 1 = some (some (at' r))) →
    Ends (.prtest o) s (s.applyAll (s.active.map fun r =>
      (r, { preds := [(o.rd.toNat, decide ((at' r).2 / 128 ∉ (s.team (at' r).1).absentLines))] })))) ∧
  ∀ (s : State) (o : FA) (m : Member), s.Ready → s.bundle.members = [m] → s.active ≠ [] →
    (s.wave m.team m.wave).allow = none → (s.wave m.team m.wave).rperm = none → (∀ r ∈ memberRefs m, (s.lane r).ecc = none) →
    (s.team m.team).acqKeys = [] →
    let ctr := bitsOf o.sub.toNat 6 3
    let t := bitsOf o.sub.toNat 0 6
    let n := (s.wave m.team m.wave).ctrs.getD ctr 0
    (n ≤ t → Ends (.waitc o) s s) ∧
    (t < n → Gives (.waitc o) s ((s.parkLanes (memberRefs m) 4 (.waitc ctr t s.word) false).finish s.active []))) ∧
  (∀ (s : State) (op : Op) (lines : List (Nat × Nat × Nat × Bool)) (waits : List Nat), s.liveOp s.args.a = some op →
    op.body = .shuttle lines waits →
    ((∃ h ∈ waits, (s.handle op.team h).full = true) ∨ s.resultWaits op = true → Gives .shuttleOpPerform s s) ∧
    ((∀ h ∈ waits, (s.handle op.team h).full = false) → s.resultWaits op = false →
      let sets := ∃ x ∈ lines, x.2.2.2 = true
      let pair := op.team :: (s.partner op.team).toList
      let acquired := if sets ∧ (s.gridOf op.team).cl2 = true then pair.foldl (fun u t => u.acquire t 3) s else s
      Gives .shuttleOpPerform s
        (((lines.foldl (fun u x => u.setPresence x.1 ((List.range x.2.2.1).map (x.2.1 + ·)) x.2.2.2) acquired).writeResults
          op).opDone op.id))) ∧
  ∀ (s : State) (tid : Nat) (lines : List Nat) (line : Nat), tid < s.teams.length → line < 4096 →
    (line ∈ ((s.setPresence tid lines true).team tid).absentLines ↔ line ∈ (s.team tid).absentLines ∧ line ∉ lines) ∧
    (line ∈ ((s.setPresence tid lines false).team tid).absentLines ↔ line ∈ (s.team tid).absentLines ∨ line ∈ lines)

/-! ### Mangle -/

/-- R330 to R333, R344 to R347: a matrix word of one entry whose handle is full and fits (R347), whose tile has the type of
its operation unless the word sets it, and whose latch, if one is held, is of its A type and long enough, completes: it
captures its A rows, from the latch or from the registers of its wave, and leaves the rest to the engine; the mx counter is
one higher. A paired shape needs the partner. Without a latch and with an unpaired shape it captures 16 words of each of its
rows, two rows to a lane. RU keeps the latch, or makes one of what was captured; without RU none is held afterwards.
A word of which one of these does not hold, its handle not filling or draining, raises LAYOUT (R347). That the latch is resolved and
the tile's type set when the word issues, and that the word's own SSEL decides its form beside a latch, is the model's (log 24). -/
def Obligations.MatrixWords : Prop :=
  ∀ (s : State) (o : FX) (m : Member) (r : Ref), s.Ready → s.Alone m r → s.counterFull .mx = false →
    let x := s.handle r.team o.bh.toNat
    let T := o.tile.toNat
    let rows := (shapeMN o.shape.toNat).1
    let cols := (shapeMN o.shape.toNat).2
    let paired := o.shape = 5 ∨ o.shape = 6
    let need := if paired then 128 else rows
    let held := (s.team r.team).latch
    let form := fun (aty : Nat) => decide (aty = 0 ∧ o.ssel = 2 ∧ x.fmt = 0)
    (x.state = 2 → o.pl.toNat ≤ x.plf → (o.pl.toNat < 8 → x.fmt = 3) → (x.fmt = 3 → x.baxis = true) →
    o.boff.toNat * 4096 + 64 * cols ≤ x.area → (∀ l, held = some l → need ≤ l.rows) →
    let completes := fun (i : Instr) (aty : Nat) =>
      let int := form aty
      let typed := fun (k : Nat) => o.am = 1 ∨ (s.tile k T).int = int
      (if aty < 3 then x.fmt = 0 ∨ x.fmt = 3 ∨ x.fmt = 4 else x.fmt = 1) → (∀ l, held = some l → l.aty = aty) → typed r.team →
      (paired → ∃ p, s.mxMate r.team r.wave T = some p ∧ typed p) →
      ∃ (j : MxJob) (left : Option Latch),
        Ends i s (((if o.am = 1 then (j.teams r.team).foldl (fun u t => u.modTile t T fun y => { y with int })
          (s.modTeam r.team fun t => { t with latch := left }) else s.modTeam r.team fun t => { t with latch := left })).addOp
            m.team m.wave .mx false [] [] [] (.mx j)) ∧
        j.lane = r.lane ∧ j.aty = aty ∧ j.m = rows ∧ j.n = cols ∧ j.handle = o.bh.toNat ∧ j.off = o.boff.toNat * 4096 ∧
        j.tile = T ∧ j.am = o.am.toNat ∧ j.int = int ∧ j.planes = o.pl.toNat ∧ j.started = false ∧ j.shadows = [] ∧
        (paired → j.mate = s.mxMate r.team r.wave T) ∧ (¬paired → j.mate = none) ∧
        (∀ l, held = some l → j.rows = l.data.take need ∧ j.scales = l.scales.take need ∧ (o.ru = true → left = some l)) ∧
        (held = none → (o.ru = true → left = some { aty, rows := need, data := j.rows, scales := j.scales }) ∧
          (¬paired → ∀ k < rows, j.rows.getD k [] = (List.range 16).map fun i =>
            let l := s.lane ⟨r.team, r.wave, k / 2⟩
            if l.absent then 0 else l.gr (o.abase.toNat + 16 * (k % 2) + i))) ∧
        (o.ru = false → left = none)
    completes (.mxI8 o) 0 ∧ completes (.mxE4 o) 1 ∧ completes (.mxE5 o) 2 ∧ completes (.mxH o) 3 ∧ completes (.mxBf o) 4) ∧
    (x.state ≠ 1 → x.state ≠ 3 →
    let layout := fun (i : Instr) (aty : Nat) =>
      x.state = 0 ∨ ¬(if aty < 3 then x.fmt = 0 ∨ x.fmt = 3 ∨ x.fmt = 4 else x.fmt = 1) ∨ (x.fmt = 3 ∧ x.baxis = false) ∨
        (o.pl.toNat < 8 ∧ x.fmt ≠ 3) ∨ x.plf < o.pl.toNat ∨ x.area < o.boff.toNat * 4096 + 64 * cols ∨
        (o.am ≠ 1 ∧ (s.tile r.team T).int ≠ form aty) ∨ (∃ l, held = some l ∧ (l.aty ≠ aty ∨ l.rows < need)) ∨
        (paired ∧ s.mxMate r.team r.wave T = none) →
      Gives i s (((s.faultLanes [{ r, cause := .layout }]).emptyOps (wavesOf s.active) .mx).finish s.active [])
    layout (.mxI8 o) 0 ∧ layout (.mxE4 o) 1 ∧ layout (.mxE5 o) 2 ∧ layout (.mxH o) 3 ∧ layout (.mxBf o) 4)

/-- R336 to R345: a matrix operation starts when none before it stands in its way and, if it is checked, its cores have room
for its shadows: MXOUT of its handle rises, and a checked operation takes shadows of its tiles, in the mode of FNMODE.ALW. It
then makes its attempt, and retires unless an allowance is past its limit: then the tiles go back to their shadows and it
runs again with 8 planes where its mode and its handle allow that, and else it records ALLOWANCE. R328, R342, R350 to R352:
an operation on a tile waits for those before it, then zeroes its tile, sets its allowance register, or answers it to the
lanes of its entry. That the tile's type was set at issue, so that the operation changes elements only, and that a shadow keeps
the mode of FNMODE.ALW as at its start, is the model's (log 24). -/
def Obligations.MatrixEvents : Prop :=
  (∀ (s : State) (op : Op) (j : MxJob), s.liveOp s.args.a = some op → op.body = .mx j →
    let full := ∃ t ∈ j.teams op.team, 2 ≤ s.shadowsOn (s.coreKey t)
    let checked := j.am = 2 ∧ j.int = false
    let run := s.mxRun op j
    let past := ∃ t ∈ j.teams op.team, (run.tile t j.tile).limit < (run.tile t j.tile).value
    let again := j.alw = false ∧ j.planes < 8 ∧ (run.handle op.team j.handle).plf = 8
    (j.started = true ∨ s.mangleReady op = false ∨ checked ∧ full → Gives .mxStart s s) ∧
    (j.started = false → s.mangleReady op = true → ¬(checked ∧ full) →
      Gives .mxStart s ((s.modHandle op.team j.handle fun x => { x with mxout := x.mxout + 1 }).modMx op.id fun x =>
        { s.takeShadows op x with started := true })) ∧
    (¬checked → s.takeShadows op j = j) ∧
    (checked → s.takeShadows op j =
      { j with shadows := (j.teams op.team).map fun t => s.tile t j.tile, alw := s.hub.fnmode.getLsbD 1 }) ∧
    (j.started = false → Gives .mxFinish s s) ∧
    (j.started = true → ¬(checked ∧ past) → Gives .mxFinish s (run.mxRetire op j)) ∧
    (j.started = true → checked → past → again →
      Gives .mxFinish s ((run.restoreTiles op j).modMx op.id fun x => { x with planes := 8 })) ∧
    (j.started = true → checked → past → ¬again → Gives .mxFinish s ((run.recordAllowance op j.lane).mxRetire op j))) ∧
  ∀ (s : State) (op : Op) (j : TileJob), s.liveOp s.args.a = some op → op.body = .mangle j →
    (s.mangleReady op = false → Gives .mangleOpPerform s s) ∧
    (s.mangleReady op = true → j.places = [] →
      let half := fun (c : BitVec 16) => if c.toNat / 256 = 0 then 0 else if c.toNat / 256 = 255 then 0xFFFF else c
      (∀ i, j.act = .zero i →
        Gives .mangleOpPerform s ((s.modTile op.team j.tile fun t => { t with elems := [], value := 0 }).opDone op.id)) ∧
      (∀ v, j.act = .setAll v → Gives .mangleOpPerform s ((s.modTile op.team j.tile fun t =>
        { t with limit := half (v.extractLsb' 16 16), value := half (v.extractLsb' 0 16) }).opDone op.id)) ∧
      (∀ v, j.act = .setLim v → Gives .mangleOpPerform s ((s.modTile op.team j.tile fun t =>
        { t with limit := half (v.extractLsb' 16 16) }).opDone op.id)) ∧
      (∀ rd lanes, j.act = .get rd lanes → s.resultWaits op = false →
        Gives .mangleOpPerform s ((s.writeResults { op with regs := lanes.map fun k =>
        ⟨k, rd, (s.tile op.team j.tile).limit ++ (s.tile op.team j.tile).value⟩ }).opDone op.id))) ∧
    (s.mangleReady op = true → (∀ p ∈ j.places, s.absentAt p.2.1 p.2.2 = none) →
      (∀ i u b, j.act = .load i → s.tileRead op j.places = (u, .ok b) →
        Gives .mangleOpPerform s ((u.modTile op.team j.tile fun t => { t with elems := tileElems b 4096 }).opDone op.id)) ∧
      (∀ fmt cols, j.act = .store fmt cols →
        Gives .mangleOpPerform s ((s.tileWrite op j.lane j.places ((s.tile op.team j.tile).stored fmt cols)).opDone op.id)))

/-- R273, R350 to R356: words on a tile complete and leave one operation of class mx to the engine. That the tile's type is set when
the word issues (log 24), and that ALSET and ACCLD latch the performing lane alone (log 81), is the model's. R45, R254: a load or
store of one lane to bytes that its own ACCLD or ACCST has still to read or write, one of the two writing them, waits for it, which
is how the model keeps their order (log 102). -/
def Obligations.TileWords : Prop :=
  (∀ (s : State) (o : FM) (r : Ref) (t : Target), s.Ready → s.active = [r] → (s.lane r).isHelper = false →
    (s.gridOf r.team).det = false → s.counterFull .ld = false → s.counterFull .st = false →
    let n := 2 ^ o.sz.toNat
    let place := fun (need : Nat) => s.check r.team (s.askOf o need false r).va n n need false
    (place needR = .ok t → s.tileClash r t n false = true → Gives (.ld o) s (s.drainOwn r t n).hold) ∧
    (place needW = .ok t → s.tileClash r t n true = true → Gives (.st o) s (s.drainOwn r t n).hold)) ∧
  ∀ (s : State) (o : FA) (m : Member) (r : Ref), s.Ready → s.Alone m r → s.counterFull .mx = false →
    let job := fun (tile : Nat) (a : TileAct) (places : List (DWord × Target × Nat)) => OpBody.mangle ⟨r.lane, tile, a, places⟩
    let tile := o.sub.toNat % 16
    let w := faOfWord s.word
    let wtile := w.sub.toNat % 16
    let l := s.latchRead r o.rb.toNat
    let v := s.src r .i32 o.rb 0
    Ends .accz s ((s.modTile r.team wtile fun t => { t with int := w.sub.getLsbD 4 }).addOp m.team m.wave .mx false [] [] []
      (job wtile (.zero (w.sub.getLsbD 4)) [])) ∧
    Ends (.alset o) s (l.addOp m.team m.wave .mx false [] [] [] (job tile (.setAll v) [])) ∧
    Ends (.alsetLim o) s (l.addOp m.team m.wave .mx false [] [] [] (job tile (.setLim v) [])) ∧
    Ends (.alget o) s (s.addOp m.team m.wave .mx true [] [] []
      (job tile (.get o.rd.toNat ((s.activeOf m).map (·.lane))) [])) ∧
    (s.NoStores → (s.wave m.team m.wave).rperm = none → (s.gridOf r.team).det = false →
      let places := fun (u : State) (runs : List (DWord × Nat)) (need : Nat) => u.placesOf r.team runs need
      let noted := fun (u : State) (runs : List (DWord × Nat)) (need : Nat) =>
        runs.foldl (fun v x => v.noteRange r.team x.1 x.2 need) u
      let rows := (l.accProbe o r true).1
      let ni8 := [(s.src64 r o.ra, 4096), (s.rawPair r o.rb.toNat, 64), (s.rawPair r (o.rb.toNat + 2), 64)]
      let uLd := noted l rows needR
      let uSt := noted l rows needW
      let uNi := noted s ni8 needW
      ((l.accProbe o r true).2 = [] → Ends (.accld o) s ((uLd.modTile r.team tile fun t => { t with int := o.sub.getLsbD 4 }).addOp
        m.team m.wave .mx false [] [] [] (job tile (.load (o.sub.getLsbD 4)) (places uLd rows needR)))) ∧
      ((l.accProbe o r false).2 = [] → Ends (.accst o) s (uSt.addOp m.team m.wave .mx false [] [] []
        (job tile (.store (bitsOf o.sub.toNat 4 3) false) (places uSt rows needW)))) ∧
      ((s.ni8Probe o r).2 = [] → Ends (.accstNi8 o) s (uNi.addOp m.team m.wave .mx false [] [] []
        (job tile (.store 4 (o.sub.getLsbD 7)) (places uNi ni8 needW)))))

/-! ### Shears and Sprinkle -/

/-- R362 to R365, R371 to R379, R383: the GFX words of one entry. PATCHQ pushes one entry for each lane, PATCHDQ pops the
deepest and newest entry of its grid, or answers that none will come; DICE.run clears its destination's lines and leaves the
dicing to the Shears; GEMIT takes its header from a window; DICE.bind and DICE.unbind change which lanes are helpers;
WMARK.rel ends the hold. That NU and NV above 16 count as 16 in GEMIT is the model's reading (log 49). -/
def Obligations.GraphicsWords : Prop :=
  ∀ (s : State) (o : FA) (m : Member) (r : Ref), s.Ready → s.Alone m r → s.counterFull .gm = false →
    let T := s.team r.team
    let rd := (faOfWord s.word).rd.toNat
    let post := fun (u : State) (body : OpBody) => u.addOp m.team m.wave .gm false [] [] [] body
    let quick := fun (u : State) => u.emptyOps (wavesOf s.active) .gm
    let every := fun (u : State) (xs : List (Nat × Word)) => u.applyAll ((s.activeOf m).map fun q => (q, ({ regs := xs } : Eff)))
    let answer := fun (u : State) (v : DWord) => quick (every u [(rd, lo32 v), (rd + 1, hi32 v)])
    let own := (laneAsc ((s.active.filter fun q => !((s.lane q).helper || (s.lane q).bound)).map fun q => (q, ()))).map (·.1)
    let patch := fun (q : Ref) => (s.src q .i32 o.rb 0).toNat
    let bound := fun (i : Instr) (u : State) => (s.gridOf r.team).qmap = true →
      Gives i s ((post ((u.settleBinds r.team).passTeam r.team) .bind).finish s.active [])
    let push := fun (u : State) (q : Ref) => (u.noteBytes q.team (s.src64 q o.ra) 64 needR).pushSplit (s.team q.team).die
      (s.team q.team).grid (entryRegs (patchTicket (s.gridOf q.team) (patch q)) (s.src64 q o.ra) 0)
    let pushed := fun (n : Nat) => (own.take n).foldl push (s.latched [o.rb])
    ((∀ n q, own[n]? = some q → (pushed n).patchCause q (s.src64 q o.ra) (patch q) = none ∧
        ((pushed n).die (s.team q.team).die).depth0 < 4096) →
      Ends (.patchq o) s (quick (pushed own.length))) ∧
    (T.held = none → s.heldOn T.die (fun _ => true) < 256 →
      (∀ e, nextSplit (s.die T.die).splitQ T.grid = some e →
        Ends .patchdq s (quick (every ((s.modDie T.die fun d => { d with splitQ := d.splitQ.erase e }).modTeam r.team fun x =>
          { x with held := some e.regs, hold := some (entryTicket e.regs) }) (e.regs.zipIdx.map fun x => (rd + x.2, x.1))))) ∧
      (nextSplit (s.die T.die).splitQ T.grid = none → s.splitsOut T.die T.grid = false →
        Ends .patchdq s (quick (every (s.modTeam r.team fun x => { x with hold := none })
          [(rd, 0), (rd + 1, 0), (rd + 2, 0x10), (rd + 3, 0)])))) ∧
    (∀ (dst : Nat × Nat) (h b : List Byte),
      let ent := (List.range 4).map fun k => s.rawReg r (o.rb.toNat + k)
      s.bundle.diced = none → T.held = some ent → (s.src64 r o.ra).toNat % 128 = 0 → s.window r.team (s.src64 r o.ra) 8320 = some (some dst) →
      s.engRead r.team (entryAddr ent) 64 = .ok h → patchValid h = true →
      s.recordRead r.team (entryAddr ent) (patchPieces h) = .ok b → s.shearsBusy s.bundle.die (s.bundle.core / 12) < 64 →
      Ends (.diceRun o) s (post ((s.noteDice r).setLines (diceLines dst) false) (.dice r.lane dst ent b))) ∧
    (let v := (s.src r .i32 o.rb 0).toNat
     bound (.diceBind o) ((s.latched [o.rb]).bindTeam r.team (v % 32) (v / 256 % 32))) ∧
    bound .diceUnbind (s.unbindTeam r.team) ∧
    (∀ hdr blk : Nat × Nat,
      let x := cellsReadN (s.team hdr.1).spad hdr.2 128
      let ticket := BitVec.ofNat 64 (recU64 x 0)
      let w := recU64 x 0x10
      (s.src64 r o.ra).toNat % 128 = 0 → (s.src64 r o.rb).toNat % 128 = 0 →
      s.window r.team (s.src64 r o.ra) 128 = some (some hdr) → s.window r.team (s.src64 r o.rb) 8192 = some (some blk) →
      s.absentAt (.spad hdr.1 hdr.2) 128 = none → w % 4 = 2 → T.hold = some ticket →
      (w / 256 % 2 = 1 ∨ s.opqend ≤ drawSeq ticket) →
      Ends (.gemit o) s (post s (.gemit r.lane T.held blk ticket (bitOf w 8) (bitOf w 9) (min 16 (w / 2 ^ 32 % 32))
        (min 16 (w / 2 ^ 40 % 32))))) ∧
    Ends .wmarkRel s (quick (s.modTeam r.team fun t => { t with hold := none })) ∧
    Ends .wmarkGlob s (answer s (s.die T.die).leastMark) ∧
    Ends .wmarkDie s (answer s (s.watermark T.die))

/-- R366 to R371, R378 to R382, R391, R514 to R518: what finishes the GFX words. The Shears delivers a diced patch to its
window and makes its lines present; a grid of an emitted block leaves for the owners of its tiles; a copy that arrives takes
a slot, and is sampled when its owner may; a watermark is received in its turn; a tile passes to its new owner. When a mark
is sent and a charge ends (logs 44, 75), that an owner judges the copies that wait for a slot too (log 48), and that a copy is sampled
for all its tiles at once (log 50), are the model's. -/
def Obligations.GraphicsEvents : Prop :=
  (∀ (s : State) (op : Op) (f : Frame) (lane : Nat) (dst : Nat × Nat) (ent : List Word) (rec : List Byte),
    s.liveOp s.args.a = some op → s.hub.frame = some f → op.body = .dice lane dst ent rec → dst.1 < s.teams.length →
    cellsWf (s.team dst.1).spad = true → op.team < s.teams.length → (s.team op.team).die < s.dies.length →
    let r := diceBytes f rec ent
    let T := s.team op.team
    ∃ u, exec .shearsDelivery s = .next u ∧ cellsReadN (u.team dst.1).spad dst.2 r.2.length = r.2 ∧
      (∀ b, b < dst.2 ∨ dst.2 + r.2.length ≤ b → cellsRead (u.team dst.1).spad b = cellsRead (s.team dst.1).spad b) ∧
      (∀ k < 65, dst.2 / 128 + k ∉ (u.team dst.1).absentLines) ∧ u.mem = s.mem ∧
      (u.die T.die).splitQ = (if r.1.out = 1 then ((splitChildren ent).reverse.map fun c => ⟨T.grid, c⟩) else []) ++
        (s.die T.die).splitQ ∧
      (u.team op.team).held = (if r.1.out ≠ 2 ∧ T.held = some ent then none else T.held) ∧
      (u.team op.team).hold = (if r.1.out ≠ 2 then none else T.hold)) ∧
  (∀ (s : State) (op : Op) (f : Frame) (lane : Nat) (ent : Option (List Word)) (blk : Nat × Nat) (ticket : DWord) (opq oi : Bool) (nu nv : Nat),
    s.liveOp s.args.a = some op → s.hub.frame = some f → op.body = .gemit lane ent blk ticket opq oi nu nv →
    ((s.absentAt (.spad blk.1 blk.2) 8192).isSome = true → Gives .gemitRetire s s) ∧
    (s.absentAt (.spad blk.1 blk.2) 8192 = none → Gives .gemitRetire s
      (((s.emitCopies (gridCopies f ticket opq oi nu nv (cellsReadN (s.team blk.1).spad blk.2 8192))).modTeam op.team fun t =>
        { t with held := if t.held = ent then none else t.held, hold := none }).opDone op.id))) ∧
  (∀ (s : State) (f : Frame) (rest : List Msg), s.hub.frame = some f → s.spillHost = false → s.hub.eqWait = [] →
    let a := s.args.a
    let d := s.die a
    d.spill = [] → d.exchange = [] →
    (∀ c, d.inbound = .copy c :: rest → d.basket.length < 3528 →
      Gives .gridCopyArrival s (s.modDie a fun d => { d.popLink with basket := d.basket ++ [{ c with resv := false }] })) ∧
    (∀ c, d.eligible f = some c → f.ending = none →
      Gives .copySampling s ((s.modDie a fun d => { d with basket := d.basket.erase c }).sampleCopy a f c)) ∧
    ∀ c, d.eligible f = some c → c ∈ d.basket ∧ (∀ t ∈ c.tiles, t ∉ d.blocked) ∧
      ((c.oi = true ∧ c.ticket.toNat / 2 ^ 24 < f.opqend) ∨
        ((∀ v ∈ d.vrecv, c.ticket.toNat < v.toNat) ∧ ∀ x ∈ d.basket, c.ticket.toNat ≤ x.ticket.toNat))) ∧
  (∀ (s : State) (d : Nat) (v : DWord) (rest : List Msg), s.hub.eqWait = [] →
    (s.hub.frame = none ∨ (s.die s.args.a).spill = [] ∧ (s.die s.args.a).exchange = []) →
    (s.die s.args.a).inbound = .mark d v :: rest →
    Gives .watermarkDelivery s (s.modDie s.args.a fun x => { x.popLink with vrecv := x.vrecv.set d v })) ∧
  (∀ s : State, (∀ k < 8, k < s.dies.length → (s.sendMarks.die k).vsent = s.watermark k) ∧
    ∀ x ∈ s.sendMarks.hub.charges, x.landed = false ∨ 8 ≤ x.die) ∧
  ∀ (s : State) (f : Frame) (tile old new : Nat), s.hub.frame = some f → f.handoff = some (tile, old, new) → f.ending = none →
    ((s.die old).holdsTile tile = true → Gives .tileHandoff s s) ∧
    ((s.die old).holdsTile tile = false →
      let u := if (s.die new).handingOver tile = true ∨ tile ∉ (s.die new).blocked then s else s.linkPut new (.handoff tile)
      (tile ∈ (u.die new).blocked → Gives .tileHandoff s u) ∧
      (tile ∉ (u.die new).blocked → Gives .tileHandoff s (u.modHub fun h =>
        { h with frame := some { f with handoff := none }, ownmove := h.ownmove &&& 0x7FFFFFFF })))

/-! ### Textures and rays -/

/-- R294, R301 to R307: texture words complete when every lane's descriptor is good and no texel meets a cause or an
uncorrectable error: the results and the status predicate of every lane come with one operation of class tx, as do the
feedback bits of tiles that were not resident. A descriptor is read at its 64-byte aligned address. TEXTURE_COMPLETE delivers
them. That a texture word samples when it issues is the model's reading (log 31). -/
def Obligations.TextureWords : Prop :=
  (∀ (s : State) (o : FA) (k : TexKind) (out : Ref → TexOut), s.Ready → s.counterFull .tx = false →
    (∀ m ∈ s.bundle.members, ∀ r ∈ s.activeOf m, s.texOne k o (s.activeOf m) r = .ok (out r) ∧ (out r).met.ecc = [] ∧
      (out r).met.ue = []) →
    Ends (match k with | .samp => .samp o | .sampl => .sampl o | .sampd => .sampd o | .sampg => .sampg o | .resq => .resq o) s
      ((s.noteTexture k o).postOpsP (wavesOf s.active) .tx true
        (s.active.flatMap fun r => (out r).regs.zipIdx.map fun p => (r, RegRes.mk r.lane (o.rd.toNat + p.2) p.1))
        (if o.sub.toNat % 128 = 96 then [] else s.active.map fun r => (r, PredRes.mk r.lane (o.sub.toNat % 128) (out r).status)) []
        fun w => .texture ((s.active.filter fun r => r.team == w.1 && r.wave == w.2).flatMap fun r =>
          s.texFeedback k o r (out r).met.tiles))) ∧
  (∀ (s : State) (o : FA) (k : TexKind) (act : List Ref) (r : Ref) (b : List Byte),
    let a := s.src64 r o.ra
    (a.toNat % 64 ≠ 0 → s.texOne k o act r = .error (⟨.misalign, a, false⟩, [])) ∧
    (a.toNat % 64 = 0 → s.engRead r.team a 64 = .ok b →
      (texDesc b = none → s.texOne k o act r = .error (⟨.layout, 0, false⟩, [])) ∧
      ∀ d, texDesc b = some d → (s.texLane k o d act r).met.bad = [] → s.texOne k o act r = .ok (s.texLane k o d act r))) ∧
  ∀ (s : State) (op : Op) (fb : List FeedbackBit), s.liveOp s.args.a = some op → op.body = .texture fb →
    (s.resultWaits op = true → Gives .textureComplete s s) ∧
    (s.resultWaits op = false →
      Gives .textureComplete s (((fb.foldl (fun u x => u.feedbackOr op x) s).writeResults op).opDone op.id))

/-- R396 to R417: the RAY words of one lane that is no helper, has no ACCST to be performed, and no REMOTEPERM pending once its
earlier stores have been. A record that fails a check of its address,
one whose read meets an uncorrectable error, one in a PHASE that the word does not admit (R414 to R416) and one that a parked ray
holds raise the cause. Otherwise the word completes, for a TRACE or TRESUME when the core's Needle has room; it releases at team
scope first. TRACE writes a new record and starts a ray, whose record takes free values while it runs (log 12); TRESUME goes on
from a record or answers a finished one; TACCEPT takes the hit offered or leaves it; TSTATE.read answers the ray; TSTATE.end ends
it. While an earlier ray of the lane runs or the record's line is absent, TRACE's operation waits inside the Needle and the others
hold their bundle, whose checks the Needle has not made (R428); when such a word issues is the model's reading (log 76). A ray
whose result is known returns it; another traverses when it returns, which is the model's reading (log 51). -/
def Obligations.RayWords : Prop :=
  (∀ (s : State) (o : FA) (r : Ref), s.Ready → s.active = [r] → (s.lane r).isHelper = false → s.counterFull .nd = false →
    s.tileStores [r] = false →
    let a := s.src64 r o.ra
    let u := s.release r.team r.wave 2
    (∀ m ∈ s.bundle.members, (u.wave m.team m.wave).rperm = none) →
    let raises := fun (i : Instr) (v : State) (f : LaneFault) =>
      Gives i s (((v.faultLanes [f]).emptyOps [(r.team, r.wave)] .nd).finish [r] [])
    let reads : List Instr := [.tresume o, .taccept o, .tstateRead o, .tstateEnd o]
    let room := s.raysInFlight s.bundle.die s.bundle.core < 2048
    (∀ c w, s.check r.team a 64 64 needRW false = .bad c w → room → ∀ i ∈ Instr.trace o :: reads,
      raises i u { r, cause := c, addr := a, write := true, walk := w }) ∧
    ∀ t : Target, s.check r.team a 64 64 needRW false = .ok t →
      let wrec : WordRec := { clause := s.bundle.clause, idx := s.bundle.idx }
      let post := fun (w : State) (x : Ray) => w.addOp r.team r.wave .nd true [] [] [] (.rays [x])
      let ray := fun (x : RayRec) => newRay r o.rd.toNat a t x
      let waits := s.rayBusy r s.nextOp = true ∨ (s.absentAt t 64).isSome = true
      (waits → (room → Ends (.trace o) s (post u { ray (u.traceRecord r o) with todo := true })) ∧
        ∀ i ∈ reads, Gives i s s.hold) ∧
      (¬ waits →
        (room → Ends (.trace o) s
          (post ((u.putRecord r a t (u.traceRecord r o) wrec).holdRecord r.team t) (ray (u.traceRecord r o)))) ∧
        (∀ v, u.readTarget (u.team r.team).die (u.team r.team).core t 64 .l1 = (v, none) → room →
          ∀ i ∈ reads, raises i v { r, cause := .ecc, addr := a }) ∧
        ∀ v bs, u.readTarget (u.team r.team).die (u.team r.team).core t 64 .l1 = (v, some bs) →
          let x := rayOfBytes bs
          let g := fun k => (u.rawReg r (o.rb.toNat + k)).toNat
          let bad := fun (i : Instr) => raises i v { r, cause := .layout }
          ((v.parkedRay t).isSome = true ∨ x.phase = 0 → room → bad (.tresume o)) ∧
          (x.phase = 3 → v.parkedRay t = none → (room ∨ s.rayStarts t .resume = false ∧
            s.raysInFlight s.bundle.die s.bundle.core ≤ 2048) →
            Ends (.tresume o) s (post v { ray x with fixed := some x.doneResult })) ∧
          (x.phase ≠ 0 → x.phase ≠ 3 → v.parkedRay t = none → room → Ends (.tresume o) s
            (post ((v.putRecord r a t { x with phase := 0 } wrec).holdRecord r.team t)
              { ray { x with phase := 0 } with resume := true })) ∧
          (x.phase ≠ 1 → bad (.taccept o)) ∧
          (x.phase = 1 → x.takes (g 0) = false → Ends (.taccept o) s (v.emptyOps [(r.team, r.wave)] .nd)) ∧
          (x.phase = 1 → x.takes (g 0) = true →
            let hit := x.accept (g 0) (g 1) (g 2) (g 3) (if x.reason = 1 then (x.slot + 3) % 4 else 0) (x.reason == 1 && x.cback)
            Ends (.taccept o) s ((v.putRecord r a t (if hit.rflags % 2 = 1 then { hit with phase := 3, malf := false } else hit)
              wrec).emptyOps [(r.team, r.wave)] .nd)) ∧
          (x.phase = 0 → bad (.tstateRead o) ∧ bad (.tstateEnd o)) ∧
          (x.phase ≠ 0 → Ends (.tstateRead o) s
            (post v { ray x with fixed := some (rayWords (x.o ++ [x.tmin] ++ x.d ++ [x.tmax])) })) ∧
          (x.phase ≠ 0 → v.parkedRay t = none → Ends (.tstateEnd o) s (post (v.putRecord r a t { x with phase := 3 } wrec)
            { ray { x with phase := 3 } with fixed := some x.doneResult })))) ∧
  ∀ (s : State) (op : Op) (x : Ray), s.liveOp s.args.a = some op →
    (op.rays.find? fun x => x.lane == s.args.b && !x.done) = some x →
    ((s.team op.team).isSaved = true → Gives .rayReturn s s) ∧
    ((s.team op.team).isSaved = false →
      (∀ regs, x.fixed = some regs →
        (s.rayWaits op x = false → Gives .rayReturn s (s.rayDone op x regs)) ∧
        (s.rayWaits op x = true → Gives .rayReturn s
          (s.modRay op.id x.lane fun y => { y with fixed := some regs, fq := none, want := none }))) ∧
      (x.fixed = none →
        (x.fq ≠ none → Gives .rayReturn s s) ∧
        (∀ w, x.fq = none → x.want = some w → Gives .rayReturn s (s.postRay op x.lane w.1 w.2)) ∧
        (x.fq = none → x.want = none →
          ((s.absentAt x.tgt 64).isSome = true → Gives .rayReturn s s) ∧
          ((s.absentAt x.tgt 64).isSome = false →
            (x.todo = true → (s.rayBusy ⟨op.team, op.wave, x.lane⟩ op.id = true → Gives .rayReturn s s) ∧
              (s.rayBusy ⟨op.team, op.wave, x.lane⟩ op.id = false → Gives .rayReturn s
                (((s.putRecord ⟨op.team, op.wave, x.lane⟩ x.va x.tgt x.rcd { clause := op.clause, idx := op.idx }).holdRecord
                  op.team x.tgt).modRay op.id x.lane fun y => { y with todo := false }))) ∧
            (x.todo = false → Gives .rayReturn s (s.runRay op x))))))

/-! ### Mailboxes -/

/-- R484 to R486, R500 to R512: the mailbox, spawn and dump words of one entry in a privileged launch. MBRECV takes the head
packet of its die's mailbox, waits, or answers zeros; MBSEND and FWD send a packet with SRC written by the device; SPAWN adds
a range to its die's queue when its count retires, or cuts the last one at once; DUMP writes its team's image to a buffer. A packet
of the host enters its die's mailbox. That every active lane of a DUMP latches its size (log 81), that SPAWN of a TRIM packet is an
instruction of its own (log 20), when a charge ends (log 75), that a dump is written 16 bytes at a time (log 56), and that
what waited for a line or a handle issues at once when a DUMP lets its team run on (log 40) are the model's. -/
def Obligations.MailboxWords : Prop :=
  (∀ (s : State) (o : FA) (m : Member) (r : Ref), s.Ready → s.issueGrid.priv = true → s.Alone m r →
    let d := (s.team r.team).die
    let answers := fun (xs : List (Nat × Word)) => (s.activeOf m).flatMap fun q => xs.map fun x => RegRes.mk q.lane x.1 x.2
    let words := fun (p : List DWord) => (List.range 16).map fun k =>
      (o.rd.toNat + k, if k % 2 = 0 then lo32 (p.getD (k / 2) 0) else hi32 (p.getD (k / 2) 0))
    let block := (List.range 16).map fun k => s.rawReg r (o.rb.toNat + k)
    let pkt := packetOfRegs block
    let post := fun (u : State) (regs : List RegRes) (w : Bool) (body : OpBody) => u.addOp m.team m.wave .st w regs [] [] body
    (s.counterFull .ld = false →
      (∀ p ps, (s.die d).mailbox = p :: ps → Ends (.mbrecv o) s ((s.modDie d fun x => { x with mailbox := ps }.refillMail).addOp
        m.team m.wave .ld true (answers (words p)) [] [] .plain)) ∧
      ((s.die d).mailbox = [] → o.sub.getLsbD 0 = true →
        Ends (.mbrecv o) s (s.addOp m.team m.wave .ld true (answers (words [])) [] [] .plain)) ∧
      ((s.die d).mailbox = [] → o.sub.getLsbD 0 = false →
        Gives (.mbrecv o) s ((s.parkLanes (memberRefs m) 4 .mailbox false).finish s.active []))) ∧
    (s.counterFull .st = false →
      (3 ≤ pktKind pkt → pktKind pkt ≤ 5 → Ends (.mbsend o) s (post s [] false (.packet none (withSrc pkt d)))) ∧
      (s.NoStores → (s.wave m.team m.wave).rperm = none →
        (fwdOk pkt = true → s.mailFits (pktDst pkt) 1 = true → Ends (.fwd o) s (post (s.forward d pkt) [] false (.store []))) ∧
        (∀ u x y range, s.spawnKind [] r pkt = .ok u x y range →
          Ends (.spawnRange o) s (post u (answers [(o.rd.toNat, x), (o.rd.toNat + 1, y)]) true (.spawn block range))) ∧
        (∀ u x y range, pktKind pkt = 2 → s.spawnTrim r pkt = .ok u x y range →
          Ends (.spawnTrim o) s (post u (answers [(o.rd.toNat, x), (o.rd.toNat + 1, y)]) true (.spawn block range)))) ∧
      (let buf := s.src64 r o.ra
       let size := (s.src r .i32 o.rb 0).toNat
       let u := ((s.modTeam r.team fun t => { t with frozen := false }).goOnFreed r.team).latched [o.rb]
       s.dumpCause r buf = none →
        (size < 256 → Ends (.dump o) s (post u (answers [(o.rd.toNat, 5)]) true (.dump r.lane buf size))) ∧
        (256 ≤ size → s.hub.fnmode.getLsbD 6 = false → s.dumpQuiet r.team = true →
          let e := u.dumpTeam r.team buf size
          Ends (.dump o) s (post e.1 (answers [(o.rd.toNat, BitVec.ofNat 32 e.2)]) true (.dump r.lane buf size)))))) ∧
  (∀ (s : State) (r : Ref) (p : List DWord), (∀ k, s.gridByGid (pktGid p) = some k →
      let g := s.grids.getD k Grid.blank
      let d := (s.team r.team).die
      (pktKind p = 1 → pktLo p < pktHi p → pktHi p ≤ g.teams → g.det = false → (g.cl2 = true → pktLo p % 2 = 0 ∧ pktHi p % 2 = 0) →
        ((s.die d).rangesOf k).length + ((s.spawning d).filter fun x => x.grid == k).length < 8 →
        ((s.die d).known.find? fun x => x.1 == k) = some (k, pktLrec p) →
        s.spawnKind [] r p = .ok s (BitVec.ofNat 32 g.slot) 1 (some ⟨k, pktLo p, pktHi p⟩)) ∧
      ∀ x, pktKind p = 2 → (s.die d).lastRange k = some x → g.cl2 = false → pktDcnt p = 0 →
        let cut := max x.next (pktNewend p)
        cut < x.stop →
        s.spawnKind [] r p = .ok (s.modDie d fun y => y.putRange x { x with stop := cut }) (BitVec.ofNat 32 cut)
          (BitVec.ofNat 32 x.stop) none) ∧
    (s.gridByGid (pktGid p) = none → (pktKind p = 1 → s.spawnKind [] r p = .ok s 0xFFFFFFFF 0 none) ∧
      (pktKind p = 2 → s.spawnKind [] r p = .ok s 0 0 none))) ∧
  (∀ (s : State) (op : Op) (p : List Word) (range : Option Range), s.liveOp s.args.a = some op → op.body = .spawn p range →
    let d := (s.team op.team).die
    (s.resultWaits op = true ∨ s.countWaits op = true → Gives .loadResultReturn s s) ∧
    (s.resultWaits op = false → s.countWaits op = false → Gives .loadResultReturn s
      ((((s.writeResults op).installRange d range).landCharges d (packetOfRegs p)).opDone op.id))) ∧
  (∀ (s : State) (op : Op) (lane : Nat) (buf : DWord) (size : Nat), s.liveOp s.args.a = some op → op.body = .dump lane buf size →
    (s.resultWaits op = true → Gives .storePerformed s s) ∧
    (s.resultWaits op = false → Gives .storePerformed s ((s.writeResults op).opDone op.id))) ∧
  (∀ (s : State) (d : Nat) (x : Range), s.installRange d none = s ∧
    s.installRange d (some x) = (s.modDie d fun y => { y with ranges := y.ranges ++ [x] }).modGrid x.grid fun g =>
      { g with exhausted := g.exhausted.filter fun k => k != d }) ∧
  ∀ s : State,
    let p := (List.range 8).map fun k => s.args.data.getD k 0
    (pktDst p < 8 → s.mailRoom (pktDst p) = true → (s.die (pktDst p)).inbound = [] →
      Gives .mailboxPacketFromHost s (s.modDie (pktDst p) fun d => { d with hubBuf := d.hubBuf ++ [withSrc p 9] }.refillMail)) ∧
    (pktDst p < 8 → s.mailRoom (pktDst p) = true → Gives .mailboxPacketFromHost s (s.linkPut (pktDst p) (.packet (withSrc p 9)))) ∧
    (8 ≤ pktDst p ∨ s.mailRoom (pktDst p) = false → Gives .mailboxPacketFromHost s s)

/-! ### The hub -/

/-- R12, R528 to R531, R535, R193, R384, R393: what the GCP does with the packet at SQHEAD, when READY holds, the ring has
one and no ENDFRAME is in progress. A packet of no known kind, or one whose record is bad, is refused with its status; LAUNCH
admits a grid and splits its indices over the dies; FRAME opens a frame; ENDFRAME waits for the frame's geometry. Before that
the boot ROM checks an image; a module reset leaves memory, the BAR and the rollback floor (that memory stays is the model's
choice, log 29). The errors that a read of the GCP meets count in the registers of the memory dies (R532, R533); that its reads count
so is the model's reading (log 71). The order in which a launch is checked (log 57), that its ranges are split before its extents are
translated (log 58), and that a boot takes a second turn, until which BOOTSTAT reads 6 (log 61), are the model's. -/
def Obligations.HubPackets : Prop :=
  (∀ (s : State) (crec : Option Nat), s.sqReady = true →
    s.hub.sq.base.toNat + 64 * (s.hub.sq.head.toNat % 2 ^ 32) + 64 ≤ 2 ^ 52 → s.recordAt s.sqPacket = some crec →
    let p := s.sqPacket
    let root := sqRoot p
    let n := s.noteSq
    let l := n.noteLaunch p
    (sqKind p = 0 → Gives .badpacket s (n.refuse crec 5)) ∧
    (sqKind p = 1 → ∀ slot, s.freeGridSlot = some slot → (∀ d < 8, s.mailRoom d = true) →
      ((sqRec p).toNat % 64 ≠ 0 → Gives .launch s (l.refuse crec 2)) ∧
      ∀ b, (sqRec p).toNat % 64 = 0 → n.rootRead root (sqRec p) 2 128 = some b →
        let d := recordDwords b
        (launchBad d = true ∨ n.rootRead root (BitVec.ofNat 64 (d.getD 8 0)) 2 256 = none → Gives .launch s (l.refuse crec 2)) ∧
        ∀ wi, launchBad d = false → n.rootRead root (BitVec.ofNat 64 (d.getD 8 0)) 2 256 = some wi →
          (n.drawBad (sqDcnt p) = true → Gives .launch s (l.refuse crec 4)) ∧
          (n.drawBad (sqDcnt p) = false →
            let table := n.extentTable root (BitVec.ofNat 64 (d.getD 9 0)) (d.getD 10 0 % 32)
            (table = none → Gives .launch s (l.refuse crec 3)) ∧
            ∀ es, table = some es → Gives .launch s (((l.takeSq.takeIn { gridOfRecord d with
              root, lrec := sqRec p, winit := (List.range 64).map (fun k => BitVec.ofNat 32 (recU32 wi (4 * k))), extents := es,
              dbase := n.drawBase (sqDcnt p), dcnt := sqDcnt p, crec, dshr := n.hub.sharedRanges } slot).splitGrid
                n.grids.length).allExtents n.grids.length))) ∧
    (sqKind p = 2 →
      let f := n.noteFrame root (sqRec p) crec
      (n.openFrame root (sqRec p) crec = none → Gives .frame s (f.refuse crec 4)) ∧
      ∀ x, n.openFrame root (sqRec p) crec = some x →
        Gives .frame s ((f.takeSq.modHub fun h => { h with frame := some x }).writeRecord crec 1 0 0 0)) ∧
    (sqKind p = 3 → (s.hub.frame = none → Gives .endframe s (n.refuse crec 4)) ∧
      ∀ f, s.hub.frame = some f → (s.frameQuiet = false → Gives .endframe s s) ∧
        (s.frameQuiet = true → Gives .endframe s
          (((List.range 8).foldl State.closeTiles (n.takeSq.modHub fun h => { h with frame := some (f.endWith crec) })).closeFrame)))) ∧
  (∀ (teams u : Nat) (caps : List Nat), caps.length = 8 → splitAt teams u caps 0 = 0 ∧ splitAt teams u caps 8 = u * (teams / u) ∧
    ∀ d, splitAt teams u caps d ≤ splitAt teams u caps (d + 1)) ∧
  (∀ s : State,
    let u := s.modHub fun h => { h with fwgo := if s.args.b = 4 then mergeReg h.fwgo s.args.a 4 s.args.v else s.args.v }
    let starts := s.args.a = 0 ∧ s.args.v = 1
    let boot := s.bootImage
    let v := s.modHub fun h => { h with bootstat := boot.1 }
    (s.args.flag = false →
      (¬starts ∨ s.hub.bootstat = 6 ∨ s.hub.bootstat = 1 → Gives .fwgo s u) ∧
      (starts → s.hub.bootstat ≠ 6 → s.hub.bootstat ≠ 1 → Gives .fwgo s (u.modHub fun h => { h with bootstat := 6 }))) ∧
    (s.args.flag = true →
      (s.hub.bootstat ≠ 6 → Gives .fwgo s s) ∧
      (s.hub.bootstat = 6 → boot.1 ≠ 1 → Gives .fwgo s v) ∧
      (s.hub.bootstat = 6 → boot.1 = 1 → Gives .fwgo s (v.ready boot.2)))) ∧
  ∀ s : State, ∃ t, exec .moduleReset s = .next t ∧ t.hub = { Hub.reset with hbar := s.hub.hbar, floor := s.hub.floor } ∧
    t.dies = State.reset.dies ∧ t.grids = [] ∧ t.teams = [] ∧ t.ops = [] ∧ t.bundles = [] ∧ t.mem.cells = s.mem.cells ∧
    t.mem.poison = s.mem.poison ∧ t.mem.flips = s.mem.flips ∧ t.mem.l1 = [] ∧ t.mem.l2 = [] ∧ t.mem.dir = [] ∧ t.mem.fw = []

/-- R14, R197, R257, R277, R436, R474, R487, R514, R520, R525 to R528, R536, R537: writes to registers of the hub and the
dies, and what their commands do: tails of the rings, TLB syncs, counter streaming, limits, Basket moves and tile ownership.
A field out of its range, or a command while one is in progress, changes nothing. The host reaches memory and places the
register block. The model's are: that a command becomes a turn of its own (log 30), what the hub's registers do before READY
(log 6), for what a TLB sync waits (log 53), that BSKCMD and OWNMOVE have no effect in hardware mode (log 62), the lowest clock
(log 63), what the host's accesses reach (log 86), and that the limits of QCTL take effect at once (log 15). -/
def Obligations.HubRegisters : Prop :=
  ∀ s : State,
    let v := s.args.v
    let n := v.toNat
    let h := s.hub
    let ready := h.bootstat = 1
    let fcur := h.qstat.toNat / 65536 % 256
    let pest := h.qstat.toNat % 65536
    let hub := fun (f : Hub → Hub) => s.modHub f
    let put := fun (off bytes : Nat) (u : State) => s.args.a = off → s.args.b = bytes → Gives .registerWrite s u
    (put 0x2B 8 s ∧ put 0x2A 4 s ∧ put 0x28 2 s) ∧
    (put 0x80 8 (hub fun h => { h with fwaddr := v })) ∧
    (ready →
      put 0x08 8 (hub fun h => { h with fnmode := v.extractLsb' 0 32 &&& 0x7F }) ∧
      put 0x28 8 { s with agenda := .ev .qctlWrite { v } :: s.agenda } ∧
      (∀ d < 8,
        put (0x100000 + 0x10000 * d) 8 (s.modDie d fun x => { x with tslice := v.extractLsb' 0 32 &&& 0xFFFFFF }) ∧
        put (0x100000 + 0x10000 * d + 0x10) 8 (s.modDie d fun x => { x with pctl := v })) ∧
      (let ring := { h.sq with tail := v &&& 0xFFFFFFFF }
       let old := takeRuns h.sqDshr ring.count
       let released := ring.count - (old.map Prod.fst).sum
       Gives .sqtailWrite s (hub fun h => { h with
         sq := ring, sqDshr := if released = 0 then old else old ++ [(released, h.dshr)] })) ∧
      (h.eqWait = [] → Gives .eqtailWrite s (hub fun h => { h with eq := { h.eq with tail := v &&& 0xFFFFFFFF } })) ∧
      (s.args.a = 0x148 → s.args.b = 8 →
        exec .registerWrite s = (hub fun h => { h with eq := { h.eq with size := v &&& 0xFFFFFFFF } }).eqFlush)) ∧
    (¬ready → put 0x08 8 s ∧ put 0x28 8 s ∧ put 0x100000 8 s ∧ Gives .sqtailWrite s s ∧ Gives .eqtailWrite s s) ∧
    (h.tlbsync.getLsbD 1 = true → Gives .tlbsyncWrite s s) ∧
    (h.tlbsync.getLsbD 1 = false → s.args.flag = true →
      let w := v &&& ~~~14#64
      Gives .tlbsyncWrite s ((s.dropPages w).modHub fun h => { h with
        tlbsync := w ||| 2, syncOps := (s.ops.filter Op.usesPages).map (·.id),
        syncWalks := s.bundles.flatMap fun b => b.walks.map fun x => (b.id, x) })) ∧
    (let settled := (∀ o ∈ s.ops, o.id ∈ h.syncOps → o.usesPages = false) ∧ ∀ x ∈ h.syncWalks, s.walkFlies x = false
     (h.tlbsync.getLsbD 1 = true → settled → Gives .tlbSyncComplete s (hub fun h =>
      { h with tlbsync := h.tlbsync &&& ~~~2#64, syncOps := [], syncWalks := [] })) ∧
     (h.tlbsync.getLsbD 1 = false ∨ ¬settled → Gives .tlbSyncComplete s s)) ∧
    (let k := if 10 ≤ n % 32 ∧ n % 32 ≤ 24 then n % 32 else h.pmctl.toNat % 32
     Gives .pmctlWrite s (hub fun h => { h with pmctl := (v.extractLsb' 0 32 &&& 0x80) ||| BitVec.ofNat 32 k })) ∧
    (h.gtime.toNat % 2 ^ (h.pmact.toNat % 32) ≠ 0 → Gives .pmTick s s) ∧
    (h.gtime.toNat % 2 ^ (h.pmact.toNat % 32) = 0 → h.pmact.getLsbD 7 = false →
      Gives .pmTick s (hub fun h => if h.pmact = h.pmctl then h else { h with pmact := h.pmctl, pmpart := true })) ∧
    (h.gtime.toNat % 2 ^ (h.pmact.toNat % 32) = 0 → h.pmact.getLsbD 7 = true → ∃ t, exec .pmTick s = .next t ∧
      t.hub.pmact = h.pmctl ∧ t.hub.gtime = h.gtime ∧ t.teams.map Team.place = s.teams.map Team.place ∧ t.ops = s.ops ∧
      t.grids = s.grids) ∧
    (let plim := if 100 ≤ n % 65536 ∧ n % 65536 ≤ 1100 then n % 65536 else h.qctl.toNat % 65536
     let flim := if 8 ≤ n / 65536 % 256 ∧ n / 65536 % 256 ≤ 56 then n / 65536 % 256 else h.qctl.toNat / 65536 % 256
     let q := { h with qctl := BitVec.ofNat 64 (plim + flim * 65536 + if v.getLsbD 31 then 2 ^ 31 else 0) }
     Gives .qctlWrite s { s with hub := q, agenda := .ev .clockChange { a := fcur, v := BitVec.ofNat 64 pest } :: s.agenda }) ∧
    (let capped := h.qctl.getLsbD 31
     let limit := if capped then min 56 (h.qctl.toNat / 65536 % 256) else 56
     let power := if capped then min 1100 (h.qctl.toNat % 65536) else 1100
     let qstat := fun (f p : Nat) => BitVec.ofNat 64 (min p power + f * 65536 + if f < limit then 2 ^ 31 else 0)
     let wish := min (max 8 s.args.a) limit
     let at' := if 110 < h.heat then 8 else if 100 < h.heat then min wish fcur else wish
     let cooler := if 110 < s.args.a then 8 else min (min (max 8 (fcur - 1)) limit) fcur
     Gives .clockChange s (hub fun h => { h with qstat := qstat at' (n % 65536) }) ∧
     (s.args.a ≤ 100 → Gives .thermalThrottle s (hub fun h => { h with heat := s.args.a })) ∧
     (100 < s.args.a → Gives .thermalThrottle s (hub fun h => { h with heat := s.args.a, qstat := qstat cooler pest }))) ∧
    (h.frame = none ∨ s.spillHost = false → Gives .bskcmdSpill s s ∧ Gives .bskcmdReturn s s) ∧
    (∀ f, h.frame = some f → s.spillHost = true → ∀ t : State, t.hub.eqWait = [] →
      (t = (spillCopies s.args.b s.args.a f s).settleBasket s.args.a f → Gives .bskcmdSpill s t) ∧
      (t = (returnCopies s.args.b s.args.a (fun d => decide (d.generalUsed < basketGeneral)) f s).settleBasket s.args.a f →
        Gives .bskcmdReturn s t)) ∧
    (let w := v.extractLsb' 0 32 &&& 0x871FF1FF
     let tx := n % 512
     let ty := n / 4096 % 512
     let new := n / 2 ^ 24 % 8
     (h.fnmode.getLsbD 4 = false ∨ v.getLsbD 31 = true ∧ h.ownmove.getLsbD 31 = true → Gives .ownmove s s) ∧
     (h.fnmode.getLsbD 4 = true → v.getLsbD 31 = false →
      Gives .ownmove s (hub fun h => { h with ownmove := w ||| (h.ownmove &&& 0x80000000) })) ∧
     ∀ f, h.fnmode.getLsbD 4 = true → v.getLsbD 31 = true → h.ownmove.getLsbD 31 = false → h.frame = some f →
      tx < f.tw → ty < f.th → f.ownerOf tx ty ≠ new →
      Gives .ownmove s ((hub fun h => { h with ownmove := w, frame := some (f.move (f.tw * ty + tx) (f.ownerOf tx ty) new) }).modDie
        new fun d => { d with blocked := (f.tw * ty + tx) :: d.blocked })) ∧
    (let b := (s.args.data.flatMap fun d => leBytes 8 d.toNat).take s.args.b
     let reach := fun (k : Nat) => s.args.a + k ≤ Config.gddrTop ∨ Config.gddrTop ≤ s.args.a ∧ s.args.a + k ≤ 2 ^ 52
     (s.args.flag = false → (reach s.args.b → Gives .hostMemoryAccess s (s.noteRead s.args.a s.args.b)) ∧
      (¬reach s.args.b → Gives .hostMemoryAccess s s)) ∧
     (s.args.flag = true → (reach b.length → Gives .hostMemoryAccess s (s.agentWrite s.args.a b)) ∧
      (¬reach b.length → Gives .hostMemoryAccess s s))) ∧
    (Config.gddrTop + n + hubBlock < 2 ^ 52 → Gives .hostBarAssignment s (hub fun h => { h with hbar := v }))

/-! ### Dispatch, time slices and teams -/

/-- R131, R181, R185 to R188, R194 to R198, R200, R357, R445, R461 to R463, R530: PICK lets the entries of a partition fuse and
takes the oldest ready one and those that join it into a bundle; TEAM_CLAIM places teams of the oldest grid that a core has
room for; RANGE_STEAL takes half of a range from the next die that has one to spare, or reports the range exhausted;
TIME_SLICE asks for the saving of a blocked grid's teams; the commit token passes behind its holder's operations, releasing
what the holder stored; a team ends when all of its lanes have and its operations are complete, its partner's paired ones
among them, or as fatal. When a steal lands (log 58), when a grid is complete (logs 67, 88), that the words of a clause are read when
it is picked (log 69), and the stamps and the places of claims (log 74) are the model's. -/
def Obligations.DispatchEvents : Prop :=
  (∀ s : State,
    let die := s.args.a
    let core := s.args.b
    let part := s.args.c
    let w := (s.partWaves die core part).foldl (fun u x => (u.wakeWave x.1 x.2).fuse x.1 x.2) s
    let now := w.pickAt die core part
    let sorted := (w.cands die core part).foldr (insertCand now) []
    (4 ≤ w.bundlesOn die core part → Gives .pick s w) ∧
    (w.bundlesOn die core part < 4 → sorted = [] → Gives .pick s w) ∧
    (∀ seed rest, w.bundlesOn die core part < 4 → sorted = seed :: rest →
      (∀ c ∈ rest, (now - c.wstamp).toNat ≤ (now - seed.wstamp).toNat) ∧
      let cs := joinGo seed [seed] rest
      let u := cs.foldl (fun u c => u.settleBinds c.team)
        ((cs.foldl (fun u c => u.takeCand w.nextBundle now c) w).modDie die fun d => d.nextPick core part)
      ∀ hdr ws, u.fetchWord seed.team seed.e.clause = .ok hdr → (∀ k < 7, waitField hdr k = 15) →
        u.fetchWords seed.team (seed.e.clause + 8) (hdr.toNat % 16 + 1) = .ok ws → clauseCause hdr ws seed.e.idx = none →
        (∀ b ∈ u.bundles, b.id ≠ w.nextBundle) →
        let g := u.gridOf seed.team
        Gives .pick s { u.noteBytes seed.team seed.e.clause (8 * (hdr.toNat % 16 + 1) + 8) needX with
         nextBundle := u.nextBundle + 1, issue := none, bundles := u.bundles ++ [{ Bundle.blank with
          id := w.nextBundle, die, core, part, clause := seed.e.clause, idx := seed.e.idx, n := hdr.toNat % 16 + 1, words := ws,
          yh := hdr.getLsbD 36, bad := wordCause g.regs g.acct ws seed.e.idx,
          members := cs.map fun c => ⟨c.team, c.wave, c.e.slot, c.e.mask⟩ }] })) ∧
  (∀ s : State,
    let places := fun (k : Nat) => (s.claimGrid s.args.a s.args.b k).teams ≠ s.teams
    let t := fun (x : State) => (x.postExhausted s.args.a).completeGrids
    (∀ k, k < s.grids.length → (∀ j < k, ¬places j) → places k → (t (s.claimGrid s.args.a s.args.b k)).hub.eqWait = [] →
      Gives .teamClaim s (t (s.claimGrid s.args.a s.args.b k))) ∧
    ((∀ k < s.grids.length, ¬places k) → (t s).hub.eqWait = [] → Gives .teamClaim s (t s))) ∧
  (∀ s : State,
    let d := s.args.a
    let k := s.args.b
    let g := s.grids.getD k Grid.blank
    let u := if g.cl2 then 2 else 1
    (s.stealHost = true ∨ s.rangeOut d k = false → Gives .rangeSteal s s) ∧
    (s.stealHost = false → s.rangeOut d k = true →
      ((∀ j < 7, s.stealFrom d ((d + 1 + j) % 8) k = none) → Gives .rangeSteal s
        ((s.modGrid k fun g => { g with exhausted := d :: g.exhausted }).completeGrid k)) ∧
      ∀ j r, j < 7 → (∀ i < j, s.stealFrom d ((d + 1 + i) % 8) k = none) → (s.die ((d + 1 + j) % 8)).lastRange k = some r →
        2 ≤ (r.stop - r.next) / u → g.dcnt = 0 →
        let cut := r.stop - u * ((r.stop - r.next) / u / 2)
        Gives .rangeSteal s ((s.modDie ((d + 1 + j) % 8) fun x => x.putRange r { r with stop := cut }).modDie d fun x =>
          { x with ranges := x.ranges ++ [⟨k, cut, r.stop⟩] }))) ∧
  (∀ s : State,
    let d := s.args.a
    let k := s.args.b
    let g := s.grids.getD k Grid.blank
    let ts := s.teamsOn d k
    let blocked := ∀ t ∈ ts, (s.team t).blocked = true ∧ (s.team t).leaving = .no ∧
      ∃ x, (s.team t).blockedSince = some x ∧ (s.die d).quantum ≤ s.hub.gtime.toNat - x
    let waiting := (∃ t ∈ (s.die d).queue, (s.team t).grid = k) ∨ (s.nextRun d k).isSome = true
    (ts ≠ [] → g.firmware = false → blocked → waiting → s.hasSaveSlot d g = true →
      Gives .timeSlice s (ts.foldl (fun u t => (u.modTeam t fun x => { x with sliced := true }).askSave t 0)
        ((s.die d).queue.foldl (fun u t => if (u.team t).grid == k then u.modTeam t fun x => { x with sliced := false } else u) s))) ∧
    (ts = [] ∨ ¬blocked ∨ ¬waiting → Gives .timeSlice s s)) ∧
  (∀ s : State,
    let k := s.args.a
    let g := s.grids.getD k Grid.blank
    (g.det = false ∨ s.turnOver k = false → Gives .commitTokenPass s s) ∧
    ∀ next x, g.det = true → g.phase = .running → s.nextHolder k = some next → s.teamAt k next.1 = some x →
      let pass := fun (u : State) => (u.modGrid k fun g => { g with token := some next, tokenOps := 0 }).acquire x 5
      (g.token = none → Gives .commitTokenPass s (pass s)) ∧
      ∀ h y, g.token = some h → s.turnOver k = true → s.teamAt k h.1 = some y →
        ((∃ o ∈ s.ops, o.engineOf ⟨y, h.2.1, h.2.2⟩ = true) → Gives .commitTokenPass s s) ∧
        ((∀ o ∈ s.ops, o.engineOf ⟨y, h.2.1, h.2.2⟩ = false) → (s.team y).place ≠ .ended →
          (pass (s.release y h.2.1 5)).lintOn x = false → Gives .commitTokenPass s (pass (s.release y h.2.1 5)))) ∧
  ∀ s : State,
    let tid := s.args.a
    let T := s.team tid
    let gone := fun (u : State) => ((u.freeTeam tid).settlePreq T.die).completeGrid T.grid
    let finished := T.place = .resident ∧ T.fatal = none ∧ T.lanesEnded = true ∧ s.opsOf tid = [] ∧ s.pairHeld tid = false
    (¬finished → Gives .teamEnd s s) ∧
    (finished → T.lastRecord = none →
      Gives .teamEnd s (gone (s.modDie T.die fun d => d.noteEnd T.grid (s.hub.gtime.toNat - T.placedAt)))) ∧
    (∀ f, finished → T.lastRecord = some f → Gives .teamEnd s (s.endFatal tid f)) ∧
    (T.fatal = none ∨ T.place = .ended → Gives .teamFatalEnd s s) ∧
    ∀ f, T.fatal = some f → T.place ≠ .ended →
      let u := s.dropParked tid
      let D := (u.team tid).die
      let G := (u.team tid).grid
      (u.opsOf tid ≠ [] ∨ u.pairHeld tid = true → Gives .teamFatalEnd s u) ∧
      (u.opsOf tid = [] → u.pairHeld tid = false → Gives .teamFatalEnd s
        ((((((u.reportPending tid).postFatal tid f).modGrid G fun g => { g with fatals := g.fatals + 1 }).freeTeam
          tid).settlePreq D).completeGrid G))

/-- R446 to R458: taking teams off their cores. PREQ names grids, whose teams are flushed, drained or saved; a drained team
that takes too long is saved; a flushed team starts anew, a saved one is written to a slot of the save pool and comes back
from it. The stacks and rays of a cluster are written before any area of it. That a resume undoes drains (log 59), what counts
towards a save slot's size (log 38) and what a restore compares (log 55) are the model's. -/
def Obligations.PreemptionEvents : Prop :=
  ∀ s : State,
    (let d := s.args.a
     let v := s.args.v.extractLsb' 0 32
     let slots := s.preqSlots v
     let u := s.modDie d fun x => { x with preq := v &&& 0xFFE1 ||| 1, preempted := (x.preempted ++ slots).eraseDups }
     let ts := (u.concerned d).filter fun t => slots.contains (u.gridOf t).slot && (u.team t).leaving == .no && (u.team t).fatal.isNone
     let gone := fun (k : Nat) => v.getLsbD 7 || v.toNat / 256 % 256 == k
     Gives .preqPreempt s ((((ts.map fun t => (t, u.treat v t)).foldl (fun u x => u.modTeam x.1 fun t => { t with leaving := x.2 })
      u)).settlePreq d) ∧
     Gives .preqResume s ((((s.concerned d).filter fun t => gone (s.gridOf t).slot).foldl (fun u t => u.modTeam t Team.undrain)
      s).modDie d fun x => { x with preq := v &&& 0xFFE2, preempted := x.preempted.filter fun k => !gone k })) ∧
    (let tid := s.args.a
     let T := s.team tid
     let go := (s.both tid).filter fun t => (s.team t).place == .resident
     let flushing := fun t => (s.team t).leaving = .flush ∧ (s.team t).fatal = none
     let order := sortKey (fun t => (s.team t).t) go
     (T.place ≠ .resident ∨ ¬flushing tid → Gives .teamFlush s s) ∧
     (T.place = .resident → flushing tid →
      ((∃ t ∈ go, s.keepsState t = true) →
        Gives .teamFlush s (go.foldl (fun u t => u.modTeam t fun x => { x with leaving := u.saveOrDrain t }) s)) ∧
      ((∀ t ∈ go, s.keepsState t = false ∧ flushing t ∧ s.opsRest t = true) →
        Gives .teamFlush s ((order.reverse.foldl State.discard s).settlePreq T.die))) ∧
     (∀ since, T.leaving = .drain since → T.place = .resident → T.fatal = none → s.hasSaveSlot T.die (s.gridOf tid) = true →
      2 * ((s.die T.die).pctl.toNat / 2 ^ 32) < s.hub.gtime.toNat - since → Gives .drainTimeout s (s.askSave tid 1)) ∧
     ((∀ since, T.leaving ≠ .drain since) → Gives .drainTimeout s s) ∧
     (T.saving = false → Gives .teamSave s s) ∧
     (T.saving = true → (∀ t ∈ go, (s.team t).saving = true ∧ s.atRest t = true) → s.slicedBefore tid = false →
      let w := go.foldl State.prepareSave s
      (w.saveAll order = none → Gives .teamSave s s) ∧ ∀ u, w.saveAll order = some u → Gives .teamSave s (u.settlePreq T.die)) ∧
     (s.restorable tid = false → Gives .teamRestore s s) ∧
     (s.restorable tid = true → s.both tid = [tid] → ∀ p0,
      s.room T.die (pairCore (s.gridOf tid) s.args.b (T.t % 2)) (s.gridOf tid) T.granules = some p0 →
      Gives .teamRestore s (s.restoreAt tid (pairCore (s.gridOf tid) s.args.b (T.t % 2)) p0)))

/-- R444, R458, R482: commands on an entry of a die's fault queue and on a team that the debugger has saved. REPLAY has its
lanes or rays run again, CANCEL ends its team as fatal, with the entry as its report, ACK frees a report; RESUME and STEP put
the team back in its die's queue, and KILL ends it. A command that names nothing of its kind does nothing. -/
def Obligations.FaultCommands : Prop :=
  ∀ s : State,
    let d := s.args.a
    let i := s.args.b
    (s.fqAt d i = none → Gives .fqcmdReplay s s ∧ Gives .fqcmdCancel s s ∧ Gives .fqcmdAck s s) ∧
    (∀ e, s.fqAt d i = some e →
      let mark := fun (k : Nat) (st : Nat) (kind : Nat → Nat) => s.modDie d fun x => { x with faultQ := x.faultQ.map fun y =>
        if y.index = k then { y with state := st, kind := kind y.kind } else y }
      let tid := e.tid.getD 0
      (e.state ≠ 1 → Gives .fqcmdReplay s s ∧ Gives .fqcmdCancel s s) ∧
      (e.state = 1 → e.kind = 0 → Gives .fqcmdReplay s (mark i 2 id)) ∧
      (e.state = 1 → e.kind = 1 → Gives .fqcmdReplay s ((s.replayRays tid i).fqDrop d i)) ∧
      (e.state = 1 → e.kind ≤ 1 → Gives .fqcmdCancel s ((mark i 3 fun _ => 3).endFatal tid
        ⟨e.cause, e.wave, e.lane, e.clause, e.idx, e.addr, e.write, e.fetch, false⟩)) ∧
      (e.state = 1 → 2 ≤ e.kind →
        let held := (List.range s.grids.length).find? fun k =>
          (s.grids.getD k Grid.blank).slot == e.grid && (s.grids.getD k Grid.blank).phase == .extents
        (∀ k, held = some k →
          Gives .fqcmdReplay s ((s.fqDrop d i).tryExtents k d) ∧ Gives .fqcmdCancel s (s.rejectGrid k)) ∧
        (held = none → Gives .fqcmdReplay s (s.fqDrop d i) ∧ Gives .fqcmdCancel s (s.fqDrop d i))) ∧
      (e.state = 3 → Gives .fqcmdAck s (s.fqDrop d i)) ∧
      (e.state ≠ 3 → Gives .fqcmdAck s s)) ∧
    (s.debugTeam d i = none → Gives .dbgcmdResume s s ∧ Gives .dbgcmdStep s s ∧ Gives .dbgcmdKill s s) ∧
    ∀ tid, s.debugTeam d i = some tid →
      let l := s.lane ⟨tid, s.args.c, s.args.d⟩
      let back := fun (u : State) => (u.both tid).foldl (fun u t => u.modDie (u.team t).die fun x =>
        { x with queue := if x.queue.contains t then x.queue else x.queue ++ [t] }) u
      Gives .dbgcmdResume s (back s) ∧
      (l.ended = true ∨ l.absent = true ∨ l.isHelper = true → Gives .dbgcmdStep s s) ∧
      (l.ended = false → l.absent = false → l.isHelper = false →
        Gives .dbgcmdStep s (back (s.modTeam tid fun x => { x with step := some (s.args.c, s.args.d) }))) ∧
      Gives .dbgcmdKill s (s.endFatal tid ⟨13, 0, 0, 0, 0, 0, false, false, false⟩)

/-! ### Words of the memory lines, the Shuttle and the Mangle: where each completes -/

/-- R138, R240, R311, R323, R324: where PREF, WBACK, PRSET, PRCLR, PRTEST and WAITC complete, and the event that performs what
PRSET and PRCLR leave behind. PREF completes on any operands and changes no lane and no operation; WBACK where its lanes'
addresses, outside the windows, have a translation; PRSET and PRCLR of one entry where their lines lie in its windows, with one
operation of class cp outstanding behind all others; PRTEST where its addresses lie in the windows; WAITC, changing nothing but
where its lanes stand, where its counter has fallen far enough. The lines of PRSET's operation are then present, and those of
PRCLR's absent. -/
def Obligations.ShuttleWordsComplete : Prop :=
  (∀ (s : State) (o : FM), s.Ready → ∃ t, exec (.pref o) s = .next t ∧ t.still.teams = s.still.teams ∧ t.ops = s.ops) ∧
  (∀ (s : State) (o : FM) (pa : Ref → Nat), s.Ready → s.counterFull .st = false →
    (∀ r ∈ s.active, let va := s.src64 r o.base + o.off.signExtend 64
      inWindow va = false ∧ s.resolve r.team va 1 needR false = .ok (.phys (pa r)) ∧
        s.tileClash r (.phys (pa r / 128 * 128)) 128 false = false) →
    ∃ t, exec (.wback o) s = .next t ∧
      t.still = (((s.active.filter fun r => !((s.lane r).helper || (s.lane r).bound)).foldl
        (fun u r => u.wbackLine r (.phys (pa r)) o.scope.toNat) s).postOps (wavesOf s.active) .st false [] []
          fun _ => .store []).still) ∧
  (∀ (s : State) (o : FA) (m : Member) (r : Ref) (p : Nat × Nat × Nat), s.Ready → s.Alone m r → s.cpWaits = false →
    s.NoStores → (s.wave m.team m.wave).rperm = none → s.presenceLines o r = .ok (some p) →
    (∃ t op, exec (.prset o) s = .next t ∧ t.ops = s.ops ++ [op] ∧ op.body = .shuttle [(p.1, p.2.1, p.2.2, true)] [] ∧
      op.team = r.team ∧ op.wave = r.wave ∧ op.ctr = .cp ∧ t.mem = s.mem) ∧
    ∃ t op, exec (.prclr o) s = .next t ∧ t.ops = s.ops ++ [op] ∧ op.body = .shuttle [(p.1, p.2.1, p.2.2, false)] [] ∧
      op.team = r.team ∧ op.wave = r.wave ∧ op.ctr = .cp ∧ t.mem = s.mem) ∧
  (∀ (s : State) (o : FA) (at' : Ref → Nat × Nat), s.Ready →
    (∀ r ∈ s.active, s.window r.team (s.src64 r o.ra) 1 = some (some (at' r))) →
    ∃ t, exec (.prtest o) s = .next t ∧ t.mem = s.mem ∧ t.ops = s.ops ∧
      t.still = (s.applyAll (s.active.map fun r =>
        (r, { preds := [(o.rd.toNat, decide ((at' r).2 / 128 ∉ (s.team (at' r).1).absentLines))] }))).still) ∧
  (∀ (s : State) (o : FA) (m : Member), s.Ready → s.bundle.members = [m] → s.active ≠ [] →
    (s.wave m.team m.wave).allow = none → (s.wave m.team m.wave).rperm = none → (∀ r ∈ memberRefs m, (s.lane r).ecc = none) →
    (s.team m.team).acqKeys = [] →
    (s.wave m.team m.wave).ctrs.getD (bitsOf o.sub.toNat 6 3) 0 ≤ bitsOf o.sub.toNat 0 6 →
    ∃ t, exec (.waitc o) s = .next t ∧ t.still = s.still) ∧
  ∀ (s : State) (op : Op) (tid first n : Nat) (set : Bool), s.liveOp s.args.a = some op →
    op.body = .shuttle [(tid, first, n, set)] [] → s.resultWaits op = false → tid < s.teams.length → first + n ≤ 4096 →
    ∃ t, exec .shuttleOpPerform s = .next t ∧ ∀ line < 4096,
      (line ∈ (t.team tid).absentLines ↔
        if first ≤ line ∧ line < first + n then set = false else line ∈ (s.team tid).absentLines)

/-- R330, R332, R333, R346, R347: where the matrix words complete: MX.i8, MX.e4, MX.e5, MX.h and MX.bf, of one entry and an
unpaired shape, when the mx counter has room, no latch is held, the handle is full, of a format that the word takes, and holds
the planes and the area that the word names, and the tile has the type of the operation or the word sets it. The word leaves
one operation of class mx, behind all others, with the tile, the handle, the shape and the planes that it names, and changes
no memory. -/
def Obligations.MatrixWordsComplete : Prop :=
  ∀ (s : State) (o : FX) (m : Member) (r : Ref), s.Ready → s.Alone m r → s.counterFull .mx = false →
    let x := s.handle r.team o.bh.toNat
    (s.team r.team).latch = none → o.shape ≠ 5 → o.shape ≠ 6 → x.state = 2 → o.pl.toNat ≤ x.plf →
    (o.pl.toNat < 8 → x.fmt = 3) → (x.fmt = 3 → x.baxis = true) →
    o.boff.toNat * 4096 + 64 * (shapeMN o.shape.toNat).2 ≤ x.area →
    let completes := fun (i : Instr) (aty : Nat) =>
      (if aty < 3 then x.fmt = 0 ∨ x.fmt = 3 ∨ x.fmt = 4 else x.fmt = 1) →
      (o.am = 1 ∨ (s.tile r.team o.tile.toNat).int = decide (aty = 0 ∧ o.ssel = 2 ∧ x.fmt = 0)) →
      ∃ (t : State) (op : Op) (j : MxJob), exec i s = .next t ∧ t.ops = s.ops ++ [op] ∧ op.body = .mx j ∧ op.team = r.team ∧
        op.wave = r.wave ∧ op.ctr = .mx ∧ op.done = false ∧ j.aty = aty ∧ j.tile = o.tile.toNat ∧ j.handle = o.bh.toNat ∧
        (j.m, j.n) = shapeMN o.shape.toNat ∧ j.am = o.am.toNat ∧ j.planes = o.pl.toNat ∧ j.mate = none ∧ t.mem = s.mem
    completes (.mxI8 o) 0 ∧ completes (.mxE4 o) 1 ∧ completes (.mxE5 o) 2 ∧ completes (.mxH o) 3 ∧ completes (.mxBf o) 4
end

