-- ==== Sys2Proof/Laws/State.lean ====
section
/-! SUPPORT. Sys2Proof/Laws/State.lean: what each update of the state does to each field. -/

namespace Sys2Proof.Machine

variable (s : State)

@[simp] theorem modTeam_mem (t : Nat) (f : Team → Team) : (s.modTeam t f).mem = s.mem := rfl
@[simp] theorem modTeam_hub (t : Nat) (f : Team → Team) : (s.modTeam t f).hub = s.hub := rfl
@[simp] theorem modTeam_dies (t : Nat) (f : Team → Team) : (s.modTeam t f).dies = s.dies := rfl
@[simp] theorem modTeam_grids (t : Nat) (f : Team → Team) : (s.modTeam t f).grids = s.grids := rfl
@[simp] theorem modTeam_teams (t : Nat) (f : Team → Team) : (s.modTeam t f).teams = s.teams.modify t f := rfl
@[simp] theorem modTeam_ops (t : Nat) (f : Team → Team) : (s.modTeam t f).ops = s.ops := rfl
@[simp] theorem modTeam_bundles (t : Nat) (f : Team → Team) : (s.modTeam t f).bundles = s.bundles := rfl
@[simp] theorem modTeam_nextOp (t : Nat) (f : Team → Team) : (s.modTeam t f).nextOp = s.nextOp := rfl
@[simp] theorem modTeam_nextBundle (t : Nat) (f : Team → Team) : (s.modTeam t f).nextBundle = s.nextBundle := rfl
@[simp] theorem modTeam_agenda (t : Nat) (f : Team → Team) : (s.modTeam t f).agenda = s.agenda := rfl
@[simp] theorem modTeam_free (t : Nat) (f : Team → Team) : (s.modTeam t f).free = s.free := rfl
@[simp] theorem modTeam_issue (t : Nat) (f : Team → Team) : (s.modTeam t f).issue = s.issue := rfl
@[simp] theorem modTeam_args (t : Nat) (f : Team → Team) : (s.modTeam t f).args = s.args := rfl

@[simp] theorem modWave_mem (t w : Nat) (f : Wave → Wave) : (s.modWave t w f).mem = s.mem := rfl
@[simp] theorem modWave_hub (t w : Nat) (f : Wave → Wave) : (s.modWave t w f).hub = s.hub := rfl
@[simp] theorem modWave_dies (t w : Nat) (f : Wave → Wave) : (s.modWave t w f).dies = s.dies := rfl
@[simp] theorem modWave_grids (t w : Nat) (f : Wave → Wave) : (s.modWave t w f).grids = s.grids := rfl
@[simp] theorem modWave_teams (t w : Nat) (f : Wave → Wave) : (s.modWave t w f).teams = s.teams.modify t fun x => { x with waves := x.waves.modify w f } := rfl
@[simp] theorem modWave_ops (t w : Nat) (f : Wave → Wave) : (s.modWave t w f).ops = s.ops := rfl
@[simp] theorem modWave_bundles (t w : Nat) (f : Wave → Wave) : (s.modWave t w f).bundles = s.bundles := rfl
@[simp] theorem modWave_nextOp (t w : Nat) (f : Wave → Wave) : (s.modWave t w f).nextOp = s.nextOp := rfl
@[simp] theorem modWave_nextBundle (t w : Nat) (f : Wave → Wave) : (s.modWave t w f).nextBundle = s.nextBundle := rfl
@[simp] theorem modWave_agenda (t w : Nat) (f : Wave → Wave) : (s.modWave t w f).agenda = s.agenda := rfl
@[simp] theorem modWave_free (t w : Nat) (f : Wave → Wave) : (s.modWave t w f).free = s.free := rfl
@[simp] theorem modWave_issue (t w : Nat) (f : Wave → Wave) : (s.modWave t w f).issue = s.issue := rfl
@[simp] theorem modWave_args (t w : Nat) (f : Wave → Wave) : (s.modWave t w f).args = s.args := rfl

@[simp] theorem modLane_mem (r : Ref) (f : Lane → Lane) : (s.modLane r f).mem = s.mem := rfl
@[simp] theorem modLane_hub (r : Ref) (f : Lane → Lane) : (s.modLane r f).hub = s.hub := rfl
@[simp] theorem modLane_dies (r : Ref) (f : Lane → Lane) : (s.modLane r f).dies = s.dies := rfl
@[simp] theorem modLane_grids (r : Ref) (f : Lane → Lane) : (s.modLane r f).grids = s.grids := rfl
@[simp] theorem modLane_ops (r : Ref) (f : Lane → Lane) : (s.modLane r f).ops = s.ops := rfl
@[simp] theorem modLane_bundles (r : Ref) (f : Lane → Lane) : (s.modLane r f).bundles = s.bundles := rfl
@[simp] theorem modLane_nextOp (r : Ref) (f : Lane → Lane) : (s.modLane r f).nextOp = s.nextOp := rfl
@[simp] theorem modLane_nextBundle (r : Ref) (f : Lane → Lane) : (s.modLane r f).nextBundle = s.nextBundle := rfl
@[simp] theorem modLane_agenda (r : Ref) (f : Lane → Lane) : (s.modLane r f).agenda = s.agenda := rfl
@[simp] theorem modLane_free (r : Ref) (f : Lane → Lane) : (s.modLane r f).free = s.free := rfl
@[simp] theorem modLane_issue (r : Ref) (f : Lane → Lane) : (s.modLane r f).issue = s.issue := rfl
@[simp] theorem modLane_args (r : Ref) (f : Lane → Lane) : (s.modLane r f).args = s.args := rfl

@[simp] theorem modEntry_mem (t w k : Nat) (f : Entry → Entry) : (s.modEntry t w k f).mem = s.mem := rfl
@[simp] theorem modEntry_hub (t w k : Nat) (f : Entry → Entry) : (s.modEntry t w k f).hub = s.hub := rfl
@[simp] theorem modEntry_dies (t w k : Nat) (f : Entry → Entry) : (s.modEntry t w k f).dies = s.dies := rfl
@[simp] theorem modEntry_grids (t w k : Nat) (f : Entry → Entry) : (s.modEntry t w k f).grids = s.grids := rfl
@[simp] theorem modEntry_ops (t w k : Nat) (f : Entry → Entry) : (s.modEntry t w k f).ops = s.ops := rfl
@[simp] theorem modEntry_bundles (t w k : Nat) (f : Entry → Entry) : (s.modEntry t w k f).bundles = s.bundles := rfl
@[simp] theorem modEntry_nextOp (t w k : Nat) (f : Entry → Entry) : (s.modEntry t w k f).nextOp = s.nextOp := rfl
@[simp] theorem modEntry_nextBundle (t w k : Nat) (f : Entry → Entry) : (s.modEntry t w k f).nextBundle = s.nextBundle := rfl
@[simp] theorem modEntry_agenda (t w k : Nat) (f : Entry → Entry) : (s.modEntry t w k f).agenda = s.agenda := rfl
@[simp] theorem modEntry_free (t w k : Nat) (f : Entry → Entry) : (s.modEntry t w k f).free = s.free := rfl
@[simp] theorem modEntry_issue (t w k : Nat) (f : Entry → Entry) : (s.modEntry t w k f).issue = s.issue := rfl
@[simp] theorem modEntry_args (t w k : Nat) (f : Entry → Entry) : (s.modEntry t w k f).args = s.args := rfl

@[simp] theorem modDie_mem (d : Nat) (f : Die → Die) : (s.modDie d f).mem = s.mem := rfl
@[simp] theorem modDie_hub (d : Nat) (f : Die → Die) : (s.modDie d f).hub = s.hub := rfl
@[simp] theorem modDie_dies (d : Nat) (f : Die → Die) : (s.modDie d f).dies = s.dies.modify d f := rfl
@[simp] theorem modDie_grids (d : Nat) (f : Die → Die) : (s.modDie d f).grids = s.grids := rfl
@[simp] theorem modDie_teams (d : Nat) (f : Die → Die) : (s.modDie d f).teams = s.teams := rfl
@[simp] theorem modDie_ops (d : Nat) (f : Die → Die) : (s.modDie d f).ops = s.ops := rfl
@[simp] theorem modDie_bundles (d : Nat) (f : Die → Die) : (s.modDie d f).bundles = s.bundles := rfl
@[simp] theorem modDie_nextOp (d : Nat) (f : Die → Die) : (s.modDie d f).nextOp = s.nextOp := rfl
@[simp] theorem modDie_nextBundle (d : Nat) (f : Die → Die) : (s.modDie d f).nextBundle = s.nextBundle := rfl
@[simp] theorem modDie_agenda (d : Nat) (f : Die → Die) : (s.modDie d f).agenda = s.agenda := rfl
@[simp] theorem modDie_free (d : Nat) (f : Die → Die) : (s.modDie d f).free = s.free := rfl
@[simp] theorem modDie_issue (d : Nat) (f : Die → Die) : (s.modDie d f).issue = s.issue := rfl
@[simp] theorem modDie_args (d : Nat) (f : Die → Die) : (s.modDie d f).args = s.args := rfl

@[simp] theorem modGrid_mem (g : Nat) (f : Grid → Grid) : (s.modGrid g f).mem = s.mem := rfl
@[simp] theorem modGrid_hub (g : Nat) (f : Grid → Grid) : (s.modGrid g f).hub = s.hub := rfl
@[simp] theorem modGrid_dies (g : Nat) (f : Grid → Grid) : (s.modGrid g f).dies = s.dies := rfl
@[simp] theorem modGrid_grids (g : Nat) (f : Grid → Grid) : (s.modGrid g f).grids = s.grids.modify g f := rfl
@[simp] theorem modGrid_teams (g : Nat) (f : Grid → Grid) : (s.modGrid g f).teams = s.teams := rfl
@[simp] theorem modGrid_ops (g : Nat) (f : Grid → Grid) : (s.modGrid g f).ops = s.ops := rfl
@[simp] theorem modGrid_bundles (g : Nat) (f : Grid → Grid) : (s.modGrid g f).bundles = s.bundles := rfl
@[simp] theorem modGrid_nextOp (g : Nat) (f : Grid → Grid) : (s.modGrid g f).nextOp = s.nextOp := rfl
@[simp] theorem modGrid_nextBundle (g : Nat) (f : Grid → Grid) : (s.modGrid g f).nextBundle = s.nextBundle := rfl
@[simp] theorem modGrid_agenda (g : Nat) (f : Grid → Grid) : (s.modGrid g f).agenda = s.agenda := rfl
@[simp] theorem modGrid_free (g : Nat) (f : Grid → Grid) : (s.modGrid g f).free = s.free := rfl
@[simp] theorem modGrid_issue (g : Nat) (f : Grid → Grid) : (s.modGrid g f).issue = s.issue := rfl
@[simp] theorem modGrid_args (g : Nat) (f : Grid → Grid) : (s.modGrid g f).args = s.args := rfl

@[simp] theorem modHub_mem (f : Hub → Hub) : (s.modHub f).mem = s.mem := rfl
@[simp] theorem modHub_hub (f : Hub → Hub) : (s.modHub f).hub = f s.hub := rfl
@[simp] theorem modHub_dies (f : Hub → Hub) : (s.modHub f).dies = s.dies := rfl
@[simp] theorem modHub_grids (f : Hub → Hub) : (s.modHub f).grids = s.grids := rfl
@[simp] theorem modHub_teams (f : Hub → Hub) : (s.modHub f).teams = s.teams := rfl
@[simp] theorem modHub_ops (f : Hub → Hub) : (s.modHub f).ops = s.ops := rfl
@[simp] theorem modHub_bundles (f : Hub → Hub) : (s.modHub f).bundles = s.bundles := rfl
@[simp] theorem modHub_nextOp (f : Hub → Hub) : (s.modHub f).nextOp = s.nextOp := rfl
@[simp] theorem modHub_nextBundle (f : Hub → Hub) : (s.modHub f).nextBundle = s.nextBundle := rfl
@[simp] theorem modHub_agenda (f : Hub → Hub) : (s.modHub f).agenda = s.agenda := rfl
@[simp] theorem modHub_free (f : Hub → Hub) : (s.modHub f).free = s.free := rfl
@[simp] theorem modHub_issue (f : Hub → Hub) : (s.modHub f).issue = s.issue := rfl
@[simp] theorem modHub_args (f : Hub → Hub) : (s.modHub f).args = s.args := rfl

@[simp] theorem modMem_mem (f : Memory → Memory) : (s.modMem f).mem = f s.mem := rfl
@[simp] theorem modMem_hub (f : Memory → Memory) : (s.modMem f).hub = s.hub := rfl
@[simp] theorem modMem_dies (f : Memory → Memory) : (s.modMem f).dies = s.dies := rfl
@[simp] theorem modMem_grids (f : Memory → Memory) : (s.modMem f).grids = s.grids := rfl
@[simp] theorem modMem_teams (f : Memory → Memory) : (s.modMem f).teams = s.teams := rfl
@[simp] theorem modMem_ops (f : Memory → Memory) : (s.modMem f).ops = s.ops := rfl
@[simp] theorem modMem_bundles (f : Memory → Memory) : (s.modMem f).bundles = s.bundles := rfl
@[simp] theorem modMem_nextOp (f : Memory → Memory) : (s.modMem f).nextOp = s.nextOp := rfl
@[simp] theorem modMem_nextBundle (f : Memory → Memory) : (s.modMem f).nextBundle = s.nextBundle := rfl
@[simp] theorem modMem_agenda (f : Memory → Memory) : (s.modMem f).agenda = s.agenda := rfl
@[simp] theorem modMem_free (f : Memory → Memory) : (s.modMem f).free = s.free := rfl
@[simp] theorem modMem_issue (f : Memory → Memory) : (s.modMem f).issue = s.issue := rfl
@[simp] theorem modMem_args (f : Memory → Memory) : (s.modMem f).args = s.args := rfl

@[simp] theorem modIssue_mem (f : Bundle → Bundle) : (s.modIssue f).mem = s.mem := rfl
@[simp] theorem modIssue_hub (f : Bundle → Bundle) : (s.modIssue f).hub = s.hub := rfl
@[simp] theorem modIssue_dies (f : Bundle → Bundle) : (s.modIssue f).dies = s.dies := rfl
@[simp] theorem modIssue_grids (f : Bundle → Bundle) : (s.modIssue f).grids = s.grids := rfl
@[simp] theorem modIssue_teams (f : Bundle → Bundle) : (s.modIssue f).teams = s.teams := rfl
@[simp] theorem modIssue_ops (f : Bundle → Bundle) : (s.modIssue f).ops = s.ops := rfl
@[simp] theorem modIssue_bundles (f : Bundle → Bundle) : (s.modIssue f).bundles = s.bundles := rfl
@[simp] theorem modIssue_nextOp (f : Bundle → Bundle) : (s.modIssue f).nextOp = s.nextOp := rfl
@[simp] theorem modIssue_nextBundle (f : Bundle → Bundle) : (s.modIssue f).nextBundle = s.nextBundle := rfl
@[simp] theorem modIssue_agenda (f : Bundle → Bundle) : (s.modIssue f).agenda = s.agenda := rfl
@[simp] theorem modIssue_free (f : Bundle → Bundle) : (s.modIssue f).free = s.free := rfl
@[simp] theorem modIssue_issue (f : Bundle → Bundle) : (s.modIssue f).issue = s.issue.map f := rfl
@[simp] theorem modIssue_args (f : Bundle → Bundle) : (s.modIssue f).args = s.args := rfl

@[simp] theorem modBundles_mem (f : Bundle → Bundle) : (s.modBundles f).mem = s.mem := rfl
@[simp] theorem modBundles_hub (f : Bundle → Bundle) : (s.modBundles f).hub = s.hub := rfl
@[simp] theorem modBundles_dies (f : Bundle → Bundle) : (s.modBundles f).dies = s.dies := rfl
@[simp] theorem modBundles_grids (f : Bundle → Bundle) : (s.modBundles f).grids = s.grids := rfl
@[simp] theorem modBundles_teams (f : Bundle → Bundle) : (s.modBundles f).teams = s.teams := rfl
@[simp] theorem modBundles_ops (f : Bundle → Bundle) : (s.modBundles f).ops = s.ops := rfl
@[simp] theorem modBundles_bundles (f : Bundle → Bundle) : (s.modBundles f).bundles = s.bundles.map f := rfl
@[simp] theorem modBundles_nextOp (f : Bundle → Bundle) : (s.modBundles f).nextOp = s.nextOp := rfl
@[simp] theorem modBundles_nextBundle (f : Bundle → Bundle) : (s.modBundles f).nextBundle = s.nextBundle := rfl
@[simp] theorem modBundles_agenda (f : Bundle → Bundle) : (s.modBundles f).agenda = s.agenda := rfl
@[simp] theorem modBundles_free (f : Bundle → Bundle) : (s.modBundles f).free = s.free := rfl
@[simp] theorem modBundles_issue (f : Bundle → Bundle) : (s.modBundles f).issue = s.issue.map f := rfl
@[simp] theorem modBundles_args (f : Bundle → Bundle) : (s.modBundles f).args = s.args := rfl

@[simp] theorem sweepBundles_mem : (s.sweepBundles).mem = s.mem := rfl
@[simp] theorem sweepBundles_hub : (s.sweepBundles).hub = s.hub := rfl
@[simp] theorem sweepBundles_dies : (s.sweepBundles).dies = s.dies := rfl
@[simp] theorem sweepBundles_grids : (s.sweepBundles).grids = s.grids := rfl
@[simp] theorem sweepBundles_teams : (s.sweepBundles).teams = s.teams := rfl
@[simp] theorem sweepBundles_ops : (s.sweepBundles).ops = s.ops := rfl
@[simp] theorem sweepBundles_nextOp : (s.sweepBundles).nextOp = s.nextOp := rfl
@[simp] theorem sweepBundles_nextBundle : (s.sweepBundles).nextBundle = s.nextBundle := rfl
@[simp] theorem sweepBundles_agenda : (s.sweepBundles).agenda = s.agenda := rfl
@[simp] theorem sweepBundles_free : (s.sweepBundles).free = s.free := rfl
@[simp] theorem sweepBundles_issue : (s.sweepBundles).issue = s.issue := rfl
@[simp] theorem sweepBundles_args : (s.sweepBundles).args = s.args := rfl

@[simp] theorem modOp_mem (id : Nat) (f : Op → Op) : (s.modOp id f).mem = s.mem := rfl
@[simp] theorem modOp_hub (id : Nat) (f : Op → Op) : (s.modOp id f).hub = s.hub := rfl
@[simp] theorem modOp_dies (id : Nat) (f : Op → Op) : (s.modOp id f).dies = s.dies := rfl
@[simp] theorem modOp_grids (id : Nat) (f : Op → Op) : (s.modOp id f).grids = s.grids := rfl
@[simp] theorem modOp_teams (id : Nat) (f : Op → Op) : (s.modOp id f).teams = s.teams := rfl
@[simp] theorem modOp_bundles (id : Nat) (f : Op → Op) : (s.modOp id f).bundles = s.bundles := rfl
@[simp] theorem modOp_nextOp (id : Nat) (f : Op → Op) : (s.modOp id f).nextOp = s.nextOp := rfl
@[simp] theorem modOp_nextBundle (id : Nat) (f : Op → Op) : (s.modOp id f).nextBundle = s.nextBundle := rfl
@[simp] theorem modOp_agenda (id : Nat) (f : Op → Op) : (s.modOp id f).agenda = s.agenda := rfl
@[simp] theorem modOp_free (id : Nat) (f : Op → Op) : (s.modOp id f).free = s.free := rfl
@[simp] theorem modOp_issue (id : Nat) (f : Op → Op) : (s.modOp id f).issue = s.issue := rfl
@[simp] theorem modOp_args (id : Nat) (f : Op → Op) : (s.modOp id f).args = s.args := rfl

@[simp] theorem addOp_mem (t w : Nat) (c : Ctr) (b : Bool) (rs : List RegRes) (ps : List PredRes) (es : List (Nat × DWord)) (y : OpBody) : (s.addOp t w c b rs ps es y).mem = s.mem := rfl
@[simp] theorem addOp_hub (t w : Nat) (c : Ctr) (b : Bool) (rs : List RegRes) (ps : List PredRes) (es : List (Nat × DWord)) (y : OpBody) : (s.addOp t w c b rs ps es y).hub = s.hub := rfl
@[simp] theorem addOp_dies (t w : Nat) (c : Ctr) (b : Bool) (rs : List RegRes) (ps : List PredRes) (es : List (Nat × DWord)) (y : OpBody) : (s.addOp t w c b rs ps es y).dies = s.dies := rfl
@[simp] theorem addOp_grids (t w : Nat) (c : Ctr) (b : Bool) (rs : List RegRes) (ps : List PredRes) (es : List (Nat × DWord)) (y : OpBody) : (s.addOp t w c b rs ps es y).grids = s.grids := rfl
@[simp] theorem addOp_bundles (t w : Nat) (c : Ctr) (b : Bool) (rs : List RegRes) (ps : List PredRes) (es : List (Nat × DWord)) (y : OpBody) : (s.addOp t w c b rs ps es y).bundles = s.bundles := rfl
@[simp] theorem addOp_nextOp (t w : Nat) (c : Ctr) (b : Bool) (rs : List RegRes) (ps : List PredRes) (es : List (Nat × DWord)) (y : OpBody) : (s.addOp t w c b rs ps es y).nextOp = s.nextOp + 1 := rfl
@[simp] theorem addOp_nextBundle (t w : Nat) (c : Ctr) (b : Bool) (rs : List RegRes) (ps : List PredRes) (es : List (Nat × DWord)) (y : OpBody) : (s.addOp t w c b rs ps es y).nextBundle = s.nextBundle := rfl
@[simp] theorem addOp_agenda (t w : Nat) (c : Ctr) (b : Bool) (rs : List RegRes) (ps : List PredRes) (es : List (Nat × DWord)) (y : OpBody) : (s.addOp t w c b rs ps es y).agenda = s.agenda := rfl
@[simp] theorem addOp_free (t w : Nat) (c : Ctr) (b : Bool) (rs : List RegRes) (ps : List PredRes) (es : List (Nat × DWord)) (y : OpBody) : (s.addOp t w c b rs ps es y).free = s.free := rfl
@[simp] theorem addOp_issue (t w : Nat) (c : Ctr) (b : Bool) (rs : List RegRes) (ps : List PredRes) (es : List (Nat × DWord)) (y : OpBody) : (s.addOp t w c b rs ps es y).issue = s.issue := rfl
@[simp] theorem addOp_args (t w : Nat) (c : Ctr) (b : Bool) (rs : List RegRes) (ps : List PredRes) (es : List (Nat × DWord)) (y : OpBody) : (s.addOp t w c b rs ps es y).args = s.args := rfl

end Sys2Proof.Machine
end

