-- ==== Sys2Proof/Laws/Access.lean ====
section
/-! SUPPORT. Sys2Proof/Laws/Access.lean: reading a team, a wave, a lane or a register after one was changed. -/

namespace Sys2Proof.Machine

theorem getD_modify {α : Type} (l : List α) (f : α → α) (i j : Nat) (d : α) :
    (l.modify i f).getD j d = if i = j ∧ i < l.length then f (l.getD j d) else l.getD j d := by
  simp only [List.getD_eq_getElem?_getD, List.getElem?_modify]
  by_cases h : i = j
  · subst h
    by_cases h' : i < l.length
    · simp [h']
    · simp [h']
  · simp [h]

/-- A team after a change to one. -/
theorem team_modTeam (s : State) (t k : Nat) (f : Team → Team) :
    (s.modTeam t f).team k = if t = k ∧ t < s.teams.length then f (s.team k) else s.team k :=
  getD_modify ..

theorem team_modTeam_ne (s : State) {t k : Nat} (f : Team → Team) (h : t ≠ k) : (s.modTeam t f).team k = s.team k := by
  rw [team_modTeam, if_neg (fun x => h x.1)]

theorem team_modTeam_eq (s : State) {t : Nat} (f : Team → Team) (h : t < s.teams.length) :
    (s.modTeam t f).team t = f (s.team t) := by
  rw [team_modTeam, if_pos ⟨rfl, h⟩]

/-- A wave after a change to one. -/
theorem wave_modWave (s : State) (t w a b : Nat) (f : Wave → Wave) :
    (s.modWave t w f).wave a b =
      if (t = a ∧ t < s.teams.length) ∧ w = b ∧ w < (s.team a).waves.length then f (s.wave a b) else s.wave a b := by
  unfold State.wave State.modWave
  rw [team_modTeam]
  by_cases h : t = a ∧ t < s.teams.length
  · rw [if_pos h]
    dsimp only
    rw [getD_modify]
    exact if_congr (by simp [h, h.1 ▸ h.2]) rfl rfl
  · rw [if_neg h, if_neg fun x => h x.1]

theorem lane_modLane (s : State) (r q : Ref) (f : Lane → Lane) :
    (s.modLane r f).lane q = if r = q ∧ s.has r then f (s.lane q) else s.lane q := by
  unfold State.lane State.modLane
  rw [wave_modWave]
  by_cases h : (r.team = q.team ∧ r.team < s.teams.length) ∧ r.wave = q.wave ∧ r.wave < (s.team q.team).waves.length
  · rw [if_pos h]
    simp only [getD_modify]
    obtain ⟨⟨h1, h2⟩, h3, h4⟩ := h
    refine if_congr ?_ rfl rfl
    unfold State.has
    constructor
    · rintro ⟨h5, h6⟩
      obtain ⟨a, b, c⟩ := r
      obtain ⟨a', b', c'⟩ := q
      simp_all
    · rintro ⟨rfl, h5⟩
      exact ⟨rfl, h5.2.2⟩
  · rw [if_neg h, if_neg]
    rintro ⟨rfl, h1, h2, -⟩
    exact h ⟨⟨rfl, h1⟩, rfl, h2⟩

/-- A wave's registers are no lane's. -/
theorem w_modLane (s : State) (r : Ref) (f : Lane → Lane) (a b : Nat) : ((s.modLane r f).wave a b).w = (s.wave a b).w := by
  unfold State.modLane
  rw [wave_modWave]
  split <;> rfl

/-- Changing lanes' or waves' contents keeps which lanes exist. -/
theorem has_modWave (s : State) (t w : Nat) (f : Wave → Wave) (h : ∀ x, (f x).lanes.length = x.lanes.length) (q : Ref) :
    (s.modWave t w f).has q ↔ s.has q := by
  unfold State.has
  rw [wave_modWave]
  have e : (s.modWave t w f).teams.length = s.teams.length := by simp
  have e2 : ((s.modWave t w f).team q.team).waves.length = (s.team q.team).waves.length := by
    unfold State.modWave
    rw [team_modTeam]
    split <;> simp
  rw [e, e2]
  split
  · rw [h]
  · rfl

theorem has_modLane (s : State) (r q : Ref) (f : Lane → Lane) : (s.modLane r f).has q ↔ s.has q :=
  has_modWave _ _ _ _ (fun x => by simp) q

/-- An active lane exists. -/
theorem has_of_active {s : State} {r : Ref} (h : r ∈ s.active) : s.has r ∧ r.lane < 32 := by
  unfold State.active State.activeOf memberRefs at h
  simp only [List.mem_flatMap, List.mem_filter, List.mem_map] at h
  obtain ⟨m, -, ⟨k, hk, rfl⟩, hr⟩ := h
  have h32 : k < 32 := by
    unfold maskLanes at hk
    simp only [List.mem_filter, List.mem_range] at hk
    exact hk.1
  refine ⟨?_, h32⟩
  have he : (s.lane ⟨m.team, m.wave, k⟩).ended = false := by
    by_contra hc
    simp [hc] at hr
  unfold State.lane State.wave State.team at he
  unfold State.has State.wave State.team
  refine ⟨?_, ?_, ?_⟩ <;> by_contra hc <;> simp only [not_lt] at hc
  · rw [List.getD_eq_default _ _ hc] at he; simp [Team.blank, Wave.blank, Lane.blank] at he
  · rw [List.getD_eq_default (_ : Team).waves _ hc] at he; simp [Wave.blank, Lane.blank] at he
  · rw [List.getD_eq_default (_ : Wave).lanes _ hc] at he; simp [Lane.blank] at he

end Sys2Proof.Machine
end

