-- ==== Sys2Proof/Laws/Still.lean ====
section
/-! SUPPORT. Sys2Proof/Laws/Still.lean: the end of a word moves lanes and nothing else: `finish` keeps `State.still`. -/

namespace Sys2Proof.Machine

theorem map_modify_same {α β} (g : α → β) (f : α → α) (h : ∀ a, g (f a) = g a) (l : List α) (k : Nat) :
    (l.modify k f).map g = l.map g := by
  induction l generalizing k with
  | nil => simp
  | cons a l ih => cases k <;> simp [h, ih]

theorem still_modTeam (s : State) (k : Nat) (f : Team → Team) (h : ∀ t, (f t).still = t.still) :
    (s.modTeam k f).still = s.still := by
  simp [State.modTeam, State.still, map_modify_same _ _ h]
theorem still_modWave (s : State) (t w : Nat) (f : Wave → Wave) (h : ∀ t, (f t).still = t.still) :
    (s.modWave t w f).still = s.still := by
  refine still_modTeam _ _ _ fun x => ?_
  simp [Team.still, map_modify_same _ _ h]
theorem still_modLane (s : State) (r : Ref) (f : Lane → Lane) (h : ∀ t, (f t).still = t.still) :
    (s.modLane r f).still = s.still := by
  refine still_modWave _ _ _ _ fun x => ?_
  simp [Wave.still, map_modify_same _ _ h]
@[simp] theorem still_modEntry (s : State) (t w k : Nat) (f) : (s.modEntry t w k f).still = s.still :=
  still_modWave _ _ _ _ fun _ => rfl
@[simp] theorem still_setPcs (s : State) (t w m c i) : (s.setPcs t w m c i).still = s.still := by
  unfold State.setPcs
  generalize maskLanes m = l
  induction l generalizing s with
  | nil => rfl
  | cons a l ih => rw [List.foldl_cons, ih, still_modLane]; intro; rfl
theorem still_foldl {α} (f : State → α → State) (h : ∀ s a, (f s a).still = s.still) (l : List α) (s : State) :
    (l.foldl f s).still = s.still := by
  induction l generalizing s with
  | nil => rfl
  | cons a l ih => rw [List.foldl_cons, ih, h]
@[simp] theorem still_unwait (s : State) (t w m) : (s.unwait t w m).still = s.still := by
  unfold State.unwait
  refine still_foldl _ (fun s k => ?_) _ s
  refine still_modLane _ _ _ fun l => ?_
  simp [Lane.unwait, Lane.still, Function.comp_def]
@[simp] theorem still_modIssue (s : State) (f) : (s.modIssue f).still = s.still := rfl
@[simp] theorem still_putIssue (s : State) : (s.putIssue).still = s.still := by
  unfold State.putIssue; split <;> rfl
@[simp] theorem still_addEntry (s : State) (t w e) : (s.modWave t w fun x => x.addEntry e).still = s.still :=
  still_modWave _ _ _ _ fun _ => rfl
@[simp] theorem still_dropEntry (s : State) (t w e) : (s.modWave t w fun x => x.dropEntry e).still = s.still :=
  still_modWave _ _ _ _ fun _ => rfl
@[simp] theorem still_rotate (s : State) (t w k m) : (s.rotate t w k m).still = s.still := by
  unfold State.rotate
  split
  · rfl
  · dsimp only
    split <;> simp

@[simp] theorem still_settle (s : State) (t w k m) : (s.settle t w k m).still = s.still := by
  unfold State.settle
  split
  · rfl
  · dsimp only
    split
    · rfl
    · split
      · split <;> simp
      · split
        · rename_i h
          split at h <;> split <;> simp
        · rename_i h
          split at h <;> split <;> split <;> (try split) <;> simp_all

@[simp] theorem still_place (s : State) (t w k gs) : (s.place t w k gs).still = s.still := by
  induction gs generalizing s k with
  | nil => simp [State.place]
  | cons g rest ih =>
    unfold State.place
    dsimp only
    split
    · simp
    · split
      · rw [ih]; simp
      · simp

@[simp] theorem still_endMember (s : State) (b m) : (s.endMember b m).still = s.still := by
  unfold State.endMember
  dsimp only
  rw [still_settle, still_foldl, still_foldl, still_place, still_modEntry, still_modTeam]
  · intro t; rfl
  · intro s a; simp
  · intro s a; exact still_modLane _ _ _ fun l => rfl

theorem still_placeImage (s : State) (t w i h) : (s.placeImage t w i h).still = s.still := by
  unfold State.placeImage
  dsimp only
  split
  · rfl
  · split
    · refine (still_modWave _ _ _ _ ?_).trans (still_setPcs ..); intro; rfl
    · refine (still_modWave _ _ _ _ ?_).trans (still_setPcs ..); intro; rfl

theorem still_fuseGo (s : State) (t w n) : (s.fuseGo t w n).still = s.still := by
  induction n generalizing s with
  | zero => rfl
  | succ n ih =>
    unfold State.fuseGo
    split
    · rfl
    · rw [ih, still_modWave]; intro; rfl

theorem still_fuse (s : State) (t w) : (s.fuse t w).still = s.still := by
  unfold State.fuse
  exact still_fuseGo ..

theorem pend_of_still {l l' : Lane} (h : l.still = l'.still) : l.pend = l'.pend := by
  have := congrArg Lane.pend h; simpa [Lane.still] using this

theorem State.Quiet.of_still {s t : State} (h : t.still = s.still) (q : s.Quiet) : t.Quiet := by
  have hd : t.dies = s.dies := by have := congrArg State.dies h; simpa [State.still] using this
  have ht : t.teams.map Team.still = s.teams.map Team.still := by
    have := congrArg State.teams h; simpa [State.still] using this
  have mem : ∀ x ∈ t.teams, ∃ y ∈ s.teams, y.still = x.still := by
    intro x hx
    have : x.still ∈ s.teams.map Team.still := by rw [← ht]; exact List.mem_map_of_mem hx
    simpa using this
  refine ⟨hd ▸ q.debug, ?_, ?_⟩
  · intro x hx
    obtain ⟨y, hy, e⟩ := mem x hx
    have := congrArg Team.step e
    have q1 := q.step y hy
    simp [Team.still] at this
    rw [← this, q1]
  · intro x hx w hw l hl
    obtain ⟨y, hy, e⟩ := mem x hx
    have hw' : w.still ∈ y.waves.map Wave.still := by
      have := congrArg Team.waves e
      simp [Team.still] at this
      rw [this]; exact List.mem_map_of_mem hw
    obtain ⟨v, hv, ev⟩ := List.mem_map.1 hw'
    have hl' : l.still ∈ v.lanes.map Lane.still := by
      have := congrArg Wave.lanes ev
      simp [Wave.still] at this
      rw [this]; exact List.mem_map_of_mem hl
    obtain ⟨m, hm, em⟩ := List.mem_map.1 hl'
    rw [← pend_of_still em]; exact q.bind y hy v hv m hm

theorem settleBinds_quiet {s : State} (q : s.Quiet) (t : Nat) : s.settleBinds t = s := by
  unfold State.settleBinds
  rw [if_pos]
  rw [List.all_eq_true]
  intro w hw
  rw [List.all_eq_true]
  intro l hl
  unfold State.team at hw
  rcases lt_or_ge t s.teams.length with h | h
  · rw [List.getD_eq_getElem _ _ h] at hw
    simp [q.bind _ (List.getElem_mem h) w hw l hl]
  · rw [List.getD_eq_default _ _ h] at hw
    simp [Team.blank] at hw

theorem still_settleBinds_foldl {s : State} (q : s.Quiet) (ms : List Member) :
    (ms.foldl (fun s m => s.settleBinds m.team) s) = s := by
  induction ms with
  | nil => rfl
  | cons m ms ih => rw [List.foldl_cons, settleBinds_quiet q, ih]

theorem still_endClause {s : State} (q : s.Quiet) : s.endClause.still = s.still := by
  have members : ∀ (b : Bundle) (ms : List Member) (s : State), (ms.foldl (fun s m => s.endMember b m) s).still = s.still :=
    fun b ms s => still_foldl _ (fun s m => still_endMember s b m) ms s
  have images : ∀ (b : Bundle) (xs : List (Nat × Nat × List Word)) (s : State),
      (xs.foldl (fun s x => s.placeImage x.1 x.2.1 x.2.2 (b.here x.1 x.2.1)) s).still = s.still :=
    fun b xs s => by
      refine still_foldl _ (fun u x => ?_) xs s
      exact still_placeImage u x.1 x.2.1 x.2.2 (b.here x.1 x.2.1)
  have fuses : ∀ (ms : List Member) (s : State), (ms.foldl (fun s m => s.fuse m.team m.wave) s).still = s.still :=
    fun ms s => by
      refine still_foldl _ (fun u m => ?_) ms s
      exact still_fuse u m.team m.wave
  unfold State.endClause
  dsimp only
  rw [fuses]
  generalize s.bundle = b
  generalize hv : List.foldl (fun (s : State) (x : Nat × Nat × List Word) =>
    s.placeImage x.1 x.2.1 x.2.2 (b.here x.1 x.2.1)) _ _ = v
  have placed : v.still = s.still := by
    rw [← hv, images, members]
    rfl
  rw [still_settleBinds_foldl (q.of_still placed), placed]

theorem still_nextWord {s : State} (q : s.Quiet) : s.nextWord.still = s.still := by
  unfold State.nextWord
  dsimp only
  split
  · simp
  · split
    · rw [still_endClause (q.of_still (still_modIssue ..))]; simp
    · simp

theorem dbgMode_quiet {s : State} (q : s.Quiet) (t : Nat) : s.dbgMode t = 0 := by
  have h : ∀ d, (s.die d).dbgctl.toNat % 4 = 0 := by
    intro d
    unfold State.die
    rcases lt_or_ge d s.dies.length with h | h
    · rw [List.getD_eq_getElem _ _ h]; exact q.debug _ (List.getElem_mem h)
    · rw [List.getD_eq_default _ _ h]; rfl
  unfold State.dbgMode
  simp [h]

theorem debugHits_quiet {s : State} (q : s.Quiet) (ls ws) : s.debugHits ls ws = s := by
  unfold State.debugHits
  simp [dbgMode_quiet q]

theorem steppers_quiet {s : State} (q : s.Quiet) (b : Bundle) : s.steppers b = [] := by
  unfold State.steppers
  suffices h : b.members.filterMap _ = [] by rw [h]; rfl
  rw [List.filterMap_eq_nil_iff]
  intro m _
  have : (s.team m.team).step = none := by
    unfold State.team
    rcases lt_or_ge m.team s.teams.length with h | h
    · rw [List.getD_eq_getElem _ _ h]; exact q.step _ (List.getElem_mem h)
    · rw [List.getD_eq_default _ _ h]; rfl
  simp [this]

theorem still_finish {s : State} (q : s.Quiet) (ls ws) : (s.finish ls ws).still = s.still := by
  have q' : (s.modIssue fun b => { b with walks := [], walked := [], told := [], diced := none }).Quiet := q.of_still (by simp)
  unfold State.finish
  simp only [debugHits_quiet q]
  split
  · simp
  · split
    · simp
    · rw [still_nextWord q']; simp
end Sys2Proof.Machine
end

