-- ==== Sys2Proof/Laws/Alu.lean ====
section
/-! SUPPORT. Sys2Proof/Laws/Alu.lean: words of class ALU and of the exchange: they complete, and nothing but the lanes'
registers, predicates, flags, generators and latches changes. -/

namespace Sys2Proof.Machine

theorem bare_modTeam (s : State) (k : Nat) (f : Team → Team)
    (h : ∀ t, (f t).waves.map Wave.bare = t.waves.map Wave.bare ∧ { f t with waves := [] } = { t with waves := [] }) :
    (s.modTeam k f).bare = s.bare := by
  simp only [State.bare, State.modTeam]
  congr 1
  refine map_modify_same _ _ (fun t => ?_) _ _
  obtain ⟨h1, h2⟩ := h t
  rw [h1]
  injection h2
  simp_all

theorem bare_modWave (s : State) (t w : Nat) (f : Wave → Wave) (h : ∀ x, (f x).bare = x.bare) :
    (s.modWave t w f).bare = s.bare :=
  bare_modTeam _ _ _ fun _ => ⟨map_modify_same _ _ h _ _, rfl⟩

theorem bare_modLane (s : State) (r : Ref) (f : Lane → Lane) (h : ∀ x, (f x).bare = x.bare) :
    (s.modLane r f).bare = s.bare := by
  refine bare_modWave _ _ _ _ fun _ => ?_
  simp [Wave.bare, map_modify_same _ _ h]

@[simp] theorem bare_setReg (s : State) (r : Ref) (k : Nat) (v : Word) : (s.setReg r k v).bare = s.bare := by
  unfold State.setReg
  split
  · exact bare_modLane _ _ _ fun _ => rfl
  · exact bare_modWave _ _ _ _ fun _ => rfl

theorem bare_foldl {α : Type} (f : State → α → State) (h : ∀ s a, (f s a).bare = s.bare) (l : List α) (s : State) :
    (l.foldl f s).bare = s.bare := by
  induction l generalizing s with
  | nil => rfl
  | cons a l ih => rw [List.foldl_cons, ih, h]

@[simp] theorem bare_apply (s : State) (r : Ref) (e : Eff) : (s.apply r e).bare = s.bare := by
  unfold State.apply
  refine (bare_modLane _ _ _ ?_).trans ?_
  · intro l
    rfl
  · refine bare_foldl _ (fun u p => ?_) _ _
    exact bare_setReg u r p.1 p.2

theorem bare_applyAll (s : State) (es : List (Ref × Eff)) : (s.applyAll es).bare = s.bare := by
  refine bare_foldl _ (fun u x => ?_) _ _
  exact bare_apply u x.1 x.2

@[simp] theorem bare_latchRead (s : State) (r : Ref) (k : Nat) : (s.latchRead r k).bare = s.bare := by
  unfold State.latchRead
  split
  any_goals rfl
  all_goals exact bare_modLane _ _ _ fun _ => rfl

theorem bare_latched (s : State) (srcs : List (BitVec 8)) : (s.latched srcs).bare = s.bare := by
  refine bare_foldl _ (fun u r => ?_) _ _
  refine bare_foldl _ (fun v x => ?_) srcs u
  exact bare_latchRead v r x.toNat

theorem bare_gives (s : State) (srcs : List (BitVec 8)) (f : Ref → Eff) : (s.gives srcs f).bare = s.bare := by
  unfold State.gives
  rw [bare_applyAll, bare_latched]

theorem bare_givesEach (s : State) (srcs : List (BitVec 8)) (f : List Ref → Ref → Eff) :
    (s.givesEach srcs f).bare = s.bare := by
  unfold State.givesEach
  rw [bare_applyAll, bare_latched]

theorem State.Quiet.of_bare {s t : State} (h : t.bare = s.bare) (q : s.Quiet) : t.Quiet := by
  have hd : t.dies = s.dies := by have := congrArg State.dies h; simpa [State.bare] using this
  have ht : t.bare.teams = s.bare.teams := congrArg State.teams h
  have mem : ∀ x ∈ t.teams, ∃ y ∈ s.teams, y.step = x.step ∧ y.waves.map Wave.bare = x.waves.map Wave.bare := by
    intro x hx
    have : { x with waves := x.waves.map Wave.bare } ∈ s.bare.teams := by
      rw [← ht]; exact List.mem_map_of_mem hx
    obtain ⟨y, hy, e⟩ := List.mem_map.1 this
    injection e with _ _ _ _ _ waves _ _ _ _ _ _ _ _ _ _ _ _ _ _ _ _ _ _ _ _ _ step
    exact ⟨y, hy, by assumption, waves⟩
  refine ⟨hd ▸ q.debug, ?_, ?_⟩
  · intro x hx
    obtain ⟨y, hy, e, -⟩ := mem x hx
    rw [← e, q.step y hy]
  · intro x hx w hw l hl
    obtain ⟨y, hy, -, e⟩ := mem x hx
    have hw' : w.bare ∈ y.waves.map Wave.bare := e ▸ List.mem_map_of_mem hw
    obtain ⟨v, hv, ev⟩ := List.mem_map.1 hw'
    have hl' : l.bare ∈ v.lanes.map Lane.bare := by
      have := congrArg Wave.lanes ev
      simp only [Wave.bare] at this
      rw [this]
      exact List.mem_map_of_mem hl
    obtain ⟨m, hm, em⟩ := List.mem_map.1 hl'
    exact (congrArg Lane.pend em).symm.trans (q.bind y hy v hv m hm)

/-- What runs when a word issues. -/
theorem whenIssued_ready {s : State} (h : s.Ready) (f : State → State) : whenIssued s f = .next (f s) := by
  unfold whenIssued
  rw [if_neg]
  have := h.issues
  simp_all [Option.isSome_iff_ne_none]

/-- Who issued the word, and what it accessed, makes no difference to its end when no debugger is attached. -/
theorem finish_quiet {s : State} (q : s.Quiet) (ls ls' : List Ref) (ws ws' : List Watch) : s.finish ls ws = s.finish ls' ws' := by
  unfold State.finish
  simp only [debugHits_quiet q]

/-- A word that changes the state to `u` and finishes has `u`'s changes. -/
theorem finish_ends {u : State} (q : u.Ready) (ls : List Ref) (ws : List Watch) {x : Out}
    (h : x = .next (u.finish ls ws)) : ∃ t, x = .next t ∧ exec .nop u = .next t := by
  refine ⟨_, h, ?_⟩
  have e : exec .nop u = whenIssued u State.advance := rfl
  rw [e, whenIssued_ready q]
  exact congrArg _ (finish_quiet q.toQuiet ..)

theorem issue_foldl {α : Type} (f : State → α → State) (h : ∀ s a, (f s a).issue = s.issue) (l : List α) (s : State) :
    (l.foldl f s).issue = s.issue := by
  induction l generalizing s with
  | nil => rfl
  | cons a l ih => rw [List.foldl_cons, ih, h]

theorem issue_of_bare {s t : State} (h : t.bare = s.bare) : t.issue = s.issue := by
  have := congrArg State.issue h
  simpa [State.bare] using this

theorem State.Ready.of_bare {s t : State} (h : t.bare = s.bare) (q : s.Ready) : t.Ready :=
  { q.toQuiet.of_bare h with issues := by rw [issue_of_bare h]; exact q.issues }

/-- A word of class ALU completes with the effect of every active lane. -/
theorem aluWord_ends {s : State} (h : s.Ready) (srcs : List (BitVec 8)) (f : State → Ref → Eff) :
    ∃ t, aluWord s srcs f = .next t ∧ exec .nop (s.gives srcs (f s)) = .next t :=
  finish_ends (h.of_bare (bare_gives ..)) s.active [] (whenIssued_ready h _)

/-- A word that acts for each entry completes with the effect of every active lane. -/
theorem entryWord_ends {s : State} (h : s.Ready) (srcs : List (BitVec 8)) (f : State → List Ref → List (Ref × Eff))
    (g : List Ref → Ref → Eff) (hg : ∀ act, f s act = act.map fun r => (r, g act r)) :
    ∃ t, entryWord s srcs f = .next t ∧ exec .nop (s.givesEach srcs g) = .next t := by
  refine finish_ends (h.of_bare (bare_givesEach s srcs g)) s.active [] ?_
  unfold entryWord
  rw [whenIssued_ready h]
  simp only [hg]
  rfl

/-! The forms of class ALU. -/

theorem alu1_ends {s : State} (h : s.Ready) (o : F3) (ta : ETy) (f : Word → Eff) :
    ∃ t, alu1 s o ta f = .next t ∧ exec .nop (s.with1 o ta f) = .next t := aluWord_ends h _ _

theorem alu2_ends {s : State} (h : s.Ready) (o : F3) (ta tb : ETy) (f : Word → Word → Eff) :
    ∃ t, alu2 s o ta tb f = .next t ∧ exec .nop (s.with2 o ta tb f) = .next t := aluWord_ends h _ _

theorem alu3_ends {s : State} (h : s.Ready) (o : F3) (ta tb tc : ETy) (f : Word → Word → Word → Eff) :
    ∃ t, alu3 s o ta tb tc f = .next t ∧ exec .nop (s.with3 o ta tb tc f) = .next t := aluWord_ends h _ _

theorem aluI_ends {s : State} (h : s.Ready) (o : FI) (ta tb : ETy) (f : Word → Word → Eff) :
    ∃ t, aluI s o ta tb f = .next t ∧ exec .nop (s.withI o ta tb f) = .next t := aluWord_ends h _ _

theorem alu64_ends {s : State} (h : s.Ready) (o : F3) (f : DWord → DWord → Eff) :
    ∃ t, alu64 s o f = .next t ∧ exec .nop (s.with64 o f) = .next t := aluWord_ends h _ _

theorem alu64I_ends {s : State} (h : s.Ready) (o : FI) (f : DWord → DWord → Eff) :
    ∃ t, alu64I s o f = .next t ∧ exec .nop (s.with64I o f) = .next t := aluWord_ends h _ _

end Sys2Proof.Machine
end

