-- ==== Sys2Proof/Laws/Words.lean ====
section
/-! SUPPORT. Sys2Proof/Laws/Words.lean: what the operations shared by memory and engine words can do: the checks of every lane,
parks and causes that concern no lane, the operations left behind, and the lane that performs a word made once per entry. -/

namespace Sys2Proof.Machine

/-! ### No lane parks or faults -/

@[simp] theorem faultLanes_nil (s : State) : s.faultLanes [] = s := rfl

theorem leave_zero (s : State) (m : Member) (c : DWord) (i p : Nat) (y : Why) (b : Bool) : s.leave m 0 c i p y b = s := by
  unfold State.leave
  split
  · rfl
  · simp

@[simp] theorem maskOf_nil : maskOf [] = 0 := rfl

@[simp] theorem parkLanes_nil (s : State) (p : Nat) (y : Why) (b : Bool) : s.parkLanes [] p y b = s := by
  unfold State.parkLanes
  dsimp only
  generalize s.bundle.members = ms
  simp only [List.filter_nil, List.map_nil, maskOf_nil, leave_zero]
  induction ms with
  | nil => rfl
  | cons m ms ih => exact ih

/-! ### The checks of every lane -/

theorem filterMap_const_none {α β : Type} (f : α → Option β) (l : List α) (h : ∀ a ∈ l, f a = none) : l.filterMap f = [] :=
  List.filterMap_eq_nil_iff.2 h

/-- When every access passes its checks, the word goes on with all of them, and nothing has changed (R428, R429). -/
theorem gate_grants {s : State} {asks : List Ask} {f : Ask → Target} (g : s.Grants asks f) :
    s.gate asks = { s := s, hold := false, go := asks.map fun a => (a, f a), zero := [], parked := [] } := by
  have e1 : s.tokenOut asks = [] := by
    unfold State.tokenOut
    rw [show (asks.filter fun a => s.governed a && !s.holdsToken a.r) = [] from
      List.filter_eq_nil_iff.2 fun a ha => by simp [g.free a ha]]
    rfl
  have e3 : (asks.map fun a => (a, s.check a.r.team a.va a.n a.al a.need false)) = asks.map fun a => (a, Res.ok (f a)) :=
    List.map_congr_left fun a ha => by rw [g.checks a ha]
  have w : ∀ (f' : Ask × Target → Bool), (∀ a ∈ asks, f' (a, f a) = true) →
      (asks.map fun a => (a, f a)).filter f' = asks.map fun a => (a, f a) := fun f' h =>
    List.filter_eq_self.2 fun p hp => by obtain ⟨a, ha, rfl⟩ := List.mem_map.1 hp; exact h a ha
  have n : ∀ (f' : Ask × Target → Bool), (∀ a ∈ asks, f' (a, f a) = false) → (asks.map fun a => (a, f a)).filter f' = [] :=
    fun f' h => List.filter_eq_nil_iff.2 fun p hp => by obtain ⟨a, ha, rfl⟩ := List.mem_map.1 hp; simp [h a ha]
  have m : ∀ {β : Type} (f' : Ask × Target → Option β), (∀ a ∈ asks, f' (a, f a) = none) →
      (asks.map fun a => (a, f a)).filterMap f' = [] := fun f' h =>
    List.filterMap_eq_nil_iff.2 fun p hp => by obtain ⟨a, ha, rfl⟩ := List.mem_map.1 hp; exact h a ha
  have e4 : (fun a => some (a, f a)) = some ∘ fun a => (a, f a) := rfl
  unfold State.gate State.gateWith
  simp only [e1, List.contains_nil, Bool.not_false, List.filter_true, e3, List.filterMap_map, Function.comp_def, parkLanes_nil]
  have e5 : ((asks.map fun a => (a, f a)).any fun p => s.ownHubStore p.1 p.2 || s.tileClash p.1.r p.2 p.1.n p.1.writes) = false := by
    rw [List.any_eq_false]
    intro p hp
    obtain ⟨a, ha, rfl⟩ := List.mem_map.1 hp
    simp [g.settled a ha, g.apart a ha]
  rw [show asks.filterMap (fun a => some (a, f a)) = asks.map fun a => (a, f a) from by rw [e4, List.filterMap_eq_map],
    m _ fun a ha => by simp [g.present a ha]]
  simp only [List.flatMap_nil, List.contains_nil, Bool.not_false, List.filter_true]
  rw [n _ fun a ha => by simp [g.free a ha]]
  simp [oneEach, e5]

/-! ### What has to come first -/

/-- Without an ACCLD or ACCST to be performed, no access, no stack access and no release waits for one (R45, R254). -/
theorem tile_calm {s : State} (h : ∀ x ∈ s.ops, x.tileJob = none) (r : Ref) (t : Target) (n : Nat) (write : Bool)
    (xs : List (DWord × Nat)) (rs : List Ref) :
    s.tileClash r t n write = false ∧ s.stackClash r xs write = false ∧ s.tileStores rs = false := by
  have clash : ∀ t n, s.tileClash r t n write = false := fun t n => by
    rw [State.tileClash, List.any_eq_false]
    exact fun x hx => by simp [h x hx]
  refine ⟨clash t n, ?_, ?_⟩
  · simp only [State.stackClash, List.any_eq_false]
    intro x _
    simp only [Bool.not_eq_true, List.any_eq_false]
    intro k _
    split <;> simp [clash]
  · rw [State.tileStores, List.any_eq_false]
    exact fun x hx => by simp [h x hx]

/-- Without an ACCST to be performed no release waits for one. -/
theorem tileStores_noStores {s : State} (h : s.NoStores) (rs : List Ref) : s.tileStores rs = false := by
  rw [State.tileStores, List.any_eq_false]
  intro x hx
  cases e : x.tileJob with
  | none => simp
  | some j => simp [(h x hx).2 j e]

/-- Entries that take nothing leave the state as it is. -/
theorem deliverEach_none {s : State} {f : State → Member → List LaneFault} (ms : List Member) (h : ∀ m ∈ ms, f s m = []) :
    s.deliverEach ms f = (s, []) := by
  unfold State.deliverEach
  induction ms with
  | nil => rfl
  | cons m ms ih =>
    rw [List.foldl_cons, h m List.mem_cons_self]
    exact ih fun x hx => h x (List.mem_cons_of_mem m hx)

/-- An entry that may issue no word stays parked (R482). -/
theorem goOn_stays {s : State} {t w : Nat} {e : Entry} (h : s.mayGo t w e = false) : s.goOn t w e = s := by
  unfold State.goOn
  rw [h]
  rfl

/-! ### A word made once per entry -/

variable {s : State} {m : Member} {r : Ref}

theorem active_alone (h : s.Alone m r) : s.active = s.activeOf m := by
  unfold State.active
  rw [h.members]
  exact List.append_nil _

theorem lead_active (h : s.Alone m r) : r ∈ s.activeOf m := List.mem_of_find?_eq_some h.leads

theorem ref_of_activeOf {q : Ref} (h : q ∈ s.activeOf m) : q.team = m.team ∧ q.wave = m.wave ∧ m.mask.getLsbD q.lane = true := by
  unfold State.activeOf memberRefs at h
  obtain ⟨k, hk, rfl⟩ := List.mem_map.1 (List.mem_filter.1 h).1
  exact ⟨rfl, rfl, (List.mem_filter.1 hk).2⟩

theorem performer_alone (h : s.Alone m r) : s.performer m = some r := by
  unfold State.performer State.contribOf
  rw [List.head?_filter]
  exact h.leads

theorem performers_alone (h : s.Alone m r) : s.performers = [r] := by
  unfold State.performers
  rw [h.members]
  simp [performer_alone h, sortKey, insertKey]

theorem eraseDups_const {α : Type} [BEq α] [LawfulBEq α] {l : List α} {a : α} (h : ∀ x ∈ l, x = a) (ne : l ≠ []) : l.eraseDups = [a] := by
  cases l with
  | nil => exact absurd rfl ne
  | cons b l =>
    obtain rfl := h b (List.mem_cons_self ..)
    rw [List.eraseDups_cons, show (l.filter fun x => !x == b) = [] from ?_]
    · rfl
    · exact List.filter_eq_nil_iff.2 fun x hx => by simp [h x (List.mem_cons_of_mem _ hx)]

theorem wavesOf_alone (h : s.Alone m r) : wavesOf s.active = [(m.team, m.wave)] := by
  unfold wavesOf
  rw [active_alone h]
  refine eraseDups_const (fun x hx => ?_) ?_
  · obtain ⟨q, hq, rfl⟩ := List.mem_map.1 hx
    exact Prod.ext (ref_of_activeOf hq).1 (ref_of_activeOf hq).2.1
  · simpa using List.ne_nil_of_mem (lead_active h)

/-- The one operation of an entry (R308). -/
theorem postEach_one (u : State) (c : Ctr) (w : Bool) (regs : List RegRes) (body : OpBody) (h : s.Alone m r) :
    u.postEach (wavesOf s.active) c w [(r, regs, body)] = u.addOp m.team m.wave c w regs [] [] body := by
  have k := ref_of_activeOf (lead_active h)
  rw [wavesOf_alone h]
  simp [State.postEach, State.addOp, sortKey, insertKey, k.1, k.2.1]

/-! ### Operations -/

/-- An operation is issued: it stands behind the others, and its wave's counter is one higher (R134). -/
theorem addOp_ops (u : State) (t w : Nat) (c : Ctr) (b : Bool) (r p e) (body : OpBody) :
    (u.addOp t w c b r p e body).ops = u.ops ++ [⟨u.nextOp, t, w, c, u.bundle.clause, u.bundle.idx,
      (u.wave t w).issued.getD c.index 0 + 1, false, true, b, r, p, e, body⟩] :=
  rfl

theorem retire_frame (u : State) : u.retire.mem = u.mem ∧ u.retire.hub = u.hub ∧ u.retire.dies = u.dies ∧
    u.retire.grids = u.grids ∧ u.retire.bundles = u.bundles ∧ u.retire.issue = u.issue ∧ u.retire.args = u.args := by
  unfold State.retire
  have : ∀ (l : List (Nat × Nat × Ctr)) (v : State), let x := l.foldl (fun s x => s.bump x.1 x.2.1 x.2.2 false) v
      x.mem = v.mem ∧ x.hub = v.hub ∧ x.dies = v.dies ∧ x.grids = v.grids ∧ x.bundles = v.bundles ∧ x.issue = v.issue ∧
        x.args = v.args := by
    intro l
    induction l with
    | nil => exact fun _ => ⟨rfl, rfl, rfl, rfl, rfl, rfl, rfl⟩
    | cons a l ih => exact fun v => ih (v.bump a.1 a.2.1 a.2.2 false)
  exact this _ _

/-- An operation that is complete changes nothing but the counters and the list of operations (R134, R308). -/
theorem opDone_frame (u : State) (id : Nat) : (u.opDone id).mem = u.mem ∧ (u.opDone id).hub = u.hub ∧
    (u.opDone id).dies = u.dies ∧ (u.opDone id).grids = u.grids ∧ (u.opDone id).bundles = u.bundles ∧
    (u.opDone id).issue = u.issue ∧ (u.opDone id).args = u.args := retire_frame _

end Sys2Proof.Machine
end

