-- ==== Sys2Proof/Laws/Calm.lean ====
section
/-! SUPPORT. Sys2Proof/Laws/Calm.lean: whether a word's end has company (a debugger, a single step, a bind) depends on little of
the state, and most operations leave that little alone. -/

namespace Sys2Proof.Machine

/-- What Quiet and Ready look at. -/
def State.calm (s : State) : List (BitVec 32) × List (Option (Nat × Nat) × List (List (Option Bool))) × Bool :=
  (s.dies.map (·.dbgctl), s.teams.map fun t => (t.step, t.waves.map fun w => w.lanes.map (·.pend)), s.issue.isSome)

theorem State.Quiet.of_calm {s t : State} (h : t.calm = s.calm) (q : s.Quiet) : t.Quiet := by
  have hd : t.dies.map (·.dbgctl) = s.dies.map (·.dbgctl) := congrArg (·.1) h
  have ht : (t.teams.map fun t => (t.step, t.waves.map fun w => w.lanes.map (·.pend))) =
      s.teams.map fun t => (t.step, t.waves.map fun w => w.lanes.map (·.pend)) := congrArg (·.2.1) h
  refine ⟨fun d hd' => ?_, fun x hx => ?_, fun x hx w hw l hl => ?_⟩
  · obtain ⟨e, he, k⟩ := List.mem_map.1 (hd ▸ List.mem_map_of_mem (f := Die.dbgctl) hd')
    rw [← k]
    exact q.debug e he
  · have := List.mem_map_of_mem (f := fun t : Team => (t.step, t.waves.map fun w => w.lanes.map (·.pend))) hx
    rw [ht] at this
    obtain ⟨y, hy, k⟩ := List.mem_map.1 this
    have k1 : y.step = x.step := congrArg (·.1) k
    rw [← k1]
    exact q.step y hy
  · have := List.mem_map_of_mem (f := fun t : Team => (t.step, t.waves.map fun w => w.lanes.map (·.pend))) hx
    rw [ht] at this
    obtain ⟨y, hy, k⟩ := List.mem_map.1 this
    have k2 : (y.waves.map fun w => w.lanes.map (·.pend)) = x.waves.map fun w => w.lanes.map (·.pend) := congrArg (·.2) k
    have hw' := List.mem_map_of_mem (f := fun w : Wave => w.lanes.map (·.pend)) hw
    rw [← k2] at hw'
    obtain ⟨v, hv, k3⟩ := List.mem_map.1 hw'
    have hl' := List.mem_map_of_mem (f := Lane.pend) hl
    rw [← k3] at hl'
    obtain ⟨p, hp, k4⟩ := List.mem_map.1 hl'
    rw [← k4]
    exact q.bind y hy v hv p hp

theorem State.Ready.of_calm {s t : State} (h : t.calm = s.calm) (q : s.Ready) : t.Ready :=
  { q.toQuiet.of_calm h with
    issues := by have k : t.issue.isSome = s.issue.isSome := congrArg (·.2.2) h
                 rw [k, q.issues] }

theorem calm_foldl {α : Type} (f : State → α → State) (h : ∀ s a, (f s a).calm = s.calm) (l : List α) (s : State) :
    (l.foldl f s).calm = s.calm := by
  induction l generalizing s with
  | nil => rfl
  | cons a l ih => rw [List.foldl_cons, ih, h]

theorem calm_modTeam (s : State) (k : Nat) (f : Team → Team) (h : ∀ t, (f t).step = t.step ∧
    ((f t).waves.map fun w => w.lanes.map (·.pend)) = t.waves.map fun w => w.lanes.map (·.pend)) :
    (s.modTeam k f).calm = s.calm := by
  unfold State.calm
  refine Prod.ext rfl (Prod.ext ?_ rfl)
  exact map_modify_same _ _ (fun t => Prod.ext (h t).1 (h t).2) _ _

theorem calm_modWave (s : State) (t w : Nat) (f : Wave → Wave) (h : ∀ x, (f x).lanes.map (·.pend) = x.lanes.map (·.pend)) :
    (s.modWave t w f).calm = s.calm :=
  calm_modTeam _ _ _ fun _ => ⟨rfl, map_modify_same _ _ h _ _⟩

theorem calm_modLane (s : State) (r : Ref) (f : Lane → Lane) (h : ∀ x, (f x).pend = x.pend) : (s.modLane r f).calm = s.calm :=
  calm_modWave _ _ _ _ fun _ => map_modify_same _ _ h _ _

theorem calm_modDie (s : State) (k : Nat) (f : Die → Die) (h : ∀ d, (f d).dbgctl = d.dbgctl) : (s.modDie k f).calm = s.calm := by
  unfold State.calm
  exact Prod.ext (map_modify_same _ _ h _ _) rfl

@[simp] theorem calm_modHub (s : State) (f : Hub → Hub) : (s.modHub f).calm = s.calm := rfl
@[simp] theorem calm_modMem (s : State) (f : Memory → Memory) : (s.modMem f).calm = s.calm := rfl
@[simp] theorem calm_modGrid (s : State) (k : Nat) (f : Grid → Grid) : (s.modGrid k f).calm = s.calm := rfl
@[simp] theorem calm_modOp (s : State) (k : Nat) (f : Op → Op) : (s.modOp k f).calm = s.calm := rfl
@[simp] theorem calm_pushSplit (s : State) (d g : Nat) (r : List Word) : (s.pushSplit d g r).calm = s.calm :=
  calm_modDie _ _ _ fun _ => rfl

@[simp] theorem calm_bump (s : State) (t w : Nat) (c : Ctr) (b : Bool) : (s.bump t w c b).calm = s.calm :=
  calm_modWave _ _ _ _ fun _ => rfl

@[simp] theorem calm_pushOp (s : State) (t w : Nat) (c : Ctr) (a b : Bool) (r p e) (body : OpBody) :
    (s.pushOp t w c a b r p e body).calm = s.calm := by
  unfold State.pushOp
  cases a
  · rfl
  · have h := calm_modWave (s.bump t w c true) t w
      (fun x => { x with issued := x.issued.set c.index ((s.wave t w).issued.getD c.index 0 + 1) }) fun _ => rfl
    exact Eq.trans h (calm_bump s t w c true)

@[simp] theorem calm_addOp (s : State) (t w : Nat) (c : Ctr) (b : Bool) (r p e) (body : OpBody) :
    (s.addOp t w c b r p e body).calm = s.calm := calm_pushOp ..

@[simp] theorem calm_retire (s : State) : s.retire.calm = s.calm := by
  unfold State.retire
  exact calm_foldl (fun (s : State) (x : Nat × Nat × Ctr) => s.bump x.1 x.2.1 x.2.2 false) (fun _ _ => calm_bump ..) _ _

@[simp] theorem calm_opDone (s : State) (id : Nat) : (s.opDone id).calm = s.calm := calm_retire _

@[simp] theorem calm_emptyOps (s : State) (ws : List (Nat × Nat)) (c : Ctr) : (s.emptyOps ws c).calm = s.calm :=
  calm_foldl (fun (s : State) (w : Nat × Nat) => (s.addOp w.1 w.2 c false [] [] [] .plain).opDone s.nextOp)
    (fun _ _ => (calm_opDone ..).trans (calm_addOp ..)) ws s

@[simp] theorem calm_postOpsP (s : State) (ws : List (Nat × Nat)) (c : Ctr) (b : Bool) (r p e) (f : Nat × Nat → OpBody) :
    (s.postOpsP ws c b r p e f).calm = s.calm := calm_foldl _ (fun _ _ => calm_addOp ..) ws s

@[simp] theorem calm_postOps (s : State) (ws : List (Nat × Nat)) (c : Ctr) (b : Bool) (r e) (f : Nat × Nat → OpBody) :
    (s.postOps ws c b r e f).calm = s.calm := calm_postOpsP ..

@[simp] theorem calm_setReg (s : State) (r : Ref) (k : Nat) (v : Word) : (s.setReg r k v).calm = s.calm := by
  unfold State.setReg
  split
  · exact calm_modLane _ _ _ fun _ => rfl
  · exact calm_modWave _ _ _ _ fun _ => rfl

/-- Effects of the lanes are among it. -/
theorem calm_of_bare {s t : State} (h : t.bare = s.bare) : t.calm = s.calm := by
  have e : ∀ s : State, s.calm = s.bare.calm := fun s => by
    simp [State.calm, State.bare, Function.comp_def, Wave.bare, Lane.bare]
  rw [e t, h, ← e s]

@[simp] theorem calm_applyAll (s : State) (es : List (Ref × Eff)) : (s.applyAll es).calm = s.calm :=
  calm_of_bare (bare_applyAll ..)

@[simp] theorem calm_latchRead (s : State) (r : Ref) (k : Nat) : (s.latchRead r k).calm = s.calm := calm_of_bare (bare_latchRead ..)

@[simp] theorem calm_latched (s : State) (srcs : List (BitVec 8)) : (s.latched srcs).calm = s.calm := calm_of_bare (bare_latched ..)

end Sys2Proof.Machine
end

