-- ==== Sys2Proof/Laws/Memory.lean ====
section
/-! SUPPORT. Sys2Proof/Laws/Memory.lean: every operation on memory keeps its canonical form; an operation on the caches leaves
the listed bytes and the firmware store as they are. -/

namespace Sys2Proof.Machine

/-! ### Lists of bytes -/

theorem cellsWfFrom_le {c : List Host.Cell} {a b : Nat} (h : b ≤ a) (w : cellsWfFrom a c = true) : cellsWfFrom b c = true := by
  cases c with
  | nil => rfl
  | cons x t =>
    simp only [cellsWfFrom, Bool.and_eq_true, decide_eq_true_eq] at w ⊢
    exact ⟨⟨h.trans w.1.1, w.1.2⟩, w.2⟩

theorem cellsWfFrom_write {c : List Host.Cell} {lo a : Nat} (v : Byte) (h : lo ≤ a) (w : cellsWfFrom lo c = true) :
    cellsWfFrom lo (cellsWrite c a v) = true := by
  induction c generalizing lo with
  | nil =>
    unfold cellsWrite
    split <;> simp_all [cellsWfFrom]
  | cons x t ih =>
    obtain ⟨k, b⟩ := x
    simp only [cellsWfFrom, Bool.and_eq_true, decide_eq_true_eq] at w
    obtain ⟨⟨w1, w2⟩, w3⟩ := w
    unfold cellsWrite
    split
    · split
      · simp [cellsWfFrom, w1, w2, w3]
      · rename_i h1 h2
        simp [cellsWfFrom, h, h2, w2, w3, Nat.succ_le_of_lt h1]
    · split
      · split
        · exact cellsWfFrom_le (by omega) w3
        · rename_i h1 h2 h3
          subst h2
          simp [cellsWfFrom, h, h3, w3]
      · rename_i h1 h2
        simp only [cellsWfFrom, Bool.and_eq_true, decide_eq_true_eq]
        exact ⟨⟨w1, w2⟩, ih (by omega) w3⟩

theorem cellsWf_write {c : List Host.Cell} (w : cellsWf c = true) (a : Nat) (v : Byte) : cellsWf (cellsWrite c a v) = true :=
  cellsWfFrom_write v (Nat.zero_le a) w

theorem cellsWf_writeN {c : List Host.Cell} (w : cellsWf c = true) (a : Nat) (bs : List Byte) :
    cellsWf (cellsWriteN c a bs) = true := by
  induction bs generalizing c a with
  | nil => exact w
  | cons b bs ih => exact ih (cellsWf_write w a b) (a + 1)

theorem memory_reset_wf : Memory.reset.wf = true := rfl

/-! ### Caches -/

/-- The listed bytes and the firmware store are the same. -/
def Memory.sameBytes (m n : Memory) : Prop := m.cells = n.cells ∧ m.fw = n.fw

theorem Memory.sameBytes.rfl' (m : Memory) : m.sameBytes m := ⟨rfl, rfl⟩

theorem Memory.sameBytes.trans' {a b c : Memory} (h : a.sameBytes b) (k : b.sameBytes c) : a.sameBytes c :=
  ⟨h.1.trans k.1, h.2.trans k.2⟩

theorem Memory.sameBytes.wf_eq {m n : Memory} (h : m.sameBytes n) : m.wf = n.wf := by
  simp only [Memory.wf, h.1, h.2]

theorem sameBytes_foldl {α : Type} (f : Memory → α → Memory) (h : ∀ m a, (f m a).sameBytes m) (l : List α) (m : Memory) :
    (l.foldl f m).sameBytes m := by
  induction l generalizing m with
  | nil => exact .rfl' m
  | cons a l ih => exact (ih (f m a)).trans' (h m a)

theorem l2Put_bytes (m : Memory) (x : L2Sector) : (m.l2Put x).sameBytes m := ⟨rfl, rfl⟩

theorem l1Drop_bytes (m : Memory) (die core sec : Nat) : (m.l1Drop die core sec).sameBytes m := ⟨rfl, rfl⟩

theorem evictL1_bytes (m : Memory) (die core line : Nat) : (m.evictL1 die core line).sameBytes m := by
  unfold Memory.evictL1
  have h := sameBytes_foldl
    (fun (m : Memory) (x : L1Sector) =>
      if x.owned then m.l2Put { die, sector := x.sector, owner := none, data := x.data, strm := x.strm } else m)
    (fun m x => by split; exacts [l2Put_bytes .., .rfl' m])
    (m.l1.filter fun x => x.die == die && x.core == core && x.sector / 8 == line) m
  exact ⟨h.1, h.2⟩

theorem l1Room_bytes (m : Memory) (die core line : Nat) : (m.l1Room die core line).1.sameBytes m := by
  unfold Memory.l1Room
  split
  · exact .rfl' m
  · split
    · exact .rfl' m
    · split
      · exact evictL1_bytes ..
      · exact .rfl' m

theorem l1Put_bytes (m : Memory) (die core sec : Nat) (owned : Bool) (d : BitVec 128) (strm : Bool) :
    (m.l1Put die core sec owned d strm).sameBytes m := by
  have h := l1Room_bytes m die core (sec / 8)
  exact ⟨h.1, h.2⟩

theorem giveSlice_bytes (m : Memory) (die core k team : Nat) : (m.giveSlice die core k team).sameBytes m := by
  unfold Memory.giveSlice
  have h := sameBytes_foldl (fun (m : Memory) l => m.evictL1 die core l) (fun m l => evictL1_bytes ..)
    (linesOf ((m.l1.filter fun x => x.die == die && x.core == core && x.slice == k).map (·.sector))) m
  exact ⟨h.1, h.2⟩

theorem giveSlices_bytes (m : Memory) (die core team n : Nat) : (m.giveSlices die core team n).sameBytes m :=
  sameBytes_foldl _ (fun m k => giveSlice_bytes m die core k team) _ m

theorem takeSlices_bytes (m : Memory) (team : Nat) : (m.takeSlices team).sameBytes m := ⟨rfl, rfl⟩

theorem giveUp_bytes (m : Memory) (die core sec : Nat) : (m.giveUp die core sec).sameBytes m := by
  unfold Memory.giveUp
  split
  · dsimp only
    split
    · exact ⟨rfl, rfl⟩
    · exact l1Drop_bytes ..
  · exact .rfl' m

theorem dieRead_bytes (m : Memory) (die sec : Nat) (strm : Bool) : (m.dieRead die sec strm).1.sameBytes m := by
  unfold Memory.dieRead
  split
  · exact .rfl' m
  · split <;> exact ⟨rfl, rfl⟩

theorem coreRead_bytes (m : Memory) (die core sec : Nat) (strm : Bool) : (m.coreRead die core sec strm).1.sameBytes m := by
  unfold Memory.coreRead
  split
  · exact .rfl' m
  · split
    · exact .rfl' m
    · have h := dieRead_bytes m die sec strm
      split
      · rename_i e
        rw [e] at h
        exact h
      · rename_i e
        rw [e] at h
        exact (l1Put_bytes ..).trans' h

theorem bypassRead_bytes (m : Memory) (die core sec : Nat) : (m.bypassRead die core sec).1.sameBytes m := by
  unfold Memory.bypassRead
  split
  · exact .rfl' m
  · exact (dieRead_bytes ..).trans' (giveUp_bytes ..)

theorem hubRead_bytes (m : Memory) (die core sec : Nat) : (m.hubRead die core sec).1.sameBytes m := by
  unfold Memory.hubRead
  split
  · exact .rfl' m
  · split
    · exact .rfl' m
    · dsimp only
      split <;> exact .rfl' m

theorem dieReadFresh_bytes (m : Memory) (die core sec : Nat) : (m.dieReadFresh die core sec).1.sameBytes m := by
  unfold Memory.dieReadFresh
  split
  · exact .rfl' m
  · exact dieRead_bytes { m with l1 := _ } die sec false

theorem moveSector_bytes (m : Memory) (src dst sec : Nat) : (m.moveSector src dst sec).sameBytes m := by
  unfold Memory.moveSector
  split <;> exact ⟨rfl, rfl⟩

theorem takeLine_bytes (m : Memory) (gs : List Guard64) (die line : Nat) : (m.takeLine gs die line).sameBytes m := by
  unfold Memory.takeLine
  split
  · rename_i d _
    split
    · exact .rfl' m
    · have h := sameBytes_foldl
        (fun (m : Memory) k => if d.mask.getLsbD k then m.moveSector d.die die (8 * line + k) else m)
        (fun m k => by split; exacts [moveSector_bytes .., .rfl' m]) (List.range 8)
        { m with l2 := m.l2.filter fun x => !(x.die == die && x.sector / 8 == line) }
      exact ⟨h.1, h.2⟩
  · exact .rfl' m

theorem register_bytes (m : Memory) (gs : List Guard64) (die core sec off : Nat) (b : List Byte) (priv atL2 strm : Bool) :
    (m.register gs die core sec off b priv atL2 strm).1.sameBytes m := by
  unfold Memory.register
  have h := takeLine_bytes m gs die (sec / 8)
  dsimp only
  split
  · exact h
  · have k := (dieRead_bytes (m.takeLine gs die (sec / 8)) die sec strm).trans' h
    split
    · rename_i e
      rw [e] at k
      exact k
    · rename_i n _ e
      rw [e] at k
      have k' : ((n.disown die sec).markDirty sec).sameBytes m := k
      split
      · exact ((l2Put_bytes ..).trans' (l1Drop_bytes ..)).trans' k'
      · exact ((l1Put_bytes ..).trans' (l2Put_bytes ..)).trans' k'

/-- What a write of part of a sector can do to the listed bytes: host memory, which no cache holds, takes them at once. -/
theorem sectorWrite_bytes (m : Memory) (gs : List Guard64) (die core sec off : Nat) (b : List Byte) (priv atL2 strm : Bool) :
    (m.sectorWrite gs die core sec off b priv atL2 strm).1.sameBytes m ∨
      m.sectorWrite gs die core sec off b priv atL2 strm =
        ({ m with cells := cellsWriteN m.cells (16 * sec + off) b }, .done) := by
  unfold Memory.sectorWrite
  split
  · dsimp only
    generalize (!(if priv = true then (guardVerdict gs (16 * sec)).2 else (guardVerdict gs (16 * sec)).1)) = q
    cases q
    · by_cases h : m.poisoned sec = true
      · exact .inl (by simp only [h, if_true, Bool.false_eq_true, if_false]; exact .rfl' m)
      · exact .inr (by simp only [h, Bool.false_eq_true, if_false])
    · exact .inl (.rfl' m)
  · refine .inl ?_
    split
    · split
      · split
        · exact l1Put_bytes ..
        · exact .rfl' m
      · exact register_bytes ..
    · exact register_bytes ..

theorem acquire_bytes (m : Memory) (die core : Nat) (device : Bool) : (m.acquire die core device).sameBytes m := by
  unfold Memory.acquire
  dsimp only
  split <;> exact .rfl' m

theorem wbackL1_bytes (m : Memory) (die core line : Nat) : (m.wbackL1 die core line).sameBytes m := by
  unfold Memory.wbackL1
  have h := sameBytes_foldl
    (fun (m : Memory) (x : L1Sector) => m.l2Put { die, sector := x.sector, owner := none, data := x.data, strm := x.strm })
    (fun m x => l2Put_bytes ..) (m.l1.filter fun x => x.die == die && x.core == core && x.sector / 8 == line && x.owned) m
  exact ⟨h.1, h.2⟩

/-! ### The canonical form -/

theorem sectorWrite_wf {m : Memory} (w : m.wf = true) (gs : List Guard64) (die core sec off : Nat) (b : List Byte)
    (priv atL2 strm : Bool) : (m.sectorWrite gs die core sec off b priv atL2 strm).1.wf = true := by
  rcases sectorWrite_bytes m gs die core sec off b priv atL2 strm with h | h
  · rw [h.wf_eq, w]
  · rw [h]
    simp only [Memory.wf, Bool.and_eq_true] at w ⊢
    exact ⟨cellsWf_writeN w.1 .., w.2⟩

theorem wf_foldl {α β : Type} (f : Memory × β → α → Memory × β) (h : ∀ p a, p.1.wf = true → (f p a).1.wf = true) (l : List α)
    (p : Memory × β) (w : p.1.wf = true) : (l.foldl f p).1.wf = true := by
  induction l generalizing p with
  | nil => exact w
  | cons a l ih => exact ih (f p a) (h p a w)

theorem putRaw_wf {m : Memory} (w : m.wf = true) (sec : Nat) (v : BitVec 128) : (m.putRaw sec v).wf = true := by
  simp only [Memory.putRaw, Memory.wf, Bool.and_eq_true] at w ⊢
  exact ⟨cellsWf_writeN w.1 .., w.2⟩

theorem writeCode_wf {m : Memory} (w : m.wf = true) (code : Nat) (a b : Option (BitVec 128)) :
    (m.writeCode code a b).1.wf = true := by
  have u : (m.cure code).wf = true := w
  unfold Memory.writeCode
  split
  · exact putRaw_wf (putRaw_wf u ..) ..
  · split
    · exact w
    · exact putRaw_wf w ..
  · split
    · exact w
    · exact putRaw_wf w ..
  · exact w

theorem writeLine_wf {m : Memory} (w : m.wf = true) (line : Nat) (wrote : Nat → Option (BitVec 128)) :
    (m.writeLine line wrote).1.wf = true := by
  unfold Memory.writeLine
  generalize List.range 4 = ks
  refine wf_foldl _ (fun p j h => ?_) ks (m, []) w
  exact writeCode_wf h ..

theorem dropLine_bytes (m : Memory) (die line : Nat) : (m.dropLine die line).sameBytes m := by
  have h := sameBytes_foldl (fun (acc : Memory) k => acc.disown die (8 * line + k)) (fun m k => ⟨rfl, rfl⟩) (List.range 8) m
  exact ⟨h.1, h.2⟩

theorem evictL2_wf {m : Memory} (w : m.wf = true) (die line : Nat) : (m.evictL2 die line).1.wf = true :=
  (dropLine_bytes ..).wf_eq.trans (writeLine_wf w ..)

theorem flushL2_wf {m : Memory} (w : m.wf = true) (die line : Nat) : (m.flushL2 die line).1.wf = true := by
  unfold Memory.flushL2
  have d := sameBytes_foldl Memory.l2Put (fun m x => l2Put_bytes m x)
    ((m.l2.filter fun x => x.die == die && x.sector / 8 == line).map fun x =>
      { x with owner := none, data := (m.dieData die x.sector).getD x.data }) (m.evictL2 die line).1
  exact d.wf_eq.trans (evictL2_wf w die line)

theorem coreRead_wf {m : Memory} (w : m.wf = true) (die core sec : Nat) (strm : Bool) :
    (m.coreRead die core sec strm).1.wf = true := by rw [(coreRead_bytes ..).wf_eq, w]

theorem bypassRead_wf {m : Memory} (w : m.wf = true) (die core sec : Nat) : (m.bypassRead die core sec).1.wf = true := by
  rw [(bypassRead_bytes ..).wf_eq, w]

theorem giveSlices_wf {m : Memory} (w : m.wf = true) (die core team n : Nat) : (m.giveSlices die core team n).wf = true := by
  rw [(giveSlices_bytes ..).wf_eq, w]

theorem hubRead_wf {m : Memory} (w : m.wf = true) (die core sec : Nat) : (m.hubRead die core sec).1.wf = true := by
  rw [(hubRead_bytes ..).wf_eq, w]

theorem dieReadFresh_wf {m : Memory} (w : m.wf = true) (die core sec : Nat) : (m.dieReadFresh die core sec).1.wf = true := by
  rw [(dieReadFresh_bytes ..).wf_eq, w]

theorem acquire_wf {m : Memory} (w : m.wf = true) (die core : Nat) (device : Bool) : (m.acquire die core device).wf = true := by
  rw [(acquire_bytes ..).wf_eq, w]

theorem evictL1_wf {m : Memory} (w : m.wf = true) (die core line : Nat) : (m.evictL1 die core line).wf = true := by
  rw [(evictL1_bytes ..).wf_eq, w]

theorem wbackL1_wf {m : Memory} (w : m.wf = true) (die core line : Nat) : (m.wbackL1 die core line).wf = true := by
  rw [(wbackL1_bytes ..).wf_eq, w]

theorem poke_wf {m : Memory} (w : m.wf = true) (pa : Nat) (b : List Byte) : (m.poke pa b).wf = true := by
  simp only [Memory.poke, Memory.wf, Bool.and_eq_true] at w ⊢
  exact ⟨cellsWf_writeN w.1 .., w.2⟩

end Sys2Proof.Machine
end

