-- ==== Sys2Proof/Laws/Stack.lean ====
section
/-! SUPPORT. Sys2Proof/Laws/Stack.lean: doublewords that take free values (R49) change memory, the firmware store, the
scratchpads and the counter of free values, and nothing else; a call's entry on chip comes back by the return. -/

namespace Sys2Proof.Machine

/-- Everything of a state but memory, the scratchpads and the counter of free values. -/
def State.butBytes (s : State) : State :=
  { s with mem := Memory.reset, free := 0, teams := s.teams.map fun t => { t with spad := [] } }

theorem map_modify_id {α β : Type} (g : α → β) (f : α → α) (h : ∀ a, g (f a) = g a) (l : List α) (i : Nat) :
    (l.modify i f).map g = l.map g := by
  induction l generalizing i with
  | nil => cases i <;> rfl
  | cons a l ih => cases i <;> simp [h, ih]

theorem butBytes_poke (s : State) (t : Target) (v : DWord) : (s.poke t v).butBytes = s.butBytes := by
  cases t with
  | spad tid off =>
    have := map_modify_id (fun t : Team => { t with spad := [] })
      (fun x => { x with spad := cellsWriteN x.spad off (leBytes 8 v.toNat) }) (fun _ => rfl) s.teams tid
    simp only [State.poke, State.butBytes, State.modTeam, this]
  | _ => rfl

theorem butBytes_undefine (s : State) (tid : Nat) (a : DWord) (n : Nat) : (s.undefine tid a n).butBytes = s.butBytes := by
  induction n generalizing s a with
  | zero => rfl
  | succ n ih =>
    unfold State.undefine
    split
    · rw [ih, butBytes_poke]
      rfl
    · exact ih ..

/-- States alike but for bytes have the same teams but for the scratchpads. -/
theorem team_of_butBytes {s t : State} (h : s.butBytes = t.butBytes) (k : Nat) :
    ({ s.team k with spad := [] } : Team) = { t.team k with spad := [] } := by
  have ht : s.teams.map (fun t : Team => { t with spad := [] }) = t.teams.map fun t : Team => { t with spad := [] } :=
    congrArg State.teams h
  have := congrArg (fun l : List Team => (l.getD k { Team.blank with spad := [] })) ht
  simp only [List.getD_eq_getElem?_getD, List.getElem?_map] at this
  unfold State.team
  simp only [List.getD_eq_getElem?_getD]
  cases hs : s.teams[k]? <;> cases hk : t.teams[k]? <;> simp_all

theorem lane_of_butBytes {s t : State} (h : s.butBytes = t.butBytes) (r : Ref) : s.lane r = t.lane r := by
  have hw := congrArg Team.waves (team_of_butBytes h r.team)
  unfold State.lane State.wave
  rw [show (s.team r.team).waves = (t.team r.team).waves from hw]

theorem stackTop_of_butBytes {s t : State} (h : s.butBytes = t.butBytes) (r : Ref) : s.stackTop r = t.stackTop r := by
  have hg : s.grids = t.grids := by
    have := congrArg State.grids h
    exact this
  have h1 := congrArg Team.grid (team_of_butBytes h r.team)
  have h2 := congrArg Team.t (team_of_butBytes h r.team)
  unfold State.stackTop State.stackBase State.gridOf
  rw [hg, show (s.team r.team).grid = (t.team r.team).grid from h1, show (s.team r.team).t = (t.team r.team).t from h2]

/-- A lane after slots were pushed on it: its stack has them on top, and nothing else of it changes (R48, R49). -/
theorem pushSlots_one (s : State) (r : Ref) (entry : Slot) (w : WordRec) (hl : (s.lane r).chip.length < 4) :
    s.pushSlots r [entry] w =
      (let u := s.modLane r fun l => { l with sp := (s.lane r).sp - 16, chip := (entry :: l.chip).take 4 }
       if entry.frame then u else u.undefine r.team ((s.lane r).sp - 16) 2) := by
  have hs : spills (s.lane r).sp (s.lane r).chip [entry].length = [] := by
    have : (s.lane r).chip.drop 3 = [] := List.drop_eq_nil_of_le (by omega)
    simp [spills, this]
  unfold State.pushSlots
  simp only [hs, List.foldl_nil, List.any_cons, List.any_nil, Bool.or_false]
  rfl

end Sys2Proof.Machine
end

