-- ==== Sys2Proof/Laws/Turns.lean ====
section
/-! SUPPORT. Sys2Proof/Laws/Turns.lean: what follows a next state, and what the watermarks sent after a turn can change. -/

namespace Sys2Proof.Machine

/-! ### What follows a next state -/

@[simp] theorem andThen_next (s : State) (f : State → State) : andThen (.next s) f = .next (f s) := rfl

@[simp] theorem andThen_fault (e : Fault) (f : State → State) : andThen (.fault e) f = .fault e := rfl

@[simp] theorem andThen_refused (e : Refusal) (f : State → State) : andThen (.refused e) f = .refused e := rfl

theorem andThen_id (o : Out) : andThen o (fun s => s) = o := by cases o <;> rfl

theorem andThen_andThen (o : Out) (f g : State → State) : andThen (andThen o f) g = andThen o fun s => g (f s) := by
  cases o <;> rfl

/-- A next state comes from a next state. -/
theorem andThen_eq_next {o : Out} {f : State → State} {t : State} : andThen o f = .next t ↔ ∃ u, o = .next u ∧ f u = t := by
  cases o <;> simp [andThen]

/-! ### What is sent after a turn -/

/-- Only dies and the hub differ. -/
def OnlyLinks (s t : State) : Prop := ∃ ds h, t = { s with dies := ds, hub := h }

theorem OnlyLinks.refl (s : State) : OnlyLinks s s := ⟨_, _, rfl⟩

theorem OnlyLinks.trans {s t u : State} (h : OnlyLinks s t) (k : OnlyLinks t u) : OnlyLinks s u := by
  obtain ⟨_, _, rfl⟩ := h
  obtain ⟨_, _, rfl⟩ := k
  exact ⟨_, _, rfl⟩

theorem OnlyLinks.foldl {α : Type} {f : State → α → State} (h : ∀ s a, OnlyLinks s (f s a)) (l : List α) (s : State) :
    OnlyLinks s (l.foldl f s) := by
  induction l generalizing s with
  | nil => exact .refl s
  | cons a l ih => exact (h s a).trans (ih _)

theorem onlyLinks_modDie (s : State) (d : Nat) (f : Die → Die) : OnlyLinks s (s.modDie d f) := ⟨_, _, rfl⟩

theorem onlyLinks_modHub (s : State) (f : Hub → Hub) : OnlyLinks s (s.modHub f) := ⟨_, _, rfl⟩

theorem onlyLinks_hubMarks (s : State) : OnlyLinks s s.hubMarks := by
  refine .foldl (fun s d => ?_) _ _
  dsimp only
  split
  · exact .refl _
  · exact (onlyLinks_modHub _ _).trans (.foldl (fun s a => onlyLinks_modDie _ _ _) _ _)

theorem onlyLinks_sendMark (s : State) (d : Nat) : OnlyLinks s (s.sendMark d) := by
  unfold State.sendMark
  dsimp only
  split
  · exact .refl _
  · exact (onlyLinks_modDie _ _ _).trans (onlyLinks_modHub _ _)

/-- What follows every turn changes the links of the dies and the hub's values and charges, and nothing else. -/
theorem onlyLinks_sendMarks (s : State) : OnlyLinks s s.sendMarks :=
  (OnlyLinks.foldl onlyLinks_sendMark _ _).trans (onlyLinks_hubMarks _)

@[simp] theorem sendMarks_mem (s : State) : s.sendMarks.mem = s.mem := by
  obtain ⟨_, _, h⟩ := onlyLinks_sendMarks s; rw [h]

@[simp] theorem sendMarks_teams (s : State) : s.sendMarks.teams = s.teams := by
  obtain ⟨_, _, h⟩ := onlyLinks_sendMarks s; rw [h]

@[simp] theorem sendMarks_ops (s : State) : s.sendMarks.ops = s.ops := by
  obtain ⟨_, _, h⟩ := onlyLinks_sendMarks s; rw [h]

@[simp] theorem sendMarks_grids (s : State) : s.sendMarks.grids = s.grids := by
  obtain ⟨_, _, h⟩ := onlyLinks_sendMarks s; rw [h]

@[simp] theorem sendMarks_bundles (s : State) : s.sendMarks.bundles = s.bundles := by
  obtain ⟨_, _, h⟩ := onlyLinks_sendMarks s; rw [h]

/-- A turn's next state is that of its word or event, after which the marks are sent. -/
theorem runTurn_event (s : State) (ex : Instr → State → Out) (i : Instr) (a : EvArgs) :
    s.runTurn ex (.ev i a) = andThen (ex i { s with bundles := s.bundles.map Bundle.retry, issue := none, args := a }) State.sendMarks :=
  rfl

end Sys2Proof.Machine
end

