-- ==== Sys2Proof/Tests/Slice0.lean ====
section
/-! SUPPORT. The author's own tests: for every opcode group of R118 to R489 at least one word written out from the spec's
encoding and the instruction it decodes to; one ill-formed instruction for each kind of check, which the check refuses;
and the spec's worked examples, each one word on a small state. The expected results are the spec's, not the model's. -/

set_option Elab.async false

namespace Sys2Proof.Tests
open Sys2Proof.Machine

/-! ### One word of each opcode -/
theorem test_decode_int :
    decodeWord 0x6000_0080_400C_0001 = .ok (.iadd { rd := 4, ra := 2, ea := 0, rb := 6, eb := 0, rc := 0, ec := 0, x := true }) ∧
    decodeWord 0x6004_0080_41FF_FFFF = .ok (.iaddImm { rd := 4, ra := 2, ea := 0, imm := 0xFFFFFF, x := true }) ∧
    decodeWord 0x6000_2080_400C_0000 = .ok (.isub { rd := 4, ra := 2, ea := 0, rb := 6, eb := 0, rc := 0, ec := 0, x := false }) ∧
    decodeWord 0x6004_2080_4000_0024 = .ok (.isubImm { rd := 4, ra := 2, ea := 0, imm := 0x12, x := false }) ∧
    decodeWord 0x6000_4080_400C_0000 = .ok (.imul { rd := 4, ra := 2, ea := 0, rb := 6, eb := 0, rc := 0, ec := 0, x := false }) ∧
    decodeWord 0x6004_4080_4000_0024 = .ok (.imulImm { rd := 4, ra := 2, ea := 0, imm := 0x12, x := false }) ∧
    decodeWord 0x6000_6080_400C_0001 = .ok (.imulh { rd := 4, ra := 2, ea := 0, rb := 6, eb := 0, rc := 0, ec := 0, x := true }) ∧
    decodeWord 0x6004_6080_4000_0024 = .ok (.imulhImm { rd := 4, ra := 2, ea := 0, imm := 0x12, x := false }) ∧
    decodeWord 0x6000_8080_400C_0100 = .ok (.imad { rd := 4, ra := 2, ea := 0, rb := 6, eb := 0, rc := 8, ec := 0, x := false }) ∧
    decodeWord 0x6000_A080_400C_0001 = .ok (.idiv { rd := 4, ra := 2, ea := 0, rb := 6, eb := 0, rc := 0, ec := 0, x := true }) ∧
    decodeWord 0x6004_A080_4000_0024 = .ok (.idivImm { rd := 4, ra := 2, ea := 0, imm := 0x12, x := false }) ∧
    decodeWord 0x6000_C080_400C_0000 = .ok (.irem { rd := 4, ra := 2, ea := 0, rb := 6, eb := 0, rc := 0, ec := 0, x := false }) ∧
    decodeWord 0x6004_C080_4000_0024 = .ok (.iremImm { rd := 4, ra := 2, ea := 0, imm := 0x12, x := false }) ∧
    decodeWord 0x6000_E080_400C_0000 = .ok (.imin { rd := 4, ra := 2, ea := 0, rb := 6, eb := 0, rc := 0, ec := 0, x := false }) ∧
    decodeWord 0x6004_E080_4000_0024 = .ok (.iminImm { rd := 4, ra := 2, ea := 0, imm := 0x12, x := false }) ∧
    decodeWord 0x6001_0080_400C_0000 = .ok (.imax { rd := 4, ra := 2, ea := 0, rb := 6, eb := 0, rc := 0, ec := 0, x := false }) ∧
    decodeWord 0x6005_0080_4000_0024 = .ok (.imaxImm { rd := 4, ra := 2, ea := 0, imm := 0x12, x := false }) ∧
    decodeWord 0x6001_2080_4000_0000 = .ok (.iabs { rd := 4, ra := 2, ea := 0, rb := 0, eb := 0, rc := 0, ec := 0, x := false }) ∧
    decodeWord 0x6001_4080_4000_0000 = .ok (.ineg { rd := 4, ra := 2, ea := 0, rb := 0, eb := 0, rc := 0, ec := 0, x := false }) ∧
    decodeWord 0x6001_6080_400C_0000 = .ok (.and { rd := 4, ra := 2, ea := 0, rb := 6, eb := 0, rc := 0, ec := 0, x := false }) ∧
    decodeWord 0x6005_6080_4000_0024 = .ok (.andImm { rd := 4, ra := 2, ea := 0, imm := 0x12, x := false }) ∧
    decodeWord 0x6001_8080_400C_0000 = .ok (.or { rd := 4, ra := 2, ea := 0, rb := 6, eb := 0, rc := 0, ec := 0, x := false }) ∧
    decodeWord 0x6005_8080_4000_0024 = .ok (.orImm { rd := 4, ra := 2, ea := 0, imm := 0x12, x := false }) ∧
    decodeWord 0x6001_A080_41CE_0000 = .ok (.xor { rd := 4, ra := 2, ea := 0, rb := 231, eb := 0, rc := 0, ec := 0, x := false }) ∧
    decodeWord 0x6005_A080_4000_0024 = .ok (.xorImm { rd := 4, ra := 2, ea := 0, imm := 0x12, x := false }) ∧
    decodeWord 0x6001_C080_4000_0000 = .ok (.not { rd := 4, ra := 2, ea := 0, rb := 0, eb := 0, rc := 0, ec := 0, x := false }) ∧
    decodeWord 0x6001_E098_0000_0000 = .ok (.mov { rd := 4, ra := 192, ea := 0, rb := 0, eb := 0, rc := 0, ec := 0, x := false }) ∧
    decodeWord 0x6005_E080_0100_0000 = .ok (.movImm { rd := 4, ra := 0, ea := 0, imm := 0x800000, x := false }) ∧
    decodeWord 0x6002_0080_400C_0000 = .ok (.iadd64 { rd := 4, ra := 2, ea := 0, rb := 6, eb := 0, rc := 0, ec := 0, x := false }) ∧
    decodeWord 0x6006_0080_4000_0024 = .ok (.iadd64Imm { rd := 4, ra := 2, ea := 0, imm := 0x12, x := false }) ∧
    decodeWord 0x6002_2080_400C_0000 = .ok (.isub64 { rd := 4, ra := 2, ea := 0, rb := 6, eb := 0, rc := 0, ec := 0, x := false }) ∧
    decodeWord 0x6006_2080_4000_0024 = .ok (.isub64Imm { rd := 4, ra := 2, ea := 0, imm := 0x12, x := false }) ∧
    decodeWord 0x6002_4080_400C_0000 = .ok (.imul64 { rd := 4, ra := 2, ea := 0, rb := 6, eb := 0, rc := 0, ec := 0, x := false }) ∧
    decodeWord 0x6006_4080_4000_0024 = .ok (.imul64Imm { rd := 4, ra := 2, ea := 0, imm := 0x12, x := false }) ∧
    decodeWord 0x6002_6080_400C_0100 = .ok (.imad64 { rd := 4, ra := 2, ea := 0, rb := 6, eb := 0, rc := 8, ec := 0, x := false }) ∧
    decodeWord 0x6007_E080_DEAD_BEEF = .ok (.movk { rd := 4, sub := 0, imm := 0xDEADBEEF }) ∧
    decodeWord 0x6007_E081_8000_0000 = .ok (.movk64 { rd := 4, sub := 1, imm := 0x80000000 }) := by
  refine ⟨?_, ?_, ?_, ?_, ?_, ?_, ?_, ?_, ?_, ?_, ?_, ?_, ?_, ?_, ?_, ?_, ?_, ?_, ?_, ?_, ?_, ?_, ?_, ?_, ?_, ?_, ?_, ?_, ?_, ?_, ?_, ?_, ?_, ?_, ?_, ?_, ?_⟩ <;> rfl

theorem test_decode_bit :
    decodeWord 0x6008_0080_400C_0000 = .ok (.shl { rd := 4, ra := 2, ea := 0, rb := 6, eb := 0, rc := 0, ec := 0, x := false }) ∧
    decodeWord 0x600C_0080_4000_0024 = .ok (.shlImm { rd := 4, ra := 2, ea := 0, imm := 0x12, x := false }) ∧
    decodeWord 0x6008_2080_400C_0001 = .ok (.shr { rd := 4, ra := 2, ea := 0, rb := 6, eb := 0, rc := 0, ec := 0, x := true }) ∧
    decodeWord 0x600C_2080_4000_0024 = .ok (.shrImm { rd := 4, ra := 2, ea := 0, imm := 0x12, x := false }) ∧
    decodeWord 0x6008_4080_400C_0000 = .ok (.rol { rd := 4, ra := 2, ea := 0, rb := 6, eb := 0, rc := 0, ec := 0, x := false }) ∧
    decodeWord 0x600C_4080_4000_0024 = .ok (.rolImm { rd := 4, ra := 2, ea := 0, imm := 0x12, x := false }) ∧
    decodeWord 0x6008_6080_400C_0000 = .ok (.bfe { rd := 4, ra := 2, ea := 0, rb := 6, eb := 0, rc := 0, ec := 0, x := false }) ∧
    decodeWord 0x600C_6080_4000_1008 = .ok (.bfeImm { rd := 4, ra := 2, ea := 0, imm := 0x804, x := false }) ∧
    decodeWord 0x6008_8080_400C_0100 = .ok (.bfi { rd := 4, ra := 2, ea := 0, rb := 6, eb := 0, rc := 8, ec := 0, x := false }) ∧
    decodeWord 0x6008_A080_4000_0000 = .ok (.popc { rd := 4, ra := 2, ea := 0, rb := 0, eb := 0, rc := 0, ec := 0, x := false }) ∧
    decodeWord 0x6008_C080_4000_0001 = .ok (.clz { rd := 4, ra := 2, ea := 0, rb := 0, eb := 0, rc := 0, ec := 0, x := true }) ∧
    decodeWord 0x6008_E080_4000_0000 = .ok (.brev { rd := 4, ra := 2, ea := 0, rb := 0, eb := 0, rc := 0, ec := 0, x := false }) ∧
    decodeWord 0x6009_0080_400C_0100 = .ok (.shf { rd := 4, ra := 2, ea := 0, rb := 6, eb := 0, rc := 8, ec := 0, x := false }) ∧
    decodeWord 0x6009_2080_400C_8061 = .ok (.padd8 { rd := 4, ra := 2, ea := 0, rb := 6, eb := 4, rc := 3, ec := 0, x := true }) ∧
    decodeWord 0x600D_2080_4000_01FE = .ok (.padd8Imm { rd := 4, ra := 2, ea := 0, imm := 0xFF, x := false }) ∧
    decodeWord 0x6009_4080_420C_0000 = .ok (.padd16 { rd := 4, ra := 2, ea := 1, rb := 6, eb := 0, rc := 0, ec := 0, x := false }) ∧
    decodeWord 0x600D_4080_4001_FFFE = .ok (.padd16Imm { rd := 4, ra := 2, ea := 0, imm := 0xFFFF, x := false }) ∧
    decodeWord 0x6009_6080_400C_0100 = .ok (.pdot4 { rd := 4, ra := 2, ea := 0, rb := 6, eb := 0, rc := 8, ec := 0, x := false }) ∧
    decodeWord 0x6009_8080_400C_0101 = .ok (.pdot8 { rd := 4, ra := 2, ea := 0, rb := 6, eb := 0, rc := 8, ec := 0, x := true }) ∧
    decodeWord 0x6009_A080_4000_0000 = .ok (.bpx { rd := 4, ra := 2, ea := 0, rb := 0, eb := 0, rc := 0, ec := 0, x := false }) ∧
    decodeWord 0x6009_C080_4000_0000 = .ok (.bpi { rd := 4, ra := 2, ea := 0, rb := 0, eb := 0, rc := 0, ec := 0, x := false }) ∧
    decodeWord 0x6009_E080_400C_0000 = .ok (.bmsk { rd := 4, ra := 2, ea := 0, rb := 6, eb := 0, rc := 0, ec := 0, x := false }) ∧
    decodeWord 0x600D_E080_4000_0024 = .ok (.bmskImm { rd := 4, ra := 2, ea := 0, imm := 0x12, x := false }) := by
  refine ⟨?_, ?_, ?_, ?_, ?_, ?_, ?_, ?_, ?_, ?_, ?_, ?_, ?_, ?_, ?_, ?_, ?_, ?_, ?_, ?_, ?_, ?_, ?_⟩ <;> rfl

theorem test_decode_f32 :
    decodeWord 0x6010_0080_400C_0060 = .ok (.fadd { rd := 4, ra := 2, ea := 0, rb := 6, eb := 0, rc := 3, ec := 0, x := false }) ∧
    decodeWord 0x6014_0080_407F_0000 = .ok (.faddImm { rd := 4, ra := 2, ea := 0, imm := 0x3F8000, x := false }) ∧
    decodeWord 0x6010_2080_400C_0041 = .ok (.fsub { rd := 4, ra := 2, ea := 0, rb := 6, eb := 0, rc := 2, ec := 0, x := true }) ∧
    decodeWord 0x6014_2080_4000_0024 = .ok (.fsubImm { rd := 4, ra := 2, ea := 0, imm := 0x12, x := false }) ∧
    decodeWord 0x6010_4080_400C_0020 = .ok (.fmul { rd := 4, ra := 2, ea := 0, rb := 6, eb := 0, rc := 1, ec := 0, x := false }) ∧
    decodeWord 0x6014_4060_607F_8000 = .ok (.fmulImm { rd := 3, ra := 3, ea := 0, imm := 0x3FC000, x := false }) ∧
    decodeWord 0x6010_6080_400C_0100 = .ok (.ffma { rd := 4, ra := 2, ea := 0, rb := 6, eb := 0, rc := 8, ec := 0, x := false }) ∧
    decodeWord 0x6010_8080_400C_0101 = .ok (.ffms { rd := 4, ra := 2, ea := 0, rb := 6, eb := 0, rc := 8, ec := 0, x := true }) ∧
    decodeWord 0x6010_A080_400C_0000 = .ok (.fmin { rd := 4, ra := 2, ea := 0, rb := 6, eb := 0, rc := 0, ec := 0, x := false }) ∧
    decodeWord 0x6014_A080_4000_0024 = .ok (.fminImm { rd := 4, ra := 2, ea := 0, imm := 0x12, x := false }) ∧
    decodeWord 0x6010_C080_400C_0000 = .ok (.fmax { rd := 4, ra := 2, ea := 0, rb := 6, eb := 0, rc := 0, ec := 0, x := false }) ∧
    decodeWord 0x6014_C080_4000_0024 = .ok (.fmaxImm { rd := 4, ra := 2, ea := 0, imm := 0x12, x := false }) ∧
    decodeWord 0x6010_E080_5000_0000 = .ok (.fabs { rd := 4, ra := 2, ea := 8, rb := 0, eb := 0, rc := 0, ec := 0, x := false }) ∧
    decodeWord 0x6011_0080_4000_0000 = .ok (.fneg { rd := 4, ra := 2, ea := 0, rb := 0, eb := 0, rc := 0, ec := 0, x := false }) ∧
    decodeWord 0x6011_2080_400C_0000 = .ok (.fcpys { rd := 4, ra := 2, ea := 0, rb := 6, eb := 0, rc := 0, ec := 0, x := false }) ∧
    decodeWord 0x6015_2080_4000_0024 = .ok (.fcpysImm { rd := 4, ra := 2, ea := 0, imm := 0x12, x := false }) ∧
    decodeWord 0x6011_4080_400C_0080 = .ok (.fdiv { rd := 4, ra := 2, ea := 0, rb := 6, eb := 0, rc := 4, ec := 0, x := false }) ∧
    decodeWord 0x6015_4080_4000_0024 = .ok (.fdivImm { rd := 4, ra := 2, ea := 0, imm := 0x12, x := false }) ∧
    decodeWord 0x6011_6080_4000_0080 = .ok (.fsqrt { rd := 4, ra := 2, ea := 0, rb := 0, eb := 0, rc := 4, ec := 0, x := false }) ∧
    decodeWord 0x6011_8080_4000_0020 = .ok (.frnd { rd := 4, ra := 2, ea := 0, rb := 0, eb := 0, rc := 1, ec := 0, x := false }) ∧
    decodeWord 0x6011_A080_4000_0000 = .ok (.ffrac { rd := 4, ra := 2, ea := 0, rb := 0, eb := 0, rc := 0, ec := 0, x := false }) ∧
    decodeWord 0x6011_C080_400C_0000 = .ok (.fscale { rd := 4, ra := 2, ea := 0, rb := 6, eb := 0, rc := 0, ec := 0, x := false }) ∧
    decodeWord 0x6015_C080_4000_0024 = .ok (.fscaleImm { rd := 4, ra := 2, ea := 0, imm := 0x12, x := false }) ∧
    decodeWord 0x6011_E080_400C_0100 = .ok (.fclamp { rd := 4, ra := 2, ea := 0, rb := 6, eb := 0, rc := 8, ec := 0, x := false }) ∧
    decodeWord 0x6012_0080_4000_0000 = .ok (.fsat { rd := 4, ra := 2, ea := 0, rb := 0, eb := 0, rc := 0, ec := 0, x := false }) := by
  refine ⟨?_, ?_, ?_, ?_, ?_, ?_, ?_, ?_, ?_, ?_, ?_, ?_, ?_, ?_, ?_, ?_, ?_, ?_, ?_, ?_, ?_, ?_, ?_, ?_, ?_⟩ <;> rfl

theorem test_decode_f16 :
    decodeWord 0x6018_00A0_A00C_0081 = .ok (.hadd { rd := 5, ra := 5, ea := 0, rb := 6, eb := 0, rc := 4, ec := 0, x := true }) ∧
    decodeWord 0x601C_0080_4000_7800 = .ok (.haddImm { rd := 4, ra := 2, ea := 0, imm := 0x3C00, x := false }) ∧
    decodeWord 0x6018_2080_400C_0000 = .ok (.hsub { rd := 4, ra := 2, ea := 0, rb := 6, eb := 0, rc := 0, ec := 0, x := false }) ∧
    decodeWord 0x601C_2080_4000_0024 = .ok (.hsubImm { rd := 4, ra := 2, ea := 0, imm := 0x12, x := false }) ∧
    decodeWord 0x6018_4080_400C_4000 = .ok (.hmul { rd := 4, ra := 2, ea := 0, rb := 6, eb := 2, rc := 0, ec := 0, x := false }) ∧
    decodeWord 0x601C_4080_4000_0024 = .ok (.hmulImm { rd := 4, ra := 2, ea := 0, imm := 0x12, x := false }) ∧
    decodeWord 0x6018_6080_400C_0101 = .ok (.hfma { rd := 4, ra := 2, ea := 0, rb := 6, eb := 0, rc := 8, ec := 0, x := true }) ∧
    decodeWord 0x6018_8080_400C_0100 = .ok (.hfms { rd := 4, ra := 2, ea := 0, rb := 6, eb := 0, rc := 8, ec := 0, x := false }) ∧
    decodeWord 0x6018_A080_400C_0000 = .ok (.hmin { rd := 4, ra := 2, ea := 0, rb := 6, eb := 0, rc := 0, ec := 0, x := false }) ∧
    decodeWord 0x601C_A080_4000_0024 = .ok (.hminImm { rd := 4, ra := 2, ea := 0, imm := 0x12, x := false }) ∧
    decodeWord 0x6018_C080_400C_0000 = .ok (.hmax { rd := 4, ra := 2, ea := 0, rb := 6, eb := 0, rc := 0, ec := 0, x := false }) ∧
    decodeWord 0x601C_C080_4000_0024 = .ok (.hmaxImm { rd := 4, ra := 2, ea := 0, imm := 0x12, x := false }) ∧
    decodeWord 0x6018_E080_4000_0000 = .ok (.habs { rd := 4, ra := 2, ea := 0, rb := 0, eb := 0, rc := 0, ec := 0, x := false }) ∧
    decodeWord 0x6019_0080_4000_0000 = .ok (.hneg { rd := 4, ra := 2, ea := 0, rb := 0, eb := 0, rc := 0, ec := 0, x := false }) ∧
    decodeWord 0x6019_2080_400C_0000 = .ok (.hcpys { rd := 4, ra := 2, ea := 0, rb := 6, eb := 0, rc := 0, ec := 0, x := false }) ∧
    decodeWord 0x601D_2080_4000_0024 = .ok (.hcpysImm { rd := 4, ra := 2, ea := 0, imm := 0x12, x := false }) ∧
    decodeWord 0x6019_4080_400C_0100 = .ok (.hdot2 { rd := 4, ra := 2, ea := 0, rb := 6, eb := 0, rc := 8, ec := 0, x := false }) ∧
    decodeWord 0x6019_6080_4000_0040 = .ok (.hrnd { rd := 4, ra := 2, ea := 0, rb := 0, eb := 0, rc := 2, ec := 0, x := false }) ∧
    decodeWord 0x6019_8080_400C_0000 = .ok (.hscale { rd := 4, ra := 2, ea := 0, rb := 6, eb := 0, rc := 0, ec := 0, x := false }) ∧
    decodeWord 0x601D_8080_4000_0024 = .ok (.hscaleImm { rd := 4, ra := 2, ea := 0, imm := 0x12, x := false }) ∧
    decodeWord 0x6019_A080_400C_0100 = .ok (.hclamp { rd := 4, ra := 2, ea := 0, rb := 6, eb := 0, rc := 8, ec := 0, x := false }) := by
  refine ⟨?_, ?_, ?_, ?_, ?_, ?_, ?_, ?_, ?_, ?_, ?_, ?_, ?_, ?_, ?_, ?_, ?_, ?_, ?_, ?_, ?_⟩ <;> rfl

theorem test_decode_cvt :
    decodeWord 0x6020_0080_400C_0101 = .ok (.f2f { rd := 4, ra := 2, ea := 0, rb := 6, eb := 0, rc := 8, ec := 0, x := true }) ∧
    decodeWord 0x6020_2080_4000_0120 = .ok (.f2i { rd := 4, ra := 2, ea := 0, rb := 0, eb := 0, rc := 9, ec := 0, x := false }) ∧
    decodeWord 0x6020_4080_4000_0101 = .ok (.i2f { rd := 4, ra := 2, ea := 0, rb := 0, eb := 0, rc := 8, ec := 0, x := true }) ∧
    decodeWord 0x6020_6080_400C_0300 = .ok (.f2f8 { rd := 4, ra := 2, ea := 0, rb := 6, eb := 0, rc := 24, ec := 0, x := false }) ∧
    decodeWord 0x6020_8080_4A00_0100 = .ok (.f8f { rd := 4, ra := 2, ea := 5, rb := 0, eb := 0, rc := 8, ec := 0, x := false }) ∧
    decodeWord 0x6020_A080_4200_0000 = .ok (.h2f { rd := 4, ra := 2, ea := 1, rb := 0, eb := 0, rc := 0, ec := 0, x := false }) ∧
    decodeWord 0x6020_C080_400C_0000 = .ok (.bscale { rd := 4, ra := 2, ea := 0, rb := 6, eb := 0, rc := 0, ec := 0, x := false }) ∧
    decodeWord 0x6020_E080_400C_0080 = .ok (.qnt8 { rd := 4, ra := 2, ea := 0, rb := 6, eb := 0, rc := 4, ec := 0, x := false }) ∧
    decodeWord 0x6020_E080_400C_0100 = .ok (.qnt8Err { rd := 4, ra := 2, ea := 0, rb := 6, eb := 0, rc := 8, ec := 0, x := false }) ∧
    decodeWord 0x6021_0080_4E0C_00E0 = .ok (.dq8 { rd := 4, ra := 2, ea := 7, rb := 6, eb := 0, rc := 7, ec := 0, x := false }) ∧
    decodeWord 0x6021_2080_4000_0000 = .ok (.fxpn { rd := 4, ra := 2, ea := 0, rb := 0, eb := 0, rc := 0, ec := 0, x := false }) ∧
    decodeWord 0x6021_4080_4000_0000 = .ok (.fmnt { rd := 4, ra := 2, ea := 0, rb := 0, eb := 0, rc := 0, ec := 0, x := false }) ∧
    decodeWord 0x6021_6080_4000_0000 = .ok (.exp2 { rd := 4, ra := 2, ea := 0, rb := 0, eb := 0, rc := 0, ec := 0, x := false }) ∧
    decodeWord 0x6021_8080_4000_0001 = .ok (.log2 { rd := 4, ra := 2, ea := 0, rb := 0, eb := 0, rc := 0, ec := 0, x := true }) ∧
    decodeWord 0x6021_A080_4000_0000 = .ok (.rcp { rd := 4, ra := 2, ea := 0, rb := 0, eb := 0, rc := 0, ec := 0, x := false }) ∧
    decodeWord 0x6021_C080_4000_0000 = .ok (.rsqrt { rd := 4, ra := 2, ea := 0, rb := 0, eb := 0, rc := 0, ec := 0, x := false }) ∧
    decodeWord 0x6021_E080_4000_0000 = .ok (.sqrt { rd := 4, ra := 2, ea := 0, rb := 0, eb := 0, rc := 0, ec := 0, x := false }) ∧
    decodeWord 0x6022_0080_4000_0000 = .ok (.sin { rd := 4, ra := 2, ea := 0, rb := 0, eb := 0, rc := 0, ec := 0, x := false }) ∧
    decodeWord 0x6022_2080_4000_0000 = .ok (.cos { rd := 4, ra := 2, ea := 0, rb := 0, eb := 0, rc := 0, ec := 0, x := false }) ∧
    decodeWord 0x6022_4081_0004_0060 = .ok (.filt { rd := 4, ra := 8, ea := 0, rb := 2, eb := 0, rc := 3, ec := 0, x := false }) ∧
    decodeWord 0x6022_6080_400C_0101 = .ok (.filtl { rd := 4, ra := 2, ea := 0, rb := 6, eb := 0, rc := 8, ec := 0, x := true }) ∧
    decodeWord 0x6022_8080_0000_0000 = .ok .srgen ∧
    decodeWord 0x6022_A080_400C_0100 = .ok (.alrnd { rd := 4, ra := 2, ea := 0, rb := 6, eb := 0, rc := 8, ec := 0, x := false }) := by
  refine ⟨?_, ?_, ?_, ?_, ?_, ?_, ?_, ?_, ?_, ?_, ?_, ?_, ?_, ?_, ?_, ?_, ?_, ?_, ?_, ?_, ?_, ?_, ?_⟩ <;> rfl

theorem test_decode_cmp :
    decodeWord 0x6028_0080_400C_0001 = .ok (.icmp { rd := 4, ra := 2, ea := 0, rb := 6, eb := 0, rc := 0, ec := 0, x := true }) ∧
    decodeWord 0x602C_0080_4000_0014 = .ok (.icmpImm { rd := 4, ra := 2, ea := 0, imm := 0xA, x := false }) ∧
    decodeWord 0x6028_2080_400C_0000 = .ok (.icmp64 { rd := 4, ra := 2, ea := 0, rb := 6, eb := 0, rc := 0, ec := 0, x := false }) ∧
    decodeWord 0x602C_2080_4000_0024 = .ok (.icmp64Imm { rd := 4, ra := 2, ea := 0, imm := 0x12, x := false }) ∧
    decodeWord 0x6028_4080_400C_0001 = .ok (.fcmp { rd := 4, ra := 2, ea := 0, rb := 6, eb := 0, rc := 0, ec := 0, x := true }) ∧
    decodeWord 0x602C_4080_4000_0024 = .ok (.fcmpImm { rd := 4, ra := 2, ea := 0, imm := 0x12, x := false }) ∧
    decodeWord 0x6028_6080_400C_0000 = .ok (.hcmp { rd := 4, ra := 2, ea := 0, rb := 6, eb := 0, rc := 0, ec := 0, x := false }) ∧
    decodeWord 0x602C_6080_4000_0024 = .ok (.hcmpImm { rd := 4, ra := 2, ea := 0, imm := 0x12, x := false }) ∧
    decodeWord 0x6028_8080_40C0_0000 = .ok (.pand { rd := 4, ra := 2, ea := 0, rb := 96, eb := 0, rc := 0, ec := 0, x := false }) ∧
    decodeWord 0x6028_A080_400C_0000 = .ok (.por { rd := 4, ra := 2, ea := 0, rb := 6, eb := 0, rc := 0, ec := 0, x := false }) ∧
    decodeWord 0x6028_C080_400C_0000 = .ok (.pxor { rd := 4, ra := 2, ea := 0, rb := 6, eb := 0, rc := 0, ec := 0, x := false }) ∧
    decodeWord 0x6028_E080_4000_0000 = .ok (.pnot { rd := 4, ra := 2, ea := 0, rb := 0, eb := 0, rc := 0, ec := 0, x := false }) ∧
    decodeWord 0x6029_0080_400C_0100 = .ok (.sel { rd := 4, ra := 2, ea := 0, rb := 6, eb := 0, rc := 8, ec := 0, x := false }) ∧
    decodeWord 0x602D_0080_4000_0024 = .ok (.selImm { rd := 4, ra := 2, ea := 0, imm := 0x12, x := false }) ∧
    decodeWord 0x6029_2080_400C_0100 = .ok (.sel64 { rd := 4, ra := 2, ea := 0, rb := 6, eb := 0, rc := 8, ec := 0, x := false }) ∧
    decodeWord 0x6029_4080_0000_0040 = .ok (.p2g { rd := 4, ra := 0, ea := 0, rb := 0, eb := 0, rc := 2, ec := 0, x := false }) ∧
    decodeWord 0x6029_6000_4000_0020 = .ok (.g2p { rd := 0, ra := 2, ea := 0, rb := 0, eb := 0, rc := 1, ec := 0, x := false }) ∧
    decodeWord 0x6029_8080_400C_0001 = .ok (.fclass { rd := 4, ra := 2, ea := 0, rb := 6, eb := 0, rc := 0, ec := 0, x := true }) ∧
    decodeWord 0x602D_8080_4000_0024 = .ok (.fclassImm { rd := 4, ra := 2, ea := 0, imm := 0x12, x := false }) ∧
    decodeWord 0x6029_A080_400C_0000 = .ok (.btest { rd := 4, ra := 2, ea := 0, rb := 6, eb := 0, rc := 0, ec := 0, x := false }) ∧
    decodeWord 0x602D_A080_4000_0024 = .ok (.btestImm { rd := 4, ra := 2, ea := 0, imm := 0x12, x := false }) := by
  refine ⟨?_, ?_, ?_, ?_, ?_, ?_, ?_, ?_, ?_, ?_, ?_, ?_, ?_, ?_, ?_, ?_, ?_, ?_, ?_, ?_, ?_⟩ <;> rfl

theorem test_decode_ctl :
    decodeWord 0x6030_1FFF_FFFF_E000 = .ok (.bra { off := 0xFFFFFFFF, ra := 0, kind := 0 }) ∧
    decodeWord 0x6030_0000_0000_A003 = .ok (.bra { off := 0x5, ra := 0, kind := 3 }) ∧
    decodeWord 0x6030_2000_000C_0000 = .ok (.call { off := 0x60, ra := 0, kind := 0 }) ∧
    decodeWord 0x6030_4000_0000_0040 = .ok (.calli { off := 0x0, ra := 2, kind := 0 }) ∧
    decodeWord 0x6030_6000_0000_0000 = .ok .ret ∧
    decodeWord 0x6030_8000_0000_0000 = .ok .rett ∧
    decodeWord 0x6030_A000_0000_0040 = .ok (.jmpi { off := 0x0, ra := 2, kind := 0 }) ∧
    decodeWord 0x6030_C000_0000_0000 = .ok .exit ∧
    decodeWord 0x6030_E000_0000_0000 = .ok .yield ∧
    decodeWord 0x6031_0000_0000_0000 = .ok .syncw := by
  refine ⟨?_, ?_, ?_, ?_, ?_, ?_, ?_, ?_, ?_, ?_⟩ <;> rfl

theorem test_decode_mem :
    decodeWord 0x6038_0080_4000_8080 = .ok (.ld { rd := 4, base := 2, off := 0x40, sz := 2, cc := 0, scope := 0, sx := false }) ∧
    decodeWord 0x6038_0080_5FFF_FE11 = .ok (.ld { rd := 4, base := 2, off := 0xFFFFF, sz := 0, cc := 1, scope := 0, sx := true }) ∧
    decodeWord 0x6038_20C1_1FFF_E0E0 = .ok (.st { rd := 6, base := 8, off := 0xFFFF0, sz := 3, cc := 2, scope := 0, sx := false }) ∧
    decodeWord 0x6038_5000_4000_0080 = .ok (.ldw { rd := 128, base := 2, off := 0x0, sz := 2, cc := 0, scope := 0, sx := false }) ∧
    decodeWord 0x6038_6000_4001_0000 = .ok (.pref { rd := 0, base := 2, off := 0x80, sz := 0, cc := 0, scope := 0, sx := false }) ∧
    decodeWord 0x6038_8000_4000_000A = .ok (.wback { rd := 0, base := 2, off := 0x0, sz := 0, cc := 0, scope := 5, sx := false }) := by
  refine ⟨?_, ?_, ?_, ?_, ?_, ?_⟩ <;> rfl

theorem test_decode_syn :
    decodeWord 0x6040_0080_4000_208A = .ok (.atomAdd { rd := 4, base := 2, off := 0x10, sz := 2, cc := 0, scope := 5, sx := false }) ∧
    decodeWord 0x6040_2080_4000_209A = .ok (.atomMin { rd := 4, base := 2, off := 0x10, sz := 2, cc := 1, scope := 5, sx := false }) ∧
    decodeWord 0x6040_4080_4000_20AA = .ok (.atomMax { rd := 4, base := 2, off := 0x10, sz := 2, cc := 2, scope := 5, sx := false }) ∧
    decodeWord 0x6040_6080_4000_20BA = .ok (.atomAnd { rd := 4, base := 2, off := 0x10, sz := 2, cc := 3, scope := 5, sx := false }) ∧
    decodeWord 0x6040_8080_4000_208A = .ok (.atomOr { rd := 4, base := 2, off := 0x10, sz := 2, cc := 0, scope := 5, sx := false }) ∧
    decodeWord 0x6040_A080_4000_209A = .ok (.atomXor { rd := 4, base := 2, off := 0x10, sz := 2, cc := 1, scope := 5, sx := false }) ∧
    decodeWord 0x6040_C080_4000_20AA = .ok (.atomExch { rd := 4, base := 2, off := 0x10, sz := 2, cc := 2, scope := 5, sx := false }) ∧
    decodeWord 0x6040_E080_4000_204A = .ok (.atomFadd { rd := 4, base := 2, off := 0x10, sz := 1, cc := 0, scope := 5, sx := false }) ∧
    decodeWord 0x6041_0080_4000_208A = .ok (.atomFmin { rd := 4, base := 2, off := 0x10, sz := 2, cc := 0, scope := 5, sx := false }) ∧
    decodeWord 0x6041_2080_4000_208A = .ok (.atomFmax { rd := 4, base := 2, off := 0x10, sz := 2, cc := 0, scope := 5, sx := false }) ∧
    decodeWord 0x6041_4080_4000_00FC = .ok (.cas { rd := 4, base := 2, off := 0x0, sz := 3, cc := 3, scope := 6, sx := false }) ∧
    decodeWord 0x6041_6000_0000_0024 = .ok (.fence { rd := 0, base := 0, off := 0x0, sz := 0, cc := 2, scope := 2, sx := false }) ∧
    decodeWord 0x6041_8080_4000_0080 = .ok (.acqRemote { rd := 4, base := 2, off := 0x0, sz := 2, cc := 0, scope := 0, sx := false }) ∧
    decodeWord 0x6041_A080_4000_008A = .ok (.mwait { rd := 4, base := 2, off := 0x0, sz := 2, cc := 0, scope := 5, sx := false }) ∧
    decodeWord 0x6041_C020_0000_1800 = .ok (.barr { rd := 1, ra := 0, rb := 0, h := 0, bar := 3, sub := 0x0 }) ∧
    decodeWord 0x6041_E000_0020_1800 = .ok (.bwait { rd := 0, ra := 0, rb := 1, h := 0, bar := 3, sub := 0x0 }) ∧
    decodeWord 0x6042_0080_0020_1001 = .ok (.btxn { rd := 4, ra := 0, rb := 1, h := 0, bar := 2, sub := 0x1 }) ∧
    decodeWord 0x6042_2080_0000_7800 = .ok (.bgenRead { rd := 4, ra := 0, rb := 0, h := 0, bar := 15, sub := 0x0 }) ∧
    decodeWord 0x6042_2000_0020_1801 = .ok (.bgenInit { rd := 0, ra := 0, rb := 1, h := 0, bar := 3, sub := 0x1 }) := by
  refine ⟨?_, ?_, ?_, ?_, ?_, ?_, ?_, ?_, ?_, ?_, ?_, ?_, ?_, ?_, ?_, ?_, ?_, ?_, ?_⟩ <;> rfl

theorem test_decode_xch :
    decodeWord 0x6048_0080_4000_0040 = .ok (.qswap { rd := 4, ra := 2, ea := 0, rb := 0, eb := 0, rc := 2, ec := 0, x := false }) ∧
    decodeWord 0x6048_20A0_8000_0020 = .ok (.qddx { rd := 5, ra := 4, ea := 0, rb := 0, eb := 0, rc := 1, ec := 0, x := false }) ∧
    decodeWord 0x6048_4080_4000_0001 = .ok (.qddy { rd := 4, ra := 2, ea := 0, rb := 0, eb := 0, rc := 0, ec := 0, x := true }) ∧
    decodeWord 0x6048_6080_4000_0060 = .ok (.qbcast { rd := 4, ra := 2, ea := 0, rb := 0, eb := 0, rc := 3, ec := 0, x := false }) ∧
    decodeWord 0x6048_8060_41C2_0060 = .ok (.wshfl { rd := 3, ra := 2, ea := 0, rb := 225, eb := 0, rc := 3, ec := 0, x := false }) ∧
    decodeWord 0x6048_A080_4000_0020 = .ok (.wvote { rd := 4, ra := 2, ea := 0, rb := 0, eb := 0, rc := 1, ec := 0, x := false }) ∧
    decodeWord 0x6048_C08C_0000_0000 = .ok (.wballot { rd := 4, ra := 96, ea := 0, rb := 0, eb := 0, rc := 0, ec := 0, x := false }) ∧
    decodeWord 0x6048_E080_4000_00A0 = .ok (.wred { rd := 4, ra := 2, ea := 0, rb := 0, eb := 0, rc := 5, ec := 0, x := false }) ∧
    decodeWord 0x6049_0080_4000_0021 = .ok (.wred64 { rd := 4, ra := 2, ea := 0, rb := 0, eb := 0, rc := 1, ec := 0, x := true }) ∧
    decodeWord 0x6049_2080_4000_0040 = .ok (.wredf { rd := 4, ra := 2, ea := 0, rb := 0, eb := 0, rc := 2, ec := 0, x := false }) ∧
    decodeWord 0x6049_4080_4000_0100 = .ok (.wscan { rd := 4, ra := 2, ea := 0, rb := 0, eb := 0, rc := 8, ec := 0, x := false }) ∧
    decodeWord 0x6049_6080_4000_0120 = .ok (.wscanf { rd := 4, ra := 2, ea := 0, rb := 0, eb := 0, rc := 9, ec := 0, x := false }) ∧
    decodeWord 0x6049_8080_0000_0000 = .ok .elect ∧
    decodeWord 0x6049_A080_4000_0001 = .ok (.wmatch { rd := 4, ra := 2, ea := 0, rb := 0, eb := 0, rc := 0, ec := 0, x := true }) ∧
    decodeWord 0x6049_C080_4000_0000 = .ok (.wfirst { rd := 4, ra := 2, ea := 0, rb := 0, eb := 0, rc := 0, ec := 0, x := false }) ∧
    decodeWord 0x6049_E000_4000_0000 = .ok (.wsyncm { rd := 0, ra := 2, ea := 0, rb := 0, eb := 0, rc := 0, ec := 0, x := false }) := by
  refine ⟨?_, ?_, ?_, ?_, ?_, ?_, ?_, ?_, ?_, ?_, ?_, ?_, ?_, ?_, ?_, ?_⟩ <;> rfl

theorem test_decode_asy :
    decodeWord 0x6050_0000_4103_0248 = .ok (.cpyT { rd := 0, ra := 2, rb := 8, h := 3, bar := 0, sub := 0x248 }) ∧
    decodeWord 0x6050_2000_4100_2502 = .ok (.cpyL { rd := 0, ra := 2, rb := 8, h := 0, bar := 4, sub := 0x502 }) ∧
    decodeWord 0x6050_4080_0103_002B = .ok (.obres { rd := 4, ra := 0, rb := 8, h := 3, bar := 0, sub := 0x2B }) ∧
    decodeWord 0x6050_6000_0003_0000 = .ok .obrel ∧
    decodeWord 0x6050_8080_0003_0000 = .ok (.obstateRead { rd := 4, ra := 0, rb := 0, h := 3, bar := 0, sub := 0x0 }) ∧
    decodeWord 0x6050_8080_0003_0001 = .ok (.obstatePend { rd := 4, ra := 0, rb := 0, h := 3, bar := 0, sub := 0x1 }) ∧
    decodeWord 0x6050_8000_0103_0002 = .ok (.obstateRefill { rd := 0, ra := 0, rb := 8, h := 3, bar := 0, sub := 0x2 }) ∧
    decodeWord 0x6050_8000_0003_0003 = .ok .obstateFull ∧
    decodeWord 0x6050_A000_4100_0000 = .ok (.prset { rd := 0, ra := 2, rb := 8, h := 0, bar := 0, sub := 0x0 }) ∧
    decodeWord 0x6050_C000_5C00_0000 = .ok (.prclr { rd := 0, ra := 2, rb := 224, h := 0, bar := 0, sub := 0x0 }) ∧
    decodeWord 0x6050_E080_4000_0000 = .ok (.prtest { rd := 4, ra := 2, rb := 0, h := 0, bar := 0, sub := 0x0 }) ∧
    decodeWord 0x6051_0000_0000_0085 = .ok (.waitc { rd := 0, ra := 0, rb := 0, h := 0, bar := 0, sub := 0x85 }) := by
  refine ⟨?_, ?_, ?_, ?_, ?_, ?_, ?_, ?_, ?_, ?_, ?_, ?_⟩ <;> rfl

theorem test_decode_mat :
    decodeWord 0x6058_0044_050E_1099 = .ok (.mxI8 { shape := 0, tile := 2, abase := 32, bh := 5, boff := 3, pl := 8, ssel := 1, sreg := 9, ru := true, rsv := false, am := 1 }) ∧
    decodeWord 0x6058_2200_0001_2000 = .ok (.mxE4 { shape := 1, tile := 0, abase := 0, bh := 0, boff := 0, pl := 4, ssel := 2, sreg := 0, ru := false, rsv := false, am := 0 }) ∧
    decodeWord 0x6058_4A00_0002_2002 = .ok (.mxE5 { shape := 5, tile := 0, abase := 0, bh := 0, boff := 0, pl := 8, ssel := 2, sreg := 0, ru := false, rsv := false, am := 2 }) ∧
    decodeWord 0x6058_6600_0002_2000 = .ok (.mxH { shape := 3, tile := 0, abase := 0, bh := 0, boff := 0, pl := 8, ssel := 2, sreg := 0, ru := false, rsv := false, am := 0 }) ∧
    decodeWord 0x6058_8DEC_1FFE_0000 = .ok (.mxBf { shape := 6, tile := 15, abase := 96, bh := 31, boff := 63, pl := 8, ssel := 0, sreg := 0, ru := false, rsv := false, am := 0 }) ∧
    decodeWord 0x6058_A000_4100_0013 = .ok (.accld { rd := 0, ra := 2, rb := 8, h := 0, bar := 0, sub := 0x13 }) ∧
    decodeWord 0x6058_C000_4100_0035 = .ok (.accst { rd := 0, ra := 2, rb := 8, h := 0, bar := 0, sub := 0x35 }) ∧
    decodeWord 0x6058_C000_4100_00C3 = .ok (.accstNi8 { rd := 0, ra := 2, rb := 8, h := 0, bar := 0, sub := 0xC3 }) ∧
    decodeWord 0x6058_E000_0000_0012 = .ok .accz ∧
    decodeWord 0x6059_0000_0100_0004 = .ok (.alset { rd := 0, ra := 0, rb := 8, h := 0, bar := 0, sub := 0x4 }) ∧
    decodeWord 0x6059_0000_0100_0014 = .ok (.alsetLim { rd := 0, ra := 0, rb := 8, h := 0, bar := 0, sub := 0x14 }) ∧
    decodeWord 0x6059_2080_0000_000F = .ok (.alget { rd := 4, ra := 0, rb := 0, h := 0, bar := 0, sub := 0xF }) := by
  refine ⟨?_, ?_, ?_, ?_, ?_, ?_, ?_, ?_, ?_, ?_, ?_, ?_⟩ <;> rfl

theorem test_decode_gfx :
    decodeWord 0x6060_0000_4100_0000 = .ok (.diceRun { rd := 0, ra := 2, rb := 8, h := 0, bar := 0, sub := 0x0 }) ∧
    decodeWord 0x6060_0000_0100_0001 = .ok (.diceBind { rd := 0, ra := 0, rb := 8, h := 0, bar := 0, sub := 0x1 }) ∧
    decodeWord 0x6060_0000_0000_0002 = .ok .diceUnbind ∧
    decodeWord 0x6060_2000_4100_0000 = .ok (.patchq { rd := 0, ra := 2, rb := 8, h := 0, bar := 0, sub := 0x0 }) ∧
    decodeWord 0x6060_4080_0000_0000 = .ok .patchdq ∧
    decodeWord 0x6060_6000_4100_0000 = .ok (.gemit { rd := 0, ra := 2, rb := 8, h := 0, bar := 0, sub := 0x0 }) ∧
    decodeWord 0x6060_8000_0000_0000 = .ok .wmarkRel ∧
    decodeWord 0x6060_8080_0000_0001 = .ok .wmarkGlob ∧
    decodeWord 0x6060_8080_0000_0002 = .ok .wmarkDie ∧
    decodeWord 0x6060_A200_4100_0405 = .ok (.samp { rd := 16, ra := 2, rb := 8, h := 0, bar := 0, sub := 0x405 }) ∧
    decodeWord 0x6060_C200_4100_0260 = .ok (.sampl { rd := 16, ra := 2, rb := 8, h := 0, bar := 0, sub := 0x260 }) ∧
    decodeWord 0x6060_E200_4100_0060 = .ok (.sampd { rd := 16, ra := 2, rb := 8, h := 0, bar := 0, sub := 0x60 }) ∧
    decodeWord 0x6061_0200_4100_01E0 = .ok (.sampg { rd := 16, ra := 2, rb := 8, h := 0, bar := 0, sub := 0x1E0 }) ∧
    decodeWord 0x6061_2200_4100_0460 = .ok (.resq { rd := 16, ra := 2, rb := 8, h := 0, bar := 0, sub := 0x460 }) := by
  refine ⟨?_, ?_, ?_, ?_, ?_, ?_, ?_, ?_, ?_, ?_, ?_, ?_, ?_, ?_⟩ <;> rfl

theorem test_decode_ray :
    decodeWord 0x6068_0200_4100_0007 = .ok (.trace { rd := 16, ra := 2, rb := 8, h := 0, bar := 0, sub := 0x7 }) ∧
    decodeWord 0x6068_2200_4000_0000 = .ok (.tresume { rd := 16, ra := 2, rb := 0, h := 0, bar := 0, sub := 0x0 }) ∧
    decodeWord 0x6068_4000_4100_0000 = .ok (.taccept { rd := 0, ra := 2, rb := 8, h := 0, bar := 0, sub := 0x0 }) ∧
    decodeWord 0x6068_6200_4000_0000 = .ok (.tstateRead { rd := 16, ra := 2, rb := 0, h := 0, bar := 0, sub := 0x0 }) ∧
    decodeWord 0x6068_6200_4000_0001 = .ok (.tstateEnd { rd := 16, ra := 2, rb := 0, h := 0, bar := 0, sub := 0x1 }) := by
  refine ⟨?_, ?_, ?_, ?_, ?_⟩ <;> rfl

theorem test_decode_sys :
    decodeWord 0x6070_0099_A000_0000 = .ok (.rdsr { rd := 4, ra := 205, ea := 0, rb := 0, eb := 0, rc := 0, ec := 0, x := false }) ∧
    decodeWord 0x6070_3A40_4000_0001 = .ok (.wrsr { rd := 210, ra := 2, ea := 0, rb := 0, eb := 0, rc := 0, ec := 0, x := true }) ∧
    decodeWord 0x6070_4000_4000_0000 = .ok (.stpred { rd := 0, ra := 2, ea := 0, rb := 0, eb := 0, rc := 0, ec := 0, x := false }) ∧
    decodeWord 0x6070_6000_4000_0000 = .ok (.ldpred { rd := 0, ra := 2, ea := 0, rb := 0, eb := 0, rc := 0, ec := 0, x := false }) ∧
    decodeWord 0x6070_8000_1234_5678 = .ok (.trap { rd := 0, sub := 0, imm := 0x12345678 }) ∧
    decodeWord 0x6070_A000_0000_0001 = .ok (.bkpt { rd := 0, sub := 0, imm := 0x1 }) ∧
    decodeWord 0x6070_C000_0000_0000 = .ok .nop ∧
    decodeWord 0x6070_E100_4000_0000 = .ok (.splrd { rd := 8, ra := 2, ea := 0, rb := 0, eb := 0, rc := 0, ec := 0, x := false }) ∧
    decodeWord 0x6071_0001_0000_0000 = .ok (.splwr { rd := 0, ra := 8, ea := 0, rb := 0, eb := 0, rc := 0, ec := 0, x := false }) ∧
    decodeWord 0x6071_2000_4000_2800 = .ok (.barsv { rd := 0, ra := 2, rb := 0, h := 0, bar := 5, sub := 0x0 }) ∧
    decodeWord 0x6071_4000_4000_0001 = .ok (.barld { rd := 0, ra := 2, rb := 0, h := 0, bar := 0, sub := 0x1 }) ∧
    decodeWord 0x6071_6080_A000_0000 = .ok (.ctxrd { rd := 4, ra := 5, ea := 0, rb := 0, eb := 0, rc := 0, ec := 0, x := false }) ∧
    decodeWord 0x6071_8000_A00C_0000 = .ok (.ctxwr { rd := 0, ra := 5, ea := 0, rb := 6, eb := 0, rc := 0, ec := 0, x := false }) ∧
    decodeWord 0x6071_A200_0000_0001 = .ok (.mbrecv { rd := 16, ra := 0, rb := 0, h := 0, bar := 0, sub := 0x1 }) ∧
    decodeWord 0x6071_C000_0200_0000 = .ok (.mbsend { rd := 0, ra := 0, rb := 16, h := 0, bar := 0, sub := 0x0 }) ∧
    decodeWord 0x6071_E080_0200_0000 = .ok (.spawnRange { rd := 4, ra := 0, rb := 16, h := 0, bar := 0, sub := 0x0 }) ∧
    decodeWord 0x6072_0000_0200_0000 = .ok (.fwd { rd := 0, ra := 0, rb := 16, h := 0, bar := 0, sub := 0x0 }) ∧
    decodeWord 0x6072_2080_4120_0000 = .ok (.dump { rd := 4, ra := 2, rb := 9, h := 0, bar := 0, sub := 0x0 }) := by
  refine ⟨?_, ?_, ?_, ?_, ?_, ?_, ?_, ?_, ?_, ?_, ?_, ?_, ?_, ?_, ?_, ?_, ?_, ?_⟩ <;> rfl

/-! ### Ill-formed instructions are refused, one for each kind of check (R53, R99) -/

/-- R91: an unused field that is not zero. -/
theorem test_wf_must : wellFormed (.iadd { rd := 4, ra := 2, ea := 0, rb := 6, eb := 0, rc := 1, ec := 0, x := false }) = false := by
  decide
/-- R37: selector 255 names no source. -/
theorem test_wf_src : wellFormed (.iadd { rd := 4, ra := 255, ea := 0, rb := 6, eb := 0, rc := 0, ec := 0, x := false }) = false := by
  decide
/-- R39: element select 9 is reserved. -/
theorem test_wf_esel : wellFormed (.iadd { rd := 4, ra := 2, ea := 9, rb := 6, eb := 0, rc := 0, ec := 0, x := false }) = false := by
  decide
/-- R20: a pair starts at an even register. -/
theorem test_wf_pair : wellFormed (.iadd64 { rd := 5, ra := 2, ea := 0, rb := 6, eb := 0, rc := 0, ec := 0, x := false }) = false := by
  decide
/-- R94: the registers of a 256-bit load start at a multiple of 8. -/
theorem test_wf_rng : wellFormed (.ld { rd := 4, base := 2, off := 0, sz := 5, cc := 0, scope := 0, sx := false }) = false := by
  decide
/-- R124: FCMP writes four predicates, and p93 has two after it. -/
theorem test_wf_pdst : wellFormed (.fcmp { rd := 93, ra := 2, ea := 0, rb := 6, eb := 0, rc := 0, ec := 0, x := false }) = false := by
  decide
/-- R101: 97 names no predicate. -/
theorem test_wf_psrc : wellFormed (.pnot { rd := 4, ra := 97, ea := 0, rb := 0, eb := 0, rc := 0, ec := 0, x := false }) = false := by
  decide
/-- R92: an 8-bit immediate has its upper 16 bits zero. -/
theorem test_wf_imm : wellFormed (.padd8Imm { rd := 4, ra := 2, ea := 0, imm := 0x100, x := false }) = false := by decide
/-- R20: a base is an even register. -/
theorem test_wf_base : wellFormed (.ld { rd := 4, base := 3, off := 0, sz := 2, cc := 0, scope := 0, sx := false }) = false := by
  decide
/-- R135: a 64-bit store takes an even register. -/
theorem test_wf_stval : wellFormed (.st { rd := 5, base := 2, off := 0, sz := 3, cc := 0, scope := 0, sx := false }) = false := by
  decide
/-- R218: a BTXN that arrives needs a destination. -/
theorem test_wf_optdst : wellFormed (.btxn { rd := 192, ra := 0, rb := 1, h := 0, bar := 2, sub := 1 }) = false := by decide
/-- R97: SREG is zero under SSEL = 2. -/
theorem test_wf_sreg : wellFormed (.mxI8 ⟨0, 0, 32, 0, 0, 8, 2, 9, false, false, 0⟩) = false := by decide
/-- R346, R349: a tile outside the launch's allocation is refused there. -/
theorem test_wf_tile : fitsLaunch 128 4 0x6058_E000_0000_0005 .accz = false ∧ fitsLaunch 128 6 0x6058_E000_0000_0005 .accz = true := by
  decide
/-- R98: i8 has no shape 3. -/
theorem test_wf_shape : wellFormed (.mxI8 ⟨3, 0, 32, 0, 0, 8, 2, 0, false, false, 0⟩) = false := by decide
/-- R35: predicate 97 is reserved as a guard, and pt has no negation. -/
theorem test_wf_guard : Guard.ok { sw := false, pred := 97, pn := false } = false ∧
    Guard.ok { sw := false, pred := 96, pn := true } = false := by decide

/-! ### Words that the spec writes out -/

/-- The examples of R124, R129, R133, R143, R314, R346, R350, R351, R352. -/
theorem test_decode_examples :
    decodeWord 0x602C_0080_4000_0014 = .ok (.icmpImm ⟨4, 2, 0, 10, false⟩) ∧
    decodeWord 0x6030_2000_000C_0000 = .ok (.call ⟨0x60, 0, 0⟩) ∧
    decodeWord 0x6038_20C1_1FFF_E0E0 = .ok (.st ⟨6, 8, 0xFFFF0, 3, 2, 0, false⟩) ∧
    decodeWord 0x6070_8000_0000_0042 = .ok (.trap ⟨0, 0, 0x42⟩) ∧
    decodeWord 0x6050_0000_4200_0A02 = .ok (.cpyT ⟨0, 2, 16, 0, 1, 0x202⟩) ∧
    decodeWord 0x6058_0044_0301_0082 = .ok (.mxI8 ⟨0, 2, 32, 3, 0, 4, 0, 8, false, false, 2⟩) ∧
    decodeWord 0x0758_E000_0000_0002 = .ok .accz ∧ (guardOfWord 0x0758_E000_0000_0002).pred = 7 ∧
    decodeWord 0x0759_0000_0120_0002 = .ok (.alset ⟨0, 0, 9, 0, 0, 2⟩) ∧
    decodeWord 0x0759_2140_0000_0002 = .ok (.alget ⟨10, 0, 0, 0, 0, 2⟩) := by
  refine ⟨?_, ?_, ?_, ?_, ?_, ?_, ?_, ?_, ?_, ?_⟩ <;> rfl

/-! ### Words that run -/

/-- One lane that issues a word, with registers set. -/
def unit (xs : List (Nat × Word)) (g : Grid := placedGrid) : State :=
  let l : Lane := { placedLane with g := xs.foldl (fun g x => g.set x.1 x.2) (List.replicate 128 0), sp := stackBase g 0 0 + 256 }
  let b : Bundle := { Bundle.blank with members := [⟨0, 0, 0, 1⟩], clause := 0x1000, n := 2, words := [0x6070C00000000000] }
  let e : Entry := { slot := 0, stamp := 0, runs := 0, clause := 0x1000, idx := 0, depth := 0, path := 0, park := 0, why := .none,
                     yh := false, defer := 0, mask := 1, flight := some 0 }
  { State.reset with
    grids := [g], bundles := [b], issue := some b, nextBundle := 1,
    teams := [{ placedTeam with waves := [{ Wave.blank with w := List.replicate 64 0, lanes := [l], entries := [e] }] }] }

/-- The state after a word. -/
def after (i : Instr) (s : State) : State :=
  match exec i s with
  | .next t => t
  | _ => s

def reg (i : Instr) (xs : List (Nat × Word)) (k : Nat) : Word := ((after i (unit xs)).lane ⟨0, 0, 0⟩).gr k

def flagsOf (i : Instr) (xs : List (Nat × Word)) : BitVec 5 := ((after i (unit xs)).lane ⟨0, 0, 0⟩).flags

def pred (i : Instr) (xs : List (Nat × Word)) (k : Nat) : Bool := ((after i (unit xs)).lane ⟨0, 0, 0⟩).pr k

/-- R213, the first two rows of its table, on four lanes: lanes 2 and 3 arrived first with all four in their mask, and lanes 0 and 1
name themselves; or lanes 0 and 1 come first. -/
theorem test_wsyncm : let lane : Lane := { Lane.blank with absent := false, ended := false }
    let wave := fun (a : Option Arrival) =>
      { Wave.blank with lanes := List.replicate 2 lane ++ List.replicate 2 { lane with arrival := a } }
    (wave (some ⟨0x1000, 0, some 15⟩)).syncBad [(0, 3), (1, 3)] = [0, 1, 2, 3] ∧ (wave none).syncBad [(0, 3), (1, 3)] = [] := by
  decide +kernel

/-- R118: the sum wraps, or saturates. -/
theorem test_iadd : reg (.iadd ⟨4, 2, 0, 3, 0, 0, 0, false⟩) [(2, 0xFFFFFFFF), (3, 2)] 4 = 1 ∧
    reg (.iadd ⟨4, 2, 0, 3, 0, 0, 0, true⟩) [(2, 0x7FFFFFFF), (3, 1)] 4 = 0x7FFFFFFF := by decide +kernel
/-- R119's example. -/
theorem test_idiv : reg (.idiv ⟨3, 1, 0, 2, 0, 0, 0, false⟩) [(1, 0xFFFFFFF9), (2, 2)] 3 = 0xFFFFFFFD ∧
    reg (.idiv ⟨3, 1, 0, 2, 0, 0, 0, true⟩) [(1, 0xFFFFFFF9), (2, 2)] 3 = 0x7FFFFFFC := by decide +kernel
/-- R119's example, and a divisor of zero. -/
theorem test_irem : reg (.irem ⟨4, 1, 0, 2, 0, 0, 0, false⟩) [(1, 0xFFFFFFF9), (2, 2)] 4 = 0xFFFFFFFF ∧
    reg (.irem ⟨4, 1, 0, 2, 0, 0, 0, false⟩) [(1, 5)] 4 = 5 := by decide +kernel
/-- R121's example. -/
theorem test_bfe : reg (.bfeImm ⟨1, 2, 0, 0x804, true⟩) [(2, 0xF80)] 1 = 0xFFFFFFF8 := by decide +kernel
/-- R121: an arithmetic shift by 32 or more. -/
theorem test_shr : reg (.shr ⟨1, 2, 0, 3, 0, 0, 0, true⟩) [(2, 0x80000000), (3, 40)] 1 = 0xFFFFFFFF := by decide +kernel
/-- R122's examples. -/
theorem test_padd8 : reg (.padd8 ⟨1, 2, 0, 3, 0, 0, 0, true⟩) [(2, 0x7F01FF80), (3, 0x01020180)] 1 = 0x7F030080 ∧
    reg (.padd8 ⟨1, 2, 0, 3, 0, 2, 0, true⟩) [(2, 0x7F01FF80), (3, 0x01020180)] 1 = 0x8003FFFF := by decide +kernel
/-- R123's example. -/
theorem test_bpx : reg (.bpx ⟨1, 2, 0, 0, 0, 0, 0, false⟩) [(2, 0x01020304)] 1 = 0x16A := by decide +kernel
/-- R123: BPI undoes BPX. -/
theorem test_bpi : reg (.bpi ⟨1, 2, 0, 0, 0, 0, 0, false⟩) [(2, 0x16A)] 1 = 0x01020304 := by decide +kernel
/-- R124's examples. -/
theorem test_icmp : (let i := Instr.icmpImm ⟨4, 2, 0, 10, false⟩
    pred i [(2, 0xFFFFFFFD)] 4 = true ∧ pred i [(2, 0xFFFFFFFD)] 5 = false ∧ pred i [(2, 0xFFFFFFFD)] 6 = false) ∧
    pred (.icmpImm ⟨4, 2, 0, 10, true⟩) [(2, 0xFFFFFFFD)] 6 = true := by decide +kernel
/-- R151's example: FMIN of +0 and -0. -/
theorem test_fmin : reg (.fmin ⟨1, 2, 0, 3, 0, 0, 0, false⟩) [(3, 0x80000000)] 1 = 0x80000000 := by decide +kernel
/-- R151's example: FMAX of a quiet NaN and 3.0. -/
theorem test_fmax : reg (.fmax ⟨1, 2, 0, 3, 0, 0, 0, false⟩) [(2, 0x7FC00000), (3, 0x40400000)] 1 = 0x40400000 ∧
    flagsOf (.fmax ⟨1, 2, 0, 3, 0, 0, 0, false⟩) [(2, 0x7FC00000), (3, 0x40400000)] = 0 := by decide +kernel
/-- R151: FSAT of -0. -/
theorem test_fsat : reg (.fsat ⟨1, 2, 0, 0, 0, 0, 0, false⟩) [(2, 0x80000000)] 1 = 0 := by decide +kernel
/-- R64 and R70: infinity less infinity is the default NaN. -/
theorem test_fsub : reg (.fsub ⟨1, 2, 0, 2, 0, 0, 0, false⟩) [(2, 0x7F800000)] 1 = 0x7FC00000 := by decide +kernel
/-- R155's example: F2I.i8 of 300.0 sets NV. -/
theorem test_f2i : reg (.f2i ⟨1, 2, 0, 0, 0, 0x10, 0, false⟩) [(2, 0x43960000)] 1 = 127 ∧
    flagsOf (.f2i ⟨1, 2, 0, 0, 0, 0x10, 0, false⟩) [(2, 0x43960000)] = flagNV := by decide +kernel
/-- R155's example: I2F of 0x01000001 sets NX. -/
theorem test_i2f : reg (.i2f ⟨1, 2, 0, 0, 0, 0, 0, false⟩) [(2, 0x01000001)] 1 = 0x4B800000 ∧
    flagsOf (.i2f ⟨1, 2, 0, 0, 0, 0, 0, false⟩) [(2, 0x01000001)] = flagNX := by decide +kernel
/-- R159's example: four planes of 0x05 under a scale of 2^-1. -/
theorem test_dq8 : reg (.dq8 ⟨1, 2, 4, 3, 0, 4, 0, false⟩) [(2, 5), (3, 126)] 1 = 0x40800000 := by decide +kernel
/-- R153: packed halves, 1.0 + 1.0. -/
theorem test_hadd : reg (.hadd ⟨1, 2, 0, 2, 0, 0, 0, false⟩) [(2, 0x3C003C00)] 1 = 0x40004000 := by decide +kernel
/-- R162: 2^3. -/
theorem test_exp2 : reg (.exp2 ⟨1, 2, 0, 0, 0, 0, 0, false⟩) [(2, 0x40400000)] 1 = 0x41000000 := by decide +kernel
/-- R162: log2(8). -/
theorem test_log2 : reg (.log2 ⟨1, 2, 0, 0, 0, 0, 0, false⟩) [(2, 0x41000000)] 1 = 0x40400000 := by decide +kernel
/-- R20: the pair of 0x0000_0001_8000_0000. -/
theorem test_movk64 : reg (.iadd64 ⟨6, 2, 0, 4, 0, 0, 0, false⟩) [(2, 0x80000000), (4, 0), (5, 1)] 6 = 0x80000000 ∧
    reg (.iadd64 ⟨6, 2, 0, 4, 0, 0, 0, false⟩) [(2, 0x80000000), (4, 0), (5, 1)] 7 = 1 := by decide +kernel
/-- R39's example: g5.swap. -/
theorem test_swap : reg (.mov ⟨4, 5, 3, 0, 0, 0, 0, false⟩) [(5, 0x1234ABCD)] 4 = 0xABCD1234 := by decide +kernel
/-- R59's example, at the addresses of this lane: a word of RSVD at index 0 gives a frame with CAUSE 3, and the handler runs. -/
theorem test_trap : let t := (unit []).takeTrap ⟨0, 0, 0⟩ { cause := .rsvd, clause := 0x1200, idx := 2, rclause := 0x1200, ridx := 2 }
    (t.lane ⟨0, 0, 0⟩).clause = 0x2000 ∧ cellsReadN t.mem.fw 0x100E0 16 = leBytes 8 0x1202 ++ leBytes 8 0x322 ∧
    cellsReadN t.mem.fw 0x100F8 8 = leBytes 8 0x1200 := by decide +kernel
/-- R60's example: the handler adds 1 to RIDX and returns. -/
theorem test_rett : let t := (unit []).takeTrap ⟨0, 0, 0⟩ { cause := .rsvd, clause := 0x1200, idx := 2, rclause := 0x1200, ridx := 2 }
    let u := t.modMem fun m => { m with fw := cellsWrite m.fw 0x100E8 0x23 }
    (match (u.returnTrap ⟨0, 0, 0⟩).2 with
     | .ok p => p == (0x1200, 3)
     | .error _ => false) = true := by decide +kernel
/-- R94 and R135: a store to the scratchpad waits to be performed, and a later load of the same lane reads it (R45). -/
theorem test_store : let xs : List (Nat × Word) := [(2, 0), (3, 0xFFFFFE00), (6, 0xAABBCCDD)]
    let s := after (.st ⟨6, 2, 4, 2, 0, 0, false⟩) (unit xs)
    let t := match exec .storePerformed { s with issue := none } with
      | .next t => t
      | _ => s
    cellsReadN (s.team 0).spad 4 4 = [0, 0, 0, 0] ∧ cellsReadN (t.team 0).spad 4 4 = [0xDD, 0xCC, 0xBB, 0xAA] := by decide +kernel
/-- R2 and R5: the slots of a Basket, of 8,320 bytes each, fit in it, and each of a die's Shears serves 12 cores. -/
theorem test_die_blocks : (basketGeneral + basketReserved) * 8320 ≤ Config.basket ∧ Config.cores = 12 * Config.shears ∧
    8 * Config.dieL2 = 512 * 2 ^ 20 := by decide
/-- R193's example of a split. -/
theorem test_split : (List.range 9).map (splitAt 1000 1 [40, 40, 20, 0, 40, 40, 40, 40]) =
    [0, 153, 307, 384, 384, 538, 692, 846, 1000] := by decide +kernel

end Sys2Proof.Tests
end

