-- ==== Sys2Proof/Tests/Witness.lean ====
section
/-! SUPPORT. Witnesses: for each obligation with hypotheses, a concrete small state and operands that meet all of them
together, for each of its clauses. -/

set_option Elab.async false

namespace Sys2Proof.Tests

open Sys2Proof.Machine

/-! ### Small states -/

/-- Word 0 of a clause: NOP, alone and under the switch marker. -/
def nopWord : DWord := 0x6070C00000000000

/-- A lane like any other, whose pair g2 points into its team's scratchpad window. -/
def lane0 : Lane :=
  { placedLane with g := (List.replicate 128 (0 : Word)).set 3 0xFFFFFE00, sp := stackBase placedGrid 0 0 + 256 }

/-- A lane that has ended. -/
def gone : Lane := { lane0 with ended := true }

def entry0 (mask : BitVec 32) : Entry :=
  { slot := 0, stamp := 0, runs := 0, clause := 0x1000, idx := 0, depth := 0, path := 0, park := 0, why := .none, yh := false,
    defer := 0, mask, flight := some 0 }

/-- A wave with the given lanes, those of `mask` in one entry. -/
def wave0 (mask : BitVec 32) (lanes : List Lane) : Wave :=
  { Wave.blank with w := List.replicate 64 0, lanes, entries := [entry0 mask] }

/-- The module with one team on a core: its grid, its team, and the bundle that issues. -/
def world (g : Grid) (t : Team) (b : Bundle) : State :=
  { State.reset with grids := [g], teams := [t], bundles := [b], nextBundle := 1, issue := some b }

/-- The entry of the lanes of `mask`. -/
def member0 (mask : BitVec 32) : Member := { team := 0, wave := 0, slot := 0, mask }

/-- A bundle of that entry at the words `ws`. -/
def bundle0 (mask : BitVec 32) (ws : List DWord) : Bundle :=
  { Bundle.blank with members := [member0 mask], clause := 0x1000, n := ws.length, words := ws }

/-- Two lanes of a wave issue `w`; a third stands elsewhere. -/
def three (w : DWord) : State :=
  world placedGrid { placedTeam with waves := [wave0 3 ((List.range 3).map fun k => { lane0 with sp := lane0.sp + BitVec.ofNat 64 (256 * k) })] }
    (bundle0 3 [w])

/-- The wave's only lane issues `w`, in the grid `g` and the team `f` makes of it. -/
def lone (w : DWord) (g : Grid := placedGrid) (f : Team → Team := id) (l : Lane := lane0) : State :=
  world g (f { placedTeam with waves := [wave0 1 [l]] }) (bundle0 1 [w])

/-- The lane of `lone`. -/
def me : Ref := ⟨0, 0, 0⟩

/-- `Ready`, as a check. -/
def readyB (s : State) : Bool :=
  s.dies.all (fun d => d.dbgctl.toNat % 4 == 0) &&
    s.teams.all (fun t => t.step.isNone && t.waves.all fun w => w.lanes.all fun l => l.pend.isNone) && s.issue.isSome

theorem ready_of {s : State} (h : readyB s = true) : s.Ready := by
  simp only [readyB, Bool.and_eq_true, List.all_eq_true, beq_iff_eq, Option.isNone_iff_eq_none] at h
  exact ⟨⟨h.1.1, fun t k => (h.1.2 t k).1, fun t k => (h.1.2 t k).2⟩, h.2⟩

/-- A word whose lanes all pass their checks. -/
theorem grants_of {s : State} {asks : List Ask} {f : Ask → Target}
    (h : ∀ a ∈ asks, s.check a.r.team a.va a.n a.al a.need false = .ok (f a) ∧ s.governed a = false ∧
      s.absentAt (f a) a.n = none ∧ s.ownHubStore a (f a) = false ∧ s.tileClash a.r (f a) a.n a.writes = false) :
    s.Grants asks f :=
  ⟨fun a k => (h a k).1, fun a k => (h a k).2.1, fun a k => (h a k).2.2.1, fun a k => (h a k).2.2.2.1, fun a k => (h a k).2.2.2.2⟩

/-- Without outstanding operations nothing waits for an ACCLD or ACCST: the states below are such unless they name operations. -/
theorem no_tile_ops {s : State} (h : s.ops = []) (r : Ref) (t : Target) (n : Nat) (write : Bool) (xs : List (DWord × Nat))
    (rs : List Ref) : s.tileClash r t n write = false ∧ s.stackClash r xs write = false ∧ s.tileStores rs = false :=
  tile_calm (by simp [h]) r t n write xs rs

theorem witness_no_tile_ops : (three nopWord).ops = [] ∧ (lone nopWord).ops = [] := ⟨rfl, rfl⟩

/-! ### Words and lanes -/

/-- For every statement whose only hypothesis is that a word issues: IntegerWords, SignedOrUnsignedWords, BitWords,
BitPlaneWords, Float32Words, Float16Words, ConversionWords, CompareWords, ReductionWords, TrapWords, LineWords, NopGoesOn. -/
theorem witness_words : (three nopWord).Ready ∧ (three nopWord).active = [⟨0, 0, 0⟩, ⟨0, 0, 1⟩] :=
  ⟨ready_of (by decide +kernel), by decide +kernel⟩

theorem witness_ExchangeWords : (three nopWord).Ready ∧ (2 : BitVec 8).toNat % 4 < 3 := ⟨ready_of (by decide +kernel), by decide⟩

theorem witness_RepresentableNeverMoves : Fmt.bf16 ∈ [Fmt.b32, Fmt.b16, Fmt.bf16, Fmt.e4m3, Fmt.e5m2] ∧ 4 ≤ 4 ∧
    2 ^ 32 - 1 < 2 ^ 32 ∧ 0x3F80 < 2 ^ Fmt.bf16.width ∧ (Fmt.bf16.value 0x3F80).isFinite := by decide +kernel

/-- Effects of two lanes, one of them on a w register, and the largest register and predicate numbers. -/
def effs0 : List (Ref × Eff) := [(me, effReg 127 5), (⟨0, 0, 1⟩, { regs := [(191, 6)], preds := [(95, true)] })]

theorem witness_EffectsOnLanes : let s := three nopWord
    (∀ x ∈ effs0, s.has x.1 ∧ x.1.lane < 32) ∧ (∀ x ∈ effs0, ∀ y ∈ effs0, x.1 = y.1 → x.2 = y.2) ∧
    127 < (s.lane me).g.length ∧ 63 < (s.wave 0 0).w.length ∧ me ∈ s.active ∧
    ∀ n ∈ [205, 207, 210, 212], n ∈ ([205, 207, 210, 212] : List (BitVec 8)).map BitVec.toNat := by decide +kernel

theorem witness_EncodeDecode : let g : Guard := { sw := true, pred := 3, pn := true }
    let i : Instr := .wvote ⟨4, 2, 0, 0, 0, 1, 0, false⟩
    ∃ w, encode g 0 i = some w ∧ g.ok = true ∧ (wordChecks i w).all Chk.ok = true := ⟨_, rfl, by decide, by decide +kernel⟩

theorem witness_DecodeEncode : decodeWord nopWord = .ok .nop := by rfl

/-! ### The step -/

/-- What stands in a bundle when its turn comes: a word that decodes, one of no row and one with a reserved field. -/
theorem witness_StepRunsDecodedWord : ∀ x ∈ [(nopWord, Except.ok Instr.nop), (0xFFFFFFFFFFFFFFFF, .error .illop),
      (nopWord + 1, .error .rsvd)], let s := State.reset.withFetchWord 64 x.1.toNat
    let b := placedBundle 0 0 x.1
    s.tick.agenda = [.word 0] ∧ s.bundles.find? (fun y => y.id == 0) = some b ∧ b.marker = false ∧ b.members ≠ [] ∧ b.idx < b.n ∧
    b.bad = none ∧ decodeWord (b.words.getD b.idx 0) = x.2 := by
  intro x h
  fin_cases h <;> exact ⟨rfl, rfl, rfl, by decide, by decide, rfl, rfl⟩

/-- No lane of its team is single-stepped. -/
theorem witness_StepRunsDecodedWord_steps : (placedBundle 0 0 nopWord).members.map (·.team) = [0] ∧
    ((State.reset.withFetchWord 64 nopWord.toNat).tick.team 0).step = none := by decide +kernel

/-- The team of the bundle is not being flushed, or is. -/
theorem witness_StepRunsDecodedWord_flush : ∀ l ∈ [Leaving.no, .flush],
    let s := (State.reset.withFetchWord 64 nopWord.toNat).modTeam 0 fun t => { t with leaving := l }
    s.tick.agenda = [.word 0] ∧ ((∃ m ∈ (placedBundle 0 0 nopWord).members, (s.tick.team m.team).leaving = .flush) ↔ l = .flush) := by
  decide +kernel

/-- No frame is open, nothing is in transit, and no die has a watermark to send. -/
theorem witness_StepRunsDecodedWord_marks : State.reset.hub.frame = none ∧ State.reset.hub.charges = [] ∧
    (∀ d ∈ State.reset.dies, d.vsent = noMark) ∧ (∀ v ∈ State.reset.hub.vtaken, v = noMark) ∧
    ∀ v ∈ State.reset.hub.vlast, v = noMark := by
  exact ⟨rfl, rfl, by decide +kernel, fun _ h => List.eq_of_mem_replicate h, fun _ h => List.eq_of_mem_replicate h⟩

theorem witness_StepRunsDecodedWord_event :
    ({ State.reset with agenda := [.ev .pmTick { a := 3 }] } : State).tick.agenda = [.ev .pmTick { a := 3 }] := rfl

theorem witness_StepKeepsMemOk : ∃ t, (State.reset.withFetchWord 64 nopWord.toNat).memOk = true ∧
    step (State.reset.withFetchWord 64 nopWord.toNat) = .next t := ⟨_, by decide +kernel, rfl⟩

theorem witness_ByteMemory : cellsWf [(1, 2), (5, 7)] = true := by decide

theorem witness_ThreadStart : let s := three nopWord
    0 < s.teams.length ∧ 0 < (s.gridOf 0).waves ∧ 31 < 32 ∧ 32 * 0 + 31 < ((s.gridOf 0).nt + 3) / 4 * 4 ∧
    63 < 64 := by decide +kernel

/-! ### How a word ends -/

theorem witness_NopGoesOn_more : let s := world placedGrid { placedTeam with waves := [wave0 1 [lane0]] } (bundle0 1 [nopWord, nopWord])
    s.Ready ∧ s.bundle.members ≠ [] ∧ s.bundle.idx + 1 < s.bundle.n := ⟨ready_of (by decide +kernel), by decide, by decide⟩

theorem witness_NopGoesOn_switch : let s := lone (nopWord ||| 0x8000000000000000)
    s.Ready ∧ s.bundle.members ≠ [] ∧ s.guard.sw = true := ⟨ready_of (by decide +kernel), by decide, by decide +kernel⟩

theorem witness_ClauseEnds : let s := three nopWord
    let m := member0 3
    s.Ready ∧ s.bundle.members = [m] ∧ s.bundle.n ≤ s.bundle.idx + 1 ∧ s.guard.sw = false ∧ s.bundle.images = [] ∧ m.mask ≠ 0 ∧
    m.team < s.teams.length ∧ m.wave < (s.team m.team).waves.length ∧
    (s.wave m.team m.wave).entries.filter (fun x => x.slot == m.slot) = [entry0 3] ∧ (entry0 3).defer = 0 ∧
    ∀ k, m.mask.getLsbD k = true → s.bundle.nextPc m.team m.wave k = (0x1010, 0) :=
  ⟨ready_of (by decide +kernel), by decide +kernel, by decide +kernel, by decide +kernel, by decide +kernel, by decide +kernel,
    by decide +kernel, by decide +kernel, by decide +kernel, rfl, fun _ _ => rfl⟩

/-- A bundle parked on a switch marker whose wave's result is, or is not, outstanding, before a word and at the end of its clause. -/
def marked (busy : Bool) (idx : Nat) : State :=
  let s := world placedGrid { placedTeam with waves := [wave0 1 [lane0]] } (bundle0 1 [nopWord, nopWord])
  { s with
    bundles := [{ bundle0 1 [nopWord, nopWord] with idx, marker := true }], issue := none,
    ops := if busy then [{ id := 0, team := 0, wave := 0, ctr := .ld, clause := 0x1000, idx := 0, seq := 1, done := false, counts := true,
                           writes := true, regs := [⟨0, 4, 9⟩], preds := [], eccs := [], body := .plain }] else [] }

theorem witness_NopGoesOn_marker : ∀ busy : Bool, ∀ idx ∈ [1, 2], let s := marked busy idx
    let b : Bundle := { bundle0 1 [nopWord, nopWord] with idx, marker := true }
    (s.bundles.find? fun x => x.id == s.args.a && x.marker) = some b ∧ b.members ≠ [] ∧ (b.idx < b.n ↔ idx = 1) ∧
    (∀ m ∈ b.members, s.outstanding m.team m.wave = busy ∧ (s.team m.team).leaving ≠ .flush) ∧
    ((s.modTeam 0 fun t => { t with leaving := .flush }).team 0).leaving = .flush ∧
    ∀ m ∈ b.members, ∀ r ∈ memberRefs m, (s.lane r).ecc = none := by decide +kernel

/-! ### Control -/

theorem witness_BranchWords : let s := three nopWord
    s.Ready ∧ (∀ r ∈ s.active, (s.src64 r 4).toNat % 8 = 0) ∧ ∀ r ∈ s.active, (s.gridOf r.team).det = false :=
  ⟨ready_of (by decide +kernel), by decide +kernel, by decide +kernel⟩

theorem witness_ExitEndsLanes : let s := three nopWord
    s.Ready ∧ ∀ m ∈ s.bundle.members, ∀ l ∈ (s.wave m.team m.wave).lanes, l.arrival = none :=
  ⟨ready_of (by decide +kernel), by decide +kernel⟩

/-- A lane beside those that exit that has not arrived. -/
theorem witness_ExitEndsLanes_waited : let s := three nopWord
    ∃ k < 32, (⟨0, 0, k⟩ : Ref) ∉ s.active ∧ (s.lane ⟨0, 0, k⟩).ended = false ∧ (s.lane ⟨0, 0, k⟩).isHelper = false ∧
      (s.lane ⟨0, 0, k⟩).arrival = none := ⟨2, by decide, by decide +kernel⟩

/-- Lane 0 exits while lane 1 waits for it at SYNCW, or at WSYNCM. -/
theorem witness_ExitEndsLanes_last : ∀ mask ∈ [none, some (3 : BitVec 32)],
    let x := { entry0 2 with slot := 1, park := 3, why := .sync, flight := none }
    let s := world placedGrid { placedTeam with waves :=
      [{ wave0 1 [lane0, { lane0 with arrival := some ⟨0x1000, 0, mask⟩ }] with entries := [entry0 1, x] }] } (bundle0 1 [nopWord])
    s.Ready ∧ s.bundle.members = [member0 1] ∧ (member0 1).mask ≠ 0 ∧ s.active = memberRefs (member0 1) ∧
    (s.wave 0 0).entries = [entry0 1, x] ∧ (entry0 1).slot = 0 ∧ (entry0 1).mask = 1 ∧ (entry0 1).defer = 0 ∧ x.slot ≠ 0 ∧
    x.flight = none ∧ x.defer = 0 ∧ x.mask ≠ 0 ∧ (1 : BitVec 32) &&& x.mask = 0 ∧
    ∀ k < 32, let l := s.lane ⟨0, 0, k⟩
      if x.mask.getLsbD k then l.ended = false ∧ l.isHelper = false ∧ l.arrival = some ⟨0x1000, 0, mask⟩
      else (1 : BitVec 32).getLsbD k = true ∨ l.ended = true := by
  intro mask h
  fin_cases h <;> exact ⟨ready_of (by decide +kernel), by decide +kernel, by decide, by decide +kernel, rfl, rfl, rfl, rfl, by decide, rfl, rfl,
    by decide, by decide, by decide +kernel⟩

/-- A lane one call deep: its return address 0x3000 is on chip. -/
def called : State :=
  lone nopWord (l := { lane0 with sp := lane0.sp - 16, chip := [{ lo := 0x3001, hi := 0x2F00, frame := false }] })

/-- A lane on top of a trap frame in the firmware store, made at its word 2 by TRAP. -/
def trapped : State :=
  let s := lone nopWord (l := { lane0 with sp := lane0.sp - 32, chip := [⟨0, 0, true⟩, ⟨0, 0, true⟩] })
  s.modMem fun m => { m with fw := cellsWriteN [] 0x100E0 (leBytes 8 0x3002 ++ leBytes 8 0x1123 ++ leBytes 8 0x55 ++ leBytes 8 0x3000) }

/-- CALL and CALLI with room for one more entry; RET and RETT on what stands on the stack. -/
theorem witness_CallWords : let s := three nopWord
    s.Ready ∧ s.ops = [] ∧ s.bundle.clause.toNat % 8 = 0 ∧
    (∀ r ∈ s.active, ((s.stackBase r).toNat + 48 ≤ (s.lane r).sp.toNat ∧ s.spillCheck r 1 = none) ∧
      s.stackAbsent r (s.spillPlaces r 1) = none ∧ (s.src64 r 4).toNat % 8 = 0) ∧
    s.bundle.members.flatMap (s.transfers 0) = s.active :=
  ⟨ready_of (by decide +kernel), rfl, by decide +kernel, by decide +kernel, by decide +kernel⟩

theorem witness_CallWords_ret : called.Ready ∧ called.ops = [] ∧
    (∀ r ∈ called.active, called.stackAbsent r ((called.popPlaces r 1).drop 1) = none ∧ (called.retLane r).2.isOk = true) ∧
    (popEach State.retLane called called.active).map (·.2) = some [(me, 0x3000)] :=
  ⟨ready_of (by decide +kernel), rfl, by decide +kernel, by decide +kernel⟩

theorem witness_CallWords_rett : trapped.Ready ∧ trapped.ops = [] ∧
    (∀ r ∈ trapped.active, trapped.stackAbsent r (trapped.popPlaces r 2) = none ∧ (trapped.returnTrap r).2.isOk = true) ∧
    (popEach State.returnTrap trapped trapped.active).map (·.2) = some [(me, 0x3000, 3)] :=
  ⟨ready_of (by decide +kernel), rfl, by decide +kernel, by decide +kernel⟩

/-- A grid whose stacks lie where nothing is mapped, and a lane with entries on chip so many bytes above the base of its stack; its
g4 is a clause address, its g6 none. -/
def farStack (g : Grid) (chip : List Slot) (up : Nat) : State :=
  lone nopWord (g := g) (l := { lane0 with g := lane0.g.set 6 1, sp := stackBase g 0 0 + BitVec.ofNat 64 up, chip })

def farGrid : Grid := { placedGrid with stkBase := 0x1000000 }

def call0 : Slot := { lo := 0x3001, hi := 0x2F00, frame := false }

/-- A call with 47 bytes of room, and one whose lowest entry is to be spilled where nothing is mapped. -/
theorem witness_CallWords_traps : ∀ s ∈ [farStack placedGrid [] 47, farStack farGrid (List.replicate 4 call0) 192],
    s.Ready ∧ s.ops = [] ∧ s.bundle.members = [member0 1] ∧ s.active = [me] ∧ (s.lane me).isHelper = false ∧
    (∃ e, (s.wave 0 0).entry 0 = some e ∧ e.mask = 1) ∧ s.bundle.clause.toNat % 8 = 0 ∧
    s.bundle.members.flatMap (s.transfers 0) = [me] ∧ (s.src64 me 4).toNat % 8 = 0 ∧ (s.src64 me 6).toNat % 8 ≠ 0 ∧
    ((s.lane me).sp.toNat < (s.stackBase me).toNat + 48 ↔ (s.lane me).chip = []) ∧
    ((s.lane me).chip ≠ [] → (s.spillCheck me 1).isSome = true) := by
  intro s h
  fin_cases h <;> exact ⟨ready_of (by decide +kernel), rfl, rfl, by decide +kernel, by decide +kernel, ⟨_, rfl, rfl⟩, by decide +kernel,
    by decide +kernel, by decide +kernel, by decide +kernel, by decide +kernel, by decide +kernel⟩

/-- Returns whose entries are not mapped. -/
theorem witness_CallWords_unmapped : (let s := farStack farGrid [call0] 128
      s.Ready ∧ s.stackAbsent me (s.retPlaces me) = none ∧ (s.retLane me).2.isOk = false) ∧
    let s := farStack farGrid [] 128
    s.Ready ∧ s.stackAbsent me (s.rettPlaces me) = none ∧ (s.returnTrap me).2.isOk = false :=
  ⟨⟨ready_of (by decide +kernel), by decide +kernel, by decide +kernel⟩, ready_of (by decide +kernel), by decide +kernel, by decide +kernel⟩

/-- An empty stack, a frame where RET looks for a call, a call where RETT looks for a frame, and a frame that is none. -/
theorem witness_CallWords_kinds : (let s := lone nopWord; s.stackTop me = (s.lane me).sp) ∧
    (∃ x xs, (trapped.lane me).chip = x :: xs ∧ x.frame = true) ∧ (∃ x xs, (called.lane me).chip = x :: xs ∧ x.frame = false) ∧
    let s := trapped.modMem fun m => { m with fw := cellsWriteN m.fw 0x100E0 (leBytes 8 0x3001) }
    s.stackTop me ≠ (s.lane me).sp ∧ (s.lane me).chip.all (·.frame) = true ∧
    ((s.readDwords me (s.lane me).sp 2).2.toOption.map fun d => d.map fun x => x.toNat % 8) = some [1, 3] :=
  ⟨by decide +kernel, ⟨_, _, rfl, rfl⟩, ⟨_, _, rfl, rfl⟩, by decide +kernel, by decide +kernel, by decide +kernel⟩

/-- The first entry of a stack, and the third with two below it on chip. -/
theorem witness_CallWords_push : ∀ s ∈ [lone nopWord, called], s.has me ∧ (s.lane me).chip.length < 4 ∧
    16 ≤ (s.lane me).sp.toNat ∧ (s.lane me).sp.toNat ≤ (s.stackTop me).toNat ∧
    (s.stackTop me).toNat - (s.lane me).sp.toNat = 16 * (s.lane me).chip.length := by decide +kernel

/-- A trap with room for its frame, one without a handler, and one whose stack has 31 bytes of room. -/
theorem witness_TrapFrame : let s := lone nopWord
    s.has me ∧ (s.gridOf 0).handler ≠ 0 ∧ (s.stackBase me).toNat + 32 ≤ (s.lane me).sp.toNat ∧ s.spillCheck me 2 = none ∧
    s.checkDwords 0 ((s.lane me).sp - 32) 4 needW = none := by decide +kernel

/-- A trap of the word's first cause, and one behind it, which carries what the word reports. -/
theorem witness_TrapFrame_told : let x : Trap := { cause := .user, clause := 0x1000, idx := 0, rclause := 0x1000, ridx := 1 }
    let w : Report := { team := 0, wave := 0, lane := 3, cause := .user, addr := 0, write := false, fetch := false,
                        deferred := false, clause := 0x1000, idx := 0 }
    x.told = none ∧ ({ x with told := some w } : Trap).told = some w := ⟨rfl, rfl⟩

theorem witness_TrapFrame_fatal : (lone nopWord (g := { placedGrid with handler := 0 })).has me ∧
    ((lone nopWord (g := { placedGrid with handler := 0 })).team 0).fatal = none ∧
    (let s := lone nopWord (l := { lane0 with sp := stackBase placedGrid 0 0 + 31 })
     s.has me ∧ (s.gridOf 0).handler ≠ 0 ∧ (s.lane me).sp.toNat < (s.stackBase me).toNat + 32 ∧ (s.team 0).fatal = none) := by
  decide +kernel

/-- An operation of the wave that loads a register. -/
def loadOp (done : Bool) : Op :=
  { id := 0, team := 0, wave := 0, ctr := .ld, clause := 0x1000, idx := 0, seq := 1, done, counts := true, writes := true,
    regs := [⟨0, 4, 9⟩], preds := [], eccs := [], body := .plain }

/-- A lane with a cause pending. -/
def pending (ops : List Op) : State :=
  { lone nopWord (l := { lane0 with trap := some { cause := .user, clause := 0x1000, idx := 0, rclause := 0x1000, ridx := 1 } }) with
    ops }

theorem witness_TrapWords : (∃ x, ((pending []).lane me).trap = some x) ∧ ((pending []).team 0).place = .resident ∧ (pending [loadOp false]).ops.length = 1 ∧
    (loadOp false).team = 0 ∧ (loadOp false).wave = 0 ∧ (loadOp false).writes = true ∧ (loadOp false).done = false ∧
    ((lone nopWord).lane me).trap = none ∧ me = ⟨(pending []).args.a, (pending []).args.b, (pending []).args.c⟩ ∧
    (pending []).stackAbsent me ((pending []).pushPlaces me 2) = none ∧ (pending []).ops = [] :=
  ⟨⟨_, rfl⟩, rfl, rfl, rfl, rfl, rfl, rfl, rfl, rfl, by decide +kernel, rfl⟩

/-- A lane whose stack lies in its scratchpad, below 256, on a line whose presence bit is clear. -/
theorem witness_TrapWords_absent :
    let s := lone nopWord (g := { placedGrid with stkBase := 0xFFFFFE0000000000 }) (f := fun t => { t with absentLines := [1] })
      (l := { lane0 with sp := 0xFFFFFE0000000100, trap := some { cause := .user, clause := 0x1000, idx := 0, rclause := 0x1000, ridx := 1 } })
    (s.team 0).place = .resident ∧ (s.lane me).trap.isSome = true ∧ s.ops = [] ∧ (s.gridOf 0).handler ≠ 0 ∧
    (s.stackBase me).toNat + 32 ≤ (s.lane me).sp.toNat ∧ s.spillCheck me 2 = none ∧
    s.checkDwords 0 ((s.lane me).sp - 32) 4 needW = none ∧ s.stackAbsent me (s.pushPlaces me 2) = some (0, 1) := by decide +kernel

theorem witness_PrivilegedWordsTrap : let s := lone nopWord (g := { placedGrid with priv := false })
    s.Ready ∧ s.issueGrid.priv = false ∧ s.active ≠ [] ∧ privOf (.mbsend ⟨0, 0, 0, 0, 0, 0⟩) = true :=
  ⟨ready_of (by decide +kernel), by decide +kernel, by decide +kernel, by decide⟩

/-! ### Special registers, predicates, context -/

/-- The pair g2 of the lane points to byte 0 of its scratchpad. -/
theorem witness_SpecialRegisterWords : let s := lone nopWord
    s.Ready ∧ s.active = [me] ∧ (s.lane me).isHelper = false ∧ s.lintOn 0 = false ∧ (∀ op ∈ s.ops, op.accs = []) ∧
    ∀ need ∈ [needR, needW], s.Grants [{ r := me, va := s.src64 me 2, n := 16, al := 16, need }] fun _ => .spad 0 0 :=
  ⟨ready_of (by decide +kernel), by decide +kernel, by decide +kernel, by decide +kernel, by decide +kernel, fun need h => by
    fin_cases h <;> exact grants_of (by decide +kernel)⟩

/-- An image that names the lane: MASK 1, clause 0x1008 (R178). -/
def imager : State :=
  lone nopWord (l := { lane0 with g := ((lane0.g.set 8 1).set 10 0x1008).set 13 0x80000000 })

theorem witness_ContextWords : imager.Ready ∧ imager.issueGrid.priv = true ∧ imager.bundle.members = [member0 1] ∧
    imager.activeOf (member0 1) = [me] ∧
    imageOk ((List.range 8).map fun k => imager.rawReg me (8 + k)) (maskOf ((imager.activeOf (member0 1)).map (·.lane)))
      (imager.bundle.named 0 0) = true :=
  ⟨ready_of (by decide +kernel), by decide +kernel, by decide +kernel, by decide +kernel, by decide +kernel⟩

/-- An image whose MASK is 0. -/
theorem witness_ContextWords_bad : let s := lone nopWord
    s.Ready ∧ s.issueGrid.priv = true ∧ s.bundle.members = [member0 1] ∧ s.activeOf (member0 1) = [me] ∧
    imageOk ((List.range 8).map fun k => s.rawReg me (8 + k)) (maskOf ((s.activeOf (member0 1)).map (·.lane)))
      (s.bundle.named 0 0) = false :=
  ⟨ready_of (by decide +kernel), by decide +kernel, rfl, by decide +kernel, by decide +kernel⟩

/-! ### Memory words -/

/-- The wave's performing lane. -/
theorem lone_alone (w : DWord) (h : (lone w).activeOf (member0 1) = [me]) : (lone w).Alone (member0 1) me :=
  ⟨rfl, by rw [h]; rfl⟩

/-- Loads and stores of 32 bits at g2: byte 0 of the scratchpad window. -/
def word32 : FM := ⟨6, 2, 0, 2, 0, 0, false⟩

theorem witness_LoadWords : let s := three nopWord
    s.Ready ∧ s.counterFull .ld = false ∧ s.Grants (s.active.map (s.askOf word32 needR false)) fun _ => .spad 0 0 :=
  ⟨ready_of (by decide +kernel), by decide +kernel, grants_of (by decide +kernel)⟩

theorem witness_LoadWords_ldw : let s := lone nopWord
    s.Ready ∧ s.counterFull .ld = false ∧ s.Alone (member0 1) me ∧ s.Grants [{ s.askOf word32 needR false me with once := true }] fun _ => .spad 0 0 :=
  ⟨ready_of (by decide +kernel), by decide +kernel, lone_alone _ (by decide +kernel), grants_of (by decide +kernel)⟩

theorem witness_LoadWords_value : ∀ x ∈ [(0, 1), (1, 2), (2, 4), (3, 8), (5, 32)], let s := lone nopWord
    let a := s.askOf { word32 with sz := BitVec.ofNat 3 x.1 } needR false me
    s.lintOn a.r.team = false ∧ (∀ op ∈ s.ops, op.accs = []) ∧ a.n = x.2 ∧ (2 < x.2 → a.n = 4 * (x.2 / 4) ∧ 0 < x.2 / 4) := by
  decide +kernel

/-- A load of the wave that waits to return. -/
def loading : State := { lone nopWord with ops := [loadOp false], issue := none }

theorem witness_LoadWords_return : let op := loadOp false
    loading.ops = [op] ∧ op.id = loading.args.a ∧ op.done = false ∧ op.body = .plain ∧ op.counts = true ∧ op.eccs = [] ∧ op.preds = [] ∧
    (∀ x ∈ op.regs, x.lane < 32 ∧ x.sel < 128) ∧ op.team < loading.teams.length ∧ op.wave < (loading.team op.team).waves.length ∧
    (loading.lane me).ended = false := by decide +kernel

theorem witness_StoreWords : let s := three nopWord
    s.Ready ∧ s.counterFull .st = false ∧
    s.Grants ((s.active.filter fun r => !((s.lane r).helper || (s.lane r).bound)).map (s.askOf word32 needW false))
      fun _ => .spad 0 0 :=
  ⟨ready_of (by decide +kernel), by decide +kernel, grants_of (by decide +kernel)⟩

/-- A store of four bytes at the top of a scratchpad of 32 KiB. -/
def acc0 : StAcc := { lane := 0, va := 0xFFFFFE0000007FFC, tgt := .spad 0 0x7FFC, bytes := [1, 2, 3, 4], cc := 0 }

def storeOp : Op := { loadOp false with ctr := .st, writes := false, regs := [], body := .store [acc0] }

theorem witness_StoreWords_performed : let s : State := { lone nopWord with ops := [storeOp], issue := none }
    s.liveOp s.args.a = some storeOp ∧ 0 < s.teams.length ∧ cellsWf (s.team 0).spad = true ∧
    (∀ x ∈ s.ops, x.id = storeOp.id ∨ x.accs = []) ∧ (s.ops.filter fun x => x.id == storeOp.id) = [storeOp] := by decide +kernel

/-- WBACK at g4: byte 0 of the firmware store. The prefetch of ShuttleWordsComplete needs no more than that a word issues. -/
theorem witness_LineWords : let s := three nopWord
    s.Ready ∧ s.ops = [] ∧ s.counterFull .st = false ∧ ∀ r ∈ s.active.filter (fun r => !((s.lane r).helper || (s.lane r).bound)),
      let va := s.src64 r 4 + (0 : BitVec 20).signExtend 64
      inWindow va = false ∧ s.resolve r.team va 1 needR false = .ok (.fw 0) :=
  ⟨ready_of (by decide +kernel), rfl, by decide +kernel, by decide +kernel⟩

theorem witness_MisalignedAccess : let s := lone nopWord
    s.Ready ∧ s.active = [me] ∧ (s.lane me).isHelper = false ∧ (s.gridOf 0).det = false ∧ s.counterFull .ld = false ∧
    s.counterFull .st = false ∧ (s.src64 me 2 + (1 : BitVec 20).signExtend 64).toNat % 2 ^ (2 : BitVec 3).toNat ≠ 0 :=
  ⟨ready_of (by decide +kernel), by decide +kernel, by decide +kernel, by decide +kernel, by decide +kernel, by decide +kernel,
    by decide +kernel⟩

theorem witness_CacheAndWalkEvents : let b := { bundle0 1 [nopWord] with walks := [(0, 5)] }
    let s := world placedGrid placedTeam b
    s.args.flag = false ∧ ({ s with args := { flag := true } } : State).args.flag = true ∧
    (∀ b ∈ s.bundles, b.id ≠ ({ s with args := { a := 7 } } : State).args.a) ∧
    (s.bundles.find? fun b => b.id == s.args.a) = some b ∧ b.walks = [(0, 5)] := by decide +kernel

/-! ### Synchronisation -/

/-- An atomic at byte 0 of the scratchpad, at team scope. -/
def atom32 : FM := { word32 with scope := 2 }

theorem witness_AtomicWords : let s := three nopWord
    s.Ready ∧ s.counterFull .ld = false ∧
    s.Grants ((s.active.filter fun r => !((s.lane r).helper || (s.lane r).bound)).map (s.askOf atom32 needRW true))
      fun _ => .spad 0 0 :=
  ⟨ready_of (by decide +kernel), by decide +kernel, grants_of (by decide +kernel)⟩

/-- The same with release order. -/
theorem witness_AtomicWords_release : let s := three nopWord
    let u := s.releaseWord 2
    s.Ready ∧ s.counterFull .ld = false ∧ s.ops = [] ∧
    (∀ r ∈ s.active, s.governed (s.askOf { atom32 with cc := 2 } needRW true r) = false) ∧ u.Ready ∧
    u.Grants ((u.active.filter fun r => !((u.lane r).helper || (u.lane r).bound)).map (u.askOf { atom32 with cc := 2 } needRW true))
      fun _ => .spad 0 0 :=
  ⟨ready_of (by decide +kernel), by decide +kernel, rfl, by decide +kernel, ready_of (by decide +kernel),
    grants_of (by decide +kernel)⟩

theorem witness_AtomicWords_spad : let s := lone nopWord
    s.lintOn 0 = false ∧ ∀ x ∈ s.ops, x.accs = [] := by decide +kernel

/-- A FENCE needs no place; ACQ.REMOTE at g4, in the firmware store. -/
theorem witness_FenceWords : let s := three nopWord
    let o : FM := ⟨6, 4, 0, 2, 0, 0, false⟩
    let own := s.active.filter fun r => !((s.lane r).helper || (s.lane r).bound)
    let u := (wavesOf own).foldl (fun u w => u.release w.1 w.2 5) s
    s.Ready ∧ s.ops = [] ∧ (∀ m ∈ s.bundle.members, (s.wave m.team m.wave).rperm = none ∧ (u.wave m.team m.wave).rperm = none) ∧
    s.counterFull .ld = false ∧ s.Grants (s.active.map (s.askOf o needR true)) (fun _ => .fw 0) ∧
    ∀ r ∈ s.active, inWindow (s.askOf o needR true r).va = false :=
  ⟨ready_of (by decide +kernel), rfl, by decide +kernel, by decide +kernel, grants_of (by decide +kernel), by decide +kernel⟩

/-- MWAIT at byte 0, which reads 0: g6 holds 0 in one lane and 1 in the other. -/
theorem witness_MonitorWaits : ∀ g6 ∈ [(0 : Word), 1], let s := lone nopWord (l := { lane0 with g := lane0.g.set 6 g6 })
    s.Ready ∧ s.active = [me] ∧ (s.lane me).isHelper = false ∧ s.lintOn 0 = false ∧ (∀ x ∈ s.ops, x.accs = []) ∧
    (s.lane me).mon = none ∧ (s.gridOf 0).det = false ∧ s.monitors (s.team 0).die (s.team 0).core < 128 ∧
    s.Grants [s.askOf atom32 needR true me] (fun _ => .spad 0 0) ∧
    (BitVec.ofNat 32 (leNat (cellsReadN (s.team 0).spad 0 4)) = s.rawReg me atom32.rd.toNat ↔ g6 = 0) := by
  intro g6 h
  fin_cases h <;> exact ⟨ready_of (by decide +kernel), by decide +kernel, by decide +kernel, by decide +kernel, by decide +kernel,
    by decide +kernel, by decide +kernel, by decide +kernel, grants_of (by decide +kernel), by decide +kernel⟩

/-- A wake for no entry, for one that waits elsewhere, and for one whose lanes are parked by MWAIT. -/
theorem witness_MonitorWaits_wake : ∀ park ∈ [0, 2],
    let e := { entry0 1 with park, flight := none }
    let s := world placedGrid { placedTeam with waves := [{ wave0 1 [lane0] with entries := [e] }] } (bundle0 1 [nopWord])
    (s.wave s.args.a s.args.b).entry s.args.c = some e ∧ (s.team s.args.a).place = .resident ∧
    (s.team 1).place ≠ .resident ∧ (s.modTeam 0 fun t => { t with frozen := true }).mayGo s.args.a s.args.b e = false ∧
    (s.wave 0 0).entry 1 = none := by decide +kernel

/-- The word MWAIT g4, [g2] of 32 bits at device scope, whose lane waits on byte 0 of its scratchpad. -/
def mwaitWord : DWord := 0x6041A0804000008A

theorem witness_MonitorWaits_final :
    let m : Monitor := { addr := 0xFFFFFE0000000000, seen := 0, tgt := .spad 0 0, n := 4, woken := false }
    let e := { entry0 1 with park := 2, why := .monitor mwaitWord, flight := none }
    let o : FM := { rd := 4, base := 2, off := 0, sz := 2, cc := 0, scope := 5, sx := false }
    let s : State := { world placedGrid { placedTeam with waves := [{ wave0 1 [{ lane0 with mon := some m }] with entries := [e] }] }
      (bundle0 1 [nopWord]) with bundles := [], issue := none }
    s.Quiet ∧ (s.wave 0 0).entries = [e] ∧ e.slot = s.args.c ∧ e.mask = 1 <<< 0 ∧ e.flight = none ∧ e.defer = 0 ∧ decodeWord mwaitWord = .ok (.mwait o) ∧
    (guardOfWord mwaitWord).sw = false ∧ guardHolds (guardOfWord mwaitWord) (s.lane me) = true ∧ (s.lane me).mon = some m ∧
    (s.lane me).ended = false ∧ (s.lane me).isHelper = false ∧ (s.team 0).pickable = true ∧ (s.gridOf 0).det = false ∧
    s.lintOn 0 = false ∧ (∀ x ∈ s.ops, x.accs = []) ∧ o.rd.toNat < (s.lane me).g.length ∧
    s.window 0 (s.askOf o needR true me).va 4 = some (some (0, 0)) ∧ (s.askOf o needR true me).va.toNat % 4 = 0 ∧
    s.absentAt (.spad 0 0) 4 = none :=
  ⟨⟨by decide +kernel, by decide +kernel, by decide +kernel⟩, rfl, rfl, rfl, rfl, rfl, by decide +kernel, by decide +kernel, by decide +kernel, rfl, by decide +kernel,
    by decide +kernel, by decide +kernel, rfl, by decide +kernel, by decide +kernel, by decide +kernel, by decide +kernel, by decide +kernel,
    by decide +kernel⟩

/-- SYNCW and WSYNCM of one lane, whose g6 names lanes 0 and 1, alone in its wave or beside another in an entry of its own. -/
def syncing (other : Option Lane) : State :=
  let lanes := { lane0 with g := lane0.g.set 6 3 } :: other.toList
  let entry := fun (l : Lane) =>
    let waits := l.arrival.isSome
    { entry0 2 with slot := 1, flight := none, park := if waits then 3 else 0, why := if waits then .sync else .none }
  world placedGrid { placedTeam with waves := [{ wave0 1 lanes with entries := entry0 1 :: other.toList.map entry }] }
    (bundle0 1 [nopWord])

/-- A lane that has arrived at SYNCW or WSYNCM. -/
def arrivedAt (clause : DWord) (idx : Nat) (mask : Option (BitVec 32)) : Lane := { lane0 with arrival := some ⟨clause, idx, mask⟩ }

/-- No other lane, one that has not arrived, one that has at the same SYNCW, and one at another WSYNCM with the same mask or with
a mask that conflicts. -/
def mates : List (Option Lane) :=
  [none, some lane0, some (arrivedAt 0x1000 0 none), some (arrivedAt 0x2000 1 (some 3)), some (arrivedAt 0x2000 1 (some 7))]

theorem witness_ReconvergenceWords : ∀ x ∈ mates, let s := syncing x
    let m := member0 1
    let e := entry0 1
    let es := (s.wave m.team m.wave).entries
    s.Ready ∧ s.NoStores ∧ s.bundle.members = [m] ∧ s.active = [me] ∧ (s.lane me).isHelper = false ∧
    (s.wave m.team m.wave).rperm = none ∧ (s.gridOf m.team).det = false ∧ m.mask = 1 <<< me.lane ∧ e ∈ es ∧ e.slot = m.slot ∧
    e.mask = m.mask ∧ e.defer = 0 ∧ es.Pairwise (fun x y => x.slot ≠ y.slot ∧ x.mask &&& y.mask = 0) ∧
    (∀ x ∈ es, x ≠ e → x.defer = 0 ∧ ((x.park = 3 ∧ x.flight = none ∧ ∃ a ∈ [(s.lane ⟨0, 0, 1⟩).arrival], a.isSome = true ∧
        ∀ k < 32, x.mask.getLsbD k = true → (s.lane ⟨0, 0, k⟩).ended = false ∧ (s.lane ⟨0, 0, k⟩).arrival = a) ∨
      ∀ k < 32, x.mask.getLsbD k = true → (s.lane ⟨0, 0, k⟩).arrival = none)) ∧
    ∀ k < 32, (s.lane ⟨0, 0, k⟩).ended = false → ∃ x ∈ es, x.mask.getLsbD k = true := by
  intro x h
  fin_cases h <;> exact ⟨ready_of (by decide +kernel), fun _ h => by simp [syncing, world, State.reset] at h, rfl, by decide +kernel,
    by decide +kernel, by decide +kernel, by decide +kernel, by decide +kernel, by decide +kernel, rfl, rfl, rfl, by decide +kernel,
    by decide +kernel, by decide +kernel⟩

/-- Which of them let the lane go on at SYNCW. -/
theorem witness_ReconvergenceWords_all : ∀ x ∈ mates, (∀ q < 32, ((syncing x).lane ⟨0, 0, q⟩).ended = false →
      ((syncing x).lane ⟨0, 0, q⟩).isHelper = false →
      (if q = 0 then some ⟨0x1000, 0, none⟩ else ((syncing x).lane ⟨0, 0, q⟩).arrival) = some ⟨0x1000, 0, none⟩) ↔
    x ∈ [none, some (arrivedAt 0x1000 0 none)] := by decide +kernel

/-- Which of them a WSYNCM of g6 does not wait for: each is lane 1, which g6 names. -/
theorem witness_ReconvergenceWords_named : ∀ x ∈ mates, ((syncing x).src me .i32 6 0).getLsbD 1 = true ∧
    (((syncing x).lane ⟨0, 0, 1⟩).ended = true ∨
        ((syncing x).lane ⟨0, 0, 1⟩).arrival.map (·.mask) = some (some ((syncing x).src me .i32 6 0)) ↔
      x ∈ [none, some (arrivedAt 0x2000 1 (some 3))]) := by decide +kernel

/-- A mask that leaves its lane out; one that names an absent lane; one that conflicts with lane 1's. -/
theorem witness_ReconvergenceWords_bad : ∀ x ∈ mates, let s := syncing x
    (s.src me .i32 4 0).getLsbD 0 = false ∧ (s.src me .i32 6 0).getLsbD 0 = true ∧
    ((s.lane ⟨0, 0, 1⟩).absent = true ↔ x = none) ∧
    (((s.lane ⟨0, 0, 1⟩).arrival.bind (·.mask)).any (fun k => k.getLsbD 0 && k != s.src me .i32 6 0) = true ↔
      x = some (arrivedAt 0x2000 1 (some 7))) := by decide +kernel

/-! ### Barriers -/

/-- A lane at barrier 15; g4 holds 0, the present generation, and constant 225 the next. -/
theorem witness_BarrierWords : let s := lone nopWord
    let b := (s.team 0).bars.getD 15 (Barrier.init 0)
    s.Ready ∧ s.bundle.members = [member0 1] ∧ s.active = [me] ∧ (s.lane me).isHelper = false ∧ (s.wave 0 0).rperm = none ∧
    (s.gridOf 0).det = false ∧ s.NoStores ∧ 15 < (s.team 0).bars.length ∧ 0 ≤ (b.gen - s.src me .i32 4 0).toInt ∧
    (b.gen - s.src me .i32 225 0).toInt < 0 :=
  ⟨ready_of (by decide +kernel), by decide +kernel, by decide +kernel, by decide +kernel, by decide +kernel, by decide +kernel,
    fun _ h => by simp [lone, world, State.reset] at h, by decide +kernel, by decide +kernel, by decide +kernel⟩

theorem witness_BarrierWords_image : let s := lone nopWord
    s.Ready ∧ s.issueGrid.priv = true ∧ s.Alone (member0 1) me ∧ s.lintOn 0 = false ∧ (∀ x ∈ s.ops, x.accs = []) ∧
    ∀ need ∈ [needR, needW], s.Grants [{ r := me, va := s.src64 me 2 + 0, n := 16, al := 16, need, once := true, exempt := true }] fun _ => .spad 0 0 :=
  ⟨ready_of (by decide +kernel), by decide +kernel, lone_alone _ (by decide +kernel), by decide +kernel, by decide +kernel,
    fun need h => by fin_cases h <;> exact grants_of (by decide +kernel)⟩
/-! ### The Shuttle -/

/-- The firmware store from an address on. -/
def stored (a : Nat) (b : List Byte) (s : State) : State := s.modMem fun m => { m with fw := cellsWriteN [] a b }

/-- A lane with registers set. -/
def regs0 (xs : List (Nat × Word)) : Lane := { lane0 with g := xs.foldl (fun g x => g.set x.1 x.2) lane0.g }

/-- CPY.L of 16 bytes at address 0 to the scratchpad, at team scope (R314, R317). -/
def copier : State := lone nopWord (l := regs0 [(9, 0xFFFFFE00), (10, 16)])

/-- CPY.T of 16 elements of one byte, by a layout record at 0x40 of data at 0x1000 (R313). -/
def boxer : State :=
  stored 0x40 (leBytes 8 0x1000 ++ leBytes 8 0 ++ leBytes 8 0 ++ leBytes 4 16 ++ leBytes 4 1 ++ leBytes 8 1 ++ leBytes 24 0)
    (lone nopWord (l := regs0 [(4, 0x40), (11, 16), (12, 1), (13, 1), (15, 0xFFFFFE00)]))

def planOf (a : DWord) : Plan :=
  { runs := [{ src := some a, off := 0, n := 16 }], scales := [], bounds := [], dst := 0xFFFFFE0000000000, total := 16, planes := 8 }

/-- What every copy needs, and what stands in front of none here. -/
def copies (s : State) : Bool :=
  readyB s && s.ops.isEmpty && !s.cpWaits && s.bundle.members.all (fun m => (s.wave m.team m.wave).rperm.isNone) &&
    s.active == [me] && s.active.all (fun r => !(s.gridOf r.team).det && (s.team r.team).handles.all fun x => x.state != 3) &&
    decide (s.copiesOn s.bundle.die s.bundle.core + (s.active.filter fun r => !((s.lane r).helper || (s.lane r).bound)).length
      ≤ Config.coreCopies)

theorem witness_CopyWords : copies copier = true ∧ copies boxer = true ∧
    copier.probeL ⟨0, 4, 8, 0, 0, 0x200⟩ me = .ok (planOf 0) ∧ boxer.probeT ⟨0, 4, 8, 0, 0, 0x200⟩ me = .ok (planOf 0x1000) := by
  decide +kernel

/-- Records at an address that is no multiple of 64, in a window, and of zeros, which are no layout; a copy of no byte, and of one
byte more than there may be; a source that is no multiple of 16. -/
theorem witness_CopyWords_causes : (let s := lone nopWord (l := regs0 [(6, 0x20)])
      (s.src64 me 6).toNat % 64 ≠ 0 ∧ (s.src64 me 2).toNat % 64 = 0 ∧ s.engRead 0 (s.src64 me 2) 64 = .bad .window false ∧
      (s.src64 me 4).toNat % 64 = 0 ∧ s.engRead 0 (s.src64 me 4) 64 = .ok (List.replicate 64 0) ∧ layoutOf (List.replicate 64 0) = none) ∧
    (let s := lone nopWord (l := regs0 [(9, 0xFFFFFE00)])
     copies s = true ∧ (s.planL ⟨0, 4, 8, 0, 0, 0x200⟩ me).total = 0) ∧
    2 ^ 24 < ((lone nopWord (l := regs0 [(10, 0x1000001)])).planL ⟨0, 4, 8, 0, 0, 0x200⟩ me).total := by decide +kernel

/-- The last piece of a copy, into the last line of a scratchpad; and a copy without pieces. -/
def piece0 : Piece := { src := some (.fw 0), fill := 0, va := 0xFFFFFE0000007FF0, dst := .spad 0 0x7FF0, hnd := none, n := 16 }

def copy0 (ps : List Piece) : Copy := { lane := 0, bar := none, pieces := ps, lines := [(0, 255)], hnd := none, keys := [] }

def engineOp (c : Ctr) (b : OpBody) : Op := { loadOp false with ctr := c, writes := false, regs := [], body := b }

/-- The wave's lane has one operation of an engine outstanding. -/
def engaged (op : Op) (f : Team → Team := id) : State := { lone nopWord (f := f) with ops := [op], issue := none }

theorem witness_CopyWords_arrival : let op := engineOp .cp (.copies [copy0 [piece0]])
    let s := engaged op
    s.liveOp s.args.a = some op ∧ (copy0 [piece0]).lane = s.args.b ∧ s.args.c = 0 ∧ s.absentAt (.fw 0) 16 = none ∧
    s.nowTarget (.fw 0) 16 = some (List.replicate 16 0) ∧ (List.replicate 16 (0 : Byte)).length = piece0.n ∧ 0 < s.teams.length ∧
    cellsWf (s.team 0).spad = true ∧ (s.ops.filter fun x => x.id == op.id) = [op] := by decide +kernel

theorem witness_CopyWords_complete : ∀ ps ∈ [[], [piece0]], let op := engineOp .cp (.copies [copy0 ps])
    let s := engaged op
    s.liveOp s.args.a = some op ∧ ((∃ c ∈ [copy0 ps], c.pieces ≠ []) ↔ ps ≠ []) ∧ (copy0 ps).keys = [] := by decide +kernel

/-- OBREL or OBSTATE.full of h3 (R321). -/
def h3Word : DWord := 0x6050600000030000

/-- A team whose handle 3 is as given. -/
def withHandle (x : Handle) (t : Team) : Team := { t with handles := t.handles.set 3 x }

/-- Every word on handles has its lane alone and nothing before it. -/
theorem witness_HandleWords : ∀ st ∈ [0, 1, 2], let s := lone h3Word (f := withHandle { Handle.blank with state := st })
    s.Ready ∧ s.Alone (member0 1) me ∧ s.cpWaits = false ∧ (faOfWord s.word).h = 3 ∧ (s.handle 0 3).state = st :=
  fun st h => by fin_cases h <;> exact ⟨ready_of (by decide +kernel), ⟨rfl, by decide +kernel⟩, by decide +kernel, by decide +kernel, by decide +kernel⟩

/-- OBRES of 64 granules with room, of 65 with too little once another handle has one; blocked format 3 with its scales at 1. -/
theorem witness_HandleWords_obres : let s := lone h3Word (l := regs0 [(8, 64), (9, 64 * 4096)])
    (s.handle 0 3).state = 0 ∧ 0 < ((s.lane me).gr 8).toNat ∧ ((s.lane me).gr 9).toNat ≤ ((s.lane me).gr 8).toNat * 4096 ∧
    (blockedFmt (bitsOf 0x2B 0 3) = true → bitsOf 0x2B 5 6 < ((s.lane me).gr 8).toNat) ∧
    s.granules (s.team 0).die (s.team 0).core + ((s.lane me).gr 8).toNat ≤ 64 ∧
    64 < (lone h3Word (f := fun t => { t with handles := t.handles.set 5 { Handle.blank with state := 1, gcnt := 1 } })).granules 0 0 +
      ((s.lane me).gr 8).toNat := by decide +kernel

/-- OBRES of no granule, of too many, of more bytes than they hold, and with its scales outside them; a word on a free handle. -/
theorem witness_HandleWords_layout :
    (∀ x ∈ [(0, 0), (65, 0), (1, 4097)], let s := lone h3Word (l := regs0 [(8, BitVec.ofNat 32 x.1), (9, BitVec.ofNat 32 x.2)])
      let g := ((s.lane me).gr 8).toNat
      g = 0 ∨ 64 < g ∨ g * 4096 < ((s.lane me).gr 9).toNat) ∧
    (let s := lone h3Word (l := regs0 [(8, 1)])
     blockedFmt (bitsOf 0x2B 0 3) = true ∧ ((s.lane me).gr 8).toNat ≤ bitsOf 0x2B 5 6) ∧
    ((lone h3Word).handle 0 3).state = 0 := by decide +kernel

/-- Multiplications still to read the handle, or none. -/
theorem witness_HandleWords_mxout : ∀ n ∈ [0, 255], let s := lone h3Word (f := withHandle { Handle.blank with state := 2, mxout := n })
    (s.handle 0 3).state = 2 ∧ (s.handle 0 3).mxout = n := by decide +kernel

/-- Also for ShuttleWordsComplete, as the next one is. -/
theorem witness_PresenceWords : let s := lone nopWord
    s.Ready ∧ s.Alone (member0 1) me ∧ s.cpWaits = false ∧ s.NoStores ∧ (s.wave 0 0).rperm = none ∧
    s.presenceLines ⟨0, 2, 225, 0, 0, 0⟩ me = .ok (some (0, 0, 1)) ∧
    ∀ r ∈ s.active, s.window r.team (s.src64 r 2) 1 = some (some (0, 0)) :=
  ⟨ready_of (by decide +kernel), ⟨rfl, rfl⟩, by decide +kernel, fun _ h => by simp [lone, world, State.reset] at h, by decide +kernel,
    by rfl, by decide +kernel⟩

/-- WAITC with a counter at its bound, and one above it. -/
theorem witness_PresenceWords_waitc : ∀ n ∈ [5, 6], let s := lone nopWord (f := fun t =>
      { t with waves := t.waves.map fun w => { w with ctrs := w.ctrs.set 2 n } })
    s.Ready ∧ s.bundle.members = [member0 1] ∧ s.active ≠ [] ∧ (s.wave 0 0).allow = none ∧ (s.wave 0 0).rperm = none ∧
    (∀ r ∈ memberRefs (member0 1), (s.lane r).ecc = none) ∧ (s.team 0).acqKeys = [] ∧
    ((s.wave 0 0).ctrs.getD (bitsOf 0x85 6 3) 0 ≤ bitsOf 0x85 0 6 ↔ n = 5) ∧
    (∃ e, (s.wave 0 0).entry 0 = some e ∧ e.mask = 1) := by
  intro n h
  fin_cases h <;> exact ⟨ready_of (by decide +kernel), rfl, by decide +kernel, by decide +kernel, by decide +kernel, by decide +kernel,
    by decide +kernel, by decide +kernel, _, rfl, rfl⟩

/-- OBSTATE.full on a handle that is, or is not, still to be full. -/
theorem witness_PresenceWords_perform : ∀ full : Bool, let op := engineOp .cp (.shuttle [(0, 4095, 1, true)] [3])
    let s := engaged op (f := withHandle { Handle.blank with state := 1, full })
    s.liveOp s.args.a = some op ∧ (∀ h ∈ [3], (s.handle op.team h).full = full) ∧ 0 < s.teams.length ∧ 4095 < 4096 := by decide +kernel

/-- WBACK of address 0, which an extent of the grid translates to physical address 0. -/
theorem witness_ShuttleWordsComplete :
    let s := lone nopWord (g := { placedGrid with firmware := false, dieExtents := [(0, [{ base := 0, len := 65536, w := true, pages := [0] }])] })
    s.Ready ∧ s.ops = [] ∧ s.active = [me] ∧ s.counterFull .st = false ∧ (let va := s.src64 me 4 + (0 : BitVec 20).signExtend 64
      inWindow va = false ∧ s.resolve 0 va 1 needR false = .ok (.phys 0)) :=
  ⟨ready_of (by decide +kernel), rfl, by decide +kernel, by decide +kernel, by decide +kernel⟩

/-- The operations that PRSET and PRCLR leave behind, on the window's last line (the other clauses: `witness_PresenceWords`). -/
theorem witness_ShuttleWordsComplete_perform : ∀ set : Bool, let op := engineOp .cp (.shuttle [(0, 4095, 1, set)] [])
    let s := engaged op
    s.liveOp s.args.a = some op ∧ s.resultWaits op = false ∧ 0 < s.teams.length ∧ 4095 + 1 ≤ 4096 := by decide +kernel

/-! ### Mangle -/

/-- A full handle of one granule for each A type, with the word that reads it: 64 by 64 elements of 8 bits, or of 16. -/
def multiplier (aty : Nat) : State :=
  lone nopWord (f := withHandle { Handle.blank with state := 2, fmt := if aty < 3 then 0 else 1, gcnt := 1 })

def mxOperands (aty : Nat) : FX := ⟨if aty < 3 then 0 else 3, 15, 96, 3, 0, 8, 2, 0, true, false, 1⟩

/-- Also for MatrixWordsComplete. -/
theorem witness_MatrixWords : ∀ aty ∈ [0, 1, 2, 3, 4], let s := multiplier aty
    let o := mxOperands aty
    let x := s.handle 0 o.bh.toNat
    s.Ready ∧ s.Alone (member0 1) me ∧ s.counterFull .mx = false ∧ (s.team 0).latch = none ∧ o.shape ≠ 5 ∧ o.shape ≠ 6 ∧
    x.state = 2 ∧ o.pl.toNat ≤ x.plf ∧ (o.pl.toNat < 8 → x.fmt = 3) ∧ (x.fmt = 3 → x.baxis = true) ∧
    o.boff.toNat * 4096 + 64 * (shapeMN o.shape.toNat).2 ≤ x.area ∧
    (if aty < 3 then x.fmt = 0 ∨ x.fmt = 3 ∨ x.fmt = 4 else x.fmt = 1) ∧
    (o.am = 1 ∨ (s.tile 0 o.tile.toNat).int = decide (aty = 0 ∧ o.ssel = 2 ∧ x.fmt = 0)) := by
  intro aty h
  fin_cases h <;> exact ⟨ready_of (by decide +kernel), ⟨rfl, rfl⟩, by decide +kernel, rfl, by decide, by decide, by decide +kernel,
    by decide +kernel, by decide +kernel, by decide +kernel, by decide +kernel, by decide +kernel, by decide +kernel⟩

/-- A paired shape, whose latch holds its 128 rows and whose partner has the tile. -/
theorem witness_MatrixWords_paired :
    let rows : Latch := { aty := 0, rows := 128, data := [], scales := [] }
    let t : Team := { placedTeam with waves := [wave0 1 [lane0]], latch := some rows }
    let s : State := { world { placedGrid with cl2 := true, gx := 2 } t (bundle0 1 [nopWord]) with
      teams := [t, { t with t := 1, core := 1 }] }
    s.mxMate 0 0 15 = some 1 ∧ (s.tile 0 15).int = false ∧ (s.tile 1 15).int = false ∧ (s.team 0).latch = some rows ∧ 128 ≤ rows.rows ∧
    rows.aty = 0 := ⟨by decide +kernel, rfl, rfl, rfl, by decide, rfl⟩

/-- What raises LAYOUT: a free handle, 16-bit data for an 8-bit A type, too many planes or an area too small, a tile of the other
type, a latch of another A type, and a paired shape without a partner. -/
theorem witness_MatrixWords_layout : ((lone nopWord).handle 0 3).state = 0 ∧
    (let s := multiplier 3
     (s.handle 0 3).state = 2 ∧ ¬((s.handle 0 3).fmt = 0 ∨ (s.handle 0 3).fmt = 3 ∨ (s.handle 0 3).fmt = 4)) ∧
    (let s := multiplier 0
     (s.handle 0 3).fmt ≠ 3 ∧ (s.handle 0 3).plf < 9 ∧ (s.handle 0 3).area < 1 * 4096 + 64 * (shapeMN 0).2 ∧
     (s.tile 0 15).int ≠ decide ((0 : Nat) = 0 ∧ (2 : BitVec 2) = 2 ∧ (s.handle 0 3).fmt = 0) ∧ s.mxMate 0 0 15 = none) ∧
    ((lone nopWord (f := fun t => { t with latch := some { aty := 1, rows := 128, data := [], scales := [] } })).team 0).latch =
      some { aty := 1, rows := 128, data := [], scales := [] } := by decide +kernel

/-- A matrix operation of no row, so that its run is short: started or not, checked or not. -/
def mxOp (id : Nat) (started : Bool) (am : Nat) : Op :=
  { engineOp .mx (.mx { lane := 0, aty := 0, m := 0, n := 0, handle := 3, off := 0, tile := 0, am, rows := [], scales := [],
                         mate := none, int := false, planes := 8, started, shadows := [], alw := false }) with id }

theorem witness_MatrixEvents : ∀ started : Bool, ∀ am ∈ [0, 1, 2], let op := mxOp 0 started am
    let s := engaged op
    s.liveOp s.args.a = some op ∧ s.mangleReady op = true ∧ (∀ t ∈ [op.team], s.shadowsOn (s.coreKey t) < 2) ∧
    ∀ j, op.body = .mx j → ∀ t ∈ j.teams op.team, ((s.mxRun op j).tile t j.tile).value ≤ ((s.mxRun op j).tile t j.tile).limit := by
  intro started am h
  cases started <;> fin_cases h <;> exact ⟨by decide +kernel, by decide +kernel, by decide +kernel, fun j hj => by cases hj; decide +kernel⟩

/-- A checked operation whose tile is past its limit: with 8 planes it does not run again, with fewer it does. -/
theorem witness_MatrixEvents_past : ∀ planes ∈ [8, 3],
    let j : MxJob := { lane := 0, aty := 0, m := 0, n := 0, handle := 3, off := 0, tile := 0, am := 2, rows := [], scales := [],
                       mate := none, int := false, planes, started := true, shadows := [], alw := false }
    let op := engineOp .mx (.mx j)
    let s := engaged op (f := fun t => withHandle { Handle.blank with state := 2 } { t with tiles := [{ Tile.blank with value := 0x8100, limit := 5 }] })
    s.liveOp s.args.a = some op ∧ ((s.mxRun op j).tile 0 0).limit < ((s.mxRun op j).tile 0 0).value ∧
    ((j.planes < 8 ∧ ((s.mxRun op j).handle 0 3).plf = 8) ↔ planes = 3) ∧ 2 ≤ 2 := by decide +kernel

/-- One behind another on its tile may not start. -/
theorem witness_MatrixEvents_waits : let op := mxOp 1 false 0
    let s : State := { lone nopWord with ops := [mxOp 0 true 0, op], args := { a := 1 } }
    s.liveOp s.args.a = some op ∧ s.mangleReady op = false := by decide +kernel

/-- Operations on tile 15, and the places of a load. -/
def tileOp (a : TileAct) (ps : List (DWord × Target × Nat)) : Op := engineOp .mx (.mangle ⟨0, 15, a, ps⟩)

theorem witness_MatrixEvents_tile : ∀ a ∈ [TileAct.zero true, .setAll 0x01FF00FF, .setLim 5, .get 4 [0]],
    let s := engaged (tileOp a [])
    s.liveOp s.args.a = some (tileOp a []) ∧ s.mangleReady (tileOp a []) = true := by decide +kernel

def place0 : List (DWord × Target × Nat) := [(0xFFFFFE0000007FF0, .spad 0 0x7FF0, 16)]

theorem witness_MatrixEvents_access : ∀ a ∈ [TileAct.load false, .store 0 false], let op := tileOp a place0
    let s := engaged op
    s.liveOp s.args.a = some op ∧ s.mangleReady op = true ∧ (∀ p ∈ place0, s.absentAt p.2.1 p.2.2 = none) ∧
    ∃ u, s.tileRead op place0 = (u, .ok (List.replicate 16 0)) := by
  intro a h
  fin_cases h <;> exact ⟨by decide +kernel, by decide +kernel, by decide +kernel, _, rfl⟩

/-- A lane with a row stride of 256 bytes in g16, and the scales and the bounds of ACCST.ni8 behind its block. -/
def tiler : State := lone nopWord (l := regs0 [(16, 256), (8, 0x1000), (9, 0xFFFFFE00), (10, 0x1040), (11, 0xFFFFFE00)])

theorem witness_TileWords : tiler.Ready ∧ tiler.Alone (member0 1) me ∧ tiler.counterFull .mx = false ∧ tiler.NoStores ∧
    (tiler.wave 0 0).rperm = none ∧ (tiler.gridOf 0).det = false ∧ ((tiler.latchRead me 16).accProbe ⟨0, 2, 16, 0, 0, 15⟩ me true).2 = [] ∧
    ((tiler.latchRead me 16).accProbe ⟨0, 2, 16, 0, 0, 15⟩ me false).2 = [] ∧ (tiler.ni8Probe ⟨0, 2, 8, 0, 0, 0x4F⟩ me).2 = [] :=
  ⟨ready_of (by decide +kernel), ⟨rfl, rfl⟩, by decide +kernel, fun _ h => by simp [tiler, lone, world, State.reset] at h, by decide +kernel,
    by decide +kernel, by decide +kernel, by decide +kernel, by decide +kernel⟩

/-- A lane whose ACCST has still to write bytes 0x7FF0 on of its scratchpad, before its load or store there. -/
theorem witness_TileWords_waits : let s : State := { lone nopWord with ops := [tileOp (.store 0 false) place0] }
    let o : FM := { atom32 with off := 0x7FF0 }
    s.Ready ∧ s.active = [me] ∧ (s.lane me).isHelper = false ∧ (s.gridOf 0).det = false ∧ s.counterFull .ld = false ∧
    s.counterFull .st = false ∧ (∀ need ∈ [needR, needW], s.check 0 (s.askOf o need false me).va 4 4 need false = .ok (.spad 0 0x7FF0)) ∧
    ∀ write, s.tileClash me (.spad 0 0x7FF0) 4 write = true :=
  ⟨ready_of (by decide +kernel), by decide +kernel, by decide +kernel, by decide +kernel, by decide +kernel, by decide +kernel,
    by decide +kernel, by decide +kernel⟩

/-! ### Graphics -/

/-- A bilinear patch record whose DB is 0 and whose RATE is 1.0 (R360), and an entry that names it at 0x100. -/
def patch0 : List Byte := leBytes 12 0 ++ leBytes 4 0x3F800000 ++ leBytes 112 0

def patchEntry : List Word := [0, 0, 0x100, 0]

/-- A geometry grid of one draw, its team holding ticket 0; g4 points to the record, g8 holds the entry. -/
def drawer (f : Team → Team := id) : State :=
  stored 0x100 patch0 (lone nopWord (g := { placedGrid with dcnt := 1, qmap := true }) (l := regs0 [(4, 0x100), (10, 0x100)])
    (f := fun t => f { t with hold := some 0 }))

theorem witness_GraphicsWords : (drawer id).Ready ∧ (drawer id).Alone (member0 1) me ∧ (drawer id).counterFull .gm = false ∧
    ((drawer id).gridOf 0).qmap = true :=
  ⟨ready_of (by decide +kernel), ⟨rfl, by decide +kernel⟩, by decide +kernel, by decide +kernel⟩

theorem witness_GraphicsWords_patchq : let s := drawer id
    ∀ n q, [me][n]? = some q →
      (let u := ([me].take n).foldl (fun u q => (u.noteBytes q.team (s.src64 q 4) 64 needR).pushSplit (s.team q.team).die
        (s.team q.team).grid (entryRegs (patchTicket (s.gridOf q.team) (s.src q .i32 6 0).toNat) (s.src64 q 4) 0)) (s.latched [6])
       u.patchCause q (s.src64 q 4) (s.src q .i32 6 0).toNat = none ∧ (u.die (s.team q.team).die).depth0 < 4096) := by
  intro s n q h
  match n with
  | 0 =>
    obtain rfl : me = q := by simpa using h
    decide +kernel
  | n + 1 => simp at h

/-- An entry to pop, or none on the die and none held. -/
theorem witness_GraphicsWords_patchdq : let s := drawer id
    let u := s.modDie 0 fun d => { d with splitQ := [⟨0, patchEntry⟩] }
    (s.team 0).held = none ∧ s.heldOn 0 (fun _ => true) < 256 ∧ s.splitsOut 0 0 = false ∧
    nextSplit (s.die 0).splitQ 0 = none ∧ nextSplit (u.die 0).splitQ 0 = some ⟨0, patchEntry⟩ := by decide +kernel

theorem witness_GraphicsWords_dice : let s := drawer fun t => { t with held := some patchEntry }
    s.Ready ∧ s.Alone (member0 1) me ∧ s.bundle.diced = none ∧ (s.team 0).held = some ((List.range 4).map fun k => s.rawReg me (8 + k)) ∧
    (s.src64 me 2).toNat % 128 = 0 ∧ s.window 0 (s.src64 me 2) 8320 = some (some (0, 0)) ∧
    s.engRead 0 (entryAddr patchEntry) 64 = .ok (patch0.take 64) ∧ patchValid (patch0.take 64) = true ∧
    s.recordRead 0 (entryAddr patchEntry) (patchPieces (patch0.take 64)) = .ok patch0 ∧
    s.shearsBusy s.bundle.die (s.bundle.core / 12) < 64 :=
  ⟨ready_of (by decide +kernel), ⟨rfl, by decide +kernel⟩, rfl, by decide +kernel, by decide +kernel, by decide +kernel, rfl,
    by decide +kernel, rfl, by decide +kernel⟩

/-- A header at byte 0 of the scratchpad, of an opaque block at 0x2000; and one of a block that is not opaque, whose draw the
frame has passed. -/
theorem witness_GraphicsWords_gemit : ∀ opq ∈ [0, 1],
    let s := drawer fun t => { t with spad := cellsWriteN [] 0x10 (leBytes 8 (2 + 256 * opq)) }
    let u := s.modTeam 0 fun t => { t with waves := [wave0 1 [regs0 [(8, 0x2000), (9, 0xFFFFFE00)]]] }
    u.window 0 (u.src64 me 2) 128 = some (some (0, 0)) ∧ u.window 0 (u.src64 me 8) 8192 = some (some (0, 0x2000)) ∧
    (u.src64 me 2).toNat % 128 = 0 ∧ (u.src64 me 8).toNat % 128 = 0 ∧ u.absentAt (.spad 0 0) 128 = none ∧
    (u.team 0).hold = some (BitVec.ofNat 64 (recU64 (cellsReadN (u.team 0).spad 0 128) 0)) ∧
    recU64 (cellsReadN (u.team 0).spad 0 128) 0x10 % 4 = 2 ∧
    (recU64 (cellsReadN (u.team 0).spad 0 128) 0x10 / 256 % 2 = 1 ∨ u.opqend ≤ drawSeq 0) := by decide +kernel

def frame0 : Frame :=
  { record := leBytes 256 0, pattern := [], owners := [], root := 0, ranges := [], seq := 0, dataErr := false, doneTiles := [],
    moves := [], handoff := none, ending := none, crec := none }

/-- A module with an open frame. -/
def framed (f : Frame) (s : State) : State := s.modHub fun h => { h with frame := some f }

theorem witness_GraphicsEvents_dice : let op := engineOp .gm (.dice 0 (0, 0) patchEntry patch0)
    let s := framed frame0 (engaged op)
    s.liveOp s.args.a = some op ∧ s.hub.frame = some frame0 ∧ 0 < s.teams.length ∧ cellsWf (s.team 0).spad = true ∧
    (s.team op.team).die < s.dies.length := by decide +kernel

theorem witness_GraphicsEvents_gemit : ∀ absent : Bool, let op := engineOp .gm (.gemit 0 none (0, 0x2000) 0 true false 4 4)
    let s := framed frame0 (engaged op (f := fun t => { t with absentLines := if absent then [64] else [] }))
    s.liveOp s.args.a = some op ∧ s.hub.frame = some frame0 ∧ (s.absentAt (.spad 0 0x2000) 8192).isSome = absent := by decide +kernel

def gridCopy0 : GridCopy := { ticket := 0, nu := 1, nv := 1, opq := true, oi := false, verts := [], tiles := [0], resv := false, place := 0 }

/-- A copy on its way into a Basket, and one in a Basket that no copy and no watermark precedes. -/
theorem witness_GraphicsEvents_copies : let s := (framed frame0 State.reset).modDie 0 fun d =>
      { d with inbound := [.copy gridCopy0, .mark 1 0], basket := [gridCopy0] }
    s.hub.frame = some frame0 ∧ s.spillHost = false ∧ s.hub.eqWait = [] ∧ (s.die 0).spill = [] ∧ (s.die 0).exchange = [] ∧
    (s.die 0).basket.length < 3528 ∧ (s.die 0).eligible frame0 = some gridCopy0 ∧ frame0.ending = none := by decide +kernel

theorem witness_GraphicsEvents_mark : let s := State.reset.modDie 0 fun d => { d with inbound := [.mark 7 5] }
    s.hub.eqWait = [] ∧ s.hub.charges = [] ∧ s.hub.frame = none ∧
    (∀ k < 8, s.watermark k = (s.die k).vsent ∧ s.hub.vtaken.getD k noMark = s.hub.vlast.getD k noMark) ∧
    (s.die s.args.a).inbound = [.mark 7 5] ∧ 7 < s.dies.length := by decide +kernel

theorem witness_GraphicsEvents_handoff : ∀ busy : Bool,
    let f := { frame0 with handoff := some (0, 1, 2) }
    let s := (framed f State.reset).modDie 1 fun d => { d with basket := if busy then [gridCopy0] else [] }
    s.hub.frame = some f ∧ f.ending = none ∧ (s.die 1).holdsTile 0 = busy := by decide +kernel

/-- The new owner has the tile at once, waits for it behind a mark, with the handoff on its way or still to be sent, or had it. -/
theorem witness_GraphicsEvents_handoff_sent :
    ∀ x ∈ [([0], []), ([0], [Msg.mark 1 0]), ([0], [Msg.mark 1 0, Msg.handoff 0]), ([], [])],
    let f := { frame0 with handoff := some (0, 1, 2) }
    let s := (framed f State.reset).modDie 2 fun d => { d with blocked := x.1, inbound := x.2 }
    let u := if (s.die 2).handingOver 0 = true ∨ 0 ∉ (s.die 2).blocked then s else s.linkPut 2 (.handoff 0)
    s.hub.frame = some f ∧ f.ending = none ∧ (s.die 1).holdsTile 0 = false ∧ (0 ∈ (u.die 2).blocked ↔ x.2 ≠ []) ∧
    ((s.die 2).handingOver 0 = true ↔ x.2.length = 2) := by decide +kernel

/-! ### Textures and rays -/

/-- A texture word of the lane that meets no cause and no error. -/
def sampled (s : State) (o : FA) : Bool :=
  match s.texOne .samp o [me] me with
  | .ok out => out.met.ecc.isEmpty && out.met.ue.isEmpty
  | .error _ => false

/-- SAMP with a descriptor of zeros at g4: one texel of format 0 at address 0 (R294, R296). -/
theorem witness_TextureWords : let s := lone nopWord
    s.Ready ∧ s.counterFull .tx = false ∧ s.bundle.members = [member0 1] ∧ s.activeOf (member0 1) = [me] ∧
    sampled s ⟨16, 4, 8, 0, 0, 5⟩ = true :=
  ⟨ready_of (by decide +kernel), by decide +kernel, rfl, by decide +kernel, by decide +kernel⟩

/-- What the descriptor of zeros gives, with no cause on the way. -/
def sampledFrom (s : State) (b : List Byte) : Bool :=
  match texDesc b with
  | some d => (s.texLane .samp ⟨16, 4, 8, 0, 0, 5⟩ d [me] me).met.bad.isEmpty
  | none => false

theorem witness_TextureWords_descriptor : let s := lone nopWord (l := regs0 [(6, 0x20)])
    (s.src64 me 6).toNat % 64 ≠ 0 ∧ (s.src64 me 4).toNat % 64 = 0 ∧ s.engRead 0 (s.src64 me 4) 64 = .ok (List.replicate 64 0) ∧
    texDesc (leBytes 32 0 ++ leBytes 32 1) = none ∧ sampledFrom s (List.replicate 64 0) = true := by decide +kernel

theorem witness_TextureWords_complete : let op := engineOp .tx (.texture [⟨0, 8, .fw 8, 3⟩])
    (engaged op).liveOp (engaged op).args.a = some op ∧ (engaged op).resultWaits op = false := by decide +kernel

/-- An earlier operation of the class that writes the same register and has not finished. -/
theorem witness_TextureWords_waits : let first := { loadOp false with ctr := .tx }
    let op := { loadOp false with id := 1, ctr := .tx, body := .texture [] }
    let s : State := { lone nopWord with ops := [first, op], args := { a := 1 } }
    s.liveOp s.args.a = some op ∧ s.resultWaits op = true := by decide +kernel

/-- A lane whose record, at byte 0 of its scratchpad, is in the given phase; g8 holds the candidate's distance. -/
def tracer (phase : Nat) (t : Word) : State :=
  lone nopWord (l := regs0 [(8, t)]) (f := fun x => { x with spad := cellsWriteN [] 0x28 (leBytes 8 (phase * 2 ^ 60)) })

/-- What a word finds of a record after its release: the state and the bytes. -/
def recordFound (s : State) : State × Option (List Byte) :=
  let u := s.release 0 0 2
  u.readTarget (u.team 0).die (u.team 0).core (.spad 0 0) 64 .l1

def recordIs (s : State) (phase : Nat) (takes : Bool) : Bool :=
  let p := recordFound s
  match p.2 with
  | none => false
  | some b => p.1.parkedRay (.spad 0 0) == none && (rayOfBytes b).phase == phase && (rayOfBytes b).takes (p.1.rawReg me 8).toNat == takes

theorem witness_RayWords : ∀ phase ∈ [0, 1, 2, 3], let s := tracer phase 0
    s.active = [me] ∧ (s.lane me).isHelper = false ∧ s.counterFull .nd = false ∧
    (∀ m ∈ s.bundle.members, ((s.release 0 0 2).wave m.team m.wave).rperm = none) ∧ s.tileStores [me] = false ∧ s.rayBusy me s.nextOp = false ∧
    s.check 0 (s.src64 me 2) 64 64 needRW false = .ok (.spad 0 0) ∧ s.raysInFlight s.bundle.die s.bundle.core < 2048 ∧
    s.absentAt (.spad 0 0) 64 = none := by decide +kernel

/-- The record's line is absent. -/
theorem witness_RayWords_absent : let s := (tracer 0 0).modTeam 0 fun t => { t with absentLines := [0] }
    s.active = [me] ∧ (s.absentAt (.spad 0 0) 64).isSome = true ∧
    s.check 0 (s.src64 me 2) 64 64 needRW false = .ok (.spad 0 0) := by decide +kernel

/-- A record at no multiple of 64, and one in memory with an uncorrectable error. -/
theorem witness_RayWords_bad : (let s := lone nopWord (l := regs0 [(2, 8)])
      s.check 0 (s.src64 me 2) 64 64 needRW false = .bad .misalign false ∧ s.raysInFlight s.bundle.die s.bundle.core < 2048) ∧
    let s := (lone nopWord (g := { placedGrid with firmware := false, dieExtents := [(0, [{ base := 0, len := 65536, w := true, pages := [0] }])] })
      (l := regs0 [(3, 0)])).modMem fun m => { m with poison := [0] }
    s.check 0 (s.src64 me 2) 64 64 needRW false = .ok (.phys 0) ∧ s.absentAt (.phys 0) 64 = none ∧
    (let u := s.release 0 0 2
     (u.readTarget (u.team 0).die (u.team 0).core (.phys 0) 64 .l1).2 = none) := by decide +kernel

/-- Each phase, with a candidate at the ray's own distance and one behind it. -/
theorem witness_RayWords_record : ∀ phase ∈ [0, 1, 2, 3], recordIs (tracer phase 0) phase true = true ∧
    recordIs (tracer phase 0x3F800000) phase false = true := by decide +kernel

theorem witness_RayWords_ready : (tracer 1 0).Ready := ready_of (by decide +kernel)

/-- A ray with its results, one parked, and one that traverses. -/
def ray0 (fixed : Option (List Word)) (fq : Option Nat) : Ray :=
  { lane := 0, rd := 16, va := 0xFFFFFE0000000000, tgt := .spad 0 0, rcd := rayOfBytes [], resume := false, fixed, done := false, fq,
    want := none, todo := false, kept := false }

theorem witness_RayWords_return : ∀ x ∈ [ray0 (some []) none, ray0 none (some 3), ray0 none none,
      { ray0 none none with todo := true }, { ray0 none none with want := some (1, 5) }],
    let op := engineOp .nd (.rays [x])
    let s := engaged op
    s.liveOp s.args.a = some op ∧ (op.rays.find? fun x => x.lane == s.args.b && !x.done) = some x ∧ (s.team op.team).isSaved = false ∧
    s.rayWaits op x = false ∧ s.absentAt x.tgt 64 = none ∧ s.rayBusy ⟨op.team, op.wave, x.lane⟩ op.id = false := by decide +kernel

/-- A ray behind one of its lane that traverses, whose word writes the same registers; one of a saved team; an absent line. -/
theorem witness_RayWords_behind : (∀ x ∈ [ray0 (some []) none, { ray0 none none with todo := true }],
      let first := { engineOp .nd (.rays [ray0 none none]) with writes := true }
      let op := { engineOp .nd (.rays [x]) with id := 1, writes := true }
      let s : State := { lone nopWord with ops := [first, op], args := { a := 1 } }
      s.liveOp s.args.a = some op ∧ (op.rays.find? fun x => x.lane == s.args.b && !x.done) = some x ∧ s.rayWaits op x = true ∧
      s.rayBusy ⟨op.team, op.wave, x.lane⟩ op.id = true) ∧
    let s := engaged (engineOp .nd (.rays [ray0 none none]))
    ((s.modTeam 0 fun t => { t with place := .saved 3 }).team 0).isSaved = true ∧
    ((s.modTeam 0 fun t => { t with absentLines := [0] }).absentAt (.spad 0 0) 64).isSome = true := by decide +kernel

/-! ### Mailboxes -/

/-- A lane of the dispatcher's grid, whose block of 16 registers at g16 starts with `kind` and the destination die. -/
def mailer (kind : Word) : State := lone nopWord (l := regs0 [(16, kind), (9, 255), (10, 256)])

theorem witness_MailboxWords : let s := mailer 3
    s.Ready ∧ s.issueGrid.priv = true ∧ s.Alone (member0 1) me ∧ s.counterFull .ld = false ∧ s.counterFull .st = false ∧
    (s.die 0).mailbox = [] ∧ ((s.modDie 0 fun d => { d with mailbox := [packet 1 0 0 1 0 1 0 0 0] }).die 0).mailbox =
      [packet 1 0 0 1 0 1 0 0 0] :=
  ⟨ready_of (by decide +kernel), by decide +kernel, ⟨rfl, by decide +kernel⟩, by decide +kernel, by decide +kernel, by decide +kernel,
    by decide +kernel⟩

/-- The block of the lane, as a packet. -/
def sent (s : State) : List DWord := packetOfRegs ((List.range 16).map fun k => s.rawReg me (16 + k))

theorem witness_MailboxWords_send : 3 ≤ pktKind (sent (mailer 3)) ∧ pktKind (sent (mailer 5)) ≤ 5 ∧
    fwdOk (sent (mailer 0x70001)) = true ∧ (mailer 0x70001).mailFits (pktDst (sent (mailer 0x70001))) 1 = true ∧
    pktKind (sent (mailer 2)) = 2 := by decide +kernel

theorem witness_MailboxWords_spawn : (mailer 1).NoStores ∧ ((mailer 1).wave 0 0).rperm = none ∧
    (∃ u x y z, (mailer 1).spawnKind [] me (sent (mailer 1)) = .ok u x y z) ∧
    ∃ u x y z, (mailer 2).spawnTrim me (sent (mailer 2)) = .ok u x y z :=
  ⟨fun _ h => by simp [mailer, lone, world, State.reset] at h, rfl, ⟨_, _, _, _, rfl⟩, ⟨_, _, _, _, rfl⟩⟩

/-- A SPAWN whose count is to retire, with a range for its die's queue or without. -/
theorem witness_MailboxWords_retires : ∀ range ∈ [none, some ⟨0, 2, 6⟩],
    let op := engineOp .st (.spawn ((List.range 16).map fun _ => 0) range)
    (engaged op).liveOp (engaged op).args.a = some op ∧ (engaged op).resultWaits op = false ∧ (engaged op).countWaits op = false := by
  decide +kernel

/-- A SPAWN and a DUMP behind an operation of class st: of another register, or of the same. -/
theorem witness_MailboxWords_waits : ∀ same : Bool, ∀ body ∈ [OpBody.spawn [] none, .dump 0 0 5],
    let first := { loadOp false with ctr := .st }
    let op := { loadOp false with id := 1, ctr := .st, body, regs := [⟨0, if same then 4 else 5, 5⟩] }
    let s : State := { lone nopWord with ops := [first, op], args := { a := 1 } }
    s.liveOp s.args.a = some op ∧ s.resultWaits op = same ∧ s.countWaits op = true := by decide +kernel

/-- Buffers of 255 and of 256 bytes at address 0. -/
theorem witness_MailboxWords_dump : let s := mailer 0
    s.dumpCause me (s.src64 me 4) = none ∧ (s.src me .i32 9 0).toNat < 256 ∧ 256 ≤ (s.src me .i32 10 0).toNat ∧
    s.hub.fnmode.getLsbD 6 = false ∧ s.dumpQuiet 0 = true := by decide +kernel

/-- A grid of eight teams that stands on die 0 with a range of four indices: a RANGE packet adds one, a TRIM packet cuts the
last; a packet whose GID names no grid. -/
def spawner : State :=
  (lone nopWord (g := { placedGrid with firmware := false, gid := 5, gx := 8 })).modDie 0 fun d => { d with known := [(0, 0x40)], ranges := [⟨0, 2, 6⟩] }

def rangePacket : List DWord := packet 1 0 0 5 6 8 0x40 0 0

def trimPacket : List DWord := (packet 2 0 0 5 0 0 0x40 0 0).set 3 4

theorem witness_MailboxWords_ranges : spawner.gridByGid (pktGid rangePacket) = some 0 ∧ pktKind rangePacket = 1 ∧
    pktLo rangePacket < pktHi rangePacket ∧ pktHi rangePacket ≤ (spawner.grids.getD 0 Grid.blank).teams ∧
    (spawner.grids.getD 0 Grid.blank).det = false ∧ (spawner.grids.getD 0 Grid.blank).cl2 = false ∧
    ((spawner.die 0).rangesOf 0).length + ((spawner.spawning 0).filter fun x => x.grid == 0).length < 8 ∧ ((spawner.die 0).known.find? fun x => x.1 == 0) = some (0, pktLrec rangePacket) ∧
    spawner.gridByGid (pktGid trimPacket) = some 0 ∧ pktKind trimPacket = 2 ∧ (spawner.die 0).lastRange 0 = some ⟨0, 2, 6⟩ ∧
    pktDcnt trimPacket = 0 ∧ max 2 (pktNewend trimPacket) < 6 ∧ spawner.gridByGid (pktGid (packet 1 0 0 6 0 0 0 0 0)) = none := by
  decide +kernel

theorem witness_MailboxWords_host : ∀ dst ∈ [7, 8], let s : State := { State.reset with args := { data := packet 1 0 dst 1 0 1 0 0 0 } }
    let p := (List.range 8).map fun k => s.args.data.getD k 0
    (pktDst p < 8 ↔ dst = 7) ∧ (8 ≤ pktDst p ↔ dst = 8) ∧ s.mailRoom 7 = true ∧ (s.die 7).inbound = [] := by decide +kernel
/-! ### The hub -/

/-- Memory of the GCP: a root table at 0x10000 that maps the first 512 MiB onto itself (R243 to R245); the packet at 0 of the
given kind, with its record at 0x1000 and DCNT; then the record itself. -/
def hubMem (kind : Nat) (dcnt : Nat) (record : List Byte) : List Host.Cell :=
  [(0, leBytes 8 kind), (0x08, leBytes 8 0x10000), (0x10, leBytes 8 0x1000), (0x20, leBytes 8 (dcnt * 2 ^ 40)),
   (0x1000, record), (0x10000, leBytes 8 0x20001), (0x20000, leBytes 8 0x3B)].foldl (fun c x => cellsWriteN c x.1 x.2) []

/-- A hub whose SQ of eight slots at 0 holds one packet. -/
def gcpState (kind dcnt : Nat) (record : List Byte) (f : Option Frame := none) : State :=
  (State.reset.modMem fun m => { m with cells := hubMem kind dcnt record }).modHub fun h =>
    { h with bootstat := 1, sq := { h.sq with size := 8, tail := 1 }, frame := f }

/-- A launch record of one team of one thread (R191), with its number of extents; one byte of stack too few makes it bad. -/
def launchRecord (stk extents : Nat) : List Byte :=
  [0, 0, 0, 0x3000, stk, 1 + 2 ^ 32, 1 + 2 ^ 32 + 2 ^ 43, 1, 0x2000, 0x2008, extents, 0, 0, 0, 0, 0].flatMap (leBytes 8)

/-- A frame record of one pixel and one sample (R384). -/
def frameRecord : List Byte :=
  [0x100000, 0, 0x200000, 0, 0, 0, 0x3F8000003F800000, 0x400000003F800000, 0, 2 ^ 32, 0, 0, 0, 0, 0, 0].flatMap (leBytes 8)

/-- What the GCP needs for a packet of a kind. -/
def takes (s : State) (kind : Nat) : Bool :=
  s.sqReady && decide (s.hub.sq.base.toNat + 64 * (s.hub.sq.head.toNat % 2 ^ 32) + 64 ≤ 2 ^ 52) &&
    (s.recordAt s.sqPacket == some none) && (sqKind s.sqPacket == kind)

theorem witness_HubPackets : takes (gcpState 9 0 []) 0 = true ∧ takes (gcpState 1 0 (launchRecord 64 0)) 1 = true ∧
    takes (gcpState 2 0 frameRecord) 2 = true ∧ takes (gcpState 3 0 []) 3 = true := by decide +kernel

/-- A launch that is good; one whose record is bad; one with a table of extents at an odd address; one outside a frame. -/
theorem witness_HubPackets_launch : ∀ x ∈ [(64, 0, 0), (60, 0, 0), (64, 1, 0), (64, 0, 3)],
    let s := gcpState 1 x.2.2 (launchRecord x.1 x.2.1)
    let d := recordDwords (launchRecord x.1 x.2.1)
    let n := s.noteSq
    s.freeGridSlot = some 0 ∧ (∀ d < 8, s.mailRoom d = true) ∧ (sqRec s.sqPacket).toNat % 64 = 0 ∧
    n.rootRead (sqRoot s.sqPacket) (sqRec s.sqPacket) 2 128 = some (launchRecord x.1 x.2.1) ∧
    (launchBad d = true ↔ x.1 = 60) ∧
    (n.rootRead (sqRoot s.sqPacket) (BitVec.ofNat 64 (d.getD 8 0)) 2 256).isSome = true ∧
    (n.drawBad (sqDcnt s.sqPacket) = true ↔ x.2.2 = 3) ∧
    ((n.extentTable (sqRoot s.sqPacket) (BitVec.ofNat 64 (d.getD 9 0)) (d.getD 10 0 % 32) = none) ↔ x.2.1 = 1) := by decide +kernel

/-- A record that opens a frame, and a zero record, which does not. -/
theorem witness_HubPackets_frame : (let s := gcpState 2 0 frameRecord
      (s.noteSq.openFrame (sqRoot s.sqPacket) (sqRec s.sqPacket) none).isSome = true) ∧
    let s := gcpState 2 0 []
    s.noteSq.openFrame (sqRoot s.sqPacket) (sqRec s.sqPacket) none = none := by decide +kernel

/-- ENDFRAME without a frame, with one whose geometry runs, and with one that is quiet. -/
theorem witness_HubPackets_endframe : (gcpState 3 0 []).hub.frame = none ∧ (gcpState 3 0 [] (some frame0)).hub.frame = some frame0 ∧
    takes (gcpState 3 0 [] (some frame0)) 3 = true ∧ (gcpState 3 0 [] (some frame0)).frameQuiet = true ∧
    ({ gcpState 3 0 [] (some frame0) with grids := [{ placedGrid with dcnt := 1 }] } : State).frameQuiet = false := by decide +kernel

theorem witness_HubPackets_split : [1, 0, 2, 0, 0, 0, 0, 5].length = 8 := rfl

/-- FWGO of another value, in READY, and of 1 from idle; its second turn while BOOTSTAT is 6, and not. -/
theorem witness_HubPackets_fwgo : ({ v := 2 } : EvArgs).flag = false ∧ ({ v := 2 } : EvArgs).v ≠ 1 ∧ ({ v := 1 } : EvArgs).v = 1 ∧
    State.reset.hub.bootstat ≠ 6 ∧ State.reset.hub.bootstat ≠ 1 ∧ (gcpState 0 0 []).hub.bootstat = 1 ∧
    ({ flag := true } : EvArgs).flag = true ∧ (State.reset.modHub fun h => { h with bootstat := 6 }).hub.bootstat = 6 := by decide

/-- A boot of no byte at all fails (R535). -/
theorem witness_HubPackets_fwgo_fails :
    (State.reset.modHub fun h => { h with bootstat := 6 }).bootImage.1 ≠ 1 := by decide +kernel

/-- READY and not; a TLB sync in progress and none; operations that it awaits; ticks of the counters; temperatures. -/
theorem witness_HubRegisters : (gcpState 0 0 []).hub.bootstat = 1 ∧ State.reset.hub.bootstat ≠ 1 ∧ State.reset.hub.eqWait = [] ∧
    7 < 8 ∧ State.reset.hub.tlbsync.getLsbD 1 = false ∧ (State.reset.modHub fun h => { h with tlbsync := 2 }).hub.tlbsync.getLsbD 1 = true ∧
    ({ flag := true } : EvArgs).flag = true ∧ (∀ o ∈ State.reset.ops, o.id ∈ State.reset.hub.syncOps → o.usesPages = false) ∧
    (∀ x ∈ State.reset.hub.syncWalks, State.reset.walkFlies x = false) ∧
    (let s := (engaged storeOp).modHub fun h => { h with syncOps := [0] }
     ¬ ∀ o ∈ s.ops, o.id ∈ s.hub.syncOps → o.usesPages = false) ∧
    State.reset.hub.gtime.toNat % 2 ^ (State.reset.hub.pmact.toNat % 32) = 0 ∧ State.reset.hub.pmact.getLsbD 7 = false ∧
    (State.reset.modHub fun h => { h with pmact := 0x90 }).hub.pmact.getLsbD 7 = true ∧
    (State.reset.modHub fun h => { h with gtime := 1 }).hub.gtime.toNat % 2 ^ (State.reset.hub.pmact.toNat % 32) ≠ 0 ∧
    (let a : EvArgs := { a := 0x148, b := 8, v := 16 }
     a.a = 0x148 ∧ a.b = 8) ∧ ({ a := 100 } : EvArgs).a ≤ 100 ∧ 100 < ({ a := 101 } : EvArgs).a ∧ 110 < ({ a := 111 } : EvArgs).a := by decide +kernel

/-- A frame in host-assisted spilling, whose moves leave no packet that waits. -/
def hosted : State := (framed frame0 State.reset).modHub fun h => { h with fnmode := 0x30 }

theorem witness_HubRegisters_spill : hosted.hub.frame = some frame0 ∧ hosted.spillHost = true ∧ State.reset.hub.frame = none ∧
    ((spillCopies hosted.args.b hosted.args.a frame0 hosted).settleBasket hosted.args.a frame0).hub.eqWait = [] ∧
    ((returnCopies hosted.args.b hosted.args.a (fun d => decide (d.generalUsed < basketGeneral)) frame0 hosted).settleBasket hosted.args.a frame0).hub.eqWait = [] := by
  have h : (hosted.settleBasket 0 frame0).hub.eqWait = [] := by
    simp [State.settleBasket]
    rfl
  exact ⟨rfl, by decide +kernel, rfl, h, h⟩

theorem witness_HubRegisters_ownmove : hosted.hub.fnmode.getLsbD 4 = true ∧ State.reset.hub.fnmode.getLsbD 4 = false ∧
    (0x81000000 : DWord).getLsbD 31 = true ∧ (0x01000000 : DWord).getLsbD 31 = false ∧ hosted.hub.ownmove.getLsbD 31 = false ∧
    0 < frame0.tw ∧ 0 < frame0.th ∧ frame0.ownerOf 0 0 ≠ 0x81000000 / 2 ^ 24 % 8 := by decide +kernel

theorem witness_HubRegisters_host : let a : EvArgs := { a := Config.gddrTop - 8, b := 8, data := [5], flag := true }
    a.flag = true ∧ a.a + ((a.data.flatMap fun d => leBytes 8 d.toNat).take a.b).length ≤ Config.gddrTop ∧
    ({} : EvArgs).flag = false ∧ ({} : EvArgs).a + ({} : EvArgs).b ≤ Config.gddrTop ∧
    (¬((Config.gddrTop - 4) + 8 ≤ Config.gddrTop ∨ Config.gddrTop ≤ Config.gddrTop - 4 ∧ (Config.gddrTop - 4) + 8 ≤ 2 ^ 52)) ∧
    Config.gddrTop + 0x10000 + hubBlock < 2 ^ 52 := by decide +kernel

/-- The host's own memory, at the two ends of its range. -/
theorem witness_HubRegisters_host_memory : (∃ a : EvArgs, a.flag = true ∧ a.a = Config.gddrTop ∧
      ((a.data.flatMap fun d => leBytes 8 d.toNat).take a.b).length = 8 ∧ Config.gddrTop ≤ a.a ∧ a.a + 8 ≤ 2 ^ 52) ∧
    ∃ a : EvArgs, a.flag = true ∧ ((a.data.flatMap fun d => leBytes 8 d.toNat).take a.b).length = 8 ∧
      Config.gddrTop ≤ a.a ∧ a.a + 8 = 2 ^ 52 :=
  ⟨⟨{ a := Config.gddrTop, b := 8, data := [5], flag := true }, by decide +kernel⟩,
    { a := 2 ^ 52 - 8, b := 8, data := [5], flag := true }, by decide +kernel⟩

/-! ### Dispatch, time slices and teams -/

/-- A clause of one NOP in the firmware store at 0x1000, and a wave that stands there; with four bundles in flight, or an
entry that is parked, nothing is picked. -/
def picker (e : Entry) (n : Nat) : State :=
  { stored 0x1000 (leBytes 8 0xC700000FFFFFFF00 ++ leBytes 8 nopWord.toNat)
      (world placedGrid { placedTeam with waves := [{ wave0 1 [lane0] with entries := [e] }] } (bundle0 1 [])) with
    issue := none, bundles := List.replicate n { Bundle.blank with id := 9 } }

/-- The woken state and what is ready in it. -/
def pickFrom (s : State) : State × List Cand :=
  let w := (s.partWaves 0 0 0).foldl (fun u x => (u.wakeWave x.1 x.2).fuse x.1 x.2) s
  (w, (w.cands 0 0 0).foldr (insertCand (w.pickAt 0 0 0)) [])

theorem witness_DispatchEvents_none : 4 ≤ (pickFrom (picker (entry0 1) 4)).1.bundlesOn 0 0 0 ∧
    (pickFrom (picker (entry0 1) 3)).1.bundlesOn 0 0 0 < 4 ∧ (pickFrom (picker (entry0 1) 3)).2 = [] := by decide +kernel

theorem witness_DispatchEvents_pick : let p := pickFrom (picker { entry0 1 with flight := none } 3)
    let seed : Cand := { team := 0, wave := 0, wslot := 0, wstamp := 0, grid := 0, e := { entry0 1 with flight := none } }
    p.1.bundlesOn 0 0 0 < 4 ∧ p.2 = [seed] ∧
    (let u := (p.1.takeCand p.1.nextBundle (p.1.pickAt 0 0 0) seed).modDie 0 fun d => d.nextPick 0 0
     let v := u.settleBinds 0
     v.fetchWord 0 0x1000 = .ok 0xC700000FFFFFFF00 ∧ (∀ k < 7, waitField 0xC700000FFFFFFF00 k = 15) ∧
     v.fetchWords 0 (0x1000 + 8) ((0xC700000FFFFFFF00 : DWord).toNat % 16 + 1) = .ok [nopWord] ∧
     clauseCause 0xC700000FFFFFFF00 [nopWord] 0 = none ∧ ∀ b ∈ v.bundles, b.id ≠ p.1.nextBundle) :=
  ⟨by decide +kernel, by decide +kernel, by rfl, by decide, by rfl, by decide +kernel, by decide +kernel⟩

/-- Two grids that run, the second of which has indices on die 0 and room on core 5; none of them without the range. -/
def claimer (ranges : List Range) : State :=
  ({ State.reset with grids := [{ placedGrid with phase := .running }, { placedGrid with gx := 8, scr := 0, acct := 0, regs := 32 }],
                      args := { b := 5 } } : State).modDie 0 fun d => { d with ranges }

theorem witness_DispatchEvents_claim : let u := claimer [⟨1, 2, 3⟩]
    let v := claimer []
    1 < u.grids.length ∧ (u.claimGrid 0 5 0).teams.length = u.teams.length ∧ (u.claimGrid 0 5 1).teams.length = u.teams.length + 1 ∧
    (((u.claimGrid 0 5 1).postExhausted 0).completeGrids).hub.eqWait = [] ∧ (∀ k < v.grids.length, (v.claimGrid 0 5 k).teams.length = v.teams.length) ∧
    ((v.postExhausted 0).completeGrids).hub.eqWait = [] := by decide +kernel

/-- Die 0 has nothing left of a grid of which die 2 still has indices, or no die has. -/
def stealer (left : List Range) : State :=
  { State.reset with
    grids := [{ placedGrid with firmware := false, gx := 8 }],
    dies := [{ Die.reset with known := [(0, 0x40)] }, Die.reset, { Die.reset with ranges := left }] ++ List.replicate 5 Die.reset }

theorem witness_DispatchEvents_steal : let s := stealer [⟨0, 1, 6⟩]
    s.stealHost = false ∧ s.rangeOut 0 0 = true ∧ (∀ j < 7, ((stealer []).stealFrom 0 ((0 + 1 + j) % 8) 0).isNone = true) ∧
    (∀ i < 1, (s.stealFrom 0 ((0 + 1 + i) % 8) 0).isNone = true) ∧ (s.die ((0 + 1 + 1) % 8)).lastRange 0 = some ⟨0, 1, 6⟩ ∧
    2 ≤ (6 - 1) / 1 ∧ (s.grids.getD 0 Grid.blank).dcnt = 0 ∧ (stealer []).rangeOut 1 0 = false := by decide +kernel

/-- A blocked team of an ordinary grid on a die with save slots, whose grid has more indices. -/
def sliced : State :=
  ((world { placedGrid with firmware := false, scr := 0, acct := 0, regs := 32, gx := 8 }
      { placedTeam with blockedSince := some 0, waves := [{ wave0 1 [lane0] with entries := [{ entry0 1 with park := 1, why := .barrier 0, flight := none }] }] }
      (bundle0 1 [nopWord])).modDie 0 fun d => { d with spbase := 0x10001, spsize := 0x3F000001, ranges := [⟨0, 1, 8⟩] }).modHub
    fun h => { h with gtime := 0x100000 }

theorem witness_DispatchEvents_slice : sliced.teamsOn 0 0 = [0] ∧ (sliced.gridOf 0).firmware = false ∧ (sliced.team 0).blocked = true ∧
    (sliced.team 0).leaving = .no ∧ (sliced.team 0).blockedSince = some 0 ∧ (sliced.die 0).quantum ≤ sliced.hub.gtime.toNat - 0 ∧
    (sliced.nextRun 0 0).isSome = true ∧ sliced.hasSaveSlot 0 (sliced.gridOf 0) = true ∧ State.reset.teamsOn 0 0 = [] := by decide +kernel

/-- A deterministic grid whose token nobody holds. -/
theorem witness_DispatchEvents_token : let s := lone nopWord (g := { placedGrid with det := true })
    (s.gridOf 0).det = true ∧ (s.gridOf 0).phase = .running ∧ (s.gridOf 0).token = none ∧ s.nextHolder 0 = some (0, 0, 0) ∧
    s.teamAt 0 0 = some 0 ∧ (lone nopWord).gridOf 0 = placedGrid ∧ placedGrid.det = false := by decide +kernel

/-- The token's holder has used up its turn; one of its copies is still under way, or none is. -/
theorem witness_DispatchEvents_pass : ∀ busy : Bool,
    let s : State := { three nopWord with
      grids := [{ placedGrid with det := true, token := some (0, 0, 0), tokenOps := 64 }],
      ops := if busy then [engineOp .cp (.copies [copy0 [piece0]])] else [] }
    (s.gridOf 0).det = true ∧ (s.gridOf 0).phase = .running ∧ s.nextHolder 0 = some (0, 0, 1) ∧ s.teamAt 0 0 = some 0 ∧
    s.turnOver 0 = true ∧ (s.ops.any (fun o => o.engineOf me) = busy) ∧ (s.team 0).place ≠ .ended ∧
    (((s.release 0 0 5).modGrid 0 fun g => { g with token := some (0, 0, 1), tokenOps := 0 }).acquire 0 5).lintOn 0 = false := by
  decide +kernel

/-- A team whose lanes have ended: with nothing to report, or with a record; and one that ends as fatal, at rest or not. -/
def ending (f : Team → Team) (ops : List Op) : State := { lone nopWord (f := f) (l := gone) with ops, issue := none, bundles := [] }

theorem witness_DispatchEvents_end : (∀ f ∈ [id, fun t : Team => { t with waves := t.waves.map fun w => { w with allow := some { clause := 0x1000, idx := 0 } } }],
      let s := ending f []
      (s.team 0).place = .resident ∧ (s.team 0).fatal = none ∧ (s.team 0).lanesEnded = true ∧ s.opsOf 0 = [] ∧ s.pairHeld 0 = false) ∧
    ((ending id []).team 0).lastRecord = none ∧
    ((ending (fun t => { t with waves := t.waves.map fun w => { w with allow := some { clause := 0x1000, idx := 0 } } }) []).team 0).lastRecord.isSome = true ∧
    ((lone nopWord).team 0).lanesEnded = false := by
  refine ⟨fun f h => ?_, by decide +kernel, by decide +kernel, by decide +kernel⟩
  simp only [List.mem_cons, List.not_mem_nil, or_false] at h
  rcases h with rfl | rfl <;> exact ⟨rfl, rfl, by decide +kernel, rfl, rfl⟩

def fatal0 : Fatal := ⟨1, 0, 0, 0x1000, 0, 0, false, false, false⟩

theorem witness_DispatchEvents_fatal : ∀ busy : Bool,
    let s := ending (fun t => { t with fatal := some fatal0 }) (if busy then [loadOp false] else [])
    (s.team 0).fatal = some fatal0 ∧ (s.team 0).place ≠ .ended ∧ ((s.dropParked 0).opsOf 0 = [] ↔ busy = false) := by decide +kernel

/-! ### Pre-emption and commands -/

/-- A team that leaves its core, in a grid whose die has save slots, or none. -/
def leaving (l : Leaving) (hold : Option DWord) (slots : Bool) : State :=
  let s : State := { lone nopWord (g := { placedGrid with firmware := false, scr := 0, acct := 0, regs := 32 }) (f := fun t =>
    { t with leaving := l, hold, handles := [], tiles := [] }) with issue := none, bundles := [] }
  (s.modDie 0 fun d => { d with spbase := if slots then 0x10001 else 0, spsize := if slots then 0x3F000001 else 0 }).modHub fun h =>
    { h with gtime := 0x100000 }

theorem witness_PreemptionEvents_flush : ((lone nopWord).team 0).leaving ≠ .flush ∧
    (let s := leaving .flush none true
     (s.team 0).place = .resident ∧ (s.team 0).leaving = .flush ∧ (s.team 0).fatal = none ∧
      (s.both 0).filter (fun t => (s.team t).place == .resident) = [0] ∧ s.keepsState 0 = false ∧ s.opsRest 0 = true) ∧
    (leaving .flush (some 5) true).keepsState 0 = true := by
  refine ⟨by decide +kernel, ⟨rfl, rfl, rfl, by decide +kernel, by decide +kernel, by decide +kernel⟩, by decide +kernel⟩

theorem witness_PreemptionEvents_drain : let s := leaving (.drain 0) none true
    (s.team 0).leaving = .drain 0 ∧ (s.team 0).place = .resident ∧ (s.team 0).fatal = none ∧
    s.hasSaveSlot (s.team 0).die (s.gridOf 0) = true ∧
    2 * ((s.die (s.team 0).die).pctl.toNat / 2 ^ 32) < s.hub.gtime.toNat - 0 := by decide +kernel

theorem witness_PreemptionEvents_save : ∀ slots : Bool, let s := leaving (.save 1) none slots
    (s.team 0).saving = true ∧ (∀ t ∈ (s.both 0).filter fun t => (s.team t).place == .resident, (s.team t).saving = true ∧ s.atRest t = true) ∧
    s.slicedBefore 0 = false ∧ ((([0].foldl State.prepareSave s).saveAll [0]).isSome = true ↔ slots = true) ∧ ((lone nopWord).team 0).saving = false := by decide +kernel

/-- A saved team at the head of its die's queue, and a core with room for it. -/
def saved (reason : Nat) (queue : List Nat) : State :=
  (leaving .no none true |>.modTeam 0 fun t => { t with place := .saved 3, reason }).modDie 0 fun d => { d with queue }

theorem witness_PreemptionEvents_restore : let s := saved 1 [0]
    s.restorable 0 = true ∧ s.both 0 = [0] ∧ (s.room 0 (pairCore (s.gridOf 0) 5 ((s.team 0).t % 2)) (s.gridOf 0) (s.team 0).granules).isSome = true ∧
    (lone nopWord).restorable 0 = false := by decide +kernel

/-- An entry of die 0's fault queue at index 3. -/
def fqEntry0 (state kind : Nat) : FqEntry :=
  { index := 3, state, kind, saved := false, fetch := false, write := true, cause := 7, idx := 0, lane := 0, wave := 0, core := 0, grid := 0,
    team := 0, tid := some 0, lanes := 1, addr := 0x55, clause := 0x1000 }

theorem witness_FaultCommands : ∀ x ∈ [(1, 0), (1, 1), (2, 0), (3, 3), (1, 2)],
    let s := ({ lone nopWord (g := { placedGrid with phase := if x.2 = 2 then .extents else .running }) with args := { b := 3 } } : State).modDie 0
      fun d => { d with faultQ := [fqEntry0 x.1 x.2] }
    s.fqAt 0 3 = some (fqEntry0 x.1 x.2) ∧ s.fqAt 0 4 = none ∧
    (x.2 = 2 → ((List.range 0).find? fun k => (s.grids.getD k Grid.blank).slot == (fqEntry0 x.1 x.2).grid) = none ∧ ((List.range s.grids.length).find? fun k => (s.grids.getD k Grid.blank).slot == (fqEntry0 x.1 x.2).grid &&
      (s.grids.getD k Grid.blank).phase == .extents) = some 0) := by decide +kernel

theorem witness_FaultCommands_debug : (saved 2 []).debugTeam 0 3 = some 0 ∧ (saved 2 []).debugTeam 0 4 = none ∧
    ((saved 2 []).lane me).ended = false ∧ ((saved 2 []).lane me).absent = false ∧ ((saved 2 []).lane me).isHelper = false ∧
    ((saved 2 []).lane ⟨0, 0, 1⟩).absent = true := by decide +kernel

/-- Where the image of the boot below begins: the first byte of the BAR behind the hub's own block. -/
def imageAt : Nat := Config.gddrTop + hubBlock

/-- The registers of a boot from `imageAt`, of an image of `n` bytes of empty memory. -/
def bootable (n : DWord) : State := State.reset.modHub fun h => { h with fwaddr := BitVec.ofNat 64 hubBlock, fwlen := n, fwgo := 1 }

/-- Empty memory reads as zeros (log 1). -/
theorem bootable_read (w : DWord) (n : Nat) : (bootable w).agentRead imageAt n = some (List.replicate n 0) := by
  have h : ∀ k, (bootable w).mem.current k = some 0 := by
    intro k
    have hc : cellsReadN [] (16 * k) 16 = List.replicate 16 0 := by simp [cellsReadN, cellsRead, unlisted]
    have h0 : sectorOf (List.replicate 16 0) = 0 := by decide
    simp [bootable, State.reset, State.modHub, Memory.current, Memory.dirFind, Memory.reset, Memory.poisoned, Memory.raw, hc]
    exact h0
  have hf : ∀ n, (List.range n).flatMap (fun _ => List.replicate 16 (0 : Byte)) = List.replicate (n * 16) 0 := fun n => by
    induction n with
    | zero => rfl
    | succ n ih => simp only [List.range_succ, List.flatMap_append, ih, List.flatMap_singleton, List.replicate_append_replicate]; congr 1; omega
  have hz : sectorBytes 0 = List.replicate 16 0 := by decide
  have ha : imageAt % 16 = 0 := by decide
  have hb : (bootable w).inHub imageAt = false := by
    show (decide (State.reset.hub.base ≤ imageAt) && decide (imageAt < State.reset.hub.base + hubBlock)) = false
    decide +kernel
  rw [State.agentRead, State.nowRead, hb, if_neg Bool.false_ne_true]
  simp only [Memory.nowRead, h, ha, List.any_map, List.flatMap_map, Function.comp_def, Option.isNone_some,
    List.any_eq_true, Bool.false_eq_true, and_false, exists_false, if_false, Option.getD_some, hz, hf, sliceBytes, List.drop_zero,
    List.take_replicate, List.length_replicate, List.replicate_append_replicate]
  exact congrArg (fun k => some (List.replicate k (0 : Byte))) (by omega)

/-- A field of zeros. -/
theorem slice_zero (n k m : Nat) (_h : k + m ≤ n) : sliceBytes (List.replicate n (0 : Byte)) k m = List.replicate m 0 := by
  simp only [sliceBytes, List.drop_replicate, List.take_replicate, List.length_replicate, List.replicate_append_replicate]
  congr 1
  omega

/-- Boot succeeds on such an image where the ROM's checks pass (log 7): BOOTSTAT is 1, and the firmware runs (R535). -/
theorem witness_HubPackets_boot (w : DWord) (hw : 0x50 + sigBytes ≤ w.toNat) (h2 : w.toNat ≤ 2 ^ 20)
    (hk : Config.keyMatches (List.replicate 64 0) = true)
    (hs : Config.signatureVerifies (List.replicate (0x50 + sigBytes) 0) = true) : (bootable w).bootImage.1 = 1 := by
  have e8 : leNat (List.replicate 8 0) = 0 := by decide
  have e4 : leNat (List.replicate 4 0) = 0 := by decide
  have ha : Config.gddrTop + (bootable w).hub.fwaddr.toNat = imageAt := by rfl
  have hn : (bootable w).hub.fwlen = w := rfl
  have hr : (bootable w).hub.floor = 0 := rfl
  have hp : ¬ (Config.physTop < imageAt + w.toNat ∨ w.toNat < 0x50) := by
    have : imageAt + 2 ^ 20 ≤ Config.physTop := by decide
    omega
  have hq : ¬ (0x800000 < 0 ∨ w.toNat < 0x50 + 0 + sigBytes) := by omega
  have hm : min (0x50 + sigBytes) w.toNat = 0x50 + sigBytes := by omega
  have s8 := slice_zero w.toNat 8 8 (by omega)
  have s4 := slice_zero w.toNat 0 4 (by omega)
  have s64 := slice_zero w.toNat 0x10 64 (by omega)
  simp only [State.bootImage, ha, hn, if_neg hp, bootable_read, recU64, recU32, s8, s4, s64, e8, e4, if_neg hq, hk, hr, List.take_replicate, Nat.add_zero, hm, hs]
  rfl

end Sys2Proof.Tests
end

/-! What an access at the hub directory leaves unchanged: the layer on which the statements about the hub rest. -/

namespace Sys2Proof.Machine

/-- An access at the hub directory (R239, R277, R532) changes memory, the error counts of the memory dies, the lanes' monitors, the
dies' rings and the agenda at most: of the hub, the grids, the teams' places and the operations nothing but those counts. -/
structure HubAccess (s t : State) : Prop where
  hub : { t.hub with mderr := s.hub.mderr } = s.hub
  grids : t.grids = s.grids
  places : t.teams.map Team.place = s.teams.map Team.place
  ops : t.ops = s.ops

namespace HubAccess

theorem refl (s : State) : HubAccess s s := ⟨rfl, rfl, rfl, rfl⟩

theorem trans {s t u : State} (h : HubAccess s t) (k : HubAccess t u) : HubAccess s u where
  hub := by rw [← h.hub, ← k.hub]
  grids := k.grids.trans h.grids
  places := k.places.trans h.places
  ops := k.ops.trans h.ops

theorem foldl {α : Type} {f : State → α → State} (h : ∀ s a, HubAccess s (f s a)) (l : List α) (s : State) :
    HubAccess s (l.foldl f s) := by
  induction l generalizing s with
  | nil => exact refl s
  | cons a l ih => exact (h s a).trans (ih _)

theorem frame_eq {s t : State} (h : HubAccess s t) : t.hub.frame = s.hub.frame := (congrArg Hub.frame h.hub :)
theorem gtime_eq {s t : State} (h : HubAccess s t) : t.hub.gtime = s.hub.gtime := (congrArg Hub.gtime h.hub :)
theorem pmctl_eq {s t : State} (h : HubAccess s t) : t.hub.pmctl = s.hub.pmctl := (congrArg Hub.pmctl h.hub :)

end HubAccess

/-! ### Reads, as they count at the memory dies (R532, R533) -/

theorem hubAccess_noteWord (s : State) (code : Nat) (part : Bool) : HubAccess s (s.noteWord code part) := by
  unfold State.noteWord
  split
  · exact ⟨rfl, rfl, rfl, rfl⟩
  · split <;> exact ⟨rfl, rfl, rfl, rfl⟩

theorem hubAccess_noteRead (s : State) (pa n : Nat) : HubAccess s (s.noteRead pa n) := by
  unfold State.noteRead
  split
  · exact .refl s
  · exact .foldl (fun s c => hubAccess_noteWord s c false) _ _

theorem hubAccess_noteWalk (s : State) (root va : Nat) : HubAccess s (s.noteWalk root va) := by
  have first := hubAccess_noteRead s (root + 8 * bitsOf va 40 12) 8
  unfold State.noteWalk
  dsimp only
  split
  · exact first
  · split
    · exact first
    · split
      · exact first.trans (hubAccess_noteRead _ _ 8)
      · split
        · exact first.trans (hubAccess_noteRead _ _ 8)
        · exact (first.trans (hubAccess_noteRead _ _ 8)).trans (hubAccess_noteRead _ _ 8)

theorem hubAccess_noteAgent (s : State) (root : Nat) (va : DWord) : HubAccess s (s.noteAgent root va) := by
  unfold State.noteAgent
  split
  · exact .refl s
  · exact hubAccess_noteWalk s _ _

theorem hubAccess_noteSq (s : State) : HubAccess s s.noteSq := by
  have packet := hubAccess_noteRead s (s.hub.sq.base.toNat + 64 * (s.hub.sq.head.toNat % 2 ^ 32)) 64
  unfold State.noteSq
  dsimp only
  split
  · exact packet
  · exact packet.trans (hubAccess_noteAgent _ _ _)

/-! ### Writes of the hub (R239, R474) -/

theorem hubAccess_recall (s : State) (line : Nat) : HubAccess s (s.recall line) := by
  unfold State.recall
  split
  · next d _ =>
    have evicted : HubAccess s { s with mem := (s.mem.evictL2 d.die line).1 } := ⟨rfl, rfl, rfl, rfl⟩
    exact evicted.trans (.foldl (fun s sec => hubAccess_noteWord s _ true) _ _)
  · exact .refl s

theorem hubAccess_modMem (s : State) (f : Memory → Memory) : HubAccess s (s.modMem f) := ⟨rfl, rfl, rfl, rfl⟩

theorem hubAccess_modDie (s : State) (d : Nat) (f : Die → Die) : HubAccess s (s.modDie d f) := ⟨rfl, rfl, rfl, rfl⟩

theorem hubAccess_wakeMonitors (s : State) (t : Target) (n : Nat) : HubAccess s (s.wakeMonitors t n) where
  hub := rfl
  grids := rfl
  places := by simp [State.wakeMonitors]
  ops := rfl

theorem hubAccess_agentWriteSector (s : State) (pa : Nat) (b : List Byte) (sec : Nat) :
    HubAccess s (s.agentWriteSector pa b sec) := by
  have recalled := hubAccess_recall s (sec / 8)
  unfold State.agentWriteSector
  extract_lets lo hi whole t u
  have cured : HubAccess s u := by
    unfold u
    split
    · exact recalled.trans (hubAccess_modMem _ _)
    · exact recalled
  split
  · exact cured
  · exact cured.trans (hubAccess_modMem _ _)

theorem hubAccess_agentWrite (s : State) (pa : Nat) (b : List Byte) : HubAccess s (s.agentWrite pa b) := by
  unfold State.agentWrite
  split
  · exact ⟨rfl, rfl, rfl, rfl⟩
  · exact ((hubAccess_wakeMonitors s _ _).trans (.foldl (fun s k => hubAccess_agentWriteSector s pa b k) _ _)).trans
      (.foldl (fun s c => hubAccess_noteWord s c true) _ _)

theorem hubAccess_ringPost (s : State) (die : Nat) (n : RingName) (rec : List Byte) (phys : DWord → Option Nat) :
    HubAccess s (s.ringPost die n rec phys) := by
  unfold State.ringPost
  dsimp only
  split
  · exact .refl s
  · split
    · exact hubAccess_modDie s _ _
    · split
      · exact hubAccess_modDie s _ _
      · exact (HubAccess.foldl (fun s p => hubAccess_agentWrite s _ _) _ _).trans (hubAccess_modDie _ _ _)

end Sys2Proof.Machine

/-! Reset (R12) and the GCP's turns on the packets of the submission queue, boot and module reset (R528 to R531, R535). -/

namespace Sys2Proof.Machine

/-! ### Reset -/

/-- Settles O18: every clause is a component of `State.reset`; the dies are eight copies of one reset die, and so for the entries of
the write guard and the memory dies. -/
theorem resetState : Obligations.ResetState := by
  have dies : ∀ d ∈ State.reset.dies, d = Die.reset := fun _ h => List.eq_of_mem_replicate h
  refine ⟨rfl, rfl, fun d hd => ?_, rfl, rfl, rfl, fun g hg => List.eq_of_mem_replicate hg, rfl,
    fun e he => List.eq_of_mem_replicate he, rfl, rfl, rfl, rfl, rfl⟩
  rw [dies d hd]
  refine ⟨rfl, rfl, rfl, rfl, rfl, rfl, rfl, rfl, rfl, rfl, rfl, fun r hr => ?_⟩
  simpa [Die.reset, Ring.reset] using hr

/-! ### The packet at SQHEAD -/

/-- A packet of the GCP's kind runs, once its reads are counted, where its slot is in the physical map and its CADDR is good. -/
theorem gcp_runs {s : State} {crec : Option Nat} (ready : s.sqReady = true)
    (inMap : s.hub.sq.base.toNat + 64 * (s.hub.sq.head.toNat % 2 ^ 32) + 64 ≤ 2 ^ 52)
    (record : s.recordAt s.sqPacket = some crec) {kind : Nat} (hk : sqKind s.sqPacket = kind)
    (run : State → List DWord → Option Nat → State) :
    s.gcp kind run = .next (run s.noteSq s.sqPacket crec) := by
  unfold State.gcp
  rw [ready, if_neg (by decide), if_neg (show ¬ Config.physTop < _ from Nat.not_lt.mpr inMap)]
  simp only [hk, record, ne_eq, not_true_eq_false, if_false]

/-- The grid of a launch whose checks hold (R191, R530): the fields of its record `b`, the initial values `wi` and its extents. -/
def State.grantedGrid (s : State) (p : List DWord) (b wi : List Byte) (es : List Extent) (crec : Option Nat) : Grid :=
  { gridOfRecord (recordDwords b) with
    root := sqRoot p, lrec := sqRec p, winit := (List.range 64).map fun k => BitVec.ofNat 32 (recU32 wi (4 * k)), extents := es,
    dbase := s.drawBase (sqDcnt p), dcnt := sqDcnt p, crec, dshr := s.hub.sharedRanges }

theorem launch_refused_misaligned (s : State) (p : List DWord) (crec : Option Nat) (slot : Nat)
    (h : (sqRec p).toNat % 64 ≠ 0) : s.launch p crec slot = (s.noteLaunch p).refuse crec 2 := by
  rw [State.launch, if_pos h]

section
variable {s : State} {p : List DWord} {b : List Byte} (crec : Option Nat) (slot : Nat)
  (aligned : (sqRec p).toNat % 64 = 0) (record : s.rootRead (sqRoot p) (sqRec p) 2 128 = some b)
include aligned record

theorem launch_refused_badRecord
    (h : launchBad (recordDwords b) = true ∨
      s.rootRead (sqRoot p) (BitVec.ofNat 64 ((recordDwords b).getD 8 0)) 2 256 = none) :
    s.launch p crec slot = (s.noteLaunch p).refuse crec 2 := by
  have unread : (if launchBad (recordDwords b) = true then none
      else s.rootRead (sqRoot p) (BitVec.ofNat 64 ((recordDwords b).getD 8 0)) 2 256) = none := by
    rcases h with h | h
    · rw [if_pos h]
    · rw [h, ite_self]
  rw [State.launch, if_neg (not_not.mpr aligned)]
  simp only [record, unread]

variable {wi : List Byte} (good : launchBad (recordDwords b) = false)
  (winit : s.rootRead (sqRoot p) (BitVec.ofNat 64 ((recordDwords b).getD 8 0)) 2 256 = some wi)
include good winit

theorem launch_refused_draw (draw : s.drawBad (sqDcnt p) = true) :
    s.launch p crec slot = (s.noteLaunch p).refuse crec 4 := by
  rw [State.launch, if_neg (not_not.mpr aligned)]
  simp only [record, good, winit, draw, Bool.false_eq_true, if_false, if_true]

theorem launch_refused_extents (draw : s.drawBad (sqDcnt p) = false)
    (table : s.extentTable (sqRoot p) (BitVec.ofNat 64 ((recordDwords b).getD 9 0)) ((recordDwords b).getD 10 0 % 32) = none) :
    s.launch p crec slot = (s.noteLaunch p).refuse crec 3 := by
  rw [State.launch, if_neg (not_not.mpr aligned)]
  simp only [record, good, winit, draw, table, Bool.false_eq_true, if_false]

theorem launch_admitted (draw : s.drawBad (sqDcnt p) = false) {es : List Extent}
    (table : s.extentTable (sqRoot p) (BitVec.ofNat 64 ((recordDwords b).getD 9 0)) ((recordDwords b).getD 10 0 % 32) = some es) :
    s.launch p crec slot =
      (((s.noteLaunch p).takeSq.takeIn (s.grantedGrid p b wi es crec) slot).splitGrid s.grids.length).allExtents
        s.grids.length := by
  rw [State.launch, if_neg (not_not.mpr aligned)]
  simp only [record, good, winit, draw, table, Bool.false_eq_true, if_false, State.grantedGrid]

end

/-- A launch with a free slot and room in every mailbox is the GCP's next packet. -/
theorem execLaunch_eq {s : State} {slot : Nat} (free : s.freeGridSlot = some slot) (room : ∀ d < 8, s.mailRoom d = true) :
    exec .launch s = s.gcp 1 fun s p crec => s.launch p crec slot := by
  have full : ((List.range Config.dies).any fun d => !s.mailRoom d) = false := by
    simpa [Config.dies] using room
  show execLaunch s = _
  simp [execLaunch, free, full]

theorem execBadpacket_eq (s : State) : exec .badpacket s = s.gcp 0 fun s _ crec => s.refuse crec 5 := rfl

/-- What FRAME does with its packet, the reads of the packet being counted (R385, R531). -/
def State.takeFrame (s : State) (p : List DWord) (crec : Option Nat) : State :=
  let t := s.noteFrame (sqRoot p) (sqRec p) crec
  match s.openFrame (sqRoot p) (sqRec p) crec with
  | none => t.refuse crec 4
  | some f => (t.takeSq.modHub fun h => { h with frame := some f }).writeRecord crec 1 0 0 0

theorem execFrame_eq (s : State) : exec .frame s = s.gcp 2 State.takeFrame := rfl

theorem takeFrame_refused {s : State} {p : List DWord} {crec : Option Nat}
    (h : s.openFrame (sqRoot p) (sqRec p) crec = none) :
    s.takeFrame p crec = (s.noteFrame (sqRoot p) (sqRec p) crec).refuse crec 4 := by
  simp only [State.takeFrame, h]

theorem takeFrame_opens {s : State} {p : List DWord} {crec : Option Nat} {f : Frame}
    (h : s.openFrame (sqRoot p) (sqRec p) crec = some f) :
    s.takeFrame p crec = ((s.noteFrame (sqRoot p) (sqRec p) crec).takeSq.modHub fun x =>
      { x with frame := some f }).writeRecord crec 1 0 0 0 := by
  simp only [State.takeFrame, h]

/-- ENDFRAME waits for the geometry of the frame that is open (R531). -/
theorem execEndframe_waits {s : State} {f : Frame} (h : s.hub.frame = some f) (busy : s.frameQuiet = false) :
    exec .endframe s = .next s := by
  show execEndframe s = _
  simp [execEndframe, h, busy]

theorem modFrame_some {s : State} {f : Frame} (h : s.hub.frame = some f) (g : Frame → Frame) :
    s.modFrame g = s.modHub fun x => { x with frame := some (g f) } := by
  simp [State.modFrame, State.modHub, h]

/-- What ENDFRAME does with its packet, the reads of the packet being counted (R393, R531). -/
def State.takeEndframe (s : State) (_p : List DWord) (crec : Option Nat) : State :=
  if s.hub.frame.isNone then s.refuse crec 4
  else ((List.range Config.dies).foldl (fun s d => s.closeTiles d) (s.takeSq.modFrame fun f => f.endWith crec)).closeFrame

/-- ENDFRAME takes its packet when no geometry of an open frame runs. -/
theorem execEndframe_eq {s : State} (h : s.hub.frame = none ∨ s.frameQuiet = true) :
    exec .endframe s = s.gcp 3 State.takeEndframe := by
  have : ¬(s.hub.frame.isSome = true ∧ s.frameQuiet = false) := by
    rcases h with h | h <;> simp [h]
  show execEndframe s = _
  rw [execEndframe, if_neg this]
  rfl

theorem takeEndframe_refused {s : State} (p : List DWord) (crec : Option Nat) (h : s.hub.frame = none) :
    s.takeEndframe p crec = s.refuse crec 4 := by
  rw [State.takeEndframe, if_pos (by simp [h])]

theorem takeEndframe_ends {s : State} (p : List DWord) (crec : Option Nat) {f : Frame} (h : s.hub.frame = some f) :
    s.takeEndframe p crec = ((List.range 8).foldl State.closeTiles
      (s.takeSq.modHub fun x => { x with frame := some (f.endWith crec) })).closeFrame := by
  have taken : s.takeSq.hub.frame = some f := h
  rw [State.takeEndframe, if_neg (by simp [h]), modFrame_some taken]
  rfl

/-! ### Ranges (R193) -/

/-- The weights of the dies in a split: their capacities, or 1 each where no die has room. -/
def splitWeights (caps : List Nat) : List Nat := if caps.sum = 0 then caps.map (fun _ => 1) else caps

theorem splitAt_eq (teams u : Nat) (caps : List Nat) (d : Nat) :
    splitAt teams u caps d = u * (teams / u * ((splitWeights caps).take d).sum / (splitWeights caps).sum) := rfl

theorem splitWeights_length (caps : List Nat) : (splitWeights caps).length = caps.length := by
  unfold splitWeights
  split <;> simp

theorem splitWeights_sum_pos {caps : List Nat} (h : caps ≠ []) : 0 < (splitWeights caps).sum := by
  unfold splitWeights
  split
  · simpa using List.length_pos_iff.mpr h
  · omega

theorem splitAt_zero (teams u : Nat) (caps : List Nat) : splitAt teams u caps 0 = 0 := by
  simp [splitAt_eq]

/-- The last range ends behind the last team. -/
theorem splitAt_length {caps : List Nat} (h : caps ≠ []) (teams u : Nat) :
    splitAt teams u caps caps.length = u * (teams / u) := by
  rw [splitAt_eq, ← splitWeights_length, List.take_length, Nat.mul_div_cancel _ (splitWeights_sum_pos h)]

/-- Every range begins where the one before it ends, or later. -/
theorem splitAt_mono (teams u : Nat) (caps : List Nat) (d : Nat) : splitAt teams u caps d ≤ splitAt teams u caps (d + 1) := by
  have sums : ((splitWeights caps).take d).sum ≤ ((splitWeights caps).take (d + 1)).sum :=
    (List.take_sublist_take_left (Nat.le_succ d)).sum_le_sum (fun _ _ => Nat.zero_le _)
  simp only [splitAt_eq]
  exact Nat.mul_le_mul_left _ (Nat.div_le_div_right (Nat.mul_le_mul_left _ sums))

/-! ### Boot (R535) -/

theorem execFwgo_starts {s : State} (flag : s.args.flag = false) (starts : s.args.a = 0 ∧ s.args.v = 1)
    (idle : s.hub.bootstat ≠ 6) (unready : s.hub.bootstat ≠ 1) :
    exec .fwgo s = .next ((s.modHub fun h =>
      { h with fwgo := mergeReg h.fwgo s.args.a (if s.args.b = 4 then 4 else 8) s.args.v }).modHub fun h =>
        { h with bootstat := 6 }) := by
  have : ¬(s.args.a ≠ 0 ∨ s.args.v ≠ 1 ∨ s.hub.bootstat = 6 ∨ s.hub.bootstat = 1) := by
    rintro (h | h | h | h)
    exacts [h starts.1, h starts.2, idle h, unready h]
  show execFwgo s = _
  rw [execFwgo, if_neg (by simp [flag])]
  exact congrArg Host.Outcome.next (if_neg this)

theorem execFwgo_idle {s : State} (flag : s.args.flag = false)
    (h : ¬(s.args.a = 0 ∧ s.args.v = 1) ∨ s.hub.bootstat = 6 ∨ s.hub.bootstat = 1) :
    exec .fwgo s = .next (s.modHub fun h =>
      { h with fwgo := mergeReg h.fwgo s.args.a (if s.args.b = 4 then 4 else 8) s.args.v }) := by
  have : s.args.a ≠ 0 ∨ s.args.v ≠ 1 ∨ s.hub.bootstat = 6 ∨ s.hub.bootstat = 1 := by tauto
  show execFwgo s = _
  rw [execFwgo, if_neg (by simp [flag])]
  exact congrArg Host.Outcome.next (if_pos this)

/-- The second turn of a boot. -/
theorem execFwgo_ends {s : State} (flag : s.args.flag = true) :
    exec .fwgo s = .next (if s.hub.bootstat = 6 then s.bootEnd else s) := by
  show execFwgo s = _
  rw [execFwgo, if_pos flag]

theorem bootEnd_refused {s : State} (h : s.bootImage.1 ≠ 1) :
    s.bootEnd = s.modHub fun x => { x with bootstat := s.bootImage.1 } := if_neg h

theorem bootEnd_ready {s : State} (h : s.bootImage.1 = 1) :
    s.bootEnd = (s.modHub fun x => { x with bootstat := s.bootImage.1 }).ready s.bootImage.2 := if_pos h

/-- What a write leaves in FWGO: one of four bytes changes a half, any other the whole. -/
theorem mergeReg_fwgo (old v : DWord) (a b : Nat) :
    mergeReg old a (if b = 4 then 4 else 8) v = if b = 4 then mergeReg old a 4 v else v := by
  split
  · rfl
  · exact if_pos rfl

/-- Settles O54: each packet's turn is `State.gcp` on the packet at SQHEAD, whose reads leave the frame alone
(`hubAccess_noteSq`); the splits follow from the sums of the dies' capacities. -/
theorem hubPackets : Obligations.HubPackets := by
  refine ⟨?packets, ?split, ?boot, fun s => ⟨_, rfl, rfl, rfl, rfl, rfl, rfl, rfl, rfl, rfl, rfl, rfl, rfl, rfl, rfl⟩⟩
  case packets =>
    intro s crec ready inMap record p root n l
    have runs := fun {k : Nat} (hk : sqKind p = k) => gcp_runs ready inMap record hk
    have frame : n.hub.frame = s.hub.frame := (hubAccess_noteSq s).frame_eq
    refine ⟨fun hk => ?badpacket, fun hk slot free room => ?launch, fun hk => ?frame, fun hk => ?endframe⟩
    case badpacket => exact (execBadpacket_eq s).trans (runs hk _)
    case launch =>
      have launch : exec .launch s = .next (n.launch p crec slot) := (execLaunch_eq free room).trans (runs hk _)
      simp only [Gives, launch]
      refine ⟨fun h => by rw [launch_refused_misaligned n p crec slot h], fun b aligned hb => ?_⟩
      refine ⟨fun h => by rw [launch_refused_badRecord crec slot aligned hb h], fun wi good hw => ?_⟩
      refine ⟨fun h => by rw [launch_refused_draw crec slot aligned hb good hw h], fun draw => ?_⟩
      exact ⟨fun h => by rw [launch_refused_extents crec slot aligned hb good hw draw h],
        fun es h => congrArg _ (launch_admitted crec slot aligned hb good hw draw h)⟩
    case frame =>
      have opens : exec .frame s = .next (n.takeFrame p crec) := (execFrame_eq s).trans (runs hk _)
      simp only [Gives, opens]
      exact ⟨fun h => by rw [takeFrame_refused h], fun x h => congrArg _ (takeFrame_opens h)⟩
    case endframe =>
      refine ⟨fun closed => ?_, fun f opened => ⟨execEndframe_waits opened, fun quiet => ?_⟩⟩
      · rw [Gives, execEndframe_eq (.inl closed), runs hk, takeEndframe_refused _ _ (frame.trans closed)]
      · rw [Gives, execEndframe_eq (.inr quiet), runs hk, takeEndframe_ends _ _ (frame.trans opened)]
  case split =>
    intro teams u caps h
    have nonempty : caps ≠ [] := List.length_pos_iff.mp (h ▸ by decide)
    exact ⟨splitAt_zero .., h ▸ splitAt_length nonempty teams u, splitAt_mono teams u caps⟩
  case boot =>
    intro s u starts boot v
    have hu : s.modHub (fun h => { h with fwgo := mergeReg h.fwgo s.args.a (if s.args.b = 4 then 4 else 8) s.args.v }) = u := by
      simp only [mergeReg_fwgo, u]
    refine ⟨fun flag => ⟨fun h => ?_, fun h idle unready => ?_⟩, fun flag => ?_⟩
    · rw [Gives, execFwgo_idle flag h, hu]
    · rw [Gives, execFwgo_starts flag h idle unready, hu]
    · rw [Gives, Gives, Gives, execFwgo_ends flag]
      exact ⟨fun h => by rw [if_neg h], fun h e => by rw [if_pos h, bootEnd_refused e],
        fun h e => by rw [if_pos h, bootEnd_ready e]⟩

end Sys2Proof.Machine

/-! Register writes of the hub and the dies, and the turns of their commands (R14, R436, R487, R514, R520, R525 to R528, R536,
R537). -/

namespace Sys2Proof.Machine

/-! ### Writes of registers -/

/-- A write that is not of 4 or 8 bytes, naturally aligned, is none (R14). -/
theorem registerWrite_unaligned {s : State} (h : ¬((s.args.b = 8 ∧ s.args.a % 8 = 0) ∨ (s.args.b = 4 ∧ s.args.a % 4 = 0))) :
    exec .registerWrite s = .next s := by
  show execRegisterWrite s = _
  rw [execRegisterWrite, if_pos (by rw [Bool.not_eq_true', decide_eq_false_iff_not]; exact h)]

/-- A whole register of the hub other than FWGO. -/
theorem writeHubReg_whole (s : State) {off : Nat} (aligned : off % 8 = 0) (ne : off ≠ 0x90) (v : DWord) :
    s.writeHubReg off 8 v = { s with
      hub := s.hub.writeReg off v
      agenda := (if s.hub.bootstat = 1 then hubCommand off v true else []) ++ s.agenda } := by
  have base : off / 8 * 8 = off := by omega
  rw [State.writeHubReg]
  simp only [base, aligned, if_neg ne, mergeReg, if_true, State.modHub, BEq.rfl]

section
variable {s : State} {off : Nat} (offset : s.args.a = off) (whole : s.args.b = 8)
include offset whole

theorem registerWrite_hub (aligned : off % 8 = 0) (inHub : off < 0x100000) (ne : off ≠ 0x90) (notEq : off ≠ 0x148) :
    exec .registerWrite s = .next { s with
      hub := s.hub.writeReg off s.args.v
      agenda := (if s.hub.bootstat = 1 then hubCommand off s.args.v true else []) ++ s.agenda } := by
  have base : off / 8 * 8 ≠ 0x148 := by omega
  show execRegisterWrite s = _
  simp only [execRegisterWrite, offset, whole]
  rw [if_neg (by simp [aligned]), if_neg (by omega), if_neg base, writeHubReg_whole s aligned ne]

/-- EQSIZE, whose write lets in what waits for EQ (R528). -/
theorem registerWrite_eqSize (eqSize : off = 0x148) (ready : s.hub.bootstat = 1) :
    exec .registerWrite s = (s.modHub fun h => { h with eq := { h.eq with size := s.args.v &&& 0xFFFFFFFF } }).eqFlush := by
  subst eqSize
  show execRegisterWrite s = _
  simp only [execRegisterWrite, offset, whole]
  rw [if_neg (by decide), if_neg (by decide), if_pos (by decide), writeHubReg_whole s (by decide) (by decide)]
  simp [Hub.writeReg, Ring.writeReg, hubCommand, ready, State.modHub]

theorem registerWrite_die {d reg : Nat} (window : off = 0x100000 + 0x10000 * d + reg) (hd : d < 8) (hr : reg < 0x10000)
    (aligned : reg % 8 = 0) (ready : s.hub.bootstat = 1) (ne : reg ≠ 0x008) (plain : dieCommand d reg s.args.v true = []) :
    exec .registerWrite s = .next (s.modDie d fun x => x.writeReg reg s.args.v) := by
  have aligned' : off % 8 = 0 := by omega
  have die : (off - 0x100000) / 0x10000 = d := by omega
  have place : off % 0x10000 = reg := by omega
  have base : reg / 8 * 8 = reg := by omega
  show execRegisterWrite s = _
  simp only [execRegisterWrite, offset, whole]
  rw [if_neg (by simp [aligned']), if_pos (by omega), if_pos ready, die, place, State.writeDieReg]
  simp [base, aligned, mergeReg, plain, ne, State.modDie]

/-- Before READY the dies' windows take no write (log 6). -/
theorem registerWrite_die_unready (window : 0x100000 ≤ off ∧ off < 0x180000) (aligned : off % 8 = 0)
    (unready : s.hub.bootstat ≠ 1) : exec .registerWrite s = .next s := by
  show execRegisterWrite s = _
  simp only [execRegisterWrite, offset, whole]
  rw [if_neg (by simp [aligned]), if_pos window, if_neg unready]

end

/-- Before READY a write changes FWADDR and FWLEN alone (log 6). -/
theorem writeReg_unready {h : Hub} (unready : h.bootstat ≠ 1) {off : Nat} (h1 : off ≠ 0x80) (h2 : off ≠ 0x88) (v : DWord) :
    h.writeReg off v = h := by
  rw [Hub.writeReg, if_neg h1, if_neg h2, if_pos unready]

/-- Before READY a write of another register of the hub is none (log 6). -/
theorem registerWrite_hub_unready {s : State} {off : Nat} (offset : s.args.a = off) (whole : s.args.b = 8)
    (aligned : off % 8 = 0) (plain : off < 0x80) (unready : s.hub.bootstat ≠ 1) : exec .registerWrite s = .next s := by
  rw [registerWrite_hub offset whole aligned (by omega) (by omega) (by omega),
    writeReg_unready unready (by omega) (by omega), if_neg unready]
  rfl

/-! ### The rings (R528) -/

/-- Where nothing waits for EQ, nothing enters it. -/
theorem eqFlush_idle {s : State} (h : s.hub.eqWait = []) : s.eqFlush = .next s := by
  rw [State.eqFlush, h]
  rfl

/-- SQTAIL moves, and what it releases takes the shared ranges as they stand (R459). -/
theorem execSqtailWrite_ready {s : State} (ready : s.hub.bootstat = 1) :
    exec .sqtailWrite s = .next (s.modHub fun h => h.releaseSq s.args.v) := by
  show execSqtailWrite s = _
  rw [execSqtailWrite, if_pos ready]

theorem execEqtailWrite_ready {s : State} (ready : s.hub.bootstat = 1) :
    exec .eqtailWrite s = (s.modHub fun h => { h with eq := { h.eq with tail := s.args.v &&& 0xFFFFFFFF } }).eqFlush := by
  show execEqtailWrite s = _
  rw [execEqtailWrite, if_pos ready]
  rfl

theorem execTailWrites_unready {s : State} (unready : s.hub.bootstat ≠ 1) :
    exec .sqtailWrite s = .next s ∧ exec .eqtailWrite s = .next s := by
  show execSqtailWrite s = _ ∧ execEqtailWrite s = _
  rw [execSqtailWrite, execEqtailWrite, if_neg unready, if_neg unready]
  exact ⟨rfl, rfl⟩

/-! ### TLB syncs (R436) -/

@[simp] theorem dropPages_ops (s : State) (v : DWord) : (s.dropPages v).ops = s.ops := rfl

/-- A sync drops finished walks, and leaves those in flight. -/
theorem dropPages_walks (s : State) (v : DWord) :
    (s.dropPages v).bundles.flatMap (fun b => b.walks.map fun x => (b.id, x)) =
      s.bundles.flatMap fun b => b.walks.map fun x => (b.id, x) := by
  simp [State.dropPages, List.flatMap_map]

theorem execTlbsyncWrite_busy {s : State} (busy : s.hub.tlbsync.getLsbD 1 = true) : exec .tlbsyncWrite s = .next s := by
  show execTlbsyncWrite s = _
  rw [execTlbsyncWrite, if_pos busy]

theorem execTlbsyncWrite_starts {s : State} (idle : s.hub.tlbsync.getLsbD 1 = false) (flag : s.args.flag = true) :
    exec .tlbsyncWrite s = .next ((s.dropPages (s.args.v &&& ~~~14#64)).modHub fun h => { h with
      tlbsync := s.args.v &&& ~~~14#64 ||| 2, syncOps := (s.ops.filter Op.usesPages).map (·.id),
      syncWalks := s.bundles.flatMap fun b => b.walks.map fun x => (b.id, x) }) := by
  show execTlbsyncWrite s = _
  simp only [execTlbsyncWrite, idle, flag, Bool.not_true, Bool.false_eq_true, if_false, dropPages_ops, dropPages_walks]
  rfl

/-- Nothing that a TLB sync waits for is left (log 53). -/
def State.SyncSettled (s : State) : Prop :=
  (∀ o ∈ s.ops, o.id ∈ s.hub.syncOps → o.usesPages = false) ∧ ∀ x ∈ s.hub.syncWalks, s.walkFlies x = false

theorem syncSettled_iff (s : State) : s.SyncSettled ↔
    (s.ops.any (fun o => s.hub.syncOps.contains o.id && o.usesPages) || s.hub.syncWalks.any s.walkFlies) = false := by
  simp [State.SyncSettled]

theorem execTlbSyncComplete_ends {s : State} (busy : s.hub.tlbsync.getLsbD 1 = true) (settled : s.SyncSettled) :
    exec .tlbSyncComplete s = .next (s.modHub fun h =>
      { h with tlbsync := h.tlbsync &&& ~~~2#64, syncOps := [], syncWalks := [] }) := by
  show execTlbSyncComplete s = _
  rw [execTlbSyncComplete, Bool.or_assoc, (syncSettled_iff s).mp settled, busy]
  rfl

theorem execTlbSyncComplete_waits {s : State} (h : s.hub.tlbsync.getLsbD 1 = false ∨ ¬s.SyncSettled) :
    exec .tlbSyncComplete s = .next s := by
  have : (!s.hub.tlbsync.getLsbD 1 ||
      (s.ops.any (fun o => s.hub.syncOps.contains o.id && o.usesPages) || s.hub.syncWalks.any s.walkFlies)) = true := by
    rcases h with h | h
    · rw [h]
      rfl
    · rw [syncSettled_iff, Bool.not_eq_false] at h
      rw [h, Bool.or_true]
  show execTlbSyncComplete s = _
  rw [execTlbSyncComplete, Bool.or_assoc, if_pos this]

/-! ### Counter streaming (R487) -/

/-- The dies' records of a tick, PMACT's bit 7 being set. -/
def State.pmRecords (s : State) : State :=
  (List.range Config.dies).foldl (fun u d => u.ringPost d .pm (pmRecord s.hub d u.free) fun va =>
    u.agentPhys (Config.pmRoot d) true va needW) s

theorem hubAccess_pmRecords (s : State) : HubAccess s s.pmRecords :=
  .foldl (fun s d => hubAccess_ringPost s d _ _ _) _ _

/-- PMCTL takes effect at a tick. -/
def Hub.latchPm (h : Hub) : Hub := if h.pmact = h.pmctl then h else { h with pmact := h.pmctl, pmpart := true }

@[simp] theorem latchPm_pmact (h : Hub) : h.latchPm.pmact = h.pmctl := by
  unfold Hub.latchPm
  split
  · assumption
  · rfl

@[simp] theorem latchPm_gtime (h : Hub) : h.latchPm.gtime = h.gtime := by
  unfold Hub.latchPm
  split <;> rfl

theorem execPmTick_between {s : State} (h : s.hub.gtime.toNat % 2 ^ (s.hub.pmact.toNat % 32) ≠ 0) :
    exec .pmTick s = .next s := by
  show execPmTick s = _
  rw [execPmTick, if_pos h]

theorem execPmTick_idle {s : State} (tick : s.hub.gtime.toNat % 2 ^ (s.hub.pmact.toNat % 32) = 0)
    (off : s.hub.pmact.getLsbD 7 = false) : exec .pmTick s = .next (s.modHub Hub.latchPm) := by
  show execPmTick s = _
  simp only [execPmTick, tick, off, ne_eq, not_true_eq_false, Bool.false_eq_true, if_false]
  rfl

theorem execPmTick_streams {s : State} (tick : s.hub.gtime.toNat % 2 ^ (s.hub.pmact.toNat % 32) = 0)
    (on : s.hub.pmact.getLsbD 7 = true) :
    exec .pmTick s = .next ((s.pmRecords.modHub fun h => { h with pmpart := false }).modHub Hub.latchPm) := by
  show execPmTick s = _
  simp only [execPmTick, tick, on, ne_eq, not_true_eq_false, if_false, if_true]
  rfl

theorem execPmctlWrite_eq (s : State) : exec .pmctlWrite s = .next (s.modHub fun h =>
    let n := s.args.v.toNat
    { h with pmctl := (s.args.v.extractLsb' 0 32 &&& 0x80) |||
      BitVec.ofNat 32 (if 10 ≤ n % 32 ∧ n % 32 ≤ 24 then n % 32 else h.pmctl.toNat % 32) }) := by
  have low : (lo32 s.args.v).toNat % 32 = s.args.v.toNat % 32 := by
    simp only [lo32, BitVec.extractLsb'_toNat]
    omega
  show execPmctlWrite s = _
  simp only [execPmctlWrite, low]
  rfl

/-! ### Quiet mode and power (R536, R537) -/

/-- QSTAT follows a changed limit in the turn of CLOCK_CHANGE only (log 15). -/
theorem writeQctl_qstat (h : Hub) (v : Nat) : (h.writeQctl v).qstat = h.qstat := by
  unfold Hub.writeQctl
  rfl

theorem writeQctl_fcur (h : Hub) (v : Nat) : (h.writeQctl v).fcur = h.fcur := by
  rw [Hub.fcur, writeQctl_qstat, Hub.fcur]

theorem writeQctl_pest (h : Hub) (v : Nat) : (h.writeQctl v).pest = h.pest := by
  rw [Hub.pest, writeQctl_qstat, Hub.pest]

/-- Bit 31 in its place. -/
theorem bitsOf_31 (v : DWord) : bitsOf v.toNat 31 1 * 2 ^ 31 = if v.getLsbD 31 then 2 ^ 31 else 0 := by
  rw [bitsOf, BitVec.getLsbD, Nat.testBit_eq_decide_div_mod_eq, pow_one]
  rcases Nat.mod_two_eq_zero_or_one (v.toNat / 2 ^ 31) with h | h
  · rw [h, if_neg (by decide), zero_mul]
  · rw [h, if_pos (by decide), one_mul]

theorem bitsOf_byte2 (x : Nat) : bitsOf x 16 8 = x / 65536 % 256 := rfl

theorem bitsOf_zero (x len : Nat) : bitsOf x 0 len = x % 2 ^ len := by
  rw [bitsOf, pow_zero, Nat.div_one]

theorem bitsOf_half0 (x : Nat) : bitsOf x 0 16 = x % 65536 := bitsOf_zero x 16

theorem execQctlWrite_eq (s : State) : exec .qctlWrite s = .next { s with
    hub := s.hub.writeQctl s.args.v.toNat
    agenda := .ev .clockChange { a := s.hub.fcur, v := BitVec.ofNat 64 s.hub.pest } :: s.agenda } := by
  show execQctlWrite s = _
  simp only [execQctlWrite, writeQctl_fcur, writeQctl_pest]

theorem execClockChange_eq (s : State) : exec .clockChange s = .next (s.modHub fun h =>
    h.setClock (h.clockAt (max 8 s.args.a)) (s.args.v.toNat % 65536)) := rfl

/-- The clock limit in steps of 25 MHz, from QCTL. -/
theorem clockLimit_eq (h : Hub) :
    h.clockLimit = if h.qctl.getLsbD 31 then min 56 (h.qctl.toNat / 65536 % 256) else 56 := rfl

/-- The power limit in W, from QCTL. -/
theorem powerLimit_eq (h : Hub) : h.powerLimit = if h.qctl.getLsbD 31 then min 1100 (h.qctl.toNat % 65536) else 1100 := by
  rw [Hub.powerLimit, bitsOf_half0]

theorem fcur_eq (h : Hub) : h.fcur = h.qstat.toNat / 65536 % 256 := rfl

theorem pest_eq (h : Hub) : h.pest = h.qstat.toNat % 65536 := bitsOf_half0 _

theorem setClock_eq (h : Hub) (f pest : Nat) : h.setClock f pest = { h with
    qstat := BitVec.ofNat 64 (min pest h.powerLimit + f * 65536 + if f < h.clockLimit then 2 ^ 31 else 0) } := rfl

theorem execThermalThrottle_cool {s : State} (h : s.args.a ≤ 100) :
    exec .thermalThrottle s = .next (s.modHub fun x => { x with heat := s.args.a }) := by
  show execThermalThrottle s = _
  simp only [execThermalThrottle, h, if_true]

theorem execThermalThrottle_hot {s : State} (h : 100 < s.args.a) :
    exec .thermalThrottle s = .next (s.modHub fun x =>
      { x with heat := s.args.a }.setClock
        (if 110 < s.args.a then 8 else min (min (max 8 (x.fcur - 1)) x.clockLimit) x.fcur) x.pest) := by
  show execThermalThrottle s = _
  simp only [execThermalThrottle, Nat.not_le.mpr h, if_false, Hub.clockAt, h, if_true]
  rfl

/-! ### Basket moves (R520) -/

theorem execBskcmd_ignored {s : State} (h : s.hub.frame = none ∨ s.spillHost = false) :
    exec .bskcmdSpill s = .next s ∧ exec .bskcmdReturn s = .next s := by
  show execBskcmdSpill s = _ ∧ execBskcmdReturn s = _
  unfold execBskcmdSpill execBskcmdReturn
  rcases h with h | h
  · simp only [h, and_self]
  · cases s.hub.frame <;> simp [h]

section
variable {s : State} {f : Frame} (frame : s.hub.frame = some f) (hosted : s.spillHost = true)
include frame hosted

theorem execBskcmdSpill_hosted : exec .bskcmdSpill s =
    ((spillCopies s.args.b s.args.a f s).settleBasket s.args.a f).eqFlush := by
  show execBskcmdSpill s = _
  simp only [execBskcmdSpill, frame, hosted, if_true]

theorem execBskcmdReturn_hosted : exec .bskcmdReturn s =
    ((returnCopies s.args.b s.args.a (fun d => decide (d.generalUsed < basketGeneral)) f s).settleBasket s.args.a f).eqFlush := by
  show execBskcmdReturn s = _
  simp only [execBskcmdReturn, frame, hosted, if_true]

end

/-! ### Tile ownership (R514) -/

/-- The writable bits of OWNMOVE in a write (R514). -/
def ownmoveOf (v : DWord) : BitVec 32 := lo32 v &&& 0x871FF1FF

theorem lo32_ownmove (v : DWord) : lo32 v &&& 0x871FF1FF = ownmoveOf v := rfl

theorem ownmoveOf_go (v : DWord) : (ownmoveOf v).getLsbD 31 = v.getLsbD 31 := by
  simp [ownmoveOf, lo32]

theorem bitsOf_toNat {w : Nat} (x : BitVec w) (lo len : Nat) : bitsOf x.toNat lo len = (x.extractLsb' lo len).toNat := by
  rw [bitsOf, BitVec.extractLsb'_toNat, Nat.shiftRight_eq_div_pow]

/-- A field whose bits are all writable reads from the register as from the write. -/
theorem bitsOf_ownmoveOf (v : DWord) {lo len : Nat} (inside : lo + len ≤ 32)
    (writable : (0x871FF1FF : BitVec 32).extractLsb' lo len = BitVec.allOnes len) :
    bitsOf (ownmoveOf v).toNat lo len = bitsOf v.toNat lo len := by
  rw [bitsOf_toNat, bitsOf_toNat, ownmoveOf, lo32, BitVec.extractLsb'_and, writable, BitVec.and_allOnes,
    BitVec.extractLsb'_extractLsb'_of_le inside]

theorem execOwnmove_ignored {s : State}
    (h : s.hub.fnmode.getLsbD 4 = false ∨ s.args.v.getLsbD 31 = true ∧ s.hub.ownmove.getLsbD 31 = true) :
    exec .ownmove s = .next s := by
  have : (!s.hub.fnmode.getLsbD 4 || ((ownmoveOf s.args.v).getLsbD 31 && s.hub.ownmove.getLsbD 31)) = true := by
    rw [ownmoveOf_go]
    rcases h with h | ⟨go, busy⟩
    · rw [h]; rfl
    · rw [go, busy]; simp
  show execOwnmove s = _
  exact congrArg Host.Outcome.next (if_pos this)

/-- Without GO a write only sets the fields. -/
theorem execOwnmove_fields {s : State} (software : s.hub.fnmode.getLsbD 4 = true) (go : s.args.v.getLsbD 31 = false) :
    exec .ownmove s = .next (s.modHub fun h => { h with ownmove := ownmoveOf s.args.v ||| (h.ownmove &&& 0x80000000) }) := by
  have go' := (ownmoveOf_go _).trans go
  show execOwnmove s = _
  simp only [execOwnmove, lo32_ownmove, software, go', Bool.not_true, Bool.false_and, Bool.or_self, Bool.false_eq_true,
    Bool.not_false, if_false, if_true]

/-- A move to another owner within the frame. -/
theorem execOwnmove_moves {s : State} (software : s.hub.fnmode.getLsbD 4 = true) (go : s.args.v.getLsbD 31 = true)
    (idle : s.hub.ownmove.getLsbD 31 = false) {f : Frame} (frame : s.hub.frame = some f) {tx ty new : Nat}
    (htx : bitsOf s.args.v.toNat 0 9 = tx) (hty : bitsOf s.args.v.toNat 12 9 = ty) (hnew : bitsOf s.args.v.toNat 24 3 = new)
    (inX : tx < f.tw) (inY : ty < f.th) (moved : f.ownerOf tx ty ≠ new) :
    exec .ownmove s = .next ((s.modHub fun h => { h with
      ownmove := ownmoveOf s.args.v, frame := some (f.move (f.tw * ty + tx) (f.ownerOf tx ty) new) }).modDie new fun d =>
        { d with blocked := (f.tw * ty + tx) :: d.blocked }) := by
  have go' := (ownmoveOf_go _).trans go
  have htx' := (bitsOf_ownmoveOf s.args.v (lo := 0) (len := 9) (by decide) (by decide)).trans htx
  have hty' := (bitsOf_ownmoveOf s.args.v (lo := 12) (len := 9) (by decide) (by decide)).trans hty
  have hnew' := (bitsOf_ownmoveOf s.args.v (lo := 24) (len := 3) (by decide) (by decide)).trans hnew
  have valid : ¬(f.tw ≤ tx ∨ f.th ≤ ty ∨ f.ownerOf tx ty = new) := by
    rintro (h | h | h)
    exacts [absurd inX h.not_gt, absurd inY h.not_gt, moved h]
  show execOwnmove s = _
  simp only [execOwnmove, lo32_ownmove, software, go', idle, frame, htx', hty', hnew', if_neg valid, Bool.not_true,
    Bool.and_false, Bool.or_self, Bool.false_eq_true, if_false]

/-! ### The host (R277, R524, R527) -/

/-- What the host may access at one go, in device memory or in its own. -/
theorem hostReach_iff (pa n : Nat) :
    hostReach pa n = true ↔ pa + n ≤ Config.gddrTop ∨ Config.gddrTop ≤ pa ∧ pa + n ≤ 2 ^ 52 := by
  rw [hostReach, Bool.or_eq_true, Bool.and_eq_true, decide_eq_true_eq, decide_eq_true_eq, decide_eq_true_eq]
  rfl

theorem execHostMemoryAccess_read {s : State} (flag : s.args.flag = false) :
    exec .hostMemoryAccess s = .next (if hostReach s.args.a s.args.b then s.noteRead s.args.a s.args.b else s) := by
  show execHostMemoryAccess s = _
  simp only [execHostMemoryAccess, flag, Bool.false_eq_true, if_false]

theorem execHostMemoryAccess_write {s : State} (flag : s.args.flag = true) {b : List Byte}
    (hb : (s.args.data.flatMap fun d => leBytes 8 d.toNat).take s.args.b = b) :
    exec .hostMemoryAccess s = .next (if hostReach s.args.a b.length then s.agentWrite s.args.a b else s) := by
  show execHostMemoryAccess s = _
  simp only [execHostMemoryAccess, flag, if_true, hb]

theorem execHostBarAssignment_below {s : State} (h : Config.gddrTop + s.args.v.toNat + hubBlock < 2 ^ 52) :
    exec .hostBarAssignment s = .next (s.modHub fun x => { x with hbar := s.args.v }) := by
  show execHostBarAssignment s = _
  exact congrArg Host.Outcome.next (if_pos h)

/-! ### The statement -/

/-- Settles O55, event by event: a register write is the write of the register it covers and the turn of its command, and each
command's turn is described above. -/
theorem hubRegisters : Obligations.HubRegisters := by
  intro s v n h ready fcur pest hub put
  refine ⟨⟨?_, ?_, ?_⟩, ?fwaddr, fun hr => ?ready, fun hr => ?unready, fun busy => execTlbsyncWrite_busy busy,
    fun idle flag => execTlbsyncWrite_starts idle flag, ⟨fun busy settled => execTlbSyncComplete_ends busy settled,
      fun waits => execTlbSyncComplete_waits waits⟩, execPmctlWrite_eq s, fun between => execPmTick_between between,
    fun tick off => execPmTick_idle tick off, fun tick on => ?streams, ?qctl, ?clock,
    fun ignored => execBskcmd_ignored ignored, fun f frame hosted t quiet => ?basket, ?ownmove, ?host,
    fun below => execHostBarAssignment_below below⟩
  · exact fun offset bytes => registerWrite_unaligned (by omega)
  · exact fun offset bytes => registerWrite_unaligned (by omega)
  · exact fun offset bytes => registerWrite_unaligned (by omega)
  case fwaddr =>
    intro offset whole
    rw [Gives, registerWrite_hub offset whole (by decide) (by decide) (by decide) (by decide)]
    simp [hubCommand, Hub.writeReg, hub, State.modHub, v]
  case ready =>
    refine ⟨fun offset whole => ?fnmode, fun offset whole => ?command, fun d hd => ⟨fun offset whole => ?tslice,
      fun offset whole => ?pctl⟩, execSqtailWrite_ready hr, fun quiet => ?eqtail,
      fun offset whole => registerWrite_eqSize offset whole rfl hr⟩
    case fnmode =>
      rw [Gives, registerWrite_hub offset whole (by decide) (by decide) (by decide) (by decide)]
      simp [hubCommand, Hub.writeReg, hub, State.modHub, v, lo32, show s.hub.bootstat = 1 from hr]
    case command =>
      rw [Gives, registerWrite_hub offset whole (by decide) (by decide) (by decide) (by decide)]
      simp [hubCommand, Hub.writeReg, v, show s.hub.bootstat = 1 from hr]
    case tslice => exact registerWrite_die (reg := 0) offset whole rfl hd (by decide) (by decide) hr (by decide) rfl
    case pctl => exact registerWrite_die (reg := 0x10) offset whole rfl hd (by decide) (by decide) hr (by decide) rfl
    case eqtail => exact (execEqtailWrite_ready hr).trans (eqFlush_idle quiet)
  case unready =>
    obtain ⟨sqtail, eqtail⟩ := execTailWrites_unready hr
    exact ⟨fun offset whole => registerWrite_hub_unready offset whole (by decide) (by decide) hr,
      fun offset whole => registerWrite_hub_unready offset whole (by decide) (by decide) hr,
      fun offset whole => registerWrite_die_unready offset whole (by decide) (by decide) hr, sqtail, eqtail⟩
  case streams =>
    have kept := hubAccess_pmRecords s
    have run := execPmTick_streams tick on
    generalize s.pmRecords = u at kept run
    exact ⟨_, run, (latchPm_pmact _).trans kept.pmctl_eq, (latchPm_gtime _).trans kept.gtime_eq, kept.places, kept.ops,
      kept.grids⟩
  case qctl =>
    rw [Gives, execQctlWrite_eq]
    simp only [Hub.writeQctl, bitsOf_31, bitsOf_byte2, bitsOf_half0, fcur_eq, pest_eq]
    rfl
  case clock =>
    intro capped limit power qstat wish at' cooler
    refine ⟨?_, fun cool => execThermalThrottle_cool cool, fun hot => ?_⟩
    · rw [Gives, execClockChange_eq]
      simp only [setClock_eq, Hub.clockAt, clockLimit_eq, powerLimit_eq, fcur_eq, State.modHub]
      rfl
    · rw [Gives, execThermalThrottle_hot hot]
      simp only [setClock_eq, clockLimit_eq, powerLimit_eq, fcur_eq, pest_eq, State.modHub]
      rfl
  case basket =>
    exact ⟨fun ht => by rw [Gives, execBskcmdSpill_hosted frame hosted, ← ht, eqFlush_idle quiet],
      fun ht => by rw [Gives, execBskcmdReturn_hosted frame hosted, ← ht, eqFlush_idle quiet]⟩
  case ownmove =>
    exact ⟨fun ignored => execOwnmove_ignored ignored, fun software go => execOwnmove_fields software go,
      fun f software go idle frame inX inY moved =>
        execOwnmove_moves software go idle frame (bitsOf_zero _ 9) rfl rfl inX inY moved⟩
  case host =>
    refine ⟨fun flag => ?_, fun flag => ?_⟩
    · rw [Gives, Gives, execHostMemoryAccess_read flag]
      exact ⟨fun reach => by rw [if_pos ((hostReach_iff _ _).mpr reach)],
        fun far => by rw [if_neg (mt (hostReach_iff _ _).mp far)]⟩
    · rw [Gives, Gives, execHostMemoryAccess_write flag rfl]
      exact ⟨fun reach => by rw [if_pos ((hostReach_iff _ _).mpr reach)],
        fun far => by rw [if_neg (mt (hostReach_iff _ _).mp far)]⟩

end Sys2Proof.Machine

/-! Rounding of the values that a format represents (R67): their quantum is the last place at which Round works, so the integer m
is the significand and the code comes back as it was. -/

namespace Sys2Proof.Machine

/-! ### A real on the grid of its own quantum -/

@[simp] theorem shiftInt_zero (n : Nat) : shiftInt n 0 = n := by simp [shiftInt]

namespace XR

variable {x : XR}

@[simp] theorem floorAt_quantum : x.floorAt x.e = x.n := by simp [floorAt]

@[simp] theorem floorAt_draw_quantum : x.floorAt (x.e - 32) = x.n * 2 ^ 32 := by
  simp [floorAt, shiftInt]

theorem inexactAt_quantum (sharp : x.st = false) : x.inexactAt x.e = false := by simp [inexactAt, sharp]

@[simp] theorem halfCmp_quantum : x.halfCmp x.e = .lt := by simp [halfCmp]

/-- A multiple of the last place has no fraction to round: under SR a draw below 2^32 cannot carry (R67). -/
theorem roundTo_quantum (sharp : x.st = false) (mode : Nat) {draw : Nat} (below : draw < 2 ^ 32) :
    x.roundTo x.e mode draw = x.n := by
  match mode with
  | 0 => simp [roundTo]
  | 1 => simp [roundTo]
  | 2 => simp [roundTo, inexactAt_quantum sharp]
  | 3 => simp [roundTo, inexactAt_quantum sharp]
  | _ + 4 =>
    show (x.floorAt (x.e - 32) + draw) / 2 ^ 32 = x.n
    rw [floorAt_draw_quantum]
    omega

end XR

/-- Round leaves a real whose quantum is the last place of R67 as it stands: `code` is that of its significand and exponent, and
not beyond the largest finite one. -/
theorem roundX_quantum {F : Fmt} {x : XR} (sharp : x.st = false) (place : max x.flog2 (1 - (F.bias : Int)) = x.e + F.fb)
    {code : Nat} (fields : (x.e + F.fb + F.bias) * (2 ^ F.fb : Nat) + x.n - (2 ^ F.fb : Nat) = code)
    (fits : code ≤ F.maxCode) (mode : Nat) (sat : Bool) {draw : Nat} (below : draw < 2 ^ 32) :
    roundX F mode sat draw x = (F.signed x.neg code, 0) := by
  simp only [roundX, place, add_sub_cancel_right, x.roundTo_quantum sharp mode below, x.inexactAt_quantum sharp, fields,
    Int.toNat_natCast, if_neg (Nat.not_lt.mpr fits), Bool.false_and, Bool.false_eq_true, if_false]

/-! ### The fields of a code (R63) -/

namespace Fmt

variable {F : Fmt} {c : Nat}

/-- The exponent field E of a code. -/
def expField (F : Fmt) (c : Nat) : Nat := c / 2 ^ F.fb % 2 ^ F.eb

/-- The significand of a code, in units of its quantum: the fraction, with the leading one of a normal number. -/
def significand (F : Fmt) (c : Nat) : Nat := if F.expField c = 0 then c % 2 ^ F.fb else 2 ^ F.fb + c % 2 ^ F.fb

/-- The exponent of a code's quantum; a subnormal number has that of the least normal one. -/
def quantum (F : Fmt) (c : Nat) : Int := max (F.expField c : Int) 1 - F.bias - F.fb

/-- The code without its sign bit. -/
def magnitude (F : Fmt) (c : Nat) : Nat := c % 2 ^ (F.eb + F.fb)

theorem magnitude_eq : F.magnitude c = F.expField c * 2 ^ F.fb + c % 2 ^ F.fb := by
  rw [magnitude, Nat.add_comm F.eb, Nat.pow_add, Nat.mod_mul, expField]
  ring

theorem signed_magnitude (width : c < 2 ^ F.width) : F.signed (bitOf c (F.eb + F.fb)) (F.magnitude c) = c := by
  have split := Nat.div_add_mod c (2 ^ (F.eb + F.fb))
  have top : c / 2 ^ (F.eb + F.fb) < 2 := by
    rw [Nat.div_lt_iff_lt_mul (by positivity), ← Nat.pow_succ']
    rwa [Fmt.width, Nat.add_assoc, Nat.add_comm] at width
  generalize hq : c / 2 ^ (F.eb + F.fb) = q at split top
  simp only [signed, magnitude, bitOf, hq]
  interval_cases q
  · simpa using split
  · simpa [Nat.add_comm] using split

/-- What the tables of R63 and R64 say of a format's codes: the exponent field is not empty, and the largest finite code is the last
one before infinity, or before the only NaN of a format without infinity. -/
structure Tabled (F : Fmt) : Prop where
  exponent : 0 < F.eb
  largest : F.maxCode + 1 = if F.hasInf then F.infCode else 2 ^ (F.eb + F.fb) - 1

theorem tabled_of_mem (h : F ∈ [b32, b16, bf16, e4m3, e5m2]) : F.Tabled := by
  fin_cases h <;> exact ⟨by decide, by decide⟩

/-- Under the all-ones exponent only a format without infinity has finite values, below the all-ones fraction (R64). -/
theorem finite_of_ones (finite : (F.value c).isFinite) (ones : F.expField c = 2 ^ F.eb - 1) :
    F.hasInf = false ∧ c % 2 ^ F.fb ≠ 2 ^ F.fb - 1 := by
  rw [expField] at ones
  simp only [value, if_pos ones] at finite
  cases inf : F.hasInf <;> simp only [inf, Bool.false_eq_true, if_true, if_false] at finite
  case true => split at finite <;> contradiction
  case false =>
    refine ⟨rfl, fun nan => ?_⟩
    rw [if_pos nan] at finite
    contradiction

/-- A finite value is its significand in units of its quantum, under the all-ones exponent too. -/
theorem value_of_isFinite (t : F.Tabled) (finite : (F.value c).isFinite) :
    F.value c = .fin (bitOf c (F.eb + F.fb)) (F.significand c) (F.quantum c) := by
  have nonempty : 1 < 2 ^ F.eb := Nat.one_lt_two_pow t.exponent.ne'
  have normal (h : F.expField c ≠ 0) : max (F.expField c : Int) 1 = F.expField c := by omega
  have subnormal (h : F.expField c = 0) : max (F.expField c : Int) 1 = 1 := by omega
  rw [value, ← expField, significand, quantum]
  by_cases ones : F.expField c = 2 ^ F.eb - 1
  · obtain ⟨inf, nan⟩ := finite_of_ones finite ones
    have nz : F.expField c ≠ 0 := by omega
    simp only [if_pos ones, inf, if_neg nan, if_neg nz, normal nz, Bool.false_eq_true, if_false]
  · by_cases sub : F.expField c = 0
    · simp only [if_neg ones, if_pos sub, subnormal sub]
    · simp only [if_neg ones, if_neg sub, normal sub]

/-- The exponent field of a code holds `eb` bits. -/
theorem expField_lt : F.expField c < 2 ^ F.eb := Nat.mod_lt _ (by positivity)

theorem magnitude_le_maxCode (t : F.Tabled) (finite : (F.value c).isFinite) : F.magnitude c ≤ F.maxCode := by
  have fraction : c % 2 ^ F.fb < 2 ^ F.fb := Nat.mod_lt _ (by positivity)
  have field := F.expField_lt (c := c)
  have largest := t.largest
  have infinity : F.infCode + 2 ^ F.fb = 2 ^ (F.eb + F.fb) := by
    rw [infCode, ← Nat.succ_mul, Nat.succ_eq_add_one, Nat.sub_add_cancel Nat.one_le_two_pow, Nat.pow_add]
  rw [magnitude_eq]
  by_cases ones : F.expField c = 2 ^ F.eb - 1
  · obtain ⟨noInf, notNan⟩ := finite_of_ones finite ones
    rw [noInf, if_neg Bool.false_ne_true] at largest
    rw [ones, ← infCode]
    omega
  · have step : (F.expField c + 1) * 2 ^ F.fb ≤ F.infCode := Nat.mul_le_mul_right _ (by omega)
    rw [Nat.succ_mul] at step
    split at largest <;> omega

/-- The last place of R67 at a finite value other than zero is the value's own quantum. -/
theorem max_flog2_value (neg : Bool) (nonzero : F.significand c ≠ 0) :
    max (XR.flog2 ⟨neg, F.significand c, F.quantum c, false⟩) (1 - (F.bias : Int)) = F.quantum c + F.fb := by
  have fraction : c % 2 ^ F.fb < 2 ^ F.fb := Nat.mod_lt _ (by positivity)
  rw [XR.flog2, ilog2, quantum]
  by_cases sub : F.expField c = 0
  · have small : Nat.log2 (F.significand c) < F.fb := by
      rw [Nat.log2_lt nonzero, significand, if_pos sub]
      exact fraction
    simp only [sub]
    omega
  · have normal : Nat.log2 (F.significand c) = F.fb := by
      rw [Nat.log2_eq_iff nonzero, significand, if_neg sub, Nat.pow_succ]
      omega
    simp only [normal]
    omega

/-- The code that R67 makes of a value's quantum and significand is the value's own. -/
theorem fields_value : (F.quantum c + F.fb + F.bias) * (2 ^ F.fb : Nat) + F.significand c - (2 ^ F.fb : Nat) = F.magnitude c := by
  rw [magnitude_eq, quantum, significand]
  have sum : max (F.expField c : Int) 1 - F.bias - F.fb + F.fb + F.bias = max (F.expField c : Int) 1 := by ring
  rw [sum]
  by_cases sub : F.expField c = 0
  · simp [sub]
  · rw [if_neg sub, max_eq_left (by omega)]
    push_cast
    ring

/-- The code of a zero is its sign bit alone. -/
theorem magnitude_of_zero (zero : F.significand c = 0) : F.magnitude c = 0 := by
  rw [significand] at zero
  split at zero
  case isTrue sub => rw [magnitude_eq, sub, zero, Nat.zero_mul]
  case isFalse => exact absurd zero (by positivity)

end Fmt

/-! ### Delivery -/

/-- Settles O8: a zero is delivered with its sign; the quantum of any other finite value is the last place of R67, so no mode and
no draw moves it. -/
theorem representableNeverMoves : Obligations.RepresentableNeverMoves := by
  intro F mem mode sat draw c _ below width finite
  have t := Fmt.tabled_of_mem mem
  rw [Fmt.value_of_isFinite t finite, FV.exact, exactOf]
  have whole := Fmt.signed_magnitude width
  split
  case isTrue zero => rw [deliver, ← Fmt.magnitude_of_zero zero, whole]
  case isFalse nonzero =>
    rw [deliver, roundX_quantum rfl (Fmt.max_flog2_value _ nonzero) Fmt.fields_value (Fmt.magnitude_le_maxCode t finite) mode sat below,
      whole]

end Sys2Proof.Machine

/-! Integer arithmetic (R118, R120): an exact result delivered modulo 2^w is the bit-vector operation on the operands, and one
delivered under .sat is that of R62. -/

namespace Sys2Proof.Machine

/-! ### Saturation (R62) -/

theorem clampInt_eq_max_min {lo hi : Int} (range : lo ≤ hi) (x : Int) : clampInt x lo hi = max lo (min hi x) := by
  rw [clampInt]
  split
  · omega
  · split <;> omega

theorem ofInt_satS (w : Nat) (x : Int) : BitVec.ofInt w (satS w x) = satTo w x := by
  have range : (-(2 ^ (w - 1) : Nat) : Int) ≤ (2 ^ (w - 1) : Nat) - 1 := by
    have := Nat.two_pow_pos (w - 1)
    omega
  rw [satS, clampInt_eq_max_min range, satTo]
  push_cast
  rfl

/-! ### Exact results modulo 2^w -/

section Exact

variable {w : Nat} (a b : BitVec w)

theorem ofInt_toInt_add : BitVec.ofInt w (a.toInt + b.toInt) = a + b := by
  rw [BitVec.ofInt_add, BitVec.ofInt_toInt, BitVec.ofInt_toInt]

theorem ofInt_neg_toInt : BitVec.ofInt w (-a.toInt) = -a := by
  rw [BitVec.ofInt_neg, BitVec.ofInt_toInt]

theorem ofInt_toInt_sub : BitVec.ofInt w (a.toInt - b.toInt) = a - b := by
  rw [Int.sub_eq_add_neg, BitVec.ofInt_add, ofInt_neg_toInt, BitVec.ofInt_toInt, BitVec.sub_eq_add_neg]

theorem ofInt_toInt_mul : BitVec.ofInt w (a.toInt * b.toInt) = a * b := by
  rw [BitVec.ofInt_mul, BitVec.ofInt_toInt, BitVec.ofInt_toInt]

/-- The sign bit tells which of `a` and `-a` is the magnitude; the least integer is its own (R118). -/
theorem ofInt_natAbs_toInt : BitVec.ofInt w a.toInt.natAbs = if a.msb then -a else a := by
  rw [BitVec.msb_eq_toInt]
  by_cases negative : a.toInt < 0
  · rw [Int.ofNat_natAbs_of_nonpos negative.le, ofInt_neg_toInt, if_pos (decide_eq_true negative)]
  · rw [Int.natAbs_of_nonneg (Int.not_lt.mp negative), BitVec.ofInt_toInt, decide_eq_false negative,
      if_neg Bool.false_ne_true]

end Exact

/-! ### Delivery (R118) -/

section Delivery

variable {sat : Bool} {x : Int}

/-- A 32-bit result whose pattern modulo 2^32 is `v`. -/
theorem int32Res_of_wrapped {v : Word} (wrapped : BitVec.ofInt 32 x = v) :
    int32Res sat x = if sat then satTo 32 x else v := by
  rw [int32Res, w32, ofInt_satS, w32, wrapped]

/-- A 64-bit result whose pattern modulo 2^64 is `v`. -/
theorem int64Res_of_wrapped {v : DWord} (wrapped : BitVec.ofInt 64 x = v) :
    int64Res sat x = if sat then satTo 64 x else v := by
  rw [int64Res, w64, ofInt_satS, w64, wrapped]

theorem int32Res_add (a b : Word) :
    int32Res sat (a.toInt + b.toInt) = if sat then satTo 32 (a.toInt + b.toInt) else a + b :=
  int32Res_of_wrapped (ofInt_toInt_add a b)

theorem int32Res_sub (a b : Word) :
    int32Res sat (a.toInt - b.toInt) = if sat then satTo 32 (a.toInt - b.toInt) else a - b :=
  int32Res_of_wrapped (ofInt_toInt_sub a b)

theorem int32Res_mul (a b : Word) :
    int32Res sat (a.toInt * b.toInt) = if sat then satTo 32 (a.toInt * b.toInt) else a * b :=
  int32Res_of_wrapped (ofInt_toInt_mul a b)

theorem int32Res_mul_add (a b c : Word) :
    int32Res sat (a.toInt * b.toInt + c.toInt) = if sat then satTo 32 (a.toInt * b.toInt + c.toInt) else a * b + c :=
  int32Res_of_wrapped (by rw [BitVec.ofInt_add, ofInt_toInt_mul, BitVec.ofInt_toInt])

theorem int32Res_abs (a : Word) :
    int32Res sat a.toInt.natAbs = if sat then satTo 32 |a.toInt| else if a.msb then -a else a := by
  rw [← Int.natCast_natAbs]
  exact int32Res_of_wrapped (ofInt_natAbs_toInt a)

theorem int32Res_neg (a : Word) : int32Res sat (-a.toInt) = if sat then satTo 32 (-a.toInt) else -a :=
  int32Res_of_wrapped (ofInt_neg_toInt a)

theorem int64Res_add (a b : DWord) :
    int64Res sat (a.toInt + b.toInt) = if sat then satTo 64 (a.toInt + b.toInt) else a + b :=
  int64Res_of_wrapped (ofInt_toInt_add a b)

theorem int64Res_sub (a b : DWord) :
    int64Res sat (a.toInt - b.toInt) = if sat then satTo 64 (a.toInt - b.toInt) else a - b :=
  int64Res_of_wrapped (ofInt_toInt_sub a b)

end Delivery

/-! ### Words of class ALU: a word whose meaning is one of the forms has that form's effects, and no other -/

section Forms

variable {i : Instr} {s : State} {o : F3} {k : FI} {ta tb tc : ETy}

theorem ends_of_form {u : State} {form : Out} (word : exec i s = form)
    (ends : ∃ t, form = .next t ∧ exec .nop u = .next t) : Ends i s u := by
  rwa [Ends, word]

theorem ends_alu1 (h : s.Ready) {f : Word → Eff} (word : exec i s = alu1 s o ta f) : Ends i s (s.with1 o ta f) :=
  ends_of_form word (alu1_ends h o ta f)

theorem ends_alu2 (h : s.Ready) {f : Word → Word → Eff} (word : exec i s = alu2 s o ta tb f) :
    Ends i s (s.with2 o ta tb f) :=
  ends_of_form word (alu2_ends h o ta tb f)

theorem ends_alu3 (h : s.Ready) {f : Word → Word → Word → Eff} (word : exec i s = alu3 s o ta tb tc f) :
    Ends i s (s.with3 o ta tb tc f) :=
  ends_of_form word (alu3_ends h o ta tb tc f)

theorem ends_aluI (h : s.Ready) {f : Word → Word → Eff} (word : exec i s = aluI s k ta tb f) :
    Ends i s (s.withI k ta tb f) :=
  ends_of_form word (aluI_ends h k ta tb f)

theorem ends_alu64 (h : s.Ready) {f : DWord → DWord → Eff} (word : exec i s = alu64 s o f) : Ends i s (s.with64 o f) :=
  ends_of_form word (alu64_ends h o f)

theorem ends_alu64I (h : s.Ready) {f : DWord → DWord → Eff} (word : exec i s = alu64I s k f) : Ends i s (s.with64I k f) :=
  ends_of_form word (alu64I_ends h k f)

theorem ends_alu64c (h : s.Ready) (f : DWord → DWord → DWord → Eff) (word : exec i s = alu64c s o f) :
    Ends i s (s.gives [] fun r => f (s.src64 r o.ra) (s.src64 r o.rb) (s.src64 r o.rc)) :=
  ends_of_form word (aluWord_ends h [] _)

/-- A word without source operands, such as a move of an immediate. -/
theorem ends_constant (h : s.Ready) {e : Eff} (word : exec i s = aluWord s [] fun _ _ => e) :
    Ends i s (s.gives [] fun _ => e) :=
  ends_of_form word (aluWord_ends h [] _)

end Forms

/-! ### The words of R118 and R120 -/

/-- Settles O1: each word is a form of class ALU around the delivery of the exact result, in the statement's order. -/
theorem integerWords : Obligations.IntegerWords := by
  refine ⟨fun s h o i => ?words32, fun s h o i k => ?words64⟩
  case words32 =>
    simp only [← int32Res_add, ← int32Res_sub, ← int32Res_mul, ← int32Res_mul_add, ← int32Res_abs, ← int32Res_neg]
    exact ⟨ends_alu2 h rfl, ends_aluI h rfl, ends_alu2 h rfl, ends_aluI h rfl, ends_alu2 h rfl, ends_aluI h rfl,
      ends_alu3 h rfl, ends_alu1 h rfl, ends_alu1 h rfl,
      ends_alu2 h rfl, ends_aluI h rfl, ends_alu2 h rfl, ends_aluI h rfl, ends_alu2 h rfl, ends_aluI h rfl,
      ends_alu1 h rfl, ends_alu1 h rfl, ends_constant h rfl⟩
  case words64 =>
    simp only [← int64Res_add, ← int64Res_sub]
    exact ⟨ends_alu64 h rfl, ends_alu64I h rfl, ends_alu64 h rfl, ends_alu64I h rfl, ends_alu64 h rfl, ends_alu64I h rfl,
      ends_alu64c h (fun a b c => effPair o.rd (a * b + c)) rfl, ends_constant h rfl, ends_constant h rfl⟩

end Sys2Proof.Machine

/-! NOP, which is the end of a word and nothing else (R44, R144), and the bundle that a switch marker has parked. -/

namespace Sys2Proof.Machine

/-! ### NOP (R144) -/

theorem execNop_eq {s : State} (ready : s.Ready) : exec .nop s = .next s.advance :=
  whenIssued_ready ready State.advance

theorem advance_goesOn {s : State} {b : Bundle} (quiet : s.Quiet) (issues : s.issue = some b) (inhabited : b.members ≠ [])
    (stays : b.idx + 1 < b.n ∨ s.guard.sw = true) :
    s.advance = { s with issue := none, bundles := s.bundles.map fun x => if x.id == b.id then
      { b with idx := b.idx + 1, marker := if s.guard.sw then true else b.marker, walks := [], walked := [], told := [],
               diced := none } else x } := by
  unfold State.advance State.finish
  simp only [debugHits_quiet quiet]
  cases marked : s.guard.sw with
  | true => simp [State.modIssue, State.bundle, issues, inhabited, State.putIssue]
  | false =>
    have more : ¬b.n ≤ b.idx + 1 := by
      rcases stays with more | sw
      · omega
      · simp [marked] at sw
    simp [State.modIssue, State.bundle, issues, inhabited, State.putIssue, State.nextWord, more]

/-! ### SWITCH_MARKER_RESUME (R44) -/

/-- Without an ECC record the lanes of a member take nothing at a switch marker (R44, R430). -/
theorem deliverable_nil {s : State} {m : Member} {lanes : List Ref} (clean : ∀ r ∈ lanes, (s.lane r).ecc = none)
    (ecc : EccRec → Bool) : s.deliverable m lanes [] ecc false false = [] := by
  unfold State.deliverable
  rw [filterMap_const_none]
  · rfl
  · intro r hr
    simp only [clean r hr]

section

variable {s : State} {b : Bundle} (parked : (s.bundles.find? fun x => x.id == s.args.a && x.marker) = some b)
include parked

theorem execSwitchMarkerResume_waits
    (held : ∃ m ∈ b.members, s.outstanding m.team m.wave = true ∨ (s.team m.team).leaving = .flush) :
    exec .switchMarkerResume s = .next s := by
  obtain ⟨m, hm, held⟩ := held
  change execSwitchMarkerResume s = _
  unfold execSwitchMarkerResume
  rw [parked]
  exact if_pos (List.any_eq_true.2 ⟨m, hm, by rcases held with h | h <;> simp [h]⟩)

theorem execSwitchMarkerResume_resumes
    (free : ∀ m ∈ b.members, s.outstanding m.team m.wave = false ∧ (s.team m.team).leaving ≠ .flush ∧
      ∀ r ∈ memberRefs m, (s.lane r).ecc = none) (inhabited : b.members ≠ []) :
    exec .switchMarkerResume s =
      let u : State := { s with issue := some { b with marker := false } }
      .next (if b.idx < b.n then u.putIssue else u.endClause) := by
  have goes : (b.members.any fun m => s.outstanding m.team m.wave || (s.team m.team).leaving == .flush) = false := by
    rw [List.any_eq_false]
    intro m hm
    obtain ⟨settled, stays, -⟩ := free m hm
    simp [settled, stays]
  have clean : ∀ m ∈ b.members, ∀ r ∈ (memberRefs m).filter (fun r => !(s.lane r).ended), (s.lane r).ecc = none :=
    fun m hm r hr => (free m hm).2.2 r (List.mem_of_mem_filter hr)
  change execSwitchMarkerResume s = _
  unfold execSwitchMarkerResume
  rw [parked]
  simp only [goes, Bool.false_eq_true, if_false]
  rw [List.flatMap_eq_nil_iff.2]
  · by_cases more : b.idx < b.n <;> simp [State.dropRecords, State.bundle, inhabited, more]
  · intro m hm
    exact List.map_eq_nil_iff.2 (deliverable_nil (s := { s with issue := some { b with marker := false } }) (clean m hm) _)

end

/-- Settles O23: NOP is the end of a word alone, which `advance_goesOn` gives where the clause goes on and which keeps `still`
everywhere; a parked bundle goes on when no member holds it back. -/
theorem nopGoesOn : Obligations.NopGoesOn := by
  refine ⟨fun s b quiet issues inhabited stays => ?parks, fun s ready => ?still, by decide, by decide,
    fun s b parked => ⟨execSwitchMarkerResume_waits parked, fun free inhabited => ⟨fun more => ?next, fun last => ?ends⟩⟩⟩
  case parks => rw [Gives, execNop_eq { quiet with issues := by rw [issues]; rfl }, advance_goesOn quiet issues inhabited stays]
  case still => exact ⟨_, execNop_eq ready, still_finish ready.toQuiet _ _⟩
  case next => simp [Gives, execSwitchMarkerResume_resumes parked free inhabited, more, State.putIssue, inhabited]
  case ends => simp [Gives, execSwitchMarkerResume_resumes parked free inhabited, Nat.not_lt.2 last]

end Sys2Proof.Machine

/-! A load or a store whose only address is misaligned: the checks leave no access to make (R135, R428, R429). -/

namespace Sys2Proof.Machine

/-! ### A misaligned access (R135) -/

/-- A lane with one cause takes that cause (R426). -/
theorem oneEach_singleton (f : LaneFault) : oneEach [f] = [f] := by
  have once : [f.r].eraseDups = [f.r] := rfl
  simp [oneEach, once, reported]

/-- A single access that is misaligned leaves no access to make: its lane takes MISALIGN (R135, R428, R429). -/
theorem gate_misaligned {s : State} {a : Ask} (det : (s.gridOf a.r.team).det = false) (helper : (s.lane a.r).isHelper = false)
    (odd : a.va.toNat % a.al ≠ 0) :
    s.gate [a] = { s := s.faultLanes [{ r := a.r, cause := .misalign, addr := a.va, write := a.writes }], hold := false,
                   go := [], zero := [], parked := [] } := by
  have ungoverned : s.governed a = false := by simp [State.governed, det]
  have fails : s.check a.r.team a.va a.n a.al a.need false = .bad .misalign false := if_pos odd
  simp [State.gate, State.gateWith, State.tokenOut, ungoverned, fails, helper, oneEach_singleton]

theorem laneAsc_nil {α : Type} : laneAsc ([] : List (Ref × α)) = [] := rfl

theorem wavesOf_singleton (r : Ref) : wavesOf [r] = [(r.team, r.wave)] := rfl

section

variable {s : State} {o : FM} {r : Ref} (ready : s.Ready) (alone : s.active = [r]) (helper : (s.lane r).isHelper = false)
  (det : (s.gridOf r.team).det = false) (odd : (s.address r o).toNat % 2 ^ o.sz.toNat ≠ 0)
include ready alone helper det odd

theorem execLd_misaligned (room : s.counterFull .ld = false) :
    exec (.ld o) s = .next (((s.faultLanes [{ r, cause := .misalign, addr := s.address r o }]).postOps [(r.team, r.wave)] .ld true
      [] [] fun _ => .plain).finish [r] []) := by
  have g := gate_misaligned (s := s) (a := { r, va := s.address r o, n := 2 ^ o.sz.toNat, al := 2 ^ o.sz.toNat, need := needR })
    det helper odd
  change execLd o s = _
  rw [execLd, whenIssued_ready ready]
  simp [room, alone, fmAsks, g, State.loadPart, Gate.counted, wavesOf_singleton, zeroRegs, Ask.writes]

theorem execSt_misaligned (room : s.counterFull .st = false) :
    exec (.st o) s = .next ((((s.faultLanes [{ r, cause := .misalign, addr := s.address r o, write := true }]).latchRead r
      o.rd.toNat).postOps [(r.team, r.wave)] .st false [] [] fun _ => .store []).finish [r] []) := by
  have g := gate_misaligned (s := s) (a := { r, va := s.address r o, n := 2 ^ o.sz.toNat, al := 2 ^ o.sz.toNat, need := needW })
    det helper odd
  change execSt o s = _
  rw [execSt, whenIssued_ready ready]
  simp [room, alone, fmAsks, helper, g, Gate.counted, wavesOf_singleton, laneAsc_nil, Ask.writes, show (needW != needR) = true from rfl]

end

/-- Settles O36: the checks of the one access answer MISALIGN, so nothing is read or waits to be stored. -/
theorem misalignedAccess : Obligations.MisalignedAccess :=
  fun _ _ _ ready alone helper det roomLd roomSt odd =>
    ⟨execLd_misaligned ready alone helper det odd roomLd, execSt_misaligned ready alone helper det odd roomSt⟩

end Sys2Proof.Machine

/-! What a read by a die can change: the layer on which the statements about PREF and the words of a fetch rest (R138, R188). -/

namespace Sys2Proof.Machine

/-! ### What a read by a die can change (R500, R532) -/

/-- A die but for what has come down its link and for the records of its lint filter. -/
def Die.unlinked (d : Die) : Die :=
  { d with mailbox := [], hubBuf := [], inbound := [], exchange := [], vrecv := [], blocked := [], shadows := [], syncs := [] }

theorem unlinked_takeMsg (d : Die) (m : Msg) : (d.takeMsg m).unlinked = d.unlinked := by
  cases m <;> rfl

theorem unlinked_takeIn (d : Die) : d.takeIn.unlinked = d.unlinked := by
  unfold Die.takeIn
  split
  · rfl
  · have all : ∀ (ms : List Msg) (d : Die), (ms.foldl Die.takeMsg d).unlinked = d.unlinked := by
      intro ms
      induction ms with
      | nil => exact fun _ => rfl
      | cons m ms ih => exact fun d => (ih (d.takeMsg m)).trans (unlinked_takeMsg d m)
    exact all d.inbound { d with inbound := [] }

/-- A read by a die changes memory, the hub, what has come down the dies' links and the lint records at most, and no byte of the
firmware store. -/
structure DieRead (s t : State) : Prop where
  rest : t = { s with mem := t.mem, hub := t.hub, dies := t.dies }
  dies : t.dies.map Die.unlinked = s.dies.map Die.unlinked
  fw : t.mem.fw = s.mem.fw

namespace DieRead

theorem refl (s : State) : DieRead s s := ⟨rfl, rfl, rfl⟩

theorem trans {s t u : State} (h : DieRead s t) (k : DieRead t u) : DieRead s u where
  rest := by rw [k.rest, h.rest]
  dies := k.dies.trans h.dies
  fw := k.fw.trans h.fw

theorem foldl {α : Type} {f : State → α → State} (h : ∀ s a, DieRead s (f s a)) (l : List α) (s : State) :
    DieRead s (l.foldl f s) := by
  induction l generalizing s with
  | nil => exact refl s
  | cons a l ih => exact (h s a).trans (ih _)

theorem foldl_fst {α β : Type} {f : State × β → α → State × β} (h : ∀ p a, DieRead p.1 (f p a).1) (l : List α)
    (p : State × β) :
    DieRead p.1 (l.foldl f p).1 := by
  induction l generalizing p with
  | nil => exact refl _
  | cons a l ih => exact (h p a).trans (ih _)

variable {s t : State} (h : DieRead s t)
include h

theorem teams_eq : t.teams = s.teams := (congrArg State.teams h.rest :)
theorem ops_eq : t.ops = s.ops := (congrArg State.ops h.rest :)
theorem issue_eq : t.issue = s.issue := (congrArg State.issue h.rest :)

theorem map_dies {α : Type} {f : Die → α} (hf : ∀ d, f d.unlinked = f d) : t.dies.map f = s.dies.map f := by
  have := congrArg (List.map f) h.dies
  simpa only [List.map_map, Function.comp_def, hf] using this

theorem tlbs_eq (d : Nat) : (t.die d).tlbs = (s.die d).tlbs := by
  have same := congrArg (·[d]?) (h.map_dies (f := Die.tlbs) fun _ => rfl)
  simp only [List.getElem?_map] at same
  simp only [State.die, List.getD_eq_getElem?_getD]
  cases ht : t.dies[d]? <;> cases hs : s.dies[d]? <;> simp_all

theorem calm_eq : t.calm = s.calm := by
  simp only [State.calm, h.map_dies (f := Die.dbgctl) fun _ => rfl, h.teams_eq, h.issue_eq]

end DieRead

theorem dieRead_modDie (s : State) (d : Nat) (f : Die → Die) (h : ∀ x, (f x).unlinked = x.unlinked) : DieRead s (s.modDie d f) :=
  ⟨rfl, map_modify_same _ _ h _ _, rfl⟩

theorem dieRead_takeIn (s : State) (d : Nat) : DieRead s (s.modDie d Die.takeIn) := dieRead_modDie _ _ _ unlinked_takeIn

theorem dieRead_modHub (s : State) (f : Hub → Hub) : DieRead s (s.modHub f) := ⟨rfl, rfl, rfl⟩

theorem dieRead_mem (s : State) {m : Memory} (h : m.fw = s.mem.fw) : DieRead s { s with mem := m } := ⟨rfl, rfl, h⟩

theorem dieRead_modMem (s : State) (f : Memory → Memory) (h : (f s.mem).fw = s.mem.fw) : DieRead s (s.modMem f) :=
  dieRead_mem s h

/-! Reads as they count at the memory dies (R532, R533). -/

theorem dieRead_noteWord (s : State) (code : Nat) (part : Bool) : DieRead s (s.noteWord code part) := by
  unfold State.noteWord
  split
  · exact dieRead_modHub _ _
  · split
    · exact (dieRead_modMem s (Memory.cure · code) rfl).trans (dieRead_modHub _ _)
    · exact .refl s

theorem dieRead_noteWords (s : State) (codes : List Nat) (part : Bool) :
    DieRead s (codes.foldl (fun s c => s.noteWord c part) s) :=
  .foldl (fun s c => dieRead_noteWord s c part) codes s

theorem dieRead_noteRead (s : State) (pa n : Nat) : DieRead s (s.noteRead pa n) := by
  unfold State.noteRead
  split
  · exact .refl s
  · exact dieRead_noteWords _ _ _

theorem dieRead_noteWalk (s : State) (root va : Nat) : DieRead s (s.noteWalk root va) := by
  have first := dieRead_noteRead s (root + 8 * bitsOf va 40 12) 8
  have second := fun pa => first.trans (dieRead_noteRead _ pa 8)
  unfold State.noteWalk
  dsimp only
  split
  · exact first
  · split
    · exact first
    · split
      · exact second _
      · split
        · exact second _
        · exact (second _).trans (dieRead_noteRead _ _ 8)

theorem dieRead_noteAccess (s : State) (tid : Nat) (a : DWord) (n need : Nat) : DieRead s (s.noteAccess tid a n need) := by
  unfold State.noteAccess
  split
  · exact (dieRead_takeIn _ _).trans (dieRead_noteWalk _ _ _)
  · exact .refl s

theorem dieRead_hubAnswers (s : State) (die : Nat) (secs : List Nat) : DieRead s (s.hubAnswers die secs) := by
  unfold State.hubAnswers
  split
  · exact .refl s
  · exact (dieRead_takeIn _ _).trans (dieRead_noteWords _ _ _)

/-! Lines that a die L2 writes back (R238, R239, R430). -/

theorem fw_putRaw (m : Memory) (sec : Nat) (v : BitVec 128) : (m.putRaw sec v).fw = m.fw := rfl

theorem fw_writeCode (m : Memory) (code : Nat) (a b : Option (BitVec 128)) : (m.writeCode code a b).1.fw = m.fw := by
  have cured : (m.cure code).fw = m.fw := rfl
  rcases a with _ | x <;> rcases b with _ | y <;> dsimp only [Memory.writeCode]
  · rw [apply_ite Memory.fw, fw_putRaw, ite_self]
  · rw [apply_ite Memory.fw, fw_putRaw, ite_self]
  · rw [fw_putRaw, fw_putRaw, cured]

theorem fw_writeLine (m : Memory) (line : Nat) (wrote : Nat → Option (BitVec 128)) : (m.writeLine line wrote).1.fw = m.fw := by
  have all : ∀ (js : List Nat) (p : Memory × List Nat), (js.foldl (fun (p : Memory × List Nat) j =>
      let x := p.1.writeCode (4 * line + j) (wrote (2 * j)) (wrote (2 * j + 1))
      (x.1, p.2 ++ x.2)) p).1.fw = p.1.fw := by
    intro js
    induction js with
    | nil => exact fun _ => rfl
    | cons j js ih => exact fun p => (ih _).trans (fw_writeCode _ _ _ _)
  exact all _ _

theorem fw_evictL2 (m : Memory) (die line : Nat) : (m.evictL2 die line).1.fw = m.fw :=
  (dropLine_bytes _ die line).2.trans (fw_writeLine m line _)

theorem dieRead_wroteBack (s : State) {p : Memory × List Nat} (h : p.1.fw = s.mem.fw) : DieRead s (s.wroteBack p) :=
  (dieRead_mem s h).trans (.foldl (fun s sec => dieRead_noteWord s (sec / 2) true) _ _)

theorem dieRead_evictL2 (s : State) (die line : Nat) : DieRead s (s.evictL2 die line) := dieRead_wroteBack s (fw_evictL2 _ _ _)

theorem dieRead_evictLint (s : State) (die line : Nat) : DieRead s (s.evictLint die line) :=
  (DieRead.foldl (fun s (x : SyncVec) => dieRead_modHub s fun h => { h with overflow := joinVec h.overflow x.v }) _ _).trans
    (dieRead_modDie _ _ _ fun _ => rfl)

theorem dieRead_fitL2 (s : State) (die but : Nat) : DieRead s (s.fitL2 die but) := by
  unfold State.fitL2
  split
  · exact (dieRead_evictL2 _ _ _).trans (dieRead_evictLint _ _ _)
  · exact .refl s

/-! Physical memory read sector by sector (R236). -/

theorem fw_sectorRead (m : Memory) (die core sec : Nat) (via : Via) : (m.sectorRead die core sec via).1.fw = m.fw := by
  cases via with
  | l1 => exact (coreRead_bytes ..).2
  | strm => exact (coreRead_bytes ..).2
  | bypass => exact (bypassRead_bytes ..).2
  | die => exact (dieReadFresh_bytes ..).2
  | hub => exact (hubRead_bytes ..).2

theorem dieRead_physRead (s : State) (die core pa n : Nat) (via : Via) : DieRead s (s.physRead die core pa n via).1 := by
  unfold State.physRead
  extract_lets u
  generalize loop : List.foldl _ (u, some []) (sectorsOf pa n) = p
  have sectors : DieRead u p.1 := by
    rw [← loop]
    refine .foldl_fst (fun p sec => ?_) _ (u, some [])
    have fw := fw_sectorRead p.1.mem die core sec via
    split
    · next m d e => exact (dieRead_mem p.1 (by rw [e] at fw; exact fw)).trans (dieRead_fitL2 _ _ _)
    · next m e => exact dieRead_mem p.1 (by rw [e] at fw; exact fw)
  exact (dieRead_hubAnswers s die _).trans sectors

end Sys2Proof.Machine

/-! Writes, the lint filter and performed stores: at a word's end there is still no debugger, no single step and no bind. -/

namespace Sys2Proof.Machine

/-! ### Writes, the lint filter and stores that are performed leave a word's end without company -/

theorem pend_wake (l : Lane) (t : Target) (n : Nat) : (l.wake t n).pend = l.pend := by
  unfold Lane.wake
  split
  · split <;> rfl
  · rfl

@[simp] theorem calm_wakeMonitors (s : State) (t : Target) (n : Nat) : (s.wakeMonitors t n).calm = s.calm := by
  simp [State.calm, State.wakeMonitors, Function.comp_def, pend_wake]

theorem calm_noteWords (s : State) (codes : List Nat) (part : Bool) :
    (codes.foldl (fun s c => s.noteWord c part) s).calm = s.calm := (dieRead_noteWords s codes part).calm_eq

theorem calm_recall (s : State) (line : Nat) : (s.recall line).calm = s.calm := by
  unfold State.recall
  split
  · exact (dieRead_evictL2 ..).calm_eq
  · rfl

theorem calm_agentWriteSector (s : State) (pa : Nat) (b : List Byte) (sec : Nat) :
    (s.agentWriteSector pa b sec).calm = s.calm := by
  unfold State.agentWriteSector
  extract_lets lo hi whole t u
  have cured : u.calm = s.calm := by
    unfold u
    split
    · exact calm_recall s _
    · exact calm_recall s _
  split
  · exact cured
  · exact cured

theorem calm_agentWrite (s : State) (pa : Nat) (b : List Byte) : (s.agentWrite pa b).calm = s.calm := by
  unfold State.agentWrite
  split
  · rfl
  · refine (calm_noteWords _ _ _).trans ((calm_foldl _ (fun s k => ?_) _ _).trans (calm_wakeMonitors s _ _))
    exact calm_agentWriteSector s pa b k

theorem calm_modRing (s : State) (d : Nat) (n : RingName) (f : Die → Ring) :
    (s.modDie d fun d => d.setRing n (f d)).calm = s.calm :=
  calm_modDie _ _ _ fun _ => by cases n <;> rfl

theorem calm_ringPost (s : State) (die : Nat) (n : RingName) (rec : List Byte) (phys : DWord → Option Nat) :
    (s.ringPost die n rec phys).calm = s.calm := by
  unfold State.ringPost
  dsimp only
  split
  · rfl
  · split
    · exact calm_modRing ..
    · split
      · exact calm_modRing ..
      · exact (calm_modRing ..).trans (calm_foldl _ (fun s p => calm_agentWrite s _ _) _ _)

theorem calm_putShadow (s : State) (die : Nat) (x : Shadow) : (s.putShadow die x).calm = s.calm := by
  have dropped : ({ s with dies := s.dies.map fun d => d.dropShadow x.sector } : State).calm = s.calm := by
    simp [State.calm, Function.comp_def, Die.dropShadow]
  have put : (s.putShadow die x).calm = ({ s with dies := s.dies.map fun d => d.dropShadow x.sector } : State).calm :=
    calm_modDie _ die (fun d => { d with shadows := x :: d.shadows }) fun _ => rfl
  exact put.trans dropped

@[simp] theorem calm_lintAccess (s : State) (r : Ref) (t : Target) (n : Nat) (write atomic : Bool) :
    (s.lintAccess r t n write atomic).calm = s.calm := by
  unfold State.lintAccess
  split
  · rfl
  · split
    · refine calm_foldl _ (fun s k => ?_) _ s
      extract_lets sec lo hi rec sh report u v
      have posts : ∀ (s : State) (old : Option ShadowRec) (kind : Nat), (report s old kind).calm = s.calm := by
        intro s old kind
        unfold report
        split
        · split
          · exact calm_ringPost ..
          · rfl
        · rfl
      have first : u.calm = s.calm := posts s sh.wr _
      refine (calm_putShadow ..).trans ?_
      unfold v
      split
      · exact (posts u _ _).trans first
      · exact first
    · rfl

@[simp] theorem calm_recordRperm (s : State) (t w : Nat) (rec : WordRec) : (s.recordRperm t w rec).calm = s.calm :=
  calm_modWave _ _ _ _ fun x => by split <;> rfl

theorem calm_physWriteSector (s : State) (w : Writer) (pa : Nat) (b : List Byte) (atL2 : Bool) (sec : Nat) :
    (s.physWriteSector w pa b atL2 sec).1.calm = s.calm := by
  unfold State.physWriteSector
  dsimp only
  split
  · exact (dieRead_fitL2 _ _ _).calm_eq
  · rfl

theorem calm_physWrite (s : State) (w : Writer) (pa : Nat) (b : List Byte) (atL2 : Bool) :
    (s.physWrite w pa b atL2).1.calm = s.calm := by
  unfold State.physWrite
  extract_lets u reads
  have taken : u.calm = s.calm := by
    unfold u
    split
    · exact (dieRead_takeIn ..).calm_eq
    · rfl
  generalize loop : List.foldl _ (u, []) (sectorsOf pa b.length) = p
  have sectors : p.1.calm = u.calm := by
    have all : ∀ (secs : List Nat) (p : State × List (Nat × WriteOut)), (secs.foldl (fun p k =>
        ((p.1.physWriteSector w pa b atL2 k).1, p.2 ++ [(k, (p.1.physWriteSector w pa b atL2 k).2)])) p).1.calm = p.1.calm := by
      intro secs
      induction secs with
      | nil => exact fun _ => rfl
      | cons sec secs ih => exact fun p => (ih _).trans (calm_physWriteSector ..)
    rw [← loop]
    exact all _ (u, [])
  obtain ⟨v, outs⟩ := p
  have noted := calm_noteWords v (codesOf (reads.filter fun k => outs.any fun x => x.1 == k && x.2 != .refused)) true
  dsimp only
  split
  · exact noted.trans (sectors.trans taken)
  · exact noted.trans (sectors.trans taken)

theorem calm_writeTarget (s : State) (w : Writer) (t : Target) (b : List Byte) (atL2 : Bool) :
    (s.writeTarget w t b atL2).1.calm = s.calm := by
  have woken := calm_wakeMonitors s t b.length
  cases t with
  | spad tid off =>
    exact (calm_modTeam _ tid (fun x => { x with spad := cellsWriteN x.spad off b }) fun _ => ⟨rfl, rfl⟩).trans woken
  | fw off => exact woken
  | hub off live => cases live <;> exact woken
  | phys pa => exact (calm_physWrite ..).trans woken

@[simp] theorem calm_performStore (s : State) (op : Op) (a : StAcc) : (s.performStore op a).calm = s.calm := by
  have written := calm_writeTarget s { s.writer op.team with strm := a.cc == 1 } a.tgt a.bytes (a.cc == 2)
  unfold State.performStore
  dsimp only
  split
  · exact (calm_recordRperm ..).trans written
  · exact written

@[simp] theorem calm_drainOp (s : State) (id : Nat) : (s.drainOp id).calm = s.calm := by
  unfold State.drainOp
  split
  · rfl
  · next op _ =>
    split
    · exact calm_foldl (fun s a => s.performStore op a) (fun s a => calm_performStore s op a) _ s
    · rfl

@[simp] theorem calm_drainWhere (s : State) (p : Op → Bool) : (s.drainWhere p).calm = s.calm :=
  calm_foldl (fun (s : State) (o : Op) => s.drainOp o.id) (fun s o => calm_drainOp s o.id) _ s

end Sys2Proof.Machine

/-! ST: the parts that its lanes leave behind at issue (R134, R135, R139). -/

namespace Sys2Proof.Machine

/-- A word that leaves the state `u` at its end, whoever issued it and whatever it accessed, has `u`'s changes and no other. -/
theorem ends_of_finish {i : Instr} {s u : State} (ready : u.Ready) (word : ∃ ls ws, exec i s = .next (u.finish ls ws)) :
    Ends i s u := by
  obtain ⟨ls, ws, word⟩ := word
  exact finish_ends ready ls ws word

/-! ### A store waits (R134, R139) -/

theorem find?_map_self {α β : Type} [BEq α] [LawfulBEq α] (f : α → β) {l : List α} {a : α} (h : a ∈ l) :
    ((l.map fun x => (x, f x)).find? fun v => v.1 == a) = some (a, f a) := by
  obtain ⟨b, found⟩ := Option.isSome_iff_exists.1
    (List.find?_isSome (p := fun x => x == a).2 ⟨a, h, beq_self_eq_true a⟩)
  have same : b = a := by simpa using List.find?_some found
  simp [List.find?_map, found, same]

/-- The lanes of a word that contribute to it (R203). -/
def State.ownLanes (s : State) : List Ref := s.active.filter fun r => !(s.lane r).isHelper

/-- A lane's part of a store that has been granted the place `f` (R135, R139). -/
def State.storePart (s : State) (o : FM) (f : Ask → Target) (r : Ref) : StAcc :=
  ⟨r.lane, (s.askOf o needW false r).va, f (s.askOf o needW false r), s.storeBytes r o.rd (2 ^ o.sz.toNat), o.cc.toNat⟩

/-- The state in which a granted store has left its operations. -/
def State.storePosted (s : State) (o : FM) (f : Ask → Target) : State :=
  ((s.ownLanes.map (s.askOf o needW false)).foldl (fun u a => u.lintAccess a.r (f a) a.n true false) (s.latched [o.rd])).postOps
    (wavesOf s.active) .st false [] [] fun w => .store
      (((laneAsc (s.ownLanes.map fun r => (r, s.storePart o f r))).filter fun x => x.1.team == w.1 && x.1.wave == w.2).map (·.2))

theorem calm_storePosted (s : State) (o : FM) (f : Ask → Target) : (s.storePosted o f).calm = s.calm :=
  (calm_postOps ..).trans ((calm_foldl _ (fun _ _ => calm_lintAccess ..) _ _).trans (calm_latched ..))

theorem fmAsks_eq_map (s : State) (act : List Ref) (o : FM) (need : Nat) (atomic : Bool) :
    fmAsks s act o need atomic = act.map (s.askOf o need atomic) := rfl

/-- The parts of a store as ST collects them: of each place that is granted, with the bytes read at issue. -/
theorem storeParts_granted (s : State) (o : FM) (f : Ask → Target) :
    ((s.ownLanes.map (s.askOf o needW false)).map fun a => (a, f a)).map (fun x => (x.1.r,
      ({ lane := x.1.r.lane, va := x.1.va, tgt := x.2, cc := o.cc.toNat,
         bytes := (((s.active.map fun r => (r, s.storeBytes r o.rd (2 ^ o.sz.toNat))).find? fun v =>
           v.1 == x.1.r).map (·.2)).getD [] } : StAcc))) = s.ownLanes.map fun r => (r, s.storePart o f r) := by
  simp only [List.map_map]
  refine List.map_congr_left fun r hr => ?_
  have active : (s.askOf o needW false r).r ∈ s.active := List.mem_of_mem_filter hr
  simp only [Function.comp_apply, find?_map_self _ active]
  rfl

theorem execSt_granted {s : State} {o : FM} {f : Ask → Target} (ready : s.Ready) (room : s.counterFull .st = false)
    (granted : s.Grants (s.ownLanes.map (s.askOf o needW false)) f) : Ends (.st o) s (s.storePosted o f) := by
  refine ends_of_finish (ready.of_calm (calm_storePosted ..)) ?_
  have gate : s.gate ((s.active.filter fun r => !(s.lane r).isHelper).map (s.askOf o needW false)) = _ := gate_grants granted
  change ∃ ls ws, execSt o s = _
  rw [execSt, whenIssued_ready ready]
  simp only [room, fmAsks_eq_map, gate, Bool.false_eq_true, if_false]
  refine ⟨_, _, congrArg Host.Outcome.next (congrArg (fun u => State.finish u _ _) ?_)⟩
  have all : s.active.filter (fun r => !([] : List Ref).contains r) = s.active := List.filter_eq_self.2 fun _ _ => rfl
  simp only [Gate.counted, all, List.foldl_map]
  rw [State.storePosted, ← storeParts_granted]
  simp only [List.foldl_map]
  rfl

end Sys2Proof.Machine

/-! Stores that are performed (R45, R134): the bytes of a scratchpad after a write, and what stays as it was. -/

namespace Sys2Proof.Machine

/-! ### Bytes read after a write (R7) -/

theorem cellsRead_below {c : List Host.Cell} {lo a : Nat} (wf : cellsWfFrom lo c = true) (below : a < lo) :
    cellsRead c a = unlisted := by
  cases c with
  | nil => rfl
  | cons x t =>
    simp only [cellsWfFrom, Bool.and_eq_true, decide_eq_true_eq] at wf
    exact if_pos (by omega)

theorem cellsRead_write {c : List Host.Cell} {lo : Nat} (wf : cellsWfFrom lo c = true) (a b : Nat) (v : Byte) :
    cellsRead (cellsWrite c a v) b = if b = a then v else cellsRead c b := by
  induction c generalizing lo with
  | nil => grind [cellsRead, cellsWrite]
  | cons x t ih =>
    simp only [cellsWfFrom, Bool.and_eq_true, decide_eq_true_eq] at wf
    obtain ⟨-, tail⟩ := wf
    have below : ∀ n, n < x.1 + 1 → cellsRead t n = unlisted := fun n => cellsRead_below tail
    have after := ih tail
    grind [cellsRead, cellsWrite]

theorem cellsRead_writeN_of_outside {c : List Host.Cell} (wf : cellsWf c = true) (a : Nat) (bs : List Byte) {b : Nat}
    (outside : b < a ∨ a + bs.length ≤ b) : cellsRead (cellsWriteN c a bs) b = cellsRead c b := by
  induction bs generalizing c a with
  | nil => rfl
  | cons v bs ih =>
    rw [List.length_cons] at outside
    rw [cellsWriteN, ih (cellsWf_write wf a v) (a + 1) (by omega), cellsRead_write wf, if_neg (by omega)]

theorem cellsReadN_writeN {c : List Host.Cell} (wf : cellsWf c = true) (a : Nat) (bs : List Byte) :
    cellsReadN (cellsWriteN c a bs) a bs.length = bs := by
  induction bs generalizing c a with
  | nil => rfl
  | cons v bs ih =>
    have first : cellsRead (cellsWriteN (cellsWrite c a v) (a + 1) bs) a = v := by
      rw [cellsRead_writeN_of_outside (cellsWf_write wf a v) (a + 1) bs (by omega), cellsRead_write wf, if_pos rfl]
    rw [List.length_cons, cellsReadN, cellsWriteN, first, ih (cellsWf_write wf a v)]

/-! ### Scratchpads -/

theorem spad_team (s : State) (k : Nat) : (s.team k).spad = (s.teams.map Team.spad).getD k [] := by
  simp only [State.team, List.getD_eq_getElem?_getD, List.getElem?_map]
  cases s.teams[k]? <;> rfl

theorem spads_wakeMonitors (s : State) (t : Target) (n : Nat) : (s.wakeMonitors t n).teams.map Team.spad = s.teams.map Team.spad := by
  simp [State.wakeMonitors, Function.comp_def]

theorem map_modTeam {α : Type} (g : Team → α) (s : State) (k : Nat) (f : Team → Team) (h : ∀ t, g (f t) = g t) :
    (s.modTeam k f).teams.map g = s.teams.map g := map_modify_same g f h _ _

theorem spads_bump (s : State) (t w : Nat) (c : Ctr) (up : Bool) :
    (s.bump t w c up).teams.map Team.spad = s.teams.map Team.spad :=
  map_modTeam Team.spad s t _ fun _ => rfl

theorem spads_retire (s : State) : s.retire.teams.map Team.spad = s.teams.map Team.spad := by
  have bumps : ∀ (l : List (Nat × Nat × Ctr)) (u : State),
      (l.foldl (fun s x => s.bump x.1 x.2.1 x.2.2 false) u).teams.map Team.spad = u.teams.map Team.spad := by
    intro l
    induction l with
    | nil => exact fun _ => rfl
    | cons x l ih => exact fun u => (ih _).trans (spads_bump u x.1 x.2.1 x.2.2 false)
  exact bumps _ _

/-! ### A store is performed (R134, R45) -/

/-- When the operations that a test leaves out have nothing waiting, nothing else is performed with the chosen ones. -/
theorem storeClosure_eq_filter {ops : List Op} {p : Op → Bool} (rest : ∀ o ∈ ops, p o = true ∨ o.accs = []) :
    storeClosure ops p = ops.filter p := by
  induction ops with
  | nil => rfl
  | cons o ops ih =>
    have tail : storeClosure ops p = ops.filter p := ih fun x hx => rest x (List.mem_cons_of_mem o hx)
    have unfolded : storeClosure (o :: ops) p =
        if p o || (storeClosure ops p).any (fun l => o.before l) then o :: storeClosure ops p else storeClosure ops p := rfl
    rw [unfolded, tail]
    by_cases chosen : p o = true
    · simp [chosen]
    · have idle : ∀ l, o.before l = false := fun l => by simp [Op.before, (rest o List.mem_cons_self).resolve_left chosen]
      simp [chosen, idle]

theorem mem_retireGo {ops : List Op} {blocked : List (Nat × Nat × Ctr)} {x : Op} (h : x ∈ (retireGo ops blocked).1) : x ∈ ops := by
  induction ops generalizing blocked with
  | nil => exact h
  | cons o ops ih =>
    rw [retireGo] at h
    dsimp only at h
    split at h
    · exact List.mem_cons_of_mem o (ih h)
    · rcases List.mem_cons.1 h with rfl | h
      · exact List.mem_cons_self
      · exact List.mem_cons_of_mem o (ih h)

theorem mem_ops_retire {s : State} {x : Op} (h : x ∈ s.retire.ops) : x ∈ s.ops := by
  have bumps : ∀ (l : List (Nat × Nat × Ctr)) (u : State), (l.foldl (fun s x => s.bump x.1 x.2.1 x.2.2 false) u).ops = u.ops := by
    intro l
    induction l with
    | nil => exact fun _ => rfl
    | cons y l ih => exact fun u => ih _
  refine mem_retireGo (blocked := []) ?_
  rw [State.retire, bumps] at h
  exact h

/-- An operation that is complete is finished, if it still stands behind an earlier one (R134, R308). -/
theorem done_of_mem_opDone {s : State} {id : Nat} {x : Op} (h : x ∈ (s.opDone id).ops) (same : x.id = id) : x.done = true := by
  obtain ⟨y, -, rfl⟩ := List.mem_map.1 (mem_ops_retire h)
  split at same
  · next e => rw [if_pos e]
  · next e => exact absurd same (by simpa using e)

/-- Bytes are written to a scratchpad, which wakes the monitors of their sectors, and the operation that stored them has nothing
left to perform. -/
def State.spadStored (s : State) (op : Op) (tid off : Nat) (bytes : List Byte) : State :=
  { (s.wakeMonitors (.spad tid off) bytes.length).modTeam tid fun x => { x with spad := cellsWriteN x.spad off bytes } with
    ops := s.ops.map fun o => if o.id == op.id then { o with body := .store [] } else o }

theorem spad_spadStored (s : State) (op : Op) {tid : Nat} (off : Nat) (bytes : List Byte) (inside : tid < s.teams.length) (k : Nat) :
    ((s.spadStored op tid off bytes).team k).spad =
      if k = tid then cellsWriteN (s.team tid).spad off bytes else (s.team k).spad := by
  have woken : ((s.wakeMonitors (.spad tid off) bytes.length).team k).spad = (s.team k).spad := by
    rw [spad_team, spads_wakeMonitors, ← spad_team]
  have inside' : tid < (s.wakeMonitors (.spad tid off) bytes.length).teams.length := by simpa [State.wakeMonitors] using inside
  change (((s.wakeMonitors (.spad tid off) bytes.length).modTeam tid
    fun x => { x with spad := cellsWriteN x.spad off bytes }).team k).spad = _
  by_cases same : tid = k
  · subst same
    rw [team_modTeam_eq _ _ inside', if_pos rfl, woken]
  · rw [team_modTeam_ne _ _ same, if_neg (Ne.symm same), woken]

/-- A store of one lane to a scratchpad is performed: its bytes are written, then the operation is complete. -/
theorem execStorePerformed_spad {s : State} {op : Op} {a : StAcc} {tid off : Nat} (live : s.liveOp s.args.a = some op)
    (body : op.body = .store [a]) (place : a.tgt = .spad tid off) (others : ∀ x ∈ s.ops, x.id = op.id ∨ x.accs = [])
    (only : (s.ops.filter fun x => x.id == op.id) = [op]) :
    exec .storePerformed s = .next ((s.spadStored op tid off a.bytes).opDone op.id) := by
  have closure : storeClosure s.ops (fun o => o.id == op.id) = [op] := by
    rw [storeClosure_eq_filter fun o ho => (others o ho).imp_left (by simp), only]
  have found : (s.ops.find? fun o => o.id == op.id) = some op := by rw [← List.head?_filter, only]; rfl
  change execStorePerformed s = _
  unfold execStorePerformed
  simp only [live, body, State.drainWhere, closure, List.foldl_cons, List.foldl_nil, State.drainOp, found, List.reverse_singleton,
    State.performStore, State.writeTarget, place]
  rfl

/-- Settles O34: at issue every place is granted, so ST leaves the parts of its lanes behind; a performed store writes its bytes over
the scratchpad's and completes. -/
theorem storeWords : Obligations.StoreWords := by
  refine ⟨fun s o f ready room => execSt_granted ready room, ?_⟩
  intro s op a tid off live body place inside wf others only
  have spad : ∀ k, ((((s.spadStored op tid off a.bytes).opDone op.id).team k).spad) =
      if k = tid then cellsWriteN (s.team tid).spad off a.bytes else (s.team k).spad := fun k => by
    rw [← spad_spadStored s op off a.bytes inside k, spad_team, State.opDone, spads_retire, spad_team]
  obtain ⟨mem, hub, dies, -⟩ := opDone_frame (s.spadStored op tid off a.bytes) op.id
  refine ⟨_, execStorePerformed_spad live body place others only, ?_, fun b outside => ?_, fun k other => ?_, mem, hub, dies,
    fun x hx same => done_of_mem_opDone hx same⟩
  · rw [spad, if_pos rfl, cellsReadN_writeN wf]
  · rw [spad, if_pos rfl, cellsRead_writeN_of_outside wf _ _ outside]
  · rw [spad, if_neg other]

end Sys2Proof.Machine

/-! Branches and YIELD (R128, R129, R132): the lanes that a kind of BRA names, the targets of JMPI, and the end of a turn. -/

namespace Sys2Proof.Machine

@[simp] theorem calm_sendTo (s : State) (xs : List (Ref × DWord × Nat)) : (s.sendTo xs).calm = s.calm := by
  simp [State.calm, State.sendTo, State.modIssue]

/-! ### BRA (R128, R129) -/

/-- Lanes of an entry that have not ended. -/
def State.groupOf (s : State) (m : Member) : List Ref := (memberRefs m).filter fun r => !(s.lane r).ended

theorem activeOf_eq (s : State) (m : Member) :
    s.activeOf m = (s.groupOf m).filter fun r => guardHolds s.guard (s.lane r) := by
  simp only [State.activeOf, State.groupOf, List.filter_filter, Bool.and_comm]

/-- Of the lanes of an entry that are no helpers, those for which its word issues are those for which the guard holds. -/
theorem filter_active_own (s : State) (m : Member) :
    (((s.groupOf m).filter fun r => !(s.lane r).isHelper).filter fun r => (s.activeOf m).contains r) =
      ((s.groupOf m).filter fun r => !(s.lane r).isHelper).filter fun r => guardHolds s.guard (s.lane r) := by
  refine List.filter_congr fun r hr => ?_
  have inGroup : r ∈ s.groupOf m := List.mem_of_mem_filter hr
  simp [activeOf_eq, inGroup]

theorem transfers_eq (s : State) (kind : Nat) (m : Member) :
    s.transfers kind m =
      let own := (s.groupOf m).filter fun r => !(s.lane r).isHelper
      let holds := fun r => guardHolds s.guard (s.lane r)
      match kind with
      | 0 => (s.groupOf m).filter holds
      | 1 => if own.any holds then s.groupOf m else []
      | 2 => if own.all holds then s.groupOf m else []
      | _ => if own.all fun r => !holds r then s.groupOf m else [] := by
  extract_lets own holds
  have held : (own.filter fun r => (s.activeOf m).contains r) = own.filter holds := filter_active_own s m
  have unfolded : s.transfers kind m = match kind with
      | 0 => s.activeOf m
      | 1 => if (own.filter fun r => (s.activeOf m).contains r).isEmpty then [] else s.groupOf m
      | 2 => if (own.filter fun r => (s.activeOf m).contains r).length = own.length then s.groupOf m else []
      | _ => if (own.filter fun r => (s.activeOf m).contains r).isEmpty then s.groupOf m else [] := rfl
  rw [unfolded, held]
  match kind with
  | 0 => exact activeOf_eq s m
  | 1 =>
    have some : (own.filter holds).isEmpty = !own.any holds := by rw [Bool.eq_iff_iff]; simp
    cases any : own.any holds <;> simp [some, any]
  | 2 => simp [List.length_filter_eq_length_iff]
  | n + 3 => simp [List.isEmpty_iff]

theorem execBra_ends {s : State} (ready : s.Ready) (o : FB) :
    Ends (.bra o) s (s.sendTo ((s.bundle.members.flatMap (s.transfers o.kind.toNat)).map fun r =>
      (r, branchTarget s.bundle o.off, 0))) := by
  refine ends_of_finish (ready.of_calm (calm_sendTo ..)) ⟨s.active, [], ?_⟩
  change execBra o s = _
  rw [execBra, whenIssued_ready ready]

/-! ### JMPI (R129) -/

theorem execJmpi_eq {s : State} (ready : s.Ready) (o : FB) :
    let odd := fun (r : Ref) => decide ((s.src64 r o.ra).toNat % 8 ≠ 0)
    exec (.jmpi o) s = .next (((s.sendTo ((s.active.filter fun r => !odd r).map fun r => (r, s.src64 r o.ra, 0))).faultLanes
      ((s.active.filter odd).map fun r => { r, cause := .misalign, addr := s.src64 r o.ra })).finish s.active []) := by
  intro odd
  have even : ∀ r, ((s.src64 r o.ra).toNat % 8 == 0) = !odd r := fun r => by rw [Bool.eq_iff_iff]; simp [odd]
  have uneven : ∀ r, ((s.src64 r o.ra).toNat % 8 != 0) = odd r := fun r => by rw [Bool.eq_iff_iff]; simp [odd]
  change execJmpi o s = _
  rw [execJmpi, whenIssued_ready ready]
  simp only [List.filter_map, List.map_map, Function.comp_def, even, uneven]

theorem execJmpi_ends {s : State} (ready : s.Ready) (o : FB) (aligned : ∀ r ∈ s.active, (s.src64 r o.ra).toNat % 8 = 0) :
    Ends (.jmpi o) s (s.sendTo (s.active.map fun r => (r, s.src64 r o.ra, 0))) := by
  refine ends_of_finish (ready.of_calm (calm_sendTo ..)) ⟨s.active, [], ?_⟩
  have all : (s.active.filter fun r => !decide ((s.src64 r o.ra).toNat % 8 ≠ 0)) = s.active :=
    List.filter_eq_self.2 fun r hr => by simp [aligned r hr]
  have none : (s.active.filter fun r => decide ((s.src64 r o.ra).toNat % 8 ≠ 0)) = [] :=
    List.filter_eq_nil_iff.2 fun r hr => by simp [aligned r hr]
  have word := execJmpi_eq ready o
  dsimp only at word
  rw [all, none] at word
  exact word

/-! ### YIELD (R132) -/

theorem gridOf_of_still {s t : State} (same : t.still = s.still) (k : Nat) : t.gridOf k = s.gridOf k := by
  have grids : t.grids = s.grids := (congrArg State.grids same :)
  have teams : t.teams.map Team.still = s.teams.map Team.still := (congrArg State.teams same :)
  have grid : (t.team k).grid = (s.team k).grid := by
    have at_k := congrArg (fun l : List Team => (l[k]?).map Team.grid) teams
    simp only [List.getElem?_map, Option.map_map] at at_k
    simp only [State.team, List.getD_eq_getElem?_getD]
    cases ht : t.teams[k]? <;> cases hs : s.teams[k]? <;> simp_all [Team.still]
  rw [State.gridOf, State.gridOf, grids, grid]

theorem endTurn_free {s : State} {lanes : List Ref} (free : ∀ r ∈ lanes, (s.gridOf r.team).det = false) : s.endTurn lanes = s := by
  induction lanes with
  | nil => rfl
  | cons r lanes ih =>
    have step : s.endTurn (r :: lanes) = s.endTurn lanes := by
      simp [State.endTurn, free r List.mem_cons_self]
    rw [step, ih fun x hx => free x (List.mem_cons_of_mem r hx)]

/-- The entries with an active lane take Y. -/
def State.yieldAll (s : State) : State :=
  s.bundle.members.foldl (fun u m =>
    if (s.activeOf m).isEmpty then u else u.modEntry m.team m.wave m.slot fun e => { e with yh := true }) s

theorem still_yieldAll (s : State) : s.yieldAll.still = s.still :=
  still_foldl _ (fun u m => by split; exacts [rfl, still_modEntry ..]) _ s

theorem calm_yieldAll (s : State) : s.yieldAll.calm = s.calm :=
  calm_foldl _ (fun u m => by split; exacts [rfl, calm_modWave _ _ _ _ fun _ => rfl]) _ s

theorem lane_modEntry (s : State) (t w k : Nat) (f : Entry → Entry) (r : Ref) : (s.modEntry t w k f).lane r = s.lane r := by
  unfold State.lane State.modEntry
  rw [wave_modWave]
  split <;> rfl

theorem activeOf_modEntry (s : State) (t w k : Nat) (f : Entry → Entry) (m : Member) :
    (s.modEntry t w k f).activeOf m = s.activeOf m := by
  unfold State.activeOf
  simp only [lane_modEntry]
  rfl

/-- That entries take Y makes no difference to which lanes are active. -/
theorem yieldAll_eq (s : State) : (s.bundle.members.foldl (fun s m =>
    if (s.activeOf m).isEmpty then s else s.modEntry m.team m.wave m.slot fun e => { e with yh := true }) s) = s.yieldAll := by
  have all : ∀ (ms : List Member) (u : State), (∀ m, u.activeOf m = s.activeOf m) → (ms.foldl (fun s m =>
        if (s.activeOf m).isEmpty then s else s.modEntry m.team m.wave m.slot fun e => { e with yh := true }) u) =
      ms.foldl (fun u m =>
        if (s.activeOf m).isEmpty then u else u.modEntry m.team m.wave m.slot fun e => { e with yh := true }) u := by
    intro ms
    induction ms with
    | nil => exact fun _ _ => rfl
    | cons m ms ih =>
      intro u same
      simp only [List.foldl_cons, same m]
      split
      · exact ih u same
      · exact ih _ fun x => (activeOf_modEntry u _ _ _ _ x).trans (same x)
  exact all _ s fun _ => rfl

theorem execYield_ends {s : State} (ready : s.Ready) (free : ∀ r ∈ s.active, (s.gridOf r.team).det = false) :
    Ends .yield s s.yieldAll := by
  have ready' : s.yieldAll.Ready := ready.of_calm (calm_yieldAll s)
  have same : (s.yieldAll.finish s.active []).still = s.still := (still_finish ready'.toQuiet _ _).trans (still_yieldAll s)
  refine ends_of_finish ready' ⟨s.active, [], ?_⟩
  change execYield s = _
  rw [execYield, whenIssued_ready ready]
  simp only [yieldAll_eq]
  exact congrArg _ (endTurn_free fun r hr => by rw [gridOf_of_still same]; exact free r hr)

/-- Settles O25: each word sends its lanes and finishes; the groups that BRA sends are those that its kind names. -/
theorem branchWords : Obligations.BranchWords := by
  intro s ready o group own holds go
  have sent : s.transfers o.kind.toNat = go := funext fun m => transfers_eq s _ m
  refine ⟨?_, execJmpi_ends ready o, execJmpi_eq ready o, execYield_ends ready⟩
  rw [← sent]
  exact execBra_ends ready o

end Sys2Proof.Machine

/-! High multiply, division, minimum and maximum (R118, R119): an operation on the integers that .uns reads the operands as is the
bit-vector operation of that signedness. -/

namespace Sys2Proof.Machine

variable (u : Bool) (a b : Word)

theorem ofInt_ediv_eq_extract (x : Int) : BitVec.ofInt 32 (x / 2 ^ 32) = (BitVec.ofInt 64 x).extractLsb' 32 32 := by
  apply BitVec.eq_of_toNat_eq
  simp only [BitVec.toNat_ofInt, BitVec.extractLsb'_toNat, Nat.shiftRight_eq_div_pow]
  omega

theorem mulHigh_eq : mulHigh u a b =
    if u then (a.setWidth 64 * b.setWidth 64).extractLsb' 32 32 else (a.signExtend 64 * b.signExtend 64).extractLsb' 32 32 := by
  have high := ofInt_ediv_eq_extract (intOf u a * intOf u b)
  cases u with
  | true =>
    have wide : ∀ v : Word, BitVec.ofInt 64 (v.toNat : Int) = v.setWidth 64 := fun v => by
      rw [BitVec.ofInt_natCast, BitVec.ofNat_toNat]
    simpa [mulHigh, w32, intOf, BitVec.ofInt_mul, wide] using high
  | false => simpa [mulHigh, w32, intOf, BitVec.ofInt_mul, BitVec.signExtend] using high

/-- The words of R119 on operands read as unsigned. -/
theorem ofInt_natDiv : w32 (Int.tdiv a.toNat b.toNat) = a / b ∧ w32 (Int.tmod a.toNat b.toNat) = a % b := by
  simp only [w32, ← Int.ofNat_tdiv, ← Int.ofNat_tmod, BitVec.ofInt_natCast, ← BitVec.toNat_udiv, ← BitVec.toNat_umod,
    BitVec.ofNat_toNat, BitVec.setWidth_eq, and_self]

/-- The words of R119 on operands read as signed. -/
theorem ofInt_intDiv : w32 (Int.tdiv a.toInt b.toInt) = a.sdiv b ∧ w32 (Int.tmod a.toInt b.toInt) = a.srem b :=
  ⟨BitVec.eq_of_toInt_eq (by rw [w32, BitVec.toInt_ofInt, BitVec.toInt_sdiv]),
    by rw [w32, ← BitVec.toInt_srem, BitVec.ofInt_toInt]⟩

theorem divQuot_eq : divQuot u a b = if b = 0 then 0xFFFFFFFF else if u then a / b else a.sdiv b := by
  have zero : (b == 0) = decide (b = 0) := rfl
  rw [divQuot, zero]
  cases u with
  | true => simp only [Bool.not_true, Bool.false_and, intOf, (ofInt_natDiv a b).1, decide_eq_true_eq, Bool.false_eq_true, if_false,
      if_true]
  | false =>
    by_cases least : a = 0x80000000 ∧ b = 0xFFFFFFFF
    · obtain ⟨rfl, rfl⟩ := least
      simp
    · have fits : (!false && a == 0x80000000 && b == 0xFFFFFFFF) = false := by simpa using least
      simp only [fits, intOf, (ofInt_intDiv a b).1, decide_eq_true_eq, Bool.false_eq_true, if_false]

theorem divRem_eq : divRem u a b = if b = 0 then a else if u then a % b else a.srem b := by
  have zero : (b == 0) = decide (b = 0) := rfl
  rw [divRem, zero]
  cases u with
  | true => simp only [Bool.not_true, Bool.false_and, intOf, (ofInt_natDiv a b).2, decide_eq_true_eq, Bool.false_eq_true, if_false,
      if_true]
  | false =>
    by_cases least : a = 0x80000000 ∧ b = 0xFFFFFFFF
    · obtain ⟨rfl, rfl⟩ := least
      simp
    · have fits : (!false && a == 0x80000000 && b == 0xFFFFFFFF) = false := by simpa using least
      simp only [fits, intOf, (ofInt_intDiv a b).2, decide_eq_true_eq, Bool.false_eq_true, if_false]

theorem intOf_lt (v w : Word) : intOf u v < intOf u w ↔ (if u then v.ult w else v.slt w) = true := by
  cases u <;> simp [intOf, BitVec.slt, BitVec.ult]

theorem intMin_eq : intMin u a b = if (if u then b.ult a else b.slt a) then b else a := by
  simp only [intMin, intOf_lt]

theorem intMax_eq : intMax u a b = if (if u then a.ult b else a.slt b) then b else a := by
  simp only [intMax, intOf_lt]

/-- Settles O2: each word is a form of class ALU around one of the five operations. -/
theorem signedOrUnsignedWords : Obligations.SignedOrUnsignedWords := by
  intro s h o i
  simp only [← mulHigh_eq, ← divQuot_eq, ← divRem_eq, ← intMin_eq, ← intMax_eq]
  exact ⟨ends_alu2 h rfl, ends_aluI h rfl, ends_alu2 h rfl, ends_aluI h rfl, ends_alu2 h rfl, ends_aluI h rfl,
    ends_alu2 h rfl, ends_aluI h rfl, ends_alu2 h rfl, ends_aluI h rfl⟩

end Sys2Proof.Machine

/-! Lanes and bits of a mask, and the bit planes of R123. -/

namespace Sys2Proof.Machine

theorem mem_maskLanes {m : BitVec 32} {k : Nat} : k ∈ maskLanes m ↔ k < 32 ∧ m.getLsbD k = true := by
  simp [maskLanes]

theorem getLsbD_maskOf (ls : List Nat) (k : Nat) : (maskOf ls).getLsbD k = (decide (k < 32) && ls.contains k) := by
  have general : ∀ (ls : List Nat) (m : BitVec 32), (ls.foldl (fun (m : BitVec 32) k => m ||| ((1 <<< k : Nat) : BitVec 32)) m).getLsbD k =
      (m.getLsbD k || (decide (k < 32) && ls.contains k)) := by
    intro ls
    induction ls with
    | nil => simp
    | cons j ls ih =>
      intro m
      have one : ((1 <<< j : Nat) : BitVec 32).getLsbD k = (decide (k < 32) && k == j) := by
        rw [BitVec.natCast_eq_ofNat, BitVec.getLsbD_ofNat, Nat.one_shiftLeft, Nat.testBit_two_pow]
        exact congrArg _ (Bool.eq_iff_iff.2 (by simpa using eq_comm))
      rw [List.foldl_cons, ih, BitVec.getLsbD_or, one, List.contains_cons, Bool.or_assoc, Bool.and_or_distrib_left]
  rw [maskOf, general]
  simp

theorem getLsbD_maskOf_filter {p : Nat → Bool} {k : Nat} (h : k < 32) :
    (maskOf ((List.range 32).filter p)).getLsbD k = p k := by
  rw [getLsbD_maskOf, Bool.eq_iff_iff]
  simp [h]

/-- A mask is that of the lanes that a test chooses. -/
theorem maskOf_filter_eq_ofFnLE (p : Nat → Bool) : maskOf ((List.range 32).filter p) = BitVec.ofFnLE fun i : Fin 32 => p i := by
  refine BitVec.eq_of_getLsbD_eq fun k hk => ?_
  rw [getLsbD_maskOf_filter hk, BitVec.getLsbD_ofFnLE, dif_pos hk]

/-! ### Bit planes (R123) -/

theorem bpiRes_bpxRes (a : Word) : bpiRes (bpxRes a) = a := by
  refine BitVec.eq_of_getLsbD_eq fun k hk => ?_
  rw [bpiRes, getLsbD_maskOf_filter hk, bpxRes, getLsbD_maskOf_filter (by omega)]
  congr 1
  omega

theorem bpxRes_bpiRes (a : Word) : bpxRes (bpiRes a) = a := by
  refine BitVec.eq_of_getLsbD_eq fun k hk => ?_
  rw [bpxRes, getLsbD_maskOf_filter hk, bpiRes, getLsbD_maskOf_filter (by omega)]
  congr 1
  omega

/-- Settles O4: both words are permutations of the bits, and each other's inverse. -/
theorem bitPlaneWords : Obligations.BitPlaneWords := by
  unfold Obligations.BitPlaneWords
  extract_lets bpx bpi
  have gathers : ∀ a, bpx a = bpxRes a := fun a =>
    (maskOf_filter_eq_ofFnLE fun i => a.getLsbD (8 * (i % 4) + i / 4)).symm
  have spreads : ∀ a, bpi a = bpiRes a := fun a =>
    (maskOf_filter_eq_ofFnLE fun i => a.getLsbD (4 * (i % 8) + i / 8)).symm
  simp only [gathers, spreads]
  refine ⟨fun s h o => ⟨ends_alu1 h rfl, ends_alu1 h rfl⟩, fun a => ⟨bpiRes_bpxRes a, bpxRes_bpiRes a⟩, fun x j i => ?_, ?_, ?_⟩
  · rw [bpxRes, getLsbD_maskOf_filter (by omega)]
    congr 1
    omega
  · decide
  · decide

end Sys2Proof.Machine

/-! Comparisons, predicate operands and class tests (R124 to R126): their effects written out. -/

namespace Sys2Proof.Machine

/-! ### Comparisons (R124) -/

theorem effIcmp_eq {w : Nat} (u : Bool) (p : BitVec 8) (a b : BitVec w) :
    effIcmp u p a b = { preds :=
      if u then [(p.toNat, a.ult b), (p.toNat + 1, a == b), (p.toNat + 2, b.ult a)]
      else [(p.toNat, a.slt b), (p.toNat + 1, a == b), (p.toNat + 2, b.slt a)] } := by
  cases u with
  | true =>
    have same : ((a.toNat : Int) == b.toNat) = (a == b) := by
      rw [Bool.eq_iff_iff]
      simp [BitVec.toNat_eq]
    simp [effIcmp, intPreds, intOf, BitVec.ult, same]
  | false =>
    have same : (a.toInt == b.toInt) = (a == b) := by
      rw [Bool.eq_iff_iff]
      simp [BitVec.toInt_inj]
    simp [effIcmp, intPreds, intOf, BitVec.slt, same]

/-- An unordered pair of operands compares as nothing else (R124). -/
theorem floatPreds_eq (p : Nat) (a b : FV) :
    floatPreds p a b = if a.isNan || b.isNan then [(p, false), (p + 1, false), (p + 2, false), (p + 3, true)]
      else [(p, cmpFV a b == .lt), (p + 1, cmpFV a b == .eq), (p + 2, cmpFV a b == .gt), (p + 3, false)] := by
  cases nan : a.isNan || b.isNan <;> simp [floatPreds, nan]

theorem elem_eq_extract (w : Nat) (v : Word) (k : Nat) : elem w v k = (v.extractLsb' (w * k) w).toNat := by
  simp [elem, Nat.shiftRight_eq_div_pow]

/-! ### Predicate operands (R101, R125) -/

theorem psrc_eq (s : State) (r : Ref) (sel : BitVec 8) :
    s.psrc r sel = if sel = 96 then true else (s.lane r).p.getLsbD sel.toNat := by
  have true_ : (sel.toNat == 96) = decide (sel = 96) := by
    rw [Bool.eq_iff_iff]
    simp [BitVec.toNat_eq]
  by_cases const : sel = 96 <;> simp [State.psrc, true_, const, Lane.pr]

theorem mod_two_pow_eq_extract (v : Word) (w : Nat) : v.toNat % 2 ^ w = (v.extractLsb' 0 w).toNat := by simp

theorem fclassBit_eq (half : Bool) (a b : Word) :
    b.getLsbD (if half then fclass Fmt.b16 (a.extractLsb' 0 16).toNat else fclass Fmt.b32 a.toNat) =
      b.getLsbD (if half then fclass Fmt.b16 (elem 16 a 0) else fclass Fmt.b32 a.toNat) := by
  rw [elem_eq_extract]

theorem ends_aluWord {i : Instr} {s : State} {srcs : List (BitVec 8)} {f : State → Ref → Eff} (h : s.Ready)
    (word : exec i s = aluWord s srcs f) : Ends i s (s.gives srcs (f s)) :=
  ends_of_form word (aluWord_ends h srcs f)

/-- Settles O9: each word is a form of class ALU around an effect that the lemmas above write out. -/
theorem compareWords : Obligations.CompareWords := by
  refine ⟨fun s h o i => ?compares, fun s h o i => ?selects⟩
  case compares =>
    extract_lets run int32 int64 ordered invalid single half
    have e32 : ∀ u p, int32 u p = effIcmp u p := fun u p => funext fun a => funext fun b => (effIcmp_eq u p a b).symm
    have e64 : ∀ u p, int64 u p = effIcmp u p := fun u p => funext fun a => funext fun b => (effIcmp_eq u p a b).symm
    have order : ∀ p a b, ordered p a b = floatPreds p a b := fun p a b => (floatPreds_eq p a b).symm
    have eSingle : ∀ sig p, single sig p = effFcmp sig p := fun sig p => funext fun a => funext fun b => by
      unfold single
      simp only [order]
      rfl
    have eHalf : ∀ bf p, half bf p = effHcmp bf p := fun bf p => funext fun a => funext fun b => by
      unfold half
      simp only [order, ← elem_eq_extract]
      rfl
    simp only [e32, e64, eSingle, eHalf]
    exact ⟨ends_alu2 h rfl, ends_aluI h rfl, ends_alu64 h rfl, ends_alu64I h rfl, ends_alu2 h rfl, ends_aluI h rfl,
      ends_alu2 h rfl, ends_aluI h rfl⟩
  case selects =>
    extract_lets p set class'
    have operand : ∀ r sel, p r sel = s.psrc r sel := fun r sel => (psrc_eq s r sel).symm
    have low5 : ∀ b : Word, (b.extractLsb' 0 5).toNat = b.toNat % 32 := fun b => (mod_two_pow_eq_extract b 5).symm
    unfold set class'
    simp only [operand, fclassBit_eq, low5, ← Bool.bne_eq_xor, ← bne_iff_ne]
    refine ⟨?_, ?_, ?_, ?_, ?_, ends_aluI h rfl, ?_, ?_, ?_, ends_alu2 h rfl, ends_aluI h rfl,
      ends_alu2 h rfl, ends_aluI h rfl⟩
    · exact ends_aluWord (f := fun s r => effP o.rd (s.psrc r o.ra && s.psrc r o.rb)) h rfl
    · exact ends_aluWord (f := fun s r => effP o.rd (s.psrc r o.ra || s.psrc r o.rb)) h rfl
    · exact ends_aluWord (f := fun s r => effP o.rd (s.psrc r o.ra != s.psrc r o.rb)) h rfl
    · exact ends_aluWord (f := fun s r => effP o.rd (!s.psrc r o.ra)) h rfl
    · exact ends_aluWord
        (f := fun s r => effReg o.rd (if s.psrc r o.rc then s.src r .i32 o.ra o.ea else s.src r .i32 o.rb o.eb)) h rfl
    · exact ends_aluWord (f := fun s r => effPair o.rd (if s.psrc r o.rc then s.src64 r o.ra else s.src64 r o.rb)) h rfl
    · exact ends_aluWord (f := fun s r => effReg o.rd ((s.lane r).p.extractLsb' (32 * o.rc.toNat) 32)) h rfl
    · exact ends_alu1 (o := { o with rd := 0 })
        (f := fun a => { preds := (List.range 32).map fun k => (32 * o.rc.toNat + k, a.getLsbD k) }) h rfl

end Sys2Proof.Machine

/-! Shifts, bit fields, bit counts and packed integers (R121, R122): each result is the bit-vector operation the rule names. -/

namespace Sys2Proof.Machine

/-! ### Fields of a register (R121) -/

theorem shlRes_eq (a b : Word) : shlRes a b = a <<< (b.extractLsb' 0 8).toNat := by
  rw [← mod_two_pow_eq_extract b 8]
  rfl

theorem shrRes_eq (sgn : Bool) (a b : Word) : shrRes sgn a b =
    if sgn then a.sshiftRight (b.extractLsb' 0 8).toNat else a >>> (b.extractLsb' 0 8).toNat := by
  rw [← mod_two_pow_eq_extract b 8]
  rfl

theorem div_mod_two_pow_eq_extract (v : Word) (k w : Nat) : v.toNat / 2 ^ k % 2 ^ w = (v.extractLsb' k w).toNat := by
  simp [Nat.shiftRight_eq_div_pow]

/-- Bits of a field's mask, inside the register. -/
theorem getLsbD_fieldMask (off w : Nat) {k : Nat} (h : k < 32) :
    (BitVec.ofNat 32 ((2 ^ fieldWidth off w - 1) * 2 ^ off)).getLsbD k = decide (off ≤ k ∧ k < off + w) := by
  rw [BitVec.getLsbD_ofNat, ← Nat.shiftLeft_eq, Nat.testBit_shiftLeft, Nat.testBit_two_pow_sub_one, Bool.eq_iff_iff]
  simp [fieldWidth]
  omega

theorem bmskRes_eq (a b : Word) : bmskRes a b = BitVec.ofFnLE fun k : Fin 32 =>
    decide ((a.extractLsb' 0 5).toNat ≤ k ∧ k < (a.extractLsb' 0 5).toNat + (b.extractLsb' 0 8).toNat) := by
  refine BitVec.eq_of_getLsbD_eq fun k hk => ?_
  rw [← mod_two_pow_eq_extract, ← mod_two_pow_eq_extract, BitVec.getLsbD_ofFnLE, dif_pos hk]
  exact getLsbD_fieldMask _ _ hk

theorem bfiRes_eq (a b c : Word) : bfiRes a b c = BitVec.ofFnLE fun k : Fin 32 =>
    let off := (c.extractLsb' 0 5).toNat
    if off ≤ k ∧ k < off + (c.extractLsb' 8 6).toNat then b.getLsbD (k - off) else a.getLsbD k := by
  refine BitVec.eq_of_getLsbD_eq fun k hk => ?_
  rw [← mod_two_pow_eq_extract, ← div_mod_two_pow_eq_extract, BitVec.getLsbD_ofFnLE, dif_pos hk]
  have mask := getLsbD_fieldMask (c.toNat % 2 ^ 5) (c.toNat / 2 ^ 8 % 2 ^ 6) hk
  have bits : (bfiRes a b c).getLsbD k =
      ((a.getLsbD k && !decide (c.toNat % 2 ^ 5 ≤ k ∧ k < c.toNat % 2 ^ 5 + c.toNat / 2 ^ 8 % 2 ^ 6)) ||
        ((b <<< (c.toNat % 2 ^ 5)).getLsbD k && decide (c.toNat % 2 ^ 5 ≤ k ∧ k < c.toNat % 2 ^ 5 + c.toNat / 2 ^ 8 % 2 ^ 6))) := by
    rw [← mask]
    simp [bfiRes, hk]
  rw [bits]
  generalize c.toNat % 2 ^ 5 = off, c.toNat / 2 ^ 8 % 2 ^ 6 = w
  by_cases inside : off ≤ k ∧ k < off + w
  · simp [inside, hk, Nat.not_lt.2 inside.1, BitVec.getLsbD_eq_getElem (show k - off < 32 by omega)]
  · simp [inside]

theorem sextOf_toNat {w : Nat} (v : BitVec w) : sextOf v.toNat w = v.toInt := by
  have below : v.toNat % 2 ^ w = v.toNat := Nat.mod_eq_of_lt v.isLt
  have half : 2 * 2 ^ (w - 1) = 2 ^ w ∨ w = 0 := by
    cases w with
    | zero => exact .inr rfl
    | succ w => exact .inl (Nat.pow_succ' ..).symm
  rw [sextOf, below, BitVec.toInt]
  rcases half with half | rfl
  · split <;> split <;> omega
  · simp [BitVec.eq_nil v]

/-- A field read as signed is itself, less its range where its top bit is set. -/
theorem ofInt_sextOf_bitsOf (a : Word) (off : Nat) {w : Nat} (wide : 0 < w) : w32 (sextOf (bitsOf a.toNat off w) w) =
    if a.getLsbD (off + w - 1) then BitVec.ofInt 32 (((a.toNat / 2 ^ off % 2 ^ w : Nat) : Int) - 2 ^ w)
    else BitVec.ofNat 32 (a.toNat / 2 ^ off % 2 ^ w) := by
  have top : (a.extractLsb' off w).msb = a.getLsbD (off + w - 1) := by
    rw [BitVec.msb_eq_getLsbD_last, BitVec.getLsbD_extractLsb', ← Nat.add_sub_assoc wide]
    simp [wide]
  rw [bitsOf, div_mod_two_pow_eq_extract, sextOf_toNat, BitVec.toInt_eq_msb_cond, top, w32]
  split
  · push_cast
    rfl
  · exact BitVec.ofInt_natCast _ _

theorem bfeRes_eq (sgn : Bool) (a b : Word) : bfeRes sgn a b =
    let off := (b.extractLsb' 0 5).toNat
    let w := (b.extractLsb' 8 6).toNat
    let inside := min w (32 - off)
    let field := a.toNat / 2 ^ off % 2 ^ inside
    if w = 0 then 0
    else if sgn && a.getLsbD (off + inside - 1) then BitVec.ofInt 32 ((field : Int) - 2 ^ inside)
    else BitVec.ofNat 32 field := by
  have place : (b.extractLsb' 0 5).toNat = b.toNat % 32 := (mod_two_pow_eq_extract b 5).symm
  have size : (b.extractLsb' 8 6).toNat = b.toNat / 256 % 64 := (div_mod_two_pow_eq_extract b 8 6).symm
  have empty_iff : fieldWidth (b.toNat % 32) (b.toNat / 256 % 64) = 0 ↔ b.toNat / 256 % 64 = 0 := by
    rw [fieldWidth]
    omega
  rw [place, size]
  by_cases empty : b.toNat / 256 % 64 = 0
  · exact (if_pos (empty_iff.2 empty)).trans (if_pos empty).symm
  · unfold bfeRes
    dsimp only
    rw [if_neg empty, if_neg (mt empty_iff.1 empty)]
    cases sgn with
    | false => rfl
    | true => exact ofInt_sextOf_bitsOf a _ (Nat.pos_of_ne_zero (mt empty_iff.1 empty))

/-! ### Bit counts (R121) -/

/-- The last number below `n` that a test chooses. -/
theorem getLast?_filter_range {p : Nat → Bool} {n k : Nat} (below : k < n) (chosen : p k) (last : ∀ j, k < j → p j = false) :
    ((List.range n).filter p).getLast? = some k := by
  induction n with
  | zero => omega
  | succ n ih =>
    rw [List.range_succ, List.filter_append, List.getLast?_append]
    obtain rfl | inner := Nat.lt_succ_iff_lt_or_eq.1 below |>.symm
    · simp [chosen]
    · simp [last n inner, ih inner]

theorem leadZeros_eq (a : Word) : leadZeros a = a.clz.toNat := by
  by_cases zero : a = 0
  · subst zero
    decide
  · have below : a.clz.toNat < 32 := BitVec.clz_lt_iff_ne_zero.2 zero
    have top : (maskLanes a).getLast? = some (31 - a.clz.toNat) :=
      getLast?_filter_range (by omega) (BitVec.getLsbD_true_clz_of_ne_zero (by decide) zero) fun j above => by
        have := BitVec.getLsbD_false_of_clzAuxRec (x := a) (n := 31) (fun i hi => BitVec.getLsbD_of_ge _ _ hi)
          (j - (32 - a.clz.toNat))
        rwa [← BitVec.clz, Nat.add_sub_cancel' (by omega)] at this
    simp only [leadZeros, top]
    omega

theorem clzRes_eq (sgn : Bool) (a : Word) : BitVec.ofNat 32 (clzRes sgn a) =
    if sgn then (if a.getLsbD 31 then ~~~a else a).clz - 1 else a.clz := by
  cases sgn with
  | false => simp [clzRes, leadZeros_eq]
  | true =>
    simp only [clzRes, leadZeros_eq, if_true]
    generalize y : (if a.getLsbD 31 then ~~~a else a) = v
    have top : v.msb = false := by
      rw [← y, BitVec.msb_eq_getLsbD_last]
      cases sign : a.getLsbD 31 <;> simpa using sign
    have one : v.clz.toNat ≠ 0 := fun zero => by
      have := (BitVec.clz_eq_zero_iff (by decide)).1 zero
      rw [BitVec.msb_eq_decide, decide_eq_false_iff_not] at top
      exact top this
    apply BitVec.eq_of_toNat_eq
    rw [BitVec.toNat_sub_of_le (BitVec.le_def.2 (by simp; omega))]
    simp
    omega

theorem brevRes_eq (a : Word) : brevRes a = a.reverse := by
  refine BitVec.eq_of_getLsbD_eq fun k hk => ?_
  rw [brevRes, getLsbD_maskOf_filter hk, BitVec.getLsbD_reverse, BitVec.getMsbD_eq_getLsbD]
  simp [hk]

theorem toNat_append_eq {m n : Nat} (x : BitVec m) (y : BitVec n) : (x ++ y).toNat = x.toNat * 2 ^ n + y.toNat := by
  rw [BitVec.toNat_append, ← Nat.shiftLeft_add_eq_or_of_lt y.isLt, Nat.shiftLeft_eq]

theorem shf_eq (a b c : Word) : ((b ++ a) >>> (c.toNat % 64)).setWidth 32 =
    BitVec.ofNat 32 ((b.toNat * 2 ^ 32 + a.toNat) / 2 ^ (c.toNat % 64)) := by
  apply BitVec.eq_of_toNat_eq
  rw [BitVec.toNat_setWidth, BitVec.toNat_ushiftRight, toNat_append_eq, Nat.shiftRight_eq_div_pow, BitVec.toNat_ofNat]

/-! ### Packed integers (R122) -/

/-- One element of PADD8 or PADD16. -/
def packedSum (w : Nat) (sub sat usat : Bool) (a b : BitVec w) : BitVec w :=
  if !sat then (if sub then a - b else a + b)
  else if usat then BitVec.ofInt w (max 0 (min (2 ^ w - 1) (if sub then (a.toNat : Int) - b.toNat else a.toNat + b.toNat)))
  else satTo w (if sub then a.toInt - b.toInt else a.toInt + b.toInt)

theorem ofInt_satU (w : Nat) (x : Int) : BitVec.ofInt w (satU w x) = BitVec.ofInt w (max 0 (min (2 ^ w - 1) x)) := by
  have range : (0 : Int) ≤ (2 ^ w : Nat) - 1 := by
    have := Nat.two_pow_pos w
    omega
  rw [satU, clampInt_eq_max_min range]
  push_cast
  rfl

theorem paddElem_eq {w : Nat} (sub sat usat : Bool) (a b : BitVec w) :
    paddElem w sub sat usat a.toNat b.toNat = (packedSum w sub sat usat a b).toNat := by
  have pattern : ∀ x : Int, (x % (2 ^ w : Nat)).toNat = (BitVec.ofInt w x).toNat := fun x => (BitVec.toNat_ofInt ..).symm
  simp only [paddElem, pattern, sextOf_toNat]
  congr 1
  cases sat with
  | false =>
    have asInt : ∀ v : BitVec w, BitVec.ofInt w (v.toNat : Int) = v := fun v => by
      rw [BitVec.ofInt_natCast, BitVec.ofNat_toNat, BitVec.setWidth_eq]
    cases sub with
    | true => simp [packedSum, Int.sub_eq_add_neg, BitVec.ofInt_add, BitVec.ofInt_neg, asInt, BitVec.sub_eq_add_neg]
    | false => simp [packedSum, BitVec.ofInt_add, asInt]
  | true =>
    cases usat with
    | false => simp [packedSum, ofInt_satS]
    | true => simp [packedSum, ofInt_satU]

theorem packElems_bytes (a b c d : BitVec 8) : BitVec.ofNat 32 (packElems 8 [a.toNat, b.toNat, c.toNat, d.toNat]) = d ++ c ++ b ++ a := by
  apply BitVec.eq_of_toNat_eq
  simp only [packElems, BitVec.toNat_ofNat, toNat_append_eq]
  omega

theorem packElems_halves (a b : BitVec 16) : BitVec.ofNat 32 (packElems 16 [a.toNat, b.toNat]) = b ++ a := by
  apply BitVec.eq_of_toNat_eq
  simp only [packElems, BitVec.toNat_ofNat, toNat_append_eq]
  omega

theorem paddRes_bytes (sub sat usat : Bool) (a b : Word) : paddRes 8 sub sat usat a b =
    let f := packedSum 8 sub sat usat
    f (a.extractLsb' 24 8) (b.extractLsb' 24 8) ++ f (a.extractLsb' 16 8) (b.extractLsb' 16 8) ++
      f (a.extractLsb' 8 8) (b.extractLsb' 8 8) ++ f (a.extractLsb' 0 8) (b.extractLsb' 0 8) := by
  simp only [paddRes, elem_eq_extract, paddElem_eq]
  exact packElems_bytes ..

theorem paddRes_halves (sub sat usat : Bool) (a b : Word) : paddRes 16 sub sat usat a b =
    let f := packedSum 16 sub sat usat
    f (a.extractLsb' 16 16) (b.extractLsb' 16 16) ++ f (a.extractLsb' 0 16) (b.extractLsb' 0 16) := by
  simp only [paddRes, elem_eq_extract, paddElem_eq]
  exact packElems_halves ..

theorem ofInt_foldl_sum (e f : Nat → Int) (ks : List Nat) (c : Int) :
    BitVec.ofInt 32 (ks.foldl (fun acc k => acc + e k * f k) c) =
      ks.foldl (fun acc k => acc + BitVec.ofInt 32 (e k) * BitVec.ofInt 32 (f k)) (BitVec.ofInt 32 c) := by
  induction ks generalizing c with
  | nil => rfl
  | cons k ks ih => rw [List.foldl_cons, ih, List.foldl_cons, BitVec.ofInt_add, BitVec.ofInt_mul]

theorem pdotRes_eq (w : Nat) (uns : Bool) (a b c : Word) : pdotRes w uns a b c =
    let e := fun (v : Word) (k : Nat) =>
      if uns then (v.extractLsb' (w * k) w).setWidth 32 else (v.extractLsb' (w * k) w).signExtend 32
    (List.range (32 / w)).foldl (fun acc k => acc + e a k * e b k) c := by
  have part : ∀ (v : Word) k, BitVec.ofInt 32 (if uns then (elem w v k : Int) else sextOf (elem w v k) w) =
      if uns then (v.extractLsb' (w * k) w).setWidth 32 else (v.extractLsb' (w * k) w).signExtend 32 := fun v k => by
    rw [elem_eq_extract, sextOf_toNat]
    cases uns with
    | true => exact (BitVec.ofInt_natCast _ _).trans (BitVec.ofNat_toNat _ _)
    | false => rfl
  simp only [pdotRes, w32, ofInt_foldl_sum, part, BitVec.ofInt_natCast, BitVec.ofNat_toNat, BitVec.setWidth_eq]

/-- Settles O3: each word is a form of class ALU around a result that the lemmas above write out. -/
theorem bitWords : Obligations.BitWords := by
  refine ⟨fun s h o i => ?bits, fun s h o i => ?packed⟩
  case bits =>
    extract_lets right width field extract
    have rights : ∀ sgn, right sgn = shrRes sgn := fun sgn => funext fun a => funext fun b => (shrRes_eq sgn a b).symm
    have extracts : ∀ sgn, extract sgn = bfeRes sgn := fun sgn => funext fun a => funext fun b => (bfeRes_eq sgn a b).symm
    simp only [rights, extracts, ← shlRes_eq, ← bfiRes_eq, ← clzRes_eq, ← brevRes_eq, ← shf_eq, ← bmskRes_eq,
      List.countP_eq_length_filter]
    simp only [← mod_two_pow_eq_extract]
    exact ⟨ends_alu2 h rfl, ends_aluI h rfl, ends_alu2 h rfl, ends_aluI h rfl, ends_alu2 h rfl, ends_aluI h rfl, ends_alu2 h rfl,
      ends_aluI h rfl, ends_alu3 h rfl, ends_alu1 h rfl, ends_alu1 h rfl, ends_alu1 h rfl, ends_alu3 h rfl, ends_alu2 h rfl,
      ends_aluI h rfl⟩
  case packed =>
    extract_lets sum bytes halves dot
    have eBytes : ∀ sub sat usat, bytes (sum 8 sub sat usat) = paddRes 8 sub sat usat := fun sub sat usat =>
      funext fun a => funext fun b => (paddRes_bytes sub sat usat a b).symm
    have eHalves : ∀ sub sat usat, halves (sum 16 sub sat usat) = paddRes 16 sub sat usat := fun sub sat usat =>
      funext fun a => funext fun b => (paddRes_halves sub sat usat a b).symm
    have eDot : ∀ w uns, dot w uns = pdotRes w uns := fun w uns =>
      funext fun a => funext fun b => funext fun c => (pdotRes_eq w uns a b c).symm
    simp only [eBytes, eHalves, eDot]
    exact ⟨ends_alu2 h rfl, ends_aluI h rfl, ends_alu2 h rfl, ends_aluI h rfl, ends_alu3 h rfl, ends_alu3 h rfl⟩

end Sys2Proof.Machine

/-! PREF and WBACK: the lines that their lanes name (R138). -/

namespace Sys2Proof.Machine

theorem address_of_teams {s t : State} (h : t.teams = s.teams) (r : Ref) (o : FM) : t.address r o = s.address r o := by
  simp only [State.address, State.src64, State.rawPair, State.rawReg, State.lane, State.wave, State.team, h]

/-- Two steps that agree where an invariant holds, which they keep, agree along a list. -/
theorem foldl_congr_inv {α β : Type} {f g : β → α → β} {P : β → Prop} (step : ∀ u a, P u → f u a = g u a ∧ P (f u a))
    (l : List α)
    {u : β} (h : P u) : l.foldl f u = l.foldl g u := by
  induction l generalizing u with
  | nil => rfl
  | cons a l ih =>
    rw [List.foldl_cons, List.foldl_cons, ih (step u a h).2, (step u a h).1]

/-! ### PREF -/

/-- A lane's line is brought in from where `via` names, at the address `a`. -/
def State.prefetch (s : State) (r : Ref) (a : DWord) (via : Via) : State :=
  match s.resolve r.team a 1 needR true with
  | .ok (.phys pa) =>
    ((s.noteAccess r.team a 1 needR).physRead (s.team r.team).die (s.team r.team).core (pa / 128 * 128) 128 via).1
  | _ => s

theorem dieRead_prefetch (s : State) (r : Ref) (a : DWord) (via : Via) : DieRead s (s.prefetch r a via) := by
  unfold State.prefetch
  split
  · exact (dieRead_noteAccess ..).trans (dieRead_physRead ..)
  · exact .refl s

/-- The lines of a PREF's lanes, at the addresses that their registers name at issue. -/
def State.prefetched (s : State) (o : FM) : State :=
  s.ownLanes.foldl (fun u r => u.prefetch r (s.address r o) (viaOf o.cc)) s

theorem dieRead_prefetched (s : State) (o : FM) : DieRead s (s.prefetched o) :=
  .foldl (fun _ _ => dieRead_prefetch ..) _ s

/-- No line that a lane brings in moves an address that a later lane names. -/
theorem prefetched_eq (s : State) (o : FM) :
    s.prefetched o = s.ownLanes.foldl (fun u r => u.prefetch r (u.address r o) (viaOf o.cc)) s :=
  foldl_congr_inv (P := fun u => u.teams = s.teams)
    (fun u r same => ⟨by rw [address_of_teams same], (dieRead_prefetch ..).teams_eq.trans same⟩) _ rfl

theorem execPref_eq {s : State} (ready : s.Ready) (o : FM) :
    exec (.pref o) s = .next ((s.prefetched o).finish s.active []) := by
  change execPref o s = _
  rw [execPref, whenIssued_ready ready, prefetched_eq]
  rfl

theorem ready_prefetched {s : State} (ready : s.Ready) (o : FM) : (s.prefetched o).Ready :=
  ready.of_calm (dieRead_prefetched s o).calm_eq

/-! ### WBACK -/

@[simp] theorem calm_drainOwn (s : State) (r : Ref) (t : Target) (n : Nat) : (s.drainOwn r t n).calm = s.calm :=
  calm_drainWhere ..

@[simp] theorem calm_wroteBack (s : State) (p : Memory × List Nat) : (s.wroteBack p).calm = s.calm :=
  calm_foldl (fun (s : State) sec => s.noteWord (sec / 2) true) (fun s _ => (dieRead_noteWord s _ true).calm_eq) p.2
    { s with mem := p.1 }

@[simp] theorem calm_wbackLine (s : State) (r : Ref) (t : Target) (scope : Nat) : (s.wbackLine r t scope).calm = s.calm := by
  unfold State.wbackLine
  split
  · dsimp only
    split <;> simp
  · rfl

/-- Where WBACK finds a lane's line: its page's rights are not asked for. -/
def State.WbackAt (s : State) (r : Ref) (a : DWord) (t : Target) : Prop :=
  inWindow a = false ∧ (s.resolve r.team a 1 needR false = .ok t ∨
    ∃ walk ppn rights, s.resolve r.team a 1 needR false = .bad .perm walk ∧
      s.page r.team a.toNat false = some (.leaf ppn rights) ∧
      t = s.physTarget (s.gridOf r.team).priv (ppn * 65536 + a.toNat % 65536))

theorem wbackCheck_of_at {s : State} {r : Ref} {a : DWord} {t : Target} (at_ : s.WbackAt r a t) :
    s.wbackCheck r.team a = .ok t := by
  obtain ⟨outside, found⟩ := at_
  have window : ¬ (winCluster ≤ a.toNat ∧ a.toNat < winEnd) := by
    simpa [inWindow] using outside
  rw [State.wbackCheck, if_neg window]
  obtain ok | ⟨walk, ppn, rights, perm, page, rfl⟩ := found
  · rw [ok]
  · simp only [perm, page]

/-- The state in which a WBACK of the places `f` has left its operations. -/
def State.wbackPosted (s : State) (o : FM) (f : Ref → Target) : State :=
  (s.ownLanes.foldl (fun u r => u.wbackLine r (f r) o.scope.toNat) s).postOps (wavesOf s.active) .st false [] [] fun _ => .store []

theorem ready_wbackPosted {s : State} (ready : s.Ready) (o : FM) (f : Ref → Target) : (s.wbackPosted o f).Ready :=
  ready.of_calm ((calm_postOps ..).trans (calm_foldl _ (fun _ _ => calm_wbackLine ..) _ s))

theorem execWback_eq {s : State} {o : FM} {f : Ref → Target} (ready : s.Ready) (room : s.counterFull .st = false)
    (places : ∀ r ∈ s.ownLanes, s.WbackAt r (s.address r o) (f r))
    (free : ∀ r ∈ s.ownLanes, ∀ pa, f r = .phys pa → s.tileClash r (.phys (pa / 128 * 128)) 128 false = false) :
    exec (.wback o) s = .next ((s.wbackPosted o f).finish s.active []) := by
  have checked : ((s.active.filter fun r => !(s.lane r).isHelper).map fun r => (r, s.wbackCheck r.team (s.address r o))) =
      s.ownLanes.map fun r => (r, Res.ok (f r)) :=
    List.map_congr_left fun r own => by rw [wbackCheck_of_at (places r own)]
  change execWback o s = _
  rw [execWback, whenIssued_ready ready]
  simp only [room, checked, List.filterMap_map, Function.comp_def, List.filterMap_none, List.isEmpty_nil, Bool.not_true,
    Bool.false_eq_true, if_false, faultLanes_nil, List.foldl_map]
  split
  case isTrue clash =>
    obtain ⟨p, hp, clash⟩ := List.any_eq_true.1 clash
    obtain ⟨r, own, rfl⟩ := List.mem_map.1 hp
    cases place : f r with
    | phys pa => simp [place, free r own pa place] at clash
    | _ => simp [place] at clash
  case isFalse => rfl

theorem viaOf_eq (cc : BitVec 2) : viaOf cc = if cc = 2 then Via.bypass else if cc = 1 then Via.strm else Via.l1 := by
  simp [viaOf]

/-- Settles O35: what PREF brings in is a read by a die, which leaves lanes, operations, firmware and TLBs; WBACK's lines are those of
its own lanes. -/
theorem lineWords : Obligations.LineWords := by
  intro s o ready own va via fetched
  have same : fetched = s.prefetched o := by
    unfold fetched State.prefetched
    simp only [viaOf_eq]
    rfl
  rw [same]
  have read := dieRead_prefetched s o
  exact ⟨ends_of_finish (ready_prefetched ready o) ⟨_, _, execPref_eq ready o⟩, read.teams_eq, read.ops_eq, read.fw, read.tlbs_eq,
    fun f room places free => ends_of_finish (ready_wbackPosted ready o f) ⟨_, _, execWback_eq ready room places free⟩⟩

end Sys2Proof.Machine

/-! Words of the memory lines and the Shuttle: where they complete (R138, R240, R311, R323, R324). -/

namespace Sys2Proof.Machine

/-! ### The end of a word keeps memory and the outstanding operations -/

theorem mem_of_still {s t : State} (h : t.still = s.still) : t.mem = s.mem := (congrArg State.mem h :)

theorem ops_of_still {s t : State} (h : t.still = s.still) : t.ops = s.ops := (congrArg State.ops h :)

theorem mem_of_bare {s t : State} (h : t.bare = s.bare) : t.mem = s.mem := (congrArg State.mem h :)

theorem ops_of_bare {s t : State} (h : t.bare = s.bare) : t.ops = s.ops := (congrArg State.ops h :)

/-! ### Nothing to release (R253) -/

theorem drainOp_noStores {s : State} (empty : s.NoStores) (id : Nat) : s.drainOp id = s := by
  unfold State.drainOp
  split
  · rfl
  · next op found =>
    split
    · next body => exact absurd body ((empty op (List.mem_of_find?_eq_some found)).1 _)
    · rfl

theorem drainWhere_noStores {s : State} (empty : s.NoStores) (p : Op → Bool) : s.drainWhere p = s :=
  List.foldlRecOn (motive := fun u => u = s) _ (fun (u : State) (o : Op) => u.drainOp o.id) rfl
    fun u same o _ => by rw [same, drainOp_noStores empty]

theorem release_noStores {s : State} (empty : s.NoStores) (tid wave scope : Nat) : s.release tid wave scope = s := by
  unfold State.release
  dsimp only
  split <;> exact drainWhere_noStores empty _

/-- Without REMOTEPERM pending for its wave, an entry takes nothing at a release. -/
theorem deliverRperm_none {s : State} {m : Member} (members : s.bundle.members = [m]) (clear : (s.wave m.team m.wave).rperm = none) :
    s.deliverRperm = s := by
  have nothing : s.deliverable m [] (s.contribOf m) (fun _ => false) false true = [] := by
    unfold State.deliverable
    cases ((s.contribOf m).filter fun r => !(s.lane r).isHelper).head? <;> simp [clear]
  unfold State.deliverRperm
  rw [members, deliverEach_none _ fun x hx => by rw [List.mem_singleton.1 hx, nothing]]
  rfl

/-! ### PRSET and PRCLR (R323) -/

/-- What PRSET and PRCLR leave behind: one operation, with the lines that the entry's lane names. -/
theorem presenceWord_posts {s : State} {o : FA} {m : Member} {r : Ref} {p : Nat × Nat × Nat} (ready : s.Ready) (alone : s.Alone m r)
    (room : s.cpWaits = false) (empty : s.NoStores) (clear : (s.wave m.team m.wave).rperm = none)
    (lines : s.presenceLines o r = .ok (some p)) (set : Bool) :
    ∃ t op, presenceWord s o set = .next t ∧ t.ops = s.ops ++ [op] ∧ op.body = .shuttle [(p.1, p.2.1, p.2.2, set)] [] ∧
      op.team = r.team ∧ op.wave = r.wave ∧ op.ctr = .cp ∧ t.mem = s.mem := by
  obtain ⟨team, wave, -⟩ := ref_of_activeOf (lead_active alone)
  have performs : s.bundle.members.filterMap s.performer = [r] := by simp [alone.members, performer_alone alone]
  have released : (if set then ([r].foldl (fun s r => s.release r.team r.wave (if (s.src64 r o.ra).toNat < winTeam then 3 else 2))
      s).deliverRperm else s) = s := by
    rw [List.foldl_cons, List.foldl_nil, release_noStores empty, deliverRperm_none alone.members clear, ite_self]
  have latched := bare_latchRead s r o.rb.toNat
  let u := (s.latchRead r o.rb.toNat).addOp m.team m.wave .cp false [] [] [] (.shuttle [(p.1, p.2.1, p.2.2, set)] [])
  have word : presenceWord s o set = .next (u.finish s.active []) := by
    rw [presenceWord, whenIssued_ready ready]
    simp only [room, tileStores_noStores empty, performs, released, wavesOf_alone alone, Bool.and_false, Bool.or_false,
      Bool.false_eq_true, if_false]
    simp [lines, State.postOps, State.postOpsP, u, team, wave]
  have kept := still_finish ((ready.of_bare latched).of_calm (calm_addOp ..) : u.Ready).toQuiet s.active []
  exact ⟨_, _, word, (ops_of_still kept).trans (by rw [addOp_ops, ops_of_bare latched]), rfl, team.symm, wave.symm, rfl,
    (mem_of_still kept).trans (mem_of_bare (s := s) (t := s.latchRead r o.rb.toNat) latched)⟩

/-! ### PRTEST (R324) -/

theorem execPrtest_eq {s : State} {o : FA} {at_ : Ref → Nat × Nat} (ready : s.Ready)
    (inside : ∀ r ∈ s.active, s.window r.team (s.src64 r o.ra) 1 = some (some (at_ r))) :
    exec (.prtest o) s = .next ((s.applyAll (s.active.map fun r =>
      (r, { preds := [(o.rd.toNat, decide ((at_ r).2 / 128 ∉ (s.team (at_ r).1).absentLines))] }))).finish s.active []) := by
  have look : (s.active.map fun r => (r, s.window r.team (s.src64 r o.ra) 1)) = s.active.map fun r => (r, some (some (at_ r))) :=
    List.map_congr_left fun r active => by rw [inside r active]
  change execPrtest o s = _
  rw [execPrtest, whenIssued_ready ready]
  simp only [look]
  simp [List.filterMap_map]

/-! ### WAITC (R311) -/

/-- Without a record for it, a wait for a counter gives an entry nothing. -/
theorem deliverable_none {s : State} {m : Member} {lanes act : List Ref} (allow : (s.wave m.team m.wave).allow = none)
    (rperm : (s.wave m.team m.wave).rperm = none) (clean : ∀ r ∈ lanes, (s.lane r).ecc = none) (ecc : EccRec → Bool) (a p : Bool) :
    s.deliverable m lanes act ecc a p = [] := by
  unfold State.deliverable
  rw [filterMap_const_none]
  · cases (act.filter fun r => !(s.lane r).isHelper).head? <;> simp [allow, rperm]
  · intro r hr
    simp only [clean r hr]

theorem lintCpWait_none {s : State} {t : Nat} (empty : (s.team t).acqKeys = []) (w : Nat) : s.lintCpWait t w = s := by
  unfold State.lintCpWait
  have same : ∀ x : Team, { x with acqKeys := x.acqKeys.filter fun k => !([] : List (Nat × Nat × Nat)).contains k } = x := fun x => by
    simp
  simp only [empty, List.filter_nil, List.foldl_nil, same]
  exact congrArg (fun ts => { s with teams := ts }) (List.modify_id ..)

theorem execWaitc_eq {s : State} {o : FA} {m : Member} (ready : s.Ready) (members : s.bundle.members = [m]) (issues : s.active ≠ [])
    (allow : (s.wave m.team m.wave).allow = none) (rperm : (s.wave m.team m.wave).rperm = none)
    (clean : ∀ r ∈ memberRefs m, (s.lane r).ecc = none) (keys : (s.team m.team).acqKeys = [])
    (met : (s.wave m.team m.wave).ctrs.getD (bitsOf o.sub.toNat 6 3) 0 ≤ bitsOf o.sub.toNat 0 6) :
    exec (.waitc o) s = .next (s.finish s.active []) := by
  have active : s.activeOf m ≠ [] := by simpa [State.active, members] using issues
  have nothing := fun ecc a p => deliverable_none (act := s.activeOf m) (lanes := (memberRefs m).filter fun r => !(s.lane r).ended)
    allow rperm (fun r hr => clean r (List.mem_of_mem_filter hr)) ecc a p
  have waits : ∀ ws : List (Nat × Nat), (∀ w ∈ ws, w.1 = m.team) → ws.foldl (fun s w => s.lintCpWait w.1 w.2) s = s := by
    intro ws
    induction ws with
    | nil => exact fun _ => rfl
    | cons w ws ih =>
      intro mine
      rw [List.foldl_cons, mine w List.mem_cons_self, lintCpWait_none keys]
      exact ih fun x hx => mine x (List.mem_cons_of_mem w hx)
  change execWaitc o s = _
  rw [execWaitc, whenIssued_ready ready]
  have live : s.bundle.members.filter (fun m => !(s.activeOf m).isEmpty) = [m] := by simp [members, active]
  have goes : [m].filter (fun m => decide ((s.wave m.team m.wave).ctrs.getD (bitsOf o.sub.toNat 6 3) 0 ≤ bitsOf o.sub.toNat 0 6)) =
      [m] := List.filter_cons_of_pos (decide_eq_true met)
  have stuck : [m].filter (fun m => !decide ((s.wave m.team m.wave).ctrs.getD (bitsOf o.sub.toNat 6 3) 0 ≤ bitsOf o.sub.toNat 0 6)) =
      [] := List.filter_cons_of_neg (by rw [decide_eq_true met]; exact Bool.false_ne_true)
  have delivered : s.deliverEach [m] (fun s m => s.deliverable m ((memberRefs m).filter fun r => !(s.lane r).ended) (s.activeOf m)
      (fun e => (s.wave m.team m.wave).orders (bitsOf o.sub.toNat 6 3) (bitsOf o.sub.toNat 0 6) e) (bitsOf o.sub.toNat 6 3 == 3)
      (bitsOf o.sub.toNat 6 3 == 1)) = (s, []) :=
    deliverEach_none _ fun x hx => by rw [List.mem_singleton.1 hx, nothing]
  simp only [live, goes, stuck, delivered, List.flatMap_nil]
  have mine : ∀ w ∈ wavesOf (memberRefs m), w.1 = m.team := by
    simp [wavesOf, memberRefs]
  rw [waits _ (by simpa using mine), ite_self, parkLanes_nil, faultLanes_nil]

/-! ### The performing of a presence operation (R323) -/

/-- Every team's lines that are absent. -/
def State.absent (s : State) : List (List Nat) := s.teams.map Team.absentLines

theorem absentLines_team (s : State) (k : Nat) : (s.team k).absentLines = s.absent.getD k [] := by
  simp only [State.absent, State.team, List.getD_eq_getElem?_getD, List.getElem?_map]
  cases s.teams[k]? <;> rfl

theorem absent_foldl {α : Type} {f : State → α → State} (h : ∀ s a, (f s a).absent = s.absent) (l : List α) (s : State) :
    (l.foldl f s).absent = s.absent :=
  List.foldlRecOn (motive := fun u => u.absent = s.absent) l f rfl fun u same a _ => (h u a).trans same

theorem absent_foldr {α : Type} {f : α → State → State} (h : ∀ s a, (f a s).absent = s.absent) (l : List α) (s : State) :
    (l.foldr f s).absent = s.absent := by
  rw [List.foldr_eq_foldl_reverse]
  exact absent_foldl (f := fun s a => f a s) h _ s

theorem absent_modLane (s : State) (r : Ref) (f : Lane → Lane) : (s.modLane r f).absent = s.absent :=
  map_modTeam Team.absentLines s r.team _ fun _ => rfl

theorem absent_modWave (s : State) (t w : Nat) (f : Wave → Wave) : (s.modWave t w f).absent = s.absent :=
  map_modTeam Team.absentLines s t _ fun _ => rfl

theorem absent_modEntry (s : State) (t w k : Nat) (f : Entry → Entry) : (s.modEntry t w k f).absent = s.absent :=
  absent_modWave ..

theorem absent_goOn (s : State) (t w : Nat) (e : Entry) : (s.goOn t w e).absent = s.absent := by
  have freed : (s.unpark t w e).absent = s.absent := absent_modEntry ..
  unfold State.goOn
  split
  · rfl
  · split
    · split
      · exact freed
      · exact (absent_modEntry ..).trans freed
    · exact freed

theorem absent_goOnWhere (s : State) (t : Nat) (p : Why → Bool) : (s.goOnWhere t p).absent = s.absent :=
  absent_foldr (f := fun (x : Nat × Entry) s => s.goOn t x.1 x.2) (fun s x => absent_goOn s t x.1 x.2) _ s

theorem absent_setReg (s : State) (r : Ref) (k : Nat) (v : Word) : (s.setReg r k v).absent = s.absent := by
  unfold State.setReg
  split
  · exact absent_modLane ..
  · exact absent_modWave ..

theorem absent_writeResults (s : State) (op : Op) : (s.writeResults op).absent = s.absent := by
  unfold State.writeResults
  refine (absent_foldl (fun s x => absent_modLane ..) _ _).trans ((absent_foldl (fun s x => ?_) _ _).trans
    (absent_foldl (fun s x => ?_) _ _))
  · dsimp only
    split
    · rfl
    · exact absent_modLane ..
  · dsimp only
    split
    · rfl
    · exact absent_setReg ..

theorem absent_opDone (s : State) (id : Nat) : (s.opDone id).absent = s.absent :=
  absent_foldl (f := fun (s : State) (x : Nat × Nat × Ctr) => s.bump x.1 x.2.1 x.2.2 false) (fun _ _ => absent_modWave ..) _ _

theorem absentLines_setPresence {s : State} {tid : Nat} (here : tid < s.teams.length) (lines : List Nat) (on : Bool) :
    ((s.setPresence tid lines on).team tid).absentLines = changeLines (s.team tid).absentLines lines on := by
  have changed : ((s.modTeam tid fun t => { t with absentLines := changeLines t.absentLines lines on }).team tid).absentLines =
      changeLines (s.team tid).absentLines lines on := by
    simp [State.team, State.modTeam, here]
  unfold State.setPresence
  dsimp only
  split
  · exact changed
  · rw [absentLines_team, absent_foldr (fun s t => absent_goOnWhere ..), ← absentLines_team, changed]

theorem mem_changeLines {old lines : List Nat} {on : Bool} {line : Nat} (h : line < 4096) :
    line ∈ changeLines old lines on ↔ if line ∈ lines then on = false else line ∈ old := by
  cases on <;> by_cases named : line ∈ lines <;> simp [changeLines, named, h]

theorem teams_clusterAcquire (s : State) (tid : Nat) : (s.clusterAcquire tid).teams = s.teams := by
  have one : ∀ (u : State) t, (u.acquire t 3).teams = u.teams := fun _ _ => rfl
  unfold State.clusterAcquire
  split
  · rfl
  · exact List.foldlRecOn (motive := fun u => u.teams = s.teams) _ (fun (u : State) t => u.acquire t 3) rfl
      fun u same t _ => (one u t).trans same

theorem execShuttleOpPerform_lines {s : State} {op : Op} {tid first n : Nat} {set : Bool} (live : s.liveOp s.args.a = some op)
    (body : op.body = .shuttle [(tid, first, n, set)] []) (turn : s.resultWaits op = false) (here : tid < s.teams.length) :
    ∃ t, exec .shuttleOpPerform s = .next t ∧
      (t.team tid).absentLines = changeLines (s.team tid).absentLines ((List.range n).map (first + ·)) set := by
  let u := if set then s.clusterAcquire op.team else s
  have acquired : u.teams = s.teams := by
    unfold u
    split
    · exact teams_clusterAcquire s op.team
    · rfl
  refine ⟨(((u.setPresence tid ((List.range n).map (first + ·)) set).writeResults op).opDone op.id), ?_, ?_⟩
  · change execShuttleOpPerform s = _
    simp [execShuttleOpPerform, live, body, turn, u]
  · rw [absentLines_team, absent_opDone, absent_writeResults, ← absentLines_team,
      absentLines_setPresence (by rw [acquired]; exact here), State.team, acquired, ← State.team]

/-- Settles O59: each word's end keeps everything but where its lanes stand, so what it leaves is what it did before it; the lines
that a performed operation names stay as it left them while entries go on and results are written. -/
theorem shuttleWordsComplete : Obligations.ShuttleWordsComplete := by
  refine ⟨fun s o ready => ?pref, fun s o pa ready room places => ?wback,
    fun s o m r p ready alone room empty clear lines =>
      ⟨presenceWord_posts ready alone room empty clear lines true, presenceWord_posts ready alone room empty clear lines false⟩,
    fun s o at_ ready inside => ?prtest, fun s o m ready members issues allow rperm clean keys met =>
      ⟨_, execWaitc_eq ready members issues allow rperm clean keys met, still_finish ready.toQuiet _ _⟩,
    fun s op tid first n set live body turn here range => ?performs⟩
  case pref =>
    have kept := still_finish (ready_prefetched ready o).toQuiet s.active []
    have read := dieRead_prefetched s o
    refine ⟨_, execPref_eq ready o, ?_, (ops_of_still kept).trans read.ops_eq⟩
    rw [kept]
    exact congrArg (List.map Team.still) read.teams_eq
  case wback =>
    refine ⟨_, execWback_eq (f := fun r => .phys (pa r)) ready room (fun r own => ?_) (fun r own p same => ?_),
      still_finish (ready_wbackPosted ready o _).toQuiet _ _⟩
    · obtain ⟨outside, found, -⟩ := places r (List.mem_of_mem_filter own)
      exact ⟨outside, .inl found⟩
    · obtain ⟨-, -, free⟩ := places r (List.mem_of_mem_filter own)
      exact Target.phys.inj same ▸ free
  case prtest =>
    have lanes := bare_applyAll s (s.active.map fun r =>
      (r, { preds := [(o.rd.toNat, decide ((at_ r).2 / 128 ∉ (s.team (at_ r).1).absentLines))] }))
    have kept := still_finish (ready.of_bare lanes).toQuiet s.active []
    exact ⟨_, execPrtest_eq ready inside, (mem_of_still kept).trans (mem_of_bare lanes),
      (ops_of_still kept).trans (ops_of_bare lanes), kept⟩
  case performs =>
    obtain ⟨t, word, lines⟩ := execShuttleOpPerform_lines live body turn here
    refine ⟨t, word, fun line below => ?_⟩
    have named : line ∈ (List.range n).map (first + ·) ↔ first ≤ line ∧ line < first + n := by
      simp only [List.mem_map, List.mem_range]
      exact ⟨fun ⟨k, hk, e⟩ => by omega, fun h => ⟨line - first, by omega, by omega⟩⟩
    rw [lines, mem_changeLines below]
    simp only [named]

end Sys2Proof.Machine

/-! EXIT where no lane waits for the lanes that end (R131, R212, R213). -/

namespace Sys2Proof.Machine

/-! ### What a split table's upkeep leaves of a lane -/

/-- A lane but for its PC, its monitor and its BWAIT target, which moves among entries may change (R182, R292). -/
def Lane.gist (l : Lane) : Lane := { l with clause := 0, idx := 0, mon := none, target := none }

/-- A wave's shared registers and the gist of its lanes. -/
def Wave.gist (x : Wave) : List Word × List Lane := (x.w, x.lanes.map Lane.gist)

/-- The gist of every wave. -/
def State.gists (s : State) : List (List (List Word × List Lane)) := s.teams.map fun t => t.waves.map Wave.gist

theorem gist_wave_of_gists {s u : State} (same : u.gists = s.gists) (a b : Nat) : (u.wave a b).gist = (s.wave a b).gist := by
  have unfolded : ∀ s : State, (s.wave a b).gist = ((s.gists.getD a []).getD b Wave.blank.gist) := fun s => by
    simp only [State.gists, State.wave, State.team, List.getD_eq_getElem?_getD, List.getElem?_map]
    cases s.teams[a]? with
    | none => rfl
    | some t =>
      simp only [Option.map_some, Option.getD_some, List.getElem?_map]
      cases t.waves[b]? <;> rfl
  rw [unfolded u, same, ← unfolded s]

theorem gist_lane_of_gists {s u : State} (same : u.gists = s.gists) (r : Ref) : (u.lane r).gist = (s.lane r).gist := by
  have unfolded : ∀ s : State, (s.lane r).gist = (s.wave r.team r.wave).gist.2.getD r.lane Lane.blank.gist := fun s => by
    simp only [State.lane, Wave.gist, List.getD_eq_getElem?_getD, List.getElem?_map]
    cases (s.wave r.team r.wave).lanes[r.lane]? <;> rfl
  rw [unfolded u, gist_wave_of_gists same, ← unfolded s]

theorem gists_modWave (s : State) (t w : Nat) (f : Wave → Wave) (h : ∀ x, (f x).gist = x.gist) : (s.modWave t w f).gists = s.gists :=
  map_modTeam (fun t => t.waves.map Wave.gist) s t _ fun _ => map_modify_same _ _ h _ _

theorem gists_modLane (s : State) (r : Ref) (f : Lane → Lane) (h : ∀ l, (f l).gist = l.gist) : (s.modLane r f).gists = s.gists :=
  gists_modWave _ _ _ _ fun _ => Prod.ext rfl (map_modify_same _ _ h _ _)

@[simp] theorem gists_modEntry (s : State) (t w k : Nat) (f : Entry → Entry) : (s.modEntry t w k f).gists = s.gists :=
  gists_modWave _ _ _ _ fun _ => rfl

@[simp] theorem gists_addEntry (s : State) (t w : Nat) (e : Entry) : (s.modWave t w fun x => x.addEntry e).gists = s.gists :=
  gists_modWave _ _ _ _ fun _ => rfl

@[simp] theorem gists_dropEntry (s : State) (t w k : Nat) : (s.modWave t w fun x => x.dropEntry k).gists = s.gists :=
  gists_modWave _ _ _ _ fun _ => rfl

theorem gists_foldl {α : Type} {f : State → α → State} (h : ∀ s a, (f s a).gists = s.gists) (l : List α) (s : State) :
    (l.foldl f s).gists = s.gists :=
  List.foldlRecOn (motive := fun u => u.gists = s.gists) l f rfl fun u same a _ => (h u a).trans same

@[simp] theorem gists_setPcs (s : State) (t w : Nat) (m : BitVec 32) (c : DWord) (i : Nat) : (s.setPcs t w m c i).gists = s.gists :=
  gists_foldl (f := fun s k => s.modLane ⟨t, w, k⟩ fun l => { l with clause := c, idx := i })
    (fun _ _ => gists_modLane _ _ _ fun _ => rfl) _ s

@[simp] theorem gists_unwait (s : State) (t w : Nat) (m : BitVec 32) : (s.unwait t w m).gists = s.gists :=
  gists_foldl (f := fun s k => s.modLane ⟨t, w, k⟩ Lane.unwait) (fun _ _ => gists_modLane _ _ _ fun _ => rfl) _ s

@[simp] theorem gists_rotate (s : State) (t w k : Nat) (m : BitVec 32) : (s.rotate t w k m).gists = s.gists := by
  unfold State.rotate
  split
  · rfl
  · dsimp only
    split <;> simp

@[simp] theorem gists_settle (s : State) (t w k : Nat) (m : BitVec 32) : (s.settle t w k m).gists = s.gists := by
  unfold State.settle
  split
  case h_1 => rfl
  case h_2 e _ =>
    extract_lets wv same u d
    have joined : u.gists = s.gists := by
      unfold u
      split <;> simp
    have rest : ∀ (v : State) (left : BitVec 32), v.gists = s.gists → (match (v.wave t w).entry k with
        | none => v
        | some e =>
          if left != 0 && (e.mask == 0 || e.park != 0 || decide (64 ≤ e.runs)) then v.rotate t w k m
          else if e.mask == 0 && e.defer == 0 then v.modWave t w fun x => x.dropEntry k
          else v).gists = s.gists := by
      intro v left kept
      split
      · exact kept
      · split
        · simpa using kept
        · split
          · simpa using kept
          · exact kept
    split
    · rfl
    · split
      · split <;> simp
      · cases (maskLanes d).head? with
        | none => exact rest _ _ joined
        | some lead =>
          cases u.freeSlot t w with
          | none => exact rest _ _ joined
          | some free => exact rest _ _ (by simpa using joined)

/-! ### Lanes that end (R131, R174) -/

theorem lane_markEnded (s : State) (t w : Nat) (m : BitVec 32) (r : Ref) :
    (s.modWave t w (Wave.markEnded m)).lane r =
      if r.team = t ∧ r.wave = w ∧ m.getLsbD r.lane = true then (s.lane r).finished else s.lane r := by
  have marked : ∀ x : Wave, (x.markEnded m).lanes.getD r.lane Lane.blank =
      if m.getLsbD r.lane then (x.lanes.getD r.lane Lane.blank).finished else x.lanes.getD r.lane Lane.blank := by
    intro x
    simp only [Wave.markEnded, List.getD_eq_getElem?_getD, List.getElem?_map, List.getElem?_zipIdx]
    cases x.lanes[r.lane]? with
    | none => cases m.getLsbD r.lane <;> rfl
    | some l => cases bit : m.getLsbD r.lane <;> simp [bit]
  unfold State.lane
  rw [wave_modWave]
  by_cases here : (t = r.team ∧ t < s.teams.length) ∧ w = r.wave ∧ w < (s.team r.team).waves.length
  · obtain ⟨⟨rfl, -⟩, rfl, -⟩ := id here
    rw [if_pos here, marked]
    simp
  · have blank : r.team = t ∧ r.wave = w → (s.wave r.team r.wave).lanes.getD r.lane Lane.blank = Lane.blank := by
      rintro ⟨rfl, rfl⟩
      have none_ : s.wave r.team r.wave = Wave.blank := by
        by_cases team : r.team < s.teams.length
        · exact List.getD_eq_default _ _ (Nat.le_of_not_lt fun h => here ⟨⟨rfl, team⟩, rfl, h⟩)
        · rw [State.wave, State.team, List.getD_eq_default _ _ (Nat.le_of_not_lt team)]
          rfl
      rw [none_]
      rfl
    rw [if_neg here]
    split
    case isTrue h =>
      obtain ⟨team, wave, -⟩ := h
      rw [blank ⟨team, wave⟩]
      rfl
    case isFalse => rfl

/-- The lanes of a mask have ended, and the helpers that they leave idle. -/
def State.endMarks (s : State) (t w : Nat) (mask : BitVec 32) : State :=
  let u := s.modWave t w (Wave.markEnded mask)
  u.modWave t w (Wave.markEnded (u.wave t w).idleHelpers)

theorem gists_endLanes (s : State) (t w : Nat) (mask : BitVec 32) : (s.endLanes t w mask).gists = (s.endMarks t w mask).gists := by
  unfold State.endLanes
  extract_lets before u hs v gone x y
  have cut : y.gists = v.gists := gists_modWave _ _ _ _ fun _ => rfl
  refine (gists_foldl (fun s e => ?_) before y).trans cut
  split
  · exact gists_settle ..
  · rfl

theorem still_endLanes (s : State) (t w : Nat) (mask : BitVec 32) : (s.endLanes t w mask).still = (s.endMarks t w mask).still := by
  unfold State.endLanes
  extract_lets before u hs v gone x y
  have cut : y.still = v.still := still_modWave _ _ _ _ fun _ => rfl
  refine (still_foldl _ (fun s e => ?_) before y).trans cut
  split
  · exact still_settle ..
  · rfl

theorem calm_endMarks (s : State) (t w : Nat) (mask : BitVec 32) : (s.endMarks t w mask).calm = s.calm := by
  have pends : ∀ (m : BitVec 32) (x : Wave), (x.markEnded m).lanes.map (·.pend) = x.lanes.map (·.pend) := by
    intro m x
    have each : (fun p : Lane × Nat => (if m.getLsbD p.2 then p.1.finished else p.1).pend) = fun p => p.1.pend := by
      funext p
      split <;> rfl
    simp only [Wave.markEnded, List.map_map, Function.comp_def, each]
    rw [← Function.comp_def, ← List.map_map, List.zipIdx_map_fst]
  exact (calm_modWave _ _ _ _ (pends _)).trans (calm_modWave _ _ _ _ (pends _))

theorem frame_endMarks (s : State) (t w : Nat) (mask : BitVec 32) : (s.endMarks t w mask).mem = s.mem ∧
    (s.endMarks t w mask).hub = s.hub ∧ ∀ a b, ((s.endMarks t w mask).wave a b).w = (s.wave a b).w := by
  refine ⟨rfl, rfl, fun a b => ?_⟩
  have shared : ∀ (u : State) m, ((u.modWave t w (Wave.markEnded m)).wave a b).w = (u.wave a b).w := by
    intro u m
    rw [wave_modWave]
    split <;> rfl
  exact (shared _ _).trans (shared _ _)

/-! ### Lanes that have ended, by their gist -/

theorem gist_finished {l k : Lane} (same : l.gist = k.gist) : l.finished.gist = k.finished.gist := by
  have finished : ∀ l : Lane, l.finished.gist = { l.gist with ended := true, trap := none, arrival := none } := fun _ => rfl
  rw [finished, same, ← finished]

theorem ended_of_gist {l k : Lane} (same : l.gist = k.gist) : l.ended = k.ended := (congrArg Lane.ended same :)

theorem isHelper_of_gist {l k : Lane} (same : l.gist = k.gist) : l.isHelper = k.isHelper := by
  have helper : l.helper = k.helper := (congrArg Lane.helper same :)
  have bound : l.bound = k.bound := (congrArg Lane.bound same :)
  rw [Lane.isHelper, helper, bound, Lane.isHelper]

theorem arrival_of_gist {l k : Lane} (same : l.gist = k.gist) : l.arrival = k.arrival := (congrArg Lane.arrival same :)

/-- A helper that is left idle had not ended (R174). -/
theorem helper_of_idle {x : Wave} {k : Nat} (idle : x.idleHelpers.getLsbD k = true) :
    (x.lanes.getD k Lane.blank).ended = false ∧ (x.lanes.getD k Lane.blank).isHelper = true := by
  have below : k < 32 := BitVec.lt_of_getLsbD idle
  rw [Wave.idleHelpers, getLsbD_maskOf_filter below] at idle
  simp only [Bool.and_eq_true, Bool.not_eq_true', List.all_eq_true, List.mem_range, Bool.or_eq_true] at idle
  obtain ⟨running, quad⟩ := idle
  have own := quad (k % 4) (Nat.mod_lt _ (by decide))
  rw [Nat.div_add_mod'] at own
  exact ⟨running, own.resolve_left (by rw [running]; exact Bool.false_ne_true)⟩

/-- What a lane is once the lanes of a mask have ended: the lane itself, or a lane that has ended, which was named or a helper. -/
theorem lane_endMarks (s : State) (t w : Nat) (mask : BitVec 32) (r : Ref) :
    (s.endMarks t w mask).lane r = s.lane r ∨
      ((r.team = t ∧ r.wave = w ∧ mask.getLsbD r.lane = true) ∨ (s.lane r).isHelper = true) ∧
        (s.endMarks t w mask).lane r = (s.lane r).finished := by
  unfold State.endMarks
  extract_lets u
  have named : u.lane r = _ := lane_markEnded s t w mask r
  rw [lane_markEnded]
  by_cases gone : r.team = t ∧ r.wave = w ∧ mask.getLsbD r.lane = true
  · rw [if_pos gone] at named
    right
    refine ⟨.inl gone, ?_⟩
    rw [named]
    split <;> rfl
  · rw [if_neg gone] at named
    rw [named]
    split
    case isTrue idle =>
      obtain ⟨rfl, rfl, idle⟩ := idle
      obtain ⟨-, helper⟩ := helper_of_idle idle
      exact .inr ⟨.inr (named ▸ helper), rfl⟩
    case isFalse => exact .inl rfl

theorem ended_endMarks {s : State} {t w : Nat} {mask : BitVec 32} {r : Ref}
    (h : (r.team = t ∧ r.wave = w ∧ mask.getLsbD r.lane = true) ∨ (s.lane r).ended = true) :
    ((s.endMarks t w mask).lane r).ended = true := by
  have kept : ∀ l : Lane, l.ended = true → ∀ b : Prop, [Decidable b] → (if b then l.finished else l).ended = true := by
    intro l ended b _
    split
    · rfl
    · exact ended
  unfold State.endMarks
  extract_lets u
  rw [lane_markEnded]
  refine kept _ ?_ _
  rw [lane_markEnded]
  obtain named | ended := h
  · rw [if_pos named]
    rfl
  · exact kept _ ended _

/-! ### Lanes that wait at SYNCW and WSYNCM (R211 to R213) -/

theorem mem_arrived {x : Wave} {k : Nat} {a : Arrival} : (k, a) ∈ x.arrived ↔
    k < 32 ∧ (x.lanes.getD k Lane.blank).ended = false ∧ (x.lanes.getD k Lane.blank).arrival = some a := by
  simp only [Wave.arrived, List.mem_filterMap, List.mem_range]
  constructor
  · rintro ⟨j, below, found⟩
    split at found
    · cases found
    · next running =>
      obtain ⟨b, arrival, same⟩ := Option.map_eq_some_iff.1 found
      obtain ⟨rfl, rfl⟩ := Prod.mk.inj same
      exact ⟨below, by simpa using running, arrival⟩
  · rintro ⟨below, running, arrival⟩
    exact ⟨k, below, by rw [running, arrival]; rfl⟩

theorem syncPass_waits {s : State} {t w : Nat} (waits : ∀ x ∈ (s.wave t w).arrived, (s.wave t w).passes x.2 = false) :
    s.syncPass t w = s := by
  unfold State.syncPass
  have none_ : ((s.wave t w).arrived.filter fun x => (s.wave t w).passes x.2) = [] :=
    List.filter_eq_nil_iff.2 fun x hx => by simp [waits x hx]
  simp only [none_]
  rfl

/-- Who waits for all waits for a lane that counts and has not arrived. -/
theorem passes_false {x : Wave} {a : Arrival} {k : Nat} (all : a.mask = none) (below : k < 32)
    (running : (x.lanes.getD k Lane.blank).ended = false) (own : (x.lanes.getD k Lane.blank).isHelper = false)
    (away : (x.lanes.getD k Lane.blank).arrival = none) : x.passes a = false := by
  have counts : k ∈ x.counted := List.mem_filter.2 ⟨List.mem_range.2 below, by dsimp only; rw [running, own]; rfl⟩
  have missing : (x.arrived.any fun y => y.1 == k && y.2 == a) = false := by
    rw [List.any_eq_false]
    rintro ⟨j, b⟩ arrived
    obtain ⟨-, -, arrival⟩ := mem_arrived.1 arrived
    intro same
    obtain ⟨rfl, -⟩ : j = k ∧ b = a := by simpa using same
    rw [away] at arrival
    cases arrival
  unfold Wave.passes
  simp only [all]
  exact List.all_eq_false.2 ⟨k, counts, by simp [missing]⟩

/-! ### EXIT (R131) -/

/-- The active lanes of an entry, as a mask. -/
def exitMask (act : List Ref) (m : Member) : BitVec 32 :=
  maskOf ((act.filter fun r => r.team == m.team && r.wave == m.wave && m.mask.getLsbD r.lane).map (·.lane))

theorem getLsbD_exitMask {act : List Ref} {m : Member} {k : Nat} :
    (exitMask act m).getLsbD k = true ↔ ⟨m.team, m.wave, k⟩ ∈ act ∧ m.mask.getLsbD k = true := by
  rw [exitMask, getLsbD_maskOf]
  simp only [Bool.and_eq_true, decide_eq_true_eq, List.contains_iff_mem, List.mem_map, List.mem_filter, beq_iff_eq]
  constructor
  · rintro ⟨-, ⟨t, w, j⟩, ⟨active, ⟨rfl, rfl⟩, bit⟩, rfl⟩
    exact ⟨active, bit⟩
  · rintro ⟨active, bit⟩
    exact ⟨BitVec.lt_of_getLsbD bit, _, ⟨active, ⟨rfl, rfl⟩, bit⟩, rfl⟩

/-- One entry's part of EXIT. -/
def State.exitMember (act : List Ref) (u : State) (m : Member) : State :=
  let v := if exitMask act m == m.mask then u.modTeam m.team fun t => { t with retc := min (t.retc + 1) 0xFFFFFFFF } else u
  if exitMask act m == 0 then v else (v.endLanes m.team m.wave (exitMask act m)).syncPass m.team m.wave

theorem execExit_eq {s : State} (ready : s.Ready) :
    exec .exit s = .next (((s.bundle.members.foldl (State.exitMember s.active) s).finish [] []).endTurn s.active) := by
  change execExit s = _
  rw [execExit, whenIssued_ready ready]
  rfl

/-- What EXIT leaves of a state, where nobody waits for the lanes that end: active lanes and helpers may have ended. -/
structure Exits (s u : State) : Prop where
  lanes : ∀ r, (u.lane r).gist = (s.lane r).gist ∨
    (r ∈ s.active ∨ (s.lane r).isHelper = true) ∧ (u.lane r).gist = (s.lane r).finished.gist
  shared : ∀ a b, (u.wave a b).w = (s.wave a b).w
  mem : u.mem = s.mem
  hub : u.hub = s.hub
  quiet : u.Quiet

/-- The lanes of an entry's wave wait for none that ends. -/
def State.Unwaited (s : State) (m : Member) : Prop :=
  (∀ l ∈ (s.wave m.team m.wave).lanes, l.arrival = none) ∨
    (∀ l ∈ (s.wave m.team m.wave).lanes, ∀ a, l.arrival = some a → a.mask = none) ∧
      ∃ k < 32, (⟨m.team, m.wave, k⟩ : Ref) ∉ s.active ∧ (s.lane ⟨m.team, m.wave, k⟩).ended = false ∧
        (s.lane ⟨m.team, m.wave, k⟩).isHelper = false ∧ (s.lane ⟨m.team, m.wave, k⟩).arrival = none

namespace Exits

variable {s u : State}

theorem of_gists (h : Exits s u) {v : State} (gists : v.gists = u.gists) (still : v.still = u.still) : Exits s v where
  lanes r := by rw [gist_lane_of_gists gists]; exact h.lanes r
  shared a b := ((congrArg Prod.fst (gist_wave_of_gists gists a b) :)).trans (h.shared a b)
  mem := (mem_of_still still).trans h.mem
  hub := ((congrArg State.hub still :)).trans h.hub
  quiet := h.quiet.of_still still

theorem endMarks (h : Exits s u) {t w : Nat} {mask : BitVec 32} (active : ∀ k, mask.getLsbD k = true → ⟨t, w, k⟩ ∈ s.active) :
    Exits s (u.endMarks t w mask) := by
  obtain ⟨mem, hub, shared⟩ := frame_endMarks u t w mask
  refine ⟨fun r => ?_, fun a b => (shared a b).trans (h.shared a b), mem.trans h.mem, hub.trans h.hub,
    h.quiet.of_calm (calm_endMarks ..)⟩
  have helper : (u.lane r).isHelper = (s.lane r).isHelper := by
    obtain same | ⟨-, finished⟩ := h.lanes r
    · exact isHelper_of_gist same
    · exact (isHelper_of_gist finished : _ = (s.lane r).finished.isHelper)
  have finished : (u.lane r).finished.gist = (s.lane r).finished.gist := by
    obtain same | ⟨-, finished⟩ := h.lanes r
    · exact gist_finished same
    · exact (gist_finished finished : _ = (s.lane r).finished.finished.gist)
  obtain same | ⟨named, ended⟩ := lane_endMarks u t w mask r
  · rw [same]
    exact h.lanes r
  · refine .inr ⟨?_, by rw [ended, finished]⟩
    obtain ⟨rfl, rfl, bit⟩ | idle := named
    · exact .inl (active _ bit)
    · exact .inr (helper ▸ idle)

theorem endLanes (h : Exits s u) {t w : Nat} {mask : BitVec 32} (active : ∀ k, mask.getLsbD k = true → ⟨t, w, k⟩ ∈ s.active) :
    Exits s (u.endLanes t w mask) :=
  (h.endMarks active).of_gists (gists_endLanes ..) (still_endLanes ..)

theorem syncPass_eq (h : Exits s u) {m : Member} (unwaited : s.Unwaited m) : u.syncPass m.team m.wave = u := by
  refine syncPass_waits fun x arrived => ?_
  obtain ⟨k, a⟩ := x
  obtain ⟨-, running, arrival⟩ := mem_arrived.1 arrived
  have before : (s.lane ⟨m.team, m.wave, k⟩).arrival = some a := by
    obtain same | ⟨-, finished⟩ := h.lanes ⟨m.team, m.wave, k⟩
    · exact (arrival_of_gist same).symm.trans arrival
    · exact absurd ((ended_of_gist finished).symm.trans running) (by simp [Lane.finished])
  have there : s.lane ⟨m.team, m.wave, k⟩ ∈ (s.wave m.team m.wave).lanes := by
    by_cases stands : k < (s.wave m.team m.wave).lanes.length
    · rw [State.lane, List.getD_eq_getElem _ _ stands]
      exact List.getElem_mem stands
    · rw [State.lane, List.getD_eq_default _ _ (Nat.le_of_not_lt stands)] at before
      cases before
  obtain none_ | ⟨all, j, below, out, going, own, away⟩ := unwaited
  · rw [none_ _ there] at before
    cases before
  · obtain same | ⟨active | helper, -⟩ := h.lanes ⟨m.team, m.wave, j⟩
    · exact passes_false (all _ there a before) below ((ended_of_gist same).trans going) ((isHelper_of_gist same).trans own)
        ((arrival_of_gist same).trans away)
    · exact absurd active out
    · rw [own] at helper
      cases helper

/-- One entry's part: its active lanes have ended, and no lane that had ended goes on. -/
theorem exitMember (h : Exits s u) {m : Member} (unwaited : s.Unwaited m) :
    Exits s (u.exitMember s.active m) ∧ (∀ r, (u.lane r).ended = true → ((u.exitMember s.active m).lane r).ended = true) ∧
      ∀ k, m.mask.getLsbD k = true → ⟨m.team, m.wave, k⟩ ∈ s.active →
        ((u.exitMember s.active m).lane ⟨m.team, m.wave, k⟩).ended = true := by
  unfold State.exitMember
  extract_lets v
  have counted : v.gists = u.gists ∧ v.still = u.still := by
    unfold v
    split
    · exact ⟨map_modTeam (fun t => t.waves.map Wave.gist) _ _ _ fun _ => rfl, still_modTeam _ _ _ fun _ => rfl⟩
    · exact ⟨rfl, rfl⟩
  obtain ⟨gists, still⟩ := counted
  have hv := h.of_gists gists still
  split
  case isTrue none_ =>
    refine ⟨hv, fun r ended => (ended_of_gist (gist_lane_of_gists gists r)).trans ended, fun k bit active => ?_⟩
    have some := getLsbD_exitMask.2 ⟨active, bit⟩
    rw [eq_of_beq none_] at some
    simp at some
  case isFalse =>
    have he := hv.endLanes (t := m.team) (w := m.wave) (mask := exitMask s.active m) fun k bit => (getLsbD_exitMask.1 bit).1
    rw [he.syncPass_eq unwaited]
    have ended : ∀ r, ((r.team = m.team ∧ r.wave = m.wave ∧ (exitMask s.active m).getLsbD r.lane = true) ∨ (v.lane r).ended = true) →
        ((v.endLanes m.team m.wave (exitMask s.active m)).lane r).ended = true := fun r gone =>
      (ended_of_gist (gist_lane_of_gists (gists_endLanes ..) r)).trans (ended_endMarks gone)
    exact ⟨he, fun r was => ended r (.inr ((ended_of_gist (gist_lane_of_gists gists r)).trans was)),
      fun k bit active => ended _ (.inl ⟨rfl, rfl, getLsbD_exitMask.2 ⟨active, bit⟩⟩)⟩

theorem exitMembers (h : Exits s u) {ms : List Member} (unwaited : ∀ m ∈ ms, s.Unwaited m) :
    Exits s (ms.foldl (State.exitMember s.active) u) ∧
      (∀ r, (u.lane r).ended = true → ((ms.foldl (State.exitMember s.active) u).lane r).ended = true) ∧
      ∀ m ∈ ms, ∀ k, m.mask.getLsbD k = true → ⟨m.team, m.wave, k⟩ ∈ s.active →
        ((ms.foldl (State.exitMember s.active) u).lane ⟨m.team, m.wave, k⟩).ended = true := by
  induction ms generalizing u with
  | nil => exact ⟨h, fun _ ended => ended, fun m hm => absurd hm List.not_mem_nil⟩
  | cons m ms ih =>
    obtain ⟨first, kept, own⟩ := h.exitMember (unwaited m List.mem_cons_self)
    obtain ⟨all, later, others⟩ := ih first fun x hx => unwaited x (List.mem_cons_of_mem m hx)
    refine ⟨all, fun r ended => later r (kept r ended), fun x hx k bit active => ?_⟩
    obtain rfl | hx := List.mem_cons.1 hx
    · exact later _ (own k bit active)
    · exact others x hx k bit active

end Exits

/-! ### The end of the word -/

theorem still_wave_of_still {s u : State} (same : u.still = s.still) (a b : Nat) : (u.wave a b).still = (s.wave a b).still := by
  have unfolded : ∀ s : State, (s.wave a b).still = (s.still.wave a b).still := fun s => by
    simp only [State.still, State.wave, State.team, List.getD_eq_getElem?_getD, List.getElem?_map]
    cases s.teams[a]? with
    | none => rfl
    | some t =>
      simp only [Option.map_some, Option.getD_some, Team.still, List.getElem?_map]
      cases t.waves[b]? with
      | none => rfl
      | some x => simp [Wave.still, Function.comp_def, Lane.still]
  rw [unfolded u, same, ← unfolded s]

theorem still_lane_of_still {s u : State} (same : u.still = s.still) (r : Ref) : (u.lane r).still = (s.lane r).still := by
  have unfolded : ∀ s : State, (s.lane r).still = (s.wave r.team r.wave).still.lanes.getD r.lane Lane.blank := fun s => by
    simp only [State.lane, Wave.still, List.getD_eq_getElem?_getD, List.getElem?_map]
    cases (s.wave r.team r.wave).lanes[r.lane]? <;> rfl
  rw [unfolded u, still_wave_of_still same, ← unfolded s]

theorem frame_endTurn (s : State) (lanes : List Ref) :
    (s.endTurn lanes).teams = s.teams ∧ (s.endTurn lanes).mem = s.mem ∧ (s.endTurn lanes).hub = s.hub := by
  refine List.foldlRecOn (motive := fun (u : State) => u.teams = s.teams ∧ u.mem = s.mem ∧ u.hub = s.hub) _ _ ⟨rfl, rfl, rfl⟩
    fun u same r _ => ?_
  dsimp only
  split
  · exact same
  · exact same

theorem lane_of_teams {s u : State} (same : u.teams = s.teams) (r : Ref) : u.lane r = s.lane r := by
  simp only [State.lane, State.wave, State.team, same]

theorem wave_of_teams {s u : State} (same : u.teams = s.teams) (a b : Nat) : u.wave a b = s.wave a b := by
  simp only [State.wave, State.team, same]

/-- What a lane keeps where its gist is that of another lane, which may have ended. -/
theorem kept_of_exits {s u : State} (h : Exits s u) (r : Ref) :
    (u.lane r).g = (s.lane r).g ∧ (u.lane r).p = (s.lane r).p ∧ (u.lane r).sp = (s.lane r).sp := by
  obtain same | ⟨-, same⟩ := h.lanes r
  · exact ⟨(congrArg Lane.g same :), (congrArg Lane.p same :), (congrArg Lane.sp same :)⟩
  · exact ⟨(congrArg Lane.g same :), (congrArg Lane.p same :), (congrArg Lane.sp same :)⟩

/-- EXIT where nobody waits for a lane that ends. -/
theorem execExit_unwaited {s : State} (ready : s.Ready) (unwaited : ∀ m ∈ s.bundle.members, s.Unwaited m) :
    ∃ t, exec .exit s = .next t ∧ (∀ r ∈ s.active, (t.lane r).ended = true) ∧
      (∀ r, r ∉ s.active → (s.lane r).isHelper = false → (t.lane r).ended = (s.lane r).ended) ∧
      (∀ r, (t.lane r).g = (s.lane r).g ∧ (t.lane r).p = (s.lane r).p ∧ (t.lane r).sp = (s.lane r).sp) ∧
      (∀ a b, (t.wave a b).w = (s.wave a b).w) ∧ t.mem = s.mem ∧ t.hub = s.hub := by
  have self : Exits s s := ⟨fun _ => .inl rfl, fun _ _ => rfl, rfl, rfl, ready.toQuiet⟩
  obtain ⟨exits, -, ended⟩ := self.exitMembers unwaited
  refine ⟨_, execExit_eq ready, ?_⟩
  generalize s.bundle.members.foldl (State.exitMember s.active) s = u at exits ended
  have kept := still_finish exits.quiet [] []
  obtain ⟨teams, mem, hub⟩ := frame_endTurn (u.finish [] []) s.active
  have lane : ∀ r, (((u.finish [] []).endTurn s.active).lane r).still = (u.lane r).still := fun r => by
    rw [lane_of_teams teams]
    exact still_lane_of_still kept r
  refine ⟨fun r active => ?_, fun r out own => ?_, fun r => ?_, fun a b => ?_, ?_, ?_⟩
  · obtain ⟨m, hm, active'⟩ := List.mem_flatMap.1 active
    obtain ⟨team, wave, bit⟩ := ref_of_activeOf active'
    obtain ⟨t, w, k⟩ := r
    obtain rfl : t = m.team := team
    obtain rfl : w = m.wave := wave
    exact (congrArg Lane.ended (lane _) :).trans (ended m hm k bit active)
  · obtain same | ⟨active | helper, -⟩ := exits.lanes r
    · have left : (u.lane r).ended = (s.lane r).ended := ended_of_gist same
      exact (congrArg Lane.ended (lane r) :).trans left
    · exact absurd active out
    · rw [own] at helper
      cases helper
  · obtain ⟨g, p, sp⟩ := kept_of_exits exits r
    exact ⟨(congrArg Lane.g (lane r) :).trans g, (congrArg Lane.p (lane r) :).trans p, (congrArg Lane.sp (lane r) :).trans sp⟩
  · rw [wave_of_teams teams]
    exact (congrArg Wave.w (still_wave_of_still kept a b) :).trans (exits.shared a b)
  · exact mem.trans ((mem_of_still kept).trans exits.mem)
  · exact hub.trans ((congrArg State.hub kept :).trans exits.hub)

end Sys2Proof.Machine

/-! EXIT of the last lanes that others wait for at SYNCW or WSYNCM (R131, R212, R213). -/

namespace Sys2Proof.Machine

/-! ### What a release leaves of the teams (R253, R292) -/

/-- What `f` sees of a team is no scratchpad, no mark of a monitor and no record of a refused write. -/
structure Unstored {α : Type} (f : Team → α) : Prop where
  spad : ∀ (t : Team) x, f { t with spad := x } = f t
  woken : ∀ (t : Team) p n, f { t with waves := t.waves.map fun w => { w with lanes := w.lanes.map fun l => l.wake p n } } = f t
  refused : ∀ (t : Team) w x,
    f { t with waves := t.waves.modify w fun y => if y.rperm.isNone then { y with rperm := some x } else y } = f t

/-- What `f` sees of every team, and the issuing bundle. -/
def State.seen {α : Type} (f : Team → α) (s : State) : List α × Option Bundle := (s.teams.map f, s.issue)

theorem seen_of_dieRead {α : Type} (f : Team → α) {s u : State} (h : DieRead s u) : u.seen f = s.seen f := by
  rw [State.seen, h.teams_eq, h.issue_eq, State.seen]

section
variable {α : Type} {f : Team → α}

theorem seen_modTeam (s : State) (k : Nat) (g : Team → Team) (h : ∀ t, f (g t) = f t) : (s.modTeam k g).seen f = s.seen f :=
  Prod.ext (map_modTeam f s k g h) rfl

theorem seen_foldl {β : Type} {g : State → β → State} (h : ∀ s a, (g s a).seen f = s.seen f) (l : List β) (s : State) :
    (l.foldl g s).seen f = s.seen f :=
  List.foldlRecOn (motive := fun (u : State) => u.seen f = s.seen f) l g rfl fun u same a _ => (h u a).trans same

theorem seen_physWriteSector (s : State) (w : Writer) (pa : Nat) (b : List Byte) (atL2 : Bool) (sec : Nat) :
    (s.physWriteSector w pa b atL2 sec).1.seen f = s.seen f := by
  unfold State.physWriteSector
  dsimp only
  split
  · exact (seen_of_dieRead f (dieRead_fitL2 ..)).trans rfl
  · rfl

theorem seen_physWrite (s : State) (w : Writer) (pa : Nat) (b : List Byte) (atL2 : Bool) :
    (s.physWrite w pa b atL2).1.seen f = s.seen f := by
  unfold State.physWrite
  extract_lets u reads
  have taken : u.seen f = s.seen f := by
    unfold u
    split
    · exact seen_of_dieRead f (dieRead_takeIn ..)
    · rfl
  generalize loop : List.foldl _ (u, []) (sectorsOf pa b.length) = p
  have sectors : p.1.seen f = u.seen f := by
    rw [← loop]
    refine List.foldlRecOn (motive := fun p : State × List (Nat × WriteOut) => p.1.seen f = u.seen f) _ _ rfl fun p same sec _ => ?_
    exact (seen_physWriteSector p.1 w pa b atL2 sec).trans same
  obtain ⟨v, outs⟩ := p
  have noted := seen_of_dieRead f
    (dieRead_noteWords v (codesOf (reads.filter fun k => outs.any fun x => x.1 == k && x.2 != .refused)) true)
  dsimp only
  split
  · exact noted.trans (sectors.trans taken)
  · exact noted.trans (sectors.trans taken)

variable (unstored : Unstored f)
include unstored

theorem seen_writeTarget (s : State) (w : Writer) (p : Target) (b : List Byte) (atL2 : Bool) :
    (s.writeTarget w p b atL2).1.seen f = s.seen f := by
  have woken : (s.wakeMonitors p b.length).seen f = s.seen f := by
    simp [State.seen, State.wakeMonitors, Function.comp_def, unstored.woken]
  cases p with
  | spad tid off =>
    exact (seen_modTeam _ tid (fun x => { x with spad := cellsWriteN x.spad off b }) fun t => unstored.spad t _).trans woken
  | fw off => exact woken
  | hub off live => cases live <;> exact woken
  | phys pa => exact (seen_physWrite ..).trans woken

theorem seen_performStore (s : State) (op : Op) (a : StAcc) : (s.performStore op a).seen f = s.seen f := by
  have written := seen_writeTarget unstored s { s.writer op.team with strm := a.cc == 1 } a.tgt a.bytes (a.cc == 2)
  unfold State.performStore
  dsimp only
  split
  · exact (seen_modTeam _ _ _ fun t => unstored.refused t _ _).trans written
  · exact written

theorem seen_drainOp (s : State) (id : Nat) : (s.drainOp id).seen f = s.seen f := by
  unfold State.drainOp
  split
  · rfl
  · next op _ =>
    split
    · exact seen_foldl (g := fun s a => s.performStore op a) (fun s a => seen_performStore unstored s op a) _ s
    · rfl

theorem seen_release (s : State) (t w k : Nat) : (s.release t w k).seen f = s.seen f := by
  have drained : ∀ p, (s.drainWhere p).seen f = s.seen f := fun p =>
    seen_foldl (g := fun (s : State) (o : Op) => s.drainOp o.id) (fun s o => seen_drainOp unstored s o.id) _ s
  unfold State.release
  dsimp only
  split
  · exact drained _
  · exact drained _
end

/-! ### What a release leaves of the split tables and the lanes -/

/-- A wave's split table and its lanes but for the marks of their monitors. -/
def Wave.table (x : Wave) : List Entry × List Lane := (x.entries, x.lanes.map fun l => { l with mon := none })

/-- The split tables of a team and its lanes but for the marks of their monitors. -/
def Team.tables (t : Team) : List (List Entry × List Lane) := t.waves.map Wave.table

/-- The split tables and lanes of every wave, and the issuing bundle. -/
abbrev State.scene (s : State) : List (List (List Entry × List Lane)) × Option Bundle := s.seen Team.tables

theorem unstored_tables : Unstored Team.tables where
  spad _ _ := rfl
  woken t p n := by
    have lane : ∀ l : Lane, { l.wake p n with mon := none } = { l with mon := none } := fun l => by
      unfold Lane.wake
      split
      · split <;> rfl
      · rfl
    simp [Team.tables, Wave.table, Function.comp_def, lane]
  refused t w x := map_modify_same _ _ (fun y => by split <;> rfl) _ _

theorem table_of_scene {s u : State} (same : u.scene = s.scene) (a b : Nat) : (u.wave a b).table = (s.wave a b).table := by
  have unfolded : ∀ s : State, (s.wave a b).table = ((s.scene.1.getD a []).getD b Wave.blank.table) := fun s => by
    simp only [State.seen, State.wave, State.team, List.getD_eq_getElem?_getD, List.getElem?_map]
    cases s.teams[a]? with
    | none => rfl
    | some t =>
      simp only [Option.map_some, Option.getD_some, Team.tables, List.getElem?_map]
      cases t.waves[b]? <;> rfl
  rw [unfolded u, same, ← unfolded s]

theorem lane_of_scene {s u : State} (same : u.scene = s.scene) (r : Ref) :
    { u.lane r with mon := none } = { s.lane r with mon := none } := by
  have unfolded : ∀ s : State, { s.lane r with mon := none } = (s.wave r.team r.wave).table.2.getD r.lane Lane.blank := fun s => by
    simp only [State.lane, Wave.table, List.getD_eq_getElem?_getD, List.getElem?_map]
    cases (s.wave r.team r.wave).lanes[r.lane]? <;> rfl
  rw [unfolded u, table_of_scene same, ← unfolded s]

theorem scene_release (s : State) (t w k : Nat) : (s.release t w k).scene = s.scene := seen_release unstored_tables s t w k

theorem calm_release (s : State) (t w k : Nat) : (s.release t w k).calm = s.calm := by
  unfold State.release
  dsimp only
  split
  · exact calm_drainWhere ..
  · exact calm_drainWhere ..

/-! ### Lanes and waves that exist -/

theorem has_of_running {s : State} {r : Ref} (running : (s.lane r).ended = false) : s.has r := by
  have blank : ∀ x : Wave, x.lanes.length ≤ r.lane → (x.lanes.getD r.lane Lane.blank).ended = true := fun x h => by
    rw [List.getD_eq_default _ _ h]
    rfl
  by_contra none_
  refine Bool.false_ne_true (running.symm.trans ?_)
  by_cases team : r.team < s.teams.length
  · by_cases wave : r.wave < (s.team r.team).waves.length
    · exact blank _ (Nat.le_of_not_lt fun h => none_ ⟨team, wave, h⟩)
    · refine blank _ ?_
      rw [State.wave, List.getD_eq_default _ _ (Nat.le_of_not_lt wave)]
      exact Nat.zero_le _
  · refine blank _ ?_
    rw [State.wave, State.team, List.getD_eq_default _ _ (Nat.le_of_not_lt team)]
    exact Nat.zero_le _

/-- A wave with an entry exists, so a change to it is made. -/
theorem wave_modWave_of_entries {s : State} {t w : Nat} (some : (s.wave t w).entries ≠ []) (f : Wave → Wave) :
    (s.modWave t w f).wave t w = f (s.wave t w) := by
  rw [wave_modWave, if_pos]
  have wave : w < (s.team t).waves.length := by
    by_contra h
    exact some (by rw [State.wave, List.getD_eq_default _ _ (Nat.le_of_not_lt h)]; rfl)
  refine ⟨⟨rfl, ?_⟩, rfl, wave⟩
  by_contra h
  rw [State.team, List.getD_eq_default _ _ (Nat.le_of_not_lt h)] at wave
  exact absurd wave (Nat.not_lt_zero _)

theorem entries_modLane (s : State) (r : Ref) (f : Lane → Lane) (a b : Nat) :
    ((s.modLane r f).wave a b).entries = (s.wave a b).entries := by
  unfold State.modLane
  rw [wave_modWave]
  split <;> rfl

theorem wave_modTeam (s : State) (k : Nat) (f : Team → Team) (h : ∀ t, (f t).waves = t.waves) (a b : Nat) :
    (s.modTeam k f).wave a b = s.wave a b := by
  rw [State.wave, team_modTeam]
  split
  · rw [h]
    rfl
  · rfl

theorem lane_modTeam (s : State) (k : Nat) (f : Team → Team) (h : ∀ t, (f t).waves = t.waves) (r : Ref) :
    (s.modTeam k f).lane r = s.lane r := by
  rw [State.lane, wave_modTeam s k f h, State.lane]

/-- A change to the lanes of a list, made twice as well as once, at a lane that exists. -/
theorem lane_foldl_modLane {f : Lane → Lane} (idem : ∀ l, f (f l) = f l) (t w : Nat) (ks : List Nat) {s : State} {r : Ref}
    (has : s.has r) : (ks.foldl (fun s k => s.modLane ⟨t, w, k⟩ f) s).lane r =
      if r.team = t ∧ r.wave = w ∧ r.lane ∈ ks then f (s.lane r) else s.lane r := by
  induction ks generalizing s with
  | nil => simp
  | cons k ks ih =>
    rw [List.foldl_cons, ih ((has_modLane ..).2 has)]
    obtain ⟨a, b, j⟩ := r
    by_cases hit : a = t ∧ b = w ∧ j = k
    · obtain ⟨rfl, rfl, rfl⟩ := hit
      have once : (s.modLane ⟨a, b, j⟩ f).lane ⟨a, b, j⟩ = f (s.lane ⟨a, b, j⟩) := by rw [lane_modLane, if_pos ⟨rfl, has⟩]
      simp [once, idem]
    · have same : (s.modLane ⟨t, w, k⟩ f).lane ⟨a, b, j⟩ = s.lane ⟨a, b, j⟩ := by
        rw [lane_modLane, if_neg]
        rintro ⟨refs, -⟩
        obtain ⟨rfl, rfl, rfl⟩ := Ref.mk.inj refs
        exact hit ⟨rfl, rfl, rfl⟩
      rw [same]
      refine if_congr ?_ rfl rfl
      simp only [List.mem_cons]
      tauto

theorem entries_foldl_modLane (f : Nat → Lane → Lane) (t w : Nat) (ks : List Nat) (s : State) (a b : Nat) :
    ((ks.foldl (fun s k => s.modLane ⟨t, w, k⟩ (f k)) s).wave a b).entries = (s.wave a b).entries :=
  List.foldlRecOn (motive := fun u : State => (u.wave a b).entries = (s.wave a b).entries) ks _ rfl
    fun _ same _ _ => (entries_modLane ..).trans same

/-! ### An entry whose lanes all pass (R214) -/

/-- What a lane that passes a word of a clause takes. -/
def Lane.passed (c : DWord) (i : Nat) (l : Lane) : Lane := { l with arrival := none, clause := clauseAfter c i, idx := 0 }

/-- The state in which the lanes of a mask have passed the word `i` of the clause `c`. -/
def State.passedLanes (s : State) (t w : Nat) (c : DWord) (i : Nat) (mask : BitVec 32) : State :=
  (maskLanes mask).foldl (fun s k => s.modLane ⟨t, w, k⟩ (Lane.passed c i)) (s.release t w 1)

/-- What a split table is when the lanes of `x` pass together. -/
def passedTable (x : Entry) (c : DWord) (i : Nat) (marked : Bool) (es : List Entry) : List Entry :=
  es.flatMap fun z =>
    if z.slot == x.slot then [joinEntries z [] x.mask 0 (clauseAfter c i) marked] else [{ z with defer := z.defer &&& ~~~x.mask }]

/-- The lanes of an entry have passed a word, which counts as retired, and no bundle holds the entry. -/
def State.passedOut (s : State) (t w : Nat) (c : DWord) (i : Nat) (x : Entry) : State :=
  (((s.passedLanes t w c i x.mask).modBundles fun b => b.without t w x.slot).sweepBundles).modTeam t fun y =>
    { y with retc := min (y.retc + 1) 0xFFFFFFFF }

/-- The state in which a wave's only entry has passed a word. -/
def State.passedAlone (s : State) (t w : Nat) (c : DWord) (i : Nat) (x : Entry) : State :=
  (s.passedOut t w c i x).modWave t w fun y => { y with entries := passedTable x c i (s.marked t c i) y.entries }

theorem wave_passedOut (s : State) (t w : Nat) (c : DWord) (i : Nat) (x : Entry) (a b : Nat) :
    (s.passedOut t w c i x).wave a b = (s.passedLanes t w c i x.mask).wave a b :=
  wave_modTeam (((s.passedLanes t w c i x.mask).modBundles fun b => b.without t w x.slot).sweepBundles) t
    (fun y => { y with retc := min (y.retc + 1) 0xFFFFFFFF }) (fun _ => rfl) a b

theorem lane_passedAlone (s : State) (t w : Nat) (c : DWord) (i : Nat) (x : Entry) (r : Ref) :
    (s.passedAlone t w c i x).lane r = (s.passedLanes t w c i x.mask).lane r := by
  rw [State.lane, State.passedAlone, wave_modWave, State.lane, ← wave_passedOut]
  split <;> rfl

theorem still_passedAlone (s : State) (t w : Nat) (c : DWord) (i : Nat) (x : Entry) :
    (s.passedAlone t w c i x).still = (s.release t w 1).still := by
  have lanes : (s.passedLanes t w c i x.mask).still = (s.release t w 1).still :=
    still_foldl (fun s k => s.modLane ⟨t, w, k⟩ (Lane.passed c i)) (fun _ _ => still_modLane _ _ _ fun _ => rfl) _ _
  have out : (s.passedOut t w c i x).still = (s.passedLanes t w c i x.mask).still := still_modTeam _ _ _ fun _ => rfl
  exact (still_modWave _ t w (fun y => { y with entries := passedTable x c i (s.marked t c i) y.entries }) fun _ => rfl).trans
    (out.trans lanes)

theorem quiet_passedAlone {s : State} (quiet : s.Quiet) (t w : Nat) (c : DWord) (i : Nat) (x : Entry) :
    (s.passedAlone t w c i x).Quiet := (quiet.of_calm (calm_release s t w 1)).of_still (still_passedAlone ..)

/-- No entry goes on with itself. -/
theorem fuse_alone {s : State} {t w : Nat} {x : Entry} (entries : (s.wave t w).entries = [x]) : s.fuse t w = s := by
  have none_ : s.fusePair t w = none := by
    have apart : ∀ b ∈ [x], ¬ x.slot < b.slot := fun b hb => by rw [List.mem_singleton.1 hb]; exact lt_irrefl _
    unfold State.fusePair
    rw [entries]
    cases ready : s.entryReady t w x <;> simp [ready]
  unfold State.fuse
  rw [State.fuseGo, none_]

/-- An entry that stands alone, in no bundle and without deferred lanes, stays as it is at a clause's end (R182). -/
theorem settle_alone {s : State} {t w : Nat} {x : Entry} (entries : (s.wave t w).entries = [x]) (flight : x.flight = none)
    (settled : x.defer = 0) (some : x.mask ≠ 0) (old : BitVec 32) : s.settle t w x.slot old = s := by
  have found : (s.wave t w).entry x.slot = Option.some x := by
    rw [Wave.entry, entries]
    simp
  have lanes : (x.mask == 0) = false := by simpa using some
  unfold State.settle
  simp only [found, flight, settled, lanes]
  rfl

/-- Without a debugger, lanes that have passed a word hit nothing. -/
theorem passHits_quiet {s : State} (quiet : s.Quiet) (t w : Nat) (mask : BitVec 32) (c : DWord) (i : Nat) :
    s.passHits t w mask c i = s := by
  unfold State.passHits
  split
  · simp [dbgMode_quiet quiet]
  · rfl

section

variable {s : State} {t w i : Nat} {c : DWord} {x : Entry} (entries : (s.wave t w).entries = [x])
include entries

theorem entries_passedLanes (mask : BitVec 32) : ((s.passedLanes t w c i mask).wave t w).entries = [x] :=
  (entries_foldl_modLane (fun _ => Lane.passed c i) ..).trans
    ((congrArg Prod.fst (table_of_scene (scene_release s t w 1) t w) :).trans entries)

theorem entries_passedAlone : ((s.passedAlone t w c i x).wave t w).entries =
    [joinEntries x [] x.mask 0 (clauseAfter c i) (s.marked t c i)] := by
  have before : ((s.passedOut t w c i x).wave t w).entries = [x] := by rw [wave_passedOut, entries_passedLanes entries]
  rw [State.passedAlone, wave_modWave_of_entries (by rw [before]; exact List.cons_ne_nil x [])]
  dsimp only
  rw [before]
  simp [passedTable]

theorem passWord_alone (quiet : s.Quiet) (settled : x.defer = 0) (some : x.mask ≠ 0) :
    s.passWord t w c i x.mask = s.passedAlone t w c i x := by
  have before := entries_passedLanes (c := c) (i := i) entries x.mask
  have after := entries_passedAlone (c := c) (i := i) entries
  unfold State.passWord
  extract_lets next marked u v es apart s1 s2 deferred kept mask defer s3
  have only : es = [x] := by
    have own : (x.mask &&& x.mask != 0) = true := by simpa using some
    unfold es
    rw [show v = s.passedLanes t w c i x.mask from rfl, before,
      List.filter_cons_of_pos (p := fun e : Entry => e.mask &&& x.mask != 0) own, List.filter_nil]
  clear_value es
  subst only
  have stays : s1 = v := by
    have gone : x.mask &&& ~~~x.mask = 0 := by simp
    unfold s1 apart
    rw [List.foldl_cons, List.foldl_nil, gone, leave_zero]
  have table : (s2.wave t w).entries = [x] := by
    rw [← before]
    unfold s2
    rw [stays]
    rfl
  have all : mask = x.mask := by
    unfold mask kept deferred
    simp [table, settled]
  have nothing : defer = 0 := by
    unfold defer kept
    simp [table, settled]
  have out : s3 = s.passedOut t w c i x := by
    unfold s3 s2
    rw [stays]
    rfl
  have same : ((s3.modWave t w fun y => { y with entries := y.entries.flatMap fun z =>
      if z.slot == x.slot then [joinEntries z [] mask defer next marked]
      else if (([] : List Entry).any fun e => e.slot == z.slot) then [] else [{ z with defer := z.defer &&& ~~~x.mask }] })) =
      s.passedAlone t w c i x := by
    rw [all, nothing, out]
    rfl
  have stands : (s.passedAlone t w c i x).settle t w x.slot x.mask = s.passedAlone t w c i x :=
    settle_alone after rfl rfl some x.mask
  dsimp only
  rw [same, all, stands, passHits_quiet (quiet_passedAlone quiet ..), fuse_alone after]

end

/-! ### The last lanes of an entry end (R131, R180) -/

theorem outside_of_apart {m n : BitVec 32} (apart : m &&& n = 0) {k : Nat} (bit : n.getLsbD k = true) : m.getLsbD k = false := by
  have both : (m.getLsbD k && n.getLsbD k) = false := by
    rw [← BitVec.getLsbD_and, apart]
    exact BitVec.getLsbD_zero
  rwa [bit, Bool.and_true] at both

/-- An entry that is left without lanes is gone (R180). -/
theorem settle_drops {s : State} {t w k : Nat} {e : Entry} (found : (s.wave t w).entry k = some e) (flight : e.flight = none)
    (settled : e.defer = 0) (none_ : e.mask = 0) (old : BitVec 32) :
    s.settle t w k old = s.modWave t w fun x => x.dropEntry k := by
  unfold State.settle
  simp only [found, flight, settled, none_]
  rfl

/-- Of two entries, the one whose lanes all end leaves the other as it was, and leaves its bundle. -/
theorem endLanes_of_two {s : State} {t w : Nat} {e x : Entry} {mask : BitVec 32} (entries : (s.wave t w).entries = [e, x])
    (named : e.mask = mask) (settled : e.defer = 0) (slots : x.slot ≠ e.slot) (flight : x.flight = none) (settled' : x.defer = 0)
    (some : x.mask ≠ 0) (apart : mask &&& x.mask = 0)
    (idle : (((s.modWave t w (Wave.markEnded mask))).wave t w).idleHelpers = 0) :
    ((s.endLanes t w mask).wave t w).entries = [x] ∧ (s.endLanes t w mask).issue = s.issue.map fun b => b.cut t w mask := by
  have outside : x.mask &&& ~~~mask = x.mask := by
    refine BitVec.eq_of_getLsbD_eq fun k hk => ?_
    rw [BitVec.getLsbD_and, BitVec.getLsbD_not]
    cases bit : x.mask.getLsbD k with
    | false => rfl
    | true =>
      rw [outside_of_apart apart bit, decide_eq_true hk]
      rfl
  have own : e.mask &&& ~~~mask = 0 := by
    rw [named]
    exact BitVec.and_not_self mask
  have marked : ((s.endMarks t w mask).wave t w).entries = [e, x] := by
    have kept : ∀ (u : State) m, ((u.modWave t w (Wave.markEnded m)).wave t w).entries = (u.wave t w).entries := fun u m => by
      rw [wave_modWave]
      split <;> rfl
    exact (kept _ _).trans ((kept _ _).trans entries)
  unfold State.endLanes
  extract_lets before u hs v gone b y
  have all : gone = mask := by
    unfold gone hs u
    rw [idle]
    exact BitVec.or_zero
  have table : (y.wave t w).entries = [{ e with mask := 0, defer := 0, flight := none }, x] := by
    have held : (b.wave t w).entries = [e, x] := marked
    unfold y
    rw [wave_modWave_of_entries (by rw [held]; exact List.cons_ne_nil e [x])]
    dsimp only
    rw [held, all]
    have same : { x with defer := 0, flight := none } = x := by rw [← flight, ← settled']
    have zero : (0 : BitVec 32) &&& ~~~mask = 0 := BitVec.zero_and
    simp only [List.map_cons, List.map_nil, own, outside, settled, settled', flight, ite_self, zero, beq_self_eq_true, if_true, same]
  have cut : y.issue = s.issue.map fun b => b.cut t w mask := by rw [← all]; rfl
  clear_value y gone
  subst all
  have first : before = [e, x] := entries
  have found : (y.wave t w).entry e.slot = Option.some { e with mask := 0, defer := 0, flight := none } := by
    rw [Wave.entry, table]
    simp
  have stays : ¬(x.mask &&& ~~~gone == 0) = true := by
    rw [outside]
    simpa using some
  rw [first, List.foldl_cons, List.foldl_cons, List.foldl_nil, if_neg stays, if_pos (beq_iff_eq.2 own),
    settle_drops found rfl rfl rfl, wave_modWave_of_entries (by rw [table]; exact List.cons_ne_nil _ [x])]
  exact ⟨by simp [Wave.dropEntry, table, slots], cut⟩

/-! ### Every lane that counts has arrived (R212, R213) -/

/-- The lanes of `mask` have arrived at one word, and every other lane has ended. -/
def Wave.AllArrived (x : Wave) (mask : BitVec 32) (a : Arrival) : Prop :=
  ∀ k < 32, if mask.getLsbD k then (x.lanes.getD k Lane.blank).ended = false ∧ (x.lanes.getD k Lane.blank).isHelper = false ∧
      (x.lanes.getD k Lane.blank).arrival = some a
    else (x.lanes.getD k Lane.blank).ended = true

theorem mem_arrived_all {x : Wave} {mask : BitVec 32} {a : Arrival} (all : x.AllArrived mask a) {k : Nat} {b : Arrival} :
    (k, b) ∈ x.arrived ↔ mask.getLsbD k = true ∧ b = a := by
  rw [mem_arrived]
  constructor
  · rintro ⟨below, running, arrival⟩
    have lane := all k below
    split at lane
    case isTrue bit =>
      obtain ⟨-, -, own⟩ := lane
      exact ⟨bit, Option.some.inj (arrival.symm.trans own)⟩
    case isFalse =>
      rw [running] at lane
      cases lane
  · rintro ⟨bit, rfl⟩
    have below := BitVec.lt_of_getLsbD bit
    have lane := all k below
    rw [if_pos bit] at lane
    obtain ⟨running, -, arrival⟩ := lane
    exact ⟨below, running, arrival⟩

theorem passes_all {x : Wave} {mask : BitVec 32} {a : Arrival} (all : x.AllArrived mask a) : x.passes a = true := by
  have counted : ∀ k ∈ x.counted, (k, a) ∈ x.arrived := by
    intro k hk
    obtain ⟨below, counts⟩ := List.mem_filter.1 hk
    have lane := all k (List.mem_range.1 below)
    split at lane
    case isTrue bit => exact (mem_arrived_all all).2 ⟨bit, rfl⟩
    case isFalse => simp_all
  unfold Wave.passes
  dsimp only
  split
  · exact List.all_eq_true.2 fun k hk => List.any_eq_true.2 ⟨(k, a), counted k hk, by simp⟩
  · next m same =>
    exact List.all_eq_true.2 fun k hk => List.any_eq_true.2 ⟨(k, a), counted k (List.mem_of_mem_filter hk), by simp [same]⟩

/-- All lanes that count pass together. -/
theorem syncPass_all {s : State} {t w : Nat} {mask : BitVec 32} {a : Arrival} (all : (s.wave t w).AllArrived mask a)
    (some : mask ≠ 0) : s.syncPass t w = s.passWord t w a.clause a.idx mask := by
  have go : ((s.wave t w).arrived.filter fun x => (s.wave t w).passes x.2) = (s.wave t w).arrived :=
    List.filter_eq_self.2 fun x hx => by
      obtain ⟨-, same⟩ := (mem_arrived_all all).1 hx
      rw [same]
      exact passes_all all
  have inhabited : (s.wave t w).arrived ≠ [] := by
    intro none_
    refine some (BitVec.eq_of_getLsbD_eq fun k _ => ?_)
    by_contra bit
    have here := (mem_arrived_all all).2 ⟨(by simpa using bit : mask.getLsbD k = true), rfl⟩
    rw [none_] at here
    cases here
  have words : (((s.wave t w).arrived.map fun x => (x.2.clause, x.2.idx)).eraseDups) = [(a.clause, a.idx)] := by
    refine eraseDups_const (fun y hy => ?_) (by simpa using inhabited)
    obtain ⟨x, hx, rfl⟩ := List.mem_map.1 hy
    obtain ⟨-, same⟩ := (mem_arrived_all all).1 hx
    rw [same]
  have lanes : maskOf (((s.wave t w).arrived.filter fun x => (x.2.clause, x.2.idx) == (a.clause, a.idx)).map (·.1)) = mask := by
    refine BitVec.eq_of_getLsbD_eq fun k hk => ?_
    rw [getLsbD_maskOf, Bool.eq_iff_iff]
    simp only [decide_eq_true hk, Bool.true_and, List.contains_iff_mem, List.mem_map, List.mem_filter]
    constructor
    · rintro ⟨x, ⟨hx, -⟩, rfl⟩
      exact ((mem_arrived_all all).1 hx).1
    · intro bit
      exact ⟨(k, a), ⟨(mem_arrived_all all).2 ⟨bit, rfl⟩, beq_self_eq_true _⟩, rfl⟩
  unfold State.syncPass
  simp only [go, words, List.foldl_cons, List.foldl_nil, lanes]

/-! ### A word whose last entry is gone -/

theorem teams_finish_gone {s : State} (quiet : s.Quiet) (gone : s.bundle.members = []) (ls : List Ref) (ws : List Watch) :
    (s.finish ls ws).teams = s.teams := by
  have none_ : (s.modIssue fun b => { b with walks := [], walked := [], told := [], diced := none }).bundle.members = [] := by
    cases issue : s.issue <;> simp_all [State.bundle, State.modIssue, Bundle.blank]
  unfold State.finish
  simp only [debugHits_quiet quiet, none_, List.isEmpty_nil, if_true]
  unfold State.putIssue
  split <;> rfl

theorem bundle_passedAlone {s : State} (gone : s.bundle.members = []) (t w : Nat) (c : DWord) (i : Nat) (x : Entry) :
    (s.passedAlone t w c i x).bundle.members = [] := by
  have lanes : (s.passedLanes t w c i x.mask).issue = s.issue :=
    (issue_foldl (fun s k => s.modLane ⟨t, w, k⟩ (Lane.passed c i)) (fun _ _ => rfl) _ _).trans
      (congrArg Prod.snd (scene_release s t w 1) :)
  have issue : (s.passedAlone t w c i x).issue = s.issue.map fun b => b.without t w x.slot := by
    rw [← lanes]
    rfl
  unfold State.bundle at gone ⊢
  rw [issue]
  cases h : s.issue with
  | none => rfl
  | some b =>
    rw [h] at gone
    have none_ : b.members = [] := gone
    simp [Bundle.without, none_]

/-- What a lane that existed and ran is once it has passed. -/
theorem lane_passedLanes {s : State} {t w i : Nat} {c : DWord} {mask : BitVec 32} {k : Nat} (bit : mask.getLsbD k = true)
    (running : (s.lane ⟨t, w, k⟩).ended = false) :
    { (s.passedLanes t w c i mask).lane ⟨t, w, k⟩ with mon := none } =
      Lane.passed c i { s.lane ⟨t, w, k⟩ with mon := none } := by
  have released := lane_of_scene (scene_release s t w 1) ⟨t, w, k⟩
  have running' : ((s.release t w 1).lane ⟨t, w, k⟩).ended = false := (congrArg Lane.ended released :).trans running
  have named : k ∈ maskLanes mask := mem_maskLanes.2 ⟨BitVec.lt_of_getLsbD bit, bit⟩
  rw [State.passedLanes, lane_foldl_modLane (f := Lane.passed c i) (fun _ => rfl) t w _ (has_of_running running'), if_pos ⟨rfl, rfl, named⟩,
    ← released]
  rfl

/-! ### EXIT of the last lanes that others wait for -/

/-- The lanes of `x` have arrived at one word, and of the others only those of `mask` still run. -/
def State.AwaitsOnly (s : State) (t w : Nat) (mask : BitVec 32) (x : Entry) (a : Arrival) : Prop :=
  ∀ k < 32, if x.mask.getLsbD k then (s.lane ⟨t, w, k⟩).ended = false ∧ (s.lane ⟨t, w, k⟩).isHelper = false ∧
      (s.lane ⟨t, w, k⟩).arrival = some a
    else mask.getLsbD k = true ∨ (s.lane ⟨t, w, k⟩).ended = true

section

variable {s : State} {t w : Nat} {mask : BitVec 32} {x : Entry} {a : Arrival} (awaits : s.AwaitsOnly t w mask x a)
  (apart : mask &&& x.mask = 0)

include awaits

/-- No helper is left idle: the lanes that still run have arrived. -/
theorem idleHelpers_of_awaits : ((s.modWave t w (Wave.markEnded mask)).wave t w).idleHelpers = 0 := by
  refine BitVec.eq_of_getLsbD_eq fun k hk => ?_
  by_contra some
  obtain ⟨running, helper⟩ := helper_of_idle (by simpa using some : _ = true)
  have lane := lane_markEnded s t w mask ⟨t, w, k⟩
  have waits := awaits k hk
  change ((s.modWave t w (Wave.markEnded mask)).lane ⟨t, w, k⟩).ended = false at running
  change ((s.modWave t w (Wave.markEnded mask)).lane ⟨t, w, k⟩).isHelper = true at helper
  by_cases bit : mask.getLsbD k = true
  · rw [lane, if_pos ⟨rfl, rfl, bit⟩] at running
    cases running
  · rw [if_neg fun h => bit h.2.2] at lane
    rw [lane] at running helper
    split at waits
    case isTrue =>
      obtain ⟨-, own, -⟩ := waits
      rw [own] at helper
      cases helper
    case isFalse =>
      have ended := waits.resolve_left bit
      rw [running] at ended
      cases ended

include apart

/-- A lane of `x` is as it was but for what moves among entries may change. -/
theorem gist_endLanes_of_awaits {k : Nat} (bit : x.mask.getLsbD k = true) :
    ((s.endLanes t w mask).lane ⟨t, w, k⟩).gist = (s.lane ⟨t, w, k⟩).gist := by
  rw [gist_lane_of_gists (gists_endLanes ..)]
  obtain same | ⟨⟨-, -, named⟩ | helper, -⟩ := lane_endMarks s t w mask ⟨t, w, k⟩
  · rw [same]
  · rw [outside_of_apart apart bit] at named
    cases named
  · have waits := awaits k (BitVec.lt_of_getLsbD bit)
    rw [if_pos bit] at waits
    obtain ⟨-, own, -⟩ := waits
    rw [own] at helper
    cases helper

theorem allArrived_endLanes : ((s.endLanes t w mask).wave t w).AllArrived x.mask a := by
  intro k hk
  have waits := awaits k hk
  split
  case isTrue bit =>
    rw [if_pos bit] at waits
    obtain ⟨running, own, arrival⟩ := waits
    have same := gist_endLanes_of_awaits awaits apart bit
    exact ⟨(ended_of_gist same).trans running, (isHelper_of_gist same).trans own, (arrival_of_gist same).trans arrival⟩
  case isFalse bit =>
    rw [if_neg bit] at waits
    have ended : ((s.endMarks t w mask).lane ⟨t, w, k⟩).ended = true :=
      ended_endMarks (waits.imp (fun named => ⟨rfl, rfl, named⟩) id)
    exact (ended_of_gist (gist_lane_of_gists (gists_endLanes s t w mask) ⟨t, w, k⟩)).trans ended

end

theorem exitMask_all {s : State} {m : Member} (active : s.active = memberRefs m) : exitMask s.active m = m.mask := by
  refine BitVec.eq_of_getLsbD_eq fun k hk => ?_
  rw [Bool.eq_iff_iff, getLsbD_exitMask, active]
  refine ⟨fun h => h.2, fun bit => ⟨List.mem_map.2 ⟨k, mem_maskLanes.2 ⟨hk, bit⟩, rfl⟩, bit⟩⟩

/-- EXIT of the entry `e`, for which the lanes of the wave's other entry wait. -/
theorem execExit_last {s : State} {m : Member} {e x : Entry} {a : Arrival} (ready : s.Ready) (members : s.bundle.members = [m])
    (some : m.mask ≠ 0) (active : s.active = memberRefs m) (entries : (s.wave m.team m.wave).entries = [e, x]) (named : e.mask = m.mask)
    (settled : e.defer = 0) (slots : x.slot ≠ e.slot) (flight : x.flight = none) (settled' : x.defer = 0) (lanes : x.mask ≠ 0)
    (apart : m.mask &&& x.mask = 0) (awaits : s.AwaitsOnly m.team m.wave m.mask x a) :
    ∃ u : State, exec .exit s = .next ((u.finish [] []).endTurn s.active) ∧ u.Quiet ∧ u.bundle.members = [] ∧
      (∃ y : Entry, (u.wave m.team m.wave).entries = [y] ∧ y.mask = x.mask ∧ y.flight = none ∧ y.clause = clauseAfter a.clause a.idx ∧
        y.idx = 0) ∧
      ∀ k, x.mask.getLsbD k = true → (u.lane ⟨m.team, m.wave, k⟩).gist =
        { (s.lane ⟨m.team, m.wave, k⟩).gist with arrival := none } := by
  let v := s.modTeam m.team fun t => { t with retc := min (t.retc + 1) 0xFFFFFFFF }
  have wave : ∀ i j, v.wave i j = s.wave i j := wave_modTeam s m.team _ fun _ => rfl
  have lane : ∀ r, v.lane r = s.lane r := lane_modTeam s m.team _ fun _ => rfl
  have awaits' : v.AwaitsOnly m.team m.wave m.mask x a := fun k hk => by simpa only [lane] using awaits k hk
  obtain ⟨alone, cut⟩ := endLanes_of_two ((congrArg Wave.entries (wave ..)).trans entries) named settled slots flight settled' lanes
    apart (idleHelpers_of_awaits awaits')
  have all := allArrived_endLanes awaits' apart
  have quiet : (v.endLanes m.team m.wave m.mask).Quiet := by
    have quiet' : v.Quiet := ready.toQuiet.of_still (still_modTeam _ _ _ fun _ => rfl)
    exact (quiet'.of_calm (calm_endMarks ..)).of_still (still_endLanes ..)
  have gone : (v.endLanes m.team m.wave m.mask).bundle.members = [] := by
    have lanes : m.mask &&& ~~~m.mask = 0 := BitVec.and_not_self _
    unfold State.bundle at members ⊢
    rw [cut]
    cases issue : v.issue with
    | none => rfl
    | some b =>
      have same : s.issue = Option.some b := issue
      rw [same] at members
      have own : b.members = [m] := members
      simp [Bundle.cut, own, lanes]
  refine ⟨(v.endLanes m.team m.wave m.mask).passedAlone m.team m.wave a.clause a.idx x, ?_, quiet_passedAlone quiet ..,
    bundle_passedAlone gone .., ⟨_, entries_passedAlone alone, rfl, rfl, rfl, rfl⟩, fun k bit => ?_⟩
  · rw [execExit_eq ready, members, List.foldl_cons, List.foldl_nil, State.exitMember, exitMask_all active,
      ← passWord_alone alone quiet settled' lanes, ← syncPass_all all lanes]
    have whole : (m.mask == m.mask) = true := beq_self_eq_true _
    have part : (m.mask == 0) = false := by simpa using some
    simp only [whole, part]
    rfl
  · have before := gist_endLanes_of_awaits awaits' apart bit
    have running : ((v.endLanes m.team m.wave m.mask).lane ⟨m.team, m.wave, k⟩).ended = false := by
      have waits := all k (BitVec.lt_of_getLsbD bit)
      rw [if_pos bit] at waits
      exact waits.1
    rw [lane_passedAlone]
    have passed := congrArg Lane.gist (lane_passedLanes (c := a.clause) (i := a.idx) (mask := x.mask) bit running)
    exact passed.trans (congrArg (fun l : Lane => { l with arrival := none }) (before.trans (congrArg Lane.gist (lane _))))

/-- Settles O26: where nobody waits for them, lanes end and nothing else happens to a lane; of two entries, the one that ends leaves
the other alone in its wave, whose lanes have then all arrived and pass. -/
theorem exitEndsLanes : Obligations.ExitEndsLanes := by
  refine ⟨fun s ready unwaited => execExit_unwaited ready unwaited, ?_⟩
  intro s m e x c i mask ready members some active entries slot named settled slots flight settled' lanes apart awaits
  obtain ⟨u, word, quiet, gone, ⟨y, table, mask', flight', clause, idx⟩, gist⟩ :=
    execExit_last ready members some active entries named settled slots flight settled' lanes apart awaits
  have teams : ((u.finish [] []).endTurn s.active).teams = u.teams := (frame_endTurn ..).1.trans (teams_finish_gone quiet gone ..)
  refine ⟨_, word, fun k bit => ?_⟩
  have waits := awaits k (BitVec.lt_of_getLsbD bit)
  dsimp only at waits
  rw [if_pos bit] at waits
  obtain ⟨running, -, -⟩ := waits
  have same := gist k bit
  dsimp only
  rw [lane_of_teams teams, wave_of_teams teams]
  exact ⟨(congrArg Lane.ended same :).trans running, (congrArg Lane.arrival same :), (congrArg Lane.g same :), (congrArg Lane.p same :),
    y, by rw [table]; exact List.mem_singleton.2 rfl, by rw [mask', bit], flight', clause, idx⟩

end Sys2Proof.Machine

/-! Picks, claims, steals, time slices, the commit token and the ends of teams (R131, R184 to R188, R194 to R198, R445, R461 to
R463). -/

namespace Sys2Proof.Machine

/-! ### Ends of teams (R131, R445) -/

theorem opsOver_eq_true {s : State} {tid : Nat} : s.opsOver tid = true ↔ s.opsOf tid = [] ∧ s.pairHeld tid = false := by
  simp [State.opsOver]

theorem opsOver_eq_false {s : State} {tid : Nat} : s.opsOver tid = false ↔ s.opsOf tid ≠ [] ∨ s.pairHeld tid = true := by
  rw [Bool.eq_false_iff, Ne, opsOver_eq_true, not_and_or, Bool.not_eq_false]

/-- A team that ends now: resident, not fatal, without a lane that runs and without an operation that needs it. -/
def State.Finished (s : State) (tid : Nat) : Prop :=
  (s.team tid).place = .resident ∧ (s.team tid).fatal = none ∧ (s.team tid).lanesEnded = true ∧
    s.opsOf tid = [] ∧ s.pairHeld tid = false

/-- The guard of TEAM_END. -/
theorem unfinished_eq_false {s : State} {tid : Nat} : ((s.team tid).place != .resident || (s.team tid).fatal.isSome ||
    !(s.team tid).lanesEnded || !s.opsOver tid) = false ↔ s.Finished tid := by
  simp [State.opsOver, State.Finished, and_assoc]

theorem execTeamEnd_unfinished {s : State} (h : ¬s.Finished s.args.a) : execTeamEnd s = .next s :=
  congrArg Host.Outcome.next (if_pos (Bool.eq_true_of_not_eq_false fun stays => h (unfinished_eq_false.1 stays)))

theorem execTeamEnd_finished {s : State} (h : s.Finished s.args.a) : execTeamEnd s = .next (
    let t := s.team s.args.a
    match t.lastRecord with
    | some f => s.endFatal s.args.a f
    | none => (((s.modDie t.die fun d => d.noteEnd t.grid (s.hub.gtime.toNat - t.placedAt)).freeTeam s.args.a).settlePreq
        t.die).completeGrid t.grid) :=
  congrArg Host.Outcome.next (if_neg (Bool.eq_false_iff.1 (unfinished_eq_false.2 h)))

theorem execTeamFatalEnd_idle {s : State} (h : (s.team s.args.a).fatal = none ∨ (s.team s.args.a).place = .ended) :
    execTeamFatalEnd s = .next s := by
  refine congrArg Host.Outcome.next ?_
  dsimp only
  split
  · rfl
  · next f fatal =>
    obtain none_ | ended := h
    · cases fatal.symm.trans none_
    · exact if_pos (beq_iff_eq.2 ended)

theorem execTeamFatalEnd_fatal {s : State} {f : Fatal} (fatal : (s.team s.args.a).fatal = some f)
    (here : (s.team s.args.a).place ≠ .ended) : execTeamFatalEnd s = .next (
      let u := s.dropParked s.args.a
      let t := u.team s.args.a
      if u.opsOver s.args.a then ((((((u.reportPending s.args.a).postFatal s.args.a f).modGrid t.grid fun g =>
        { g with fatals := g.fatals + 1 }).freeTeam s.args.a).settlePreq t.die).completeGrid t.grid) else u) := by
  refine congrArg Host.Outcome.next ?_
  dsimp only
  rw [fatal]
  refine (if_neg (mt beq_iff_eq.1 here)).trans ?_
  cases (s.dropParked s.args.a).opsOver s.args.a <;> rfl

/-! ### Steals (R195) -/

theorem execRangeSteal_idle {s : State} (h : s.stealHost = true ∨ s.rangeOut s.args.a s.args.b = false) :
    execRangeSteal s = .next s :=
  congrArg Host.Outcome.next (if_pos (by simpa using h))

/-- The dies that a die steals from, in order. -/
theorem execRangeSteal_out {s : State} (host : s.stealHost = false) (out : s.rangeOut s.args.a s.args.b = true) :
    execRangeSteal s = .next (
      match (List.range 7).findSome? fun j => s.stealFrom s.args.a ((s.args.a + 1 + j) % 8) s.args.b with
      | some u => u
      | none => (s.modGrid s.args.b fun g => { g with exhausted := s.args.a :: g.exhausted }).completeGrid s.args.b) := by
  refine congrArg Host.Outcome.next ((if_neg (by simp [host, out])).trans ?_)
  rw [List.findSome?_map]
  rfl

theorem findSome?_range_eq {α : Type} {f : Nat → Option α} {n j : Nat} {x : α} (below : j < n) (none_ : ∀ i < j, f i = none)
    (found : f j = some x) : (List.range n).findSome? f = some x := by
  obtain ⟨m, rfl⟩ : ∃ m, n = j + (m + 1) := ⟨n - j - 1, by omega⟩
  have before : (List.range j).findSome? f = none := List.findSome?_eq_none_iff.2 fun i hi => none_ i (List.mem_range.1 hi)
  rw [List.range_add, List.findSome?_append, before, List.range_succ_eq_map, List.map_cons, Nat.add_zero,
    List.findSome?_cons_of_isSome (by rw [found]; rfl), Option.none_or, found]

theorem stealFrom_uncharged {s : State} {d v k : Nat} {r : Range} (last : (s.die v).lastRange k = some r)
    (spare : 2 ≤ (r.stop - r.next) / (if (s.grids.getD k Grid.blank).cl2 then 2 else 1))
    (dcnt : (s.grids.getD k Grid.blank).dcnt = 0) :
    let u := if (s.grids.getD k Grid.blank).cl2 then 2 else 1
    let cut := r.stop - u * ((r.stop - r.next) / u / 2)
    s.stealFrom d v k = some ((s.modDie v fun x => x.putRange r { r with stop := cut }).modDie d fun x =>
      { x with ranges := x.ranges ++ [⟨k, cut, r.stop⟩] }) := by
  unfold State.stealFrom
  simp only [last]
  rw [if_neg (Nat.not_lt.2 spare), if_pos dcnt]

/-! ### Time slices (R198) -/

/-- Every team of a grid on a die has been blocked for a quantum, and none is leaving. -/
def State.BlockedOn (s : State) (d k : Nat) : Prop :=
  ∀ t ∈ s.teamsOn d k, (s.team t).blocked = true ∧ (s.team t).leaving = .no ∧
    ∃ x, (s.team t).blockedSince = some x ∧ (s.die d).quantum ≤ s.hub.gtime.toNat - x

/-- A team of a grid waits in a die's queue, or the die may hand out a new index of it. -/
def State.WaitingOn (s : State) (d k : Nat) : Prop :=
  (∃ t ∈ (s.die d).queue, (s.team t).grid = k) ∨ (s.nextRun d k).isSome = true

/-- A team has been blocked for a quantum of its die. -/
def State.blockedLong (s : State) (d t : Nat) : Bool :=
  match (s.team t).blockedSince with
  | some x => (s.team t).blocked && decide ((s.die d).quantum ≤ s.hub.gtime.toNat - x)
  | none => false

theorem blockedLong_eq_true {s : State} {d t : Nat} : s.blockedLong d t = true ↔
    (s.team t).blocked = true ∧ ∃ x, (s.team t).blockedSince = some x ∧ (s.die d).quantum ≤ s.hub.gtime.toNat - x := by
  unfold State.blockedLong
  split
  · next x since => simp [since]
  · next since => simp [since]

theorem blockedOn_iff {s : State} {d k : Nat} : s.BlockedOn d k ↔
    (s.teamsOn d k).all (s.blockedLong d) = true ∧ ((s.teamsOn d k).all fun t => (s.team t).leaving == .no) = true := by
  simp only [State.BlockedOn, List.all_eq_true, blockedLong_eq_true, beq_iff_eq]
  exact ⟨fun h => ⟨fun t ht => ⟨(h t ht).1, (h t ht).2.2⟩, fun t ht => (h t ht).2.1⟩,
    fun h t ht => ⟨(h.1 t ht).1, h.2 t ht, (h.1 t ht).2⟩⟩

theorem waitingOn_iff {s : State} {d k : Nat} : s.WaitingOn d k ↔
    ((s.die d).queue.any (fun t => (s.team t).grid == k) || (s.nextRun d k).isSome) = true := by
  simp [State.WaitingOn]

/-- The teams of a grid on a die are to be saved, and the die's waiting ones of it are no longer passed over. -/
def State.sliced (s : State) (d k : Nat) : State :=
  (s.teamsOn d k).foldl (fun u t => (u.modTeam t fun x => { x with sliced := true }).askSave t 0)
    ((s.die d).queue.foldl (fun u t => if (u.team t).grid == k then u.modTeam t fun x => { x with sliced := false } else u) s)

theorem execTimeSlice_eq (s : State) : execTimeSlice s = .next (
    let d := s.args.a
    let k := s.args.b
    let g := s.grids.getD k Grid.blank
    let ts := s.teamsOn d k
    if ts.isEmpty || g.firmware || !ts.all (s.blockedLong d) ||
      !((s.die d).queue.any (fun t => (s.team t).grid == k) || (s.nextRun d k).isSome) || !s.hasSaveSlot d g ||
      !(ts.all fun t => (s.team t).leaving == .no) then s else s.sliced d k) := rfl

theorem execTimeSlice_slices {s : State} (some_ : s.teamsOn s.args.a s.args.b ≠ [])
    (firmware : (s.grids.getD s.args.b Grid.blank).firmware = false) (blocked : s.BlockedOn s.args.a s.args.b)
    (waiting : s.WaitingOn s.args.a s.args.b) (slot : s.hasSaveSlot s.args.a (s.grids.getD s.args.b Grid.blank) = true) :
    execTimeSlice s = .next (s.sliced s.args.a s.args.b) := by
  obtain ⟨long, staying⟩ := blockedOn_iff.1 blocked
  rw [execTimeSlice_eq]
  dsimp only
  rw [if_neg]
  rw [firmware, long, staying, waitingOn_iff.1 waiting, slot, List.isEmpty_eq_false_iff.2 some_]
  decide

theorem execTimeSlice_stays {s : State} (h : s.teamsOn s.args.a s.args.b = [] ∨ ¬s.BlockedOn s.args.a s.args.b ∨
    ¬s.WaitingOn s.args.a s.args.b) : execTimeSlice s = .next s := by
  rw [execTimeSlice_eq]
  dsimp only
  rw [if_pos]
  rw [blockedOn_iff, waitingOn_iff, not_and_or, Bool.not_eq_true, Bool.not_eq_true, Bool.not_eq_true] at h
  obtain none_ | (short | leaving) | idle := h
  · simp [none_]
  · simp [short]
  · simp [leaving]
  · simp [idle]

/-! ### Claims (R194) -/

theorem eqFlush_nil {s : State} (h : s.hub.eqWait = []) : s.eqFlush = .next s := by
  rw [State.eqFlush, h]
  rfl

theorem execTeamClaim_eq (s : State) : execTeamClaim s =
    ((((List.range s.grids.length).findSome? fun k =>
      if (s.claimGrid s.args.a s.args.b k).teams == s.teams then none else some (s.claimGrid s.args.a s.args.b k)).getD s
        |>.postExhausted s.args.a).completeGrids).eqFlush := rfl

theorem execTeamClaim_places {s : State} {k : Nat} (below : k < s.grids.length)
    (before : ∀ j < k, (s.claimGrid s.args.a s.args.b j).teams = s.teams) (places : (s.claimGrid s.args.a s.args.b k).teams ≠ s.teams)
    (flushed : (((s.claimGrid s.args.a s.args.b k).postExhausted s.args.a).completeGrids).hub.eqWait = []) :
    execTeamClaim s = .next (((s.claimGrid s.args.a s.args.b k).postExhausted s.args.a).completeGrids) := by
  rw [execTeamClaim_eq, findSome?_range_eq (f := fun k => if (s.claimGrid s.args.a s.args.b k).teams == s.teams then none
    else some (s.claimGrid s.args.a s.args.b k)) below (fun j hj => if_pos (beq_iff_eq.2 (before j hj)))
    (if_neg (mt beq_iff_eq.1 places))]
  exact eqFlush_nil flushed

theorem execTeamClaim_none {s : State} (none_ : ∀ k < s.grids.length, (s.claimGrid s.args.a s.args.b k).teams = s.teams)
    (flushed : ((s.postExhausted s.args.a).completeGrids).hub.eqWait = []) :
    execTeamClaim s = .next ((s.postExhausted s.args.a).completeGrids) := by
  rw [execTeamClaim_eq, List.findSome?_eq_none_iff.2 fun k hk => if_pos (beq_iff_eq.2 (none_ k (List.mem_range.1 hk)))]
  exact eqFlush_nil flushed

/-! ### The commit token (R461 to R463) -/

/-- A team's grid and index. -/
def Team.index (t : Team) : Nat × Nat := (t.grid, t.t)

theorem unstored_index : Unstored Team.index := ⟨fun _ _ => rfl, fun _ _ _ => rfl, fun _ _ _ => rfl⟩

theorem teamAt_of_index {s u : State} (same : u.teams.map Team.index = s.teams.map Team.index) (k t : Nat) :
    u.teamAt k t = s.teamAt k t := by
  have unfolded : ∀ s : State, s.teamAt k t = (List.range (s.teams.map Team.index).length).find? fun x =>
      ((s.teams.map Team.index).getD x Team.blank.index).1 == k && ((s.teams.map Team.index).getD x Team.blank.index).2 == t :=
    fun s => by
      have index : ∀ x, (s.teams.map Team.index).getD x Team.blank.index = (s.team x).index := fun x => List.getD_map ..
      simp only [List.length_map, index]
      rfl
  rw [unfolded u, same, ← unfolded s]

/-- The token goes to a lane, and its team acquires. -/
def State.passToken (s : State) (k : Nat) (next : Nat × Nat × Nat) (x : Nat) : State :=
  (s.modGrid k fun g => { g with token := some next, tokenOps := 0 }).acquire x 5

theorem execCommitTokenPass_stays {s : State} (h : (s.grids.getD s.args.a Grid.blank).det = false ∨ s.turnOver s.args.a = false) :
    execCommitTokenPass s = .next s := by
  refine congrArg Host.Outcome.next (if_pos ?_)
  obtain det | turn := h
  · rw [det]
    rfl
  · rw [turn]
    exact Bool.or_true _

section
variable {s : State} {next : Nat × Nat × Nat} {x : Nat} (det : (s.grids.getD s.args.a Grid.blank).det = true)
  (running : (s.grids.getD s.args.a Grid.blank).phase = .running)
include det running

theorem execCommitTokenPass_first (holder : s.nextHolder s.args.a = some next) (here : s.teamAt s.args.a next.1 = some x)
    (token : (s.grids.getD s.args.a Grid.blank).token = none) :
    execCommitTokenPass s = .next (s.passToken s.args.a next x) := by
  have turn : s.turnOver s.args.a = true := by
    unfold State.turnOver
    simp only [token]
  have at_ : (s.modGrid s.args.a fun g => { g with token := some next, tokenOps := 0 }).teamAt s.args.a next.1 = some x := here
  unfold execCommitTokenPass
  simp only [det, running, turn, token, holder, at_, Option.bind_none]
  rfl

variable {h : Nat × Nat × Nat} {y : Nat} (token : (s.grids.getD s.args.a Grid.blank).token = some h)
  (turn : s.turnOver s.args.a = true) (old : s.teamAt s.args.a h.1 = some y)
include token turn old

theorem execCommitTokenPass_busy (busy : ∃ o ∈ s.ops, o.engineOf ⟨y, h.2.1, h.2.2⟩ = true) : execCommitTokenPass s = .next s := by
  have any : (s.ops.any fun o => o.engineOf ⟨y, h.2.1, h.2.2⟩) = true := List.any_eq_true.2 busy
  unfold execCommitTokenPass
  simp only [det, running, turn, token, old, Option.bind_some, Option.map_some, any]
  rfl

theorem execCommitTokenPass_next (holder : s.nextHolder s.args.a = some next) (here : s.teamAt s.args.a next.1 = some x)
    (rests : ∀ o ∈ s.ops, o.engineOf ⟨y, h.2.1, h.2.2⟩ = false) (alive : (s.team y).place ≠ .ended)
    (lint : ((s.release y h.2.1 5).passToken s.args.a next x).lintOn x = false) :
    execCommitTokenPass s = .next ((s.release y h.2.1 5).passToken s.args.a next x) := by
  have any : (s.ops.any fun o => o.engineOf ⟨y, h.2.1, h.2.2⟩) = false :=
    List.any_eq_false.2 fun o ho => Bool.eq_false_iff.1 (rests o ho)
  have at_ : ((s.release y h.2.1 5).modGrid s.args.a fun g => { g with token := some next, tokenOps := 0 }).teamAt s.args.a
      next.1 = some x :=
    (teamAt_of_index (s := s) (congrArg Prod.fst (seen_release unstored_index s y h.2.1 5) :) _ _).trans here
  have placed : ((s.team y).place == Place.ended) = false := beq_eq_false_iff_ne.2 alive
  unfold State.passToken at lint
  unfold execCommitTokenPass
  simp only [det, running, turn, token, old, Option.bind_some, Option.map_some, any, holder, placed, Bool.false_eq_true, if_false,
    at_, lint]
  rfl
end


/-! ### Picks: the order of the candidates and the bundle's members (R185) -/

/-- Candidates in the order of their waves' ages, the oldest first. -/
def oldestFirst (now : BitVec 32) : List Cand → Prop :=
  List.Pairwise fun a b => (now - b.wstamp).toNat ≤ (now - a.wstamp).toNat

theorem age_of_before {now : BitVec 32} {a b : Cand} (h : a.before now b = true) :
    (now - b.wstamp).toNat ≤ (now - a.wstamp).toNat := by
  unfold Cand.before at h
  dsimp only at h
  split at h
  · exact Nat.le_of_lt (of_decide_eq_true h)
  · next same => exact Nat.le_of_eq (not_not.1 same).symm

theorem age_of_not_before {now : BitVec 32} {a b : Cand} (h : ¬a.before now b = true) :
    (now - a.wstamp).toNat ≤ (now - b.wstamp).toNat := by
  unfold Cand.before at h
  dsimp only at h
  split at h
  · exact Nat.le_of_not_lt fun older => h (decide_eq_true older)
  · next same => exact Nat.le_of_eq (not_not.1 same)

theorem mem_insertCand {now : BitVec 32} {c x : Cand} {l : List Cand} : x ∈ insertCand now c l ↔ x = c ∨ x ∈ l := by
  induction l with
  | nil => simp [insertCand]
  | cons y l ih =>
    unfold insertCand
    split
    · exact List.mem_cons
    · simp only [List.mem_cons, ih, or_left_comm]

theorem oldestFirst_insertCand {now : BitVec 32} (c : Cand) {l : List Cand} (sorted : oldestFirst now l) :
    oldestFirst now (insertCand now c l) := by
  induction l with
  | nil => exact List.pairwise_singleton _ c
  | cons y l ih =>
    obtain ⟨first, rest⟩ := List.pairwise_cons.1 sorted
    unfold insertCand
    split
    · next before =>
      have oldest := age_of_before before
      refine List.pairwise_cons.2 ⟨fun x hx => ?_, sorted⟩
      obtain rfl | later := List.mem_cons.1 hx
      · exact oldest
      · exact (first x later).trans oldest
    · next after =>
      refine List.pairwise_cons.2 ⟨fun x hx => ?_, ih rest⟩
      obtain rfl | later := mem_insertCand.1 hx
      · exact age_of_not_before after
      · exact first x later

theorem oldestFirst_sorted (now : BitVec 32) (l : List Cand) : oldestFirst now (l.foldr (insertCand now) []) := by
  induction l with
  | nil => exact List.Pairwise.nil
  | cons c l ih => exact oldestFirst_insertCand c ih

theorem joinGo_ne_nil (seed : Cand) {got : List Cand} (some_ : got ≠ []) (l : List Cand) : joinGo seed got l ≠ [] := by
  induction l generalizing got with
  | nil => exact some_
  | cons c l ih =>
    unfold joinGo
    dsimp only
    split
    · exact ih (List.append_ne_nil_of_left_ne_nil some_ _)
    · exact ih some_

/-! ### Picks: the words of a fetch (R188) -/

theorem dieRead_noteTarget (s : State) (die : Nat) (p : Target) (n : Nat) : DieRead s (s.noteTarget die p n) := by
  unfold State.noteTarget
  split
  · exact dieRead_hubAnswers _ _ _
  · exact dieRead_takeIn _ _
  · exact .refl s

theorem dieRead_noteBytes (s : State) (tid : Nat) (a : DWord) (n need : Nat) : DieRead s (s.noteBytes tid a n need) := by
  refine .foldl (fun s p => ?_) _ s
  have walked := dieRead_noteAccess s tid (BitVec.ofNat 64 p.1) p.2 need
  dsimp only
  split
  · exact walked.trans (dieRead_noteTarget _ _ _ _)
  · exact walked

section
variable {s t : State} (h : DieRead s t)
include h

theorem DieRead.bundles_eq : t.bundles = s.bundles := (congrArg State.bundles h.rest :)
theorem DieRead.nextBundle_eq : t.nextBundle = s.nextBundle := (congrArg State.nextBundle h.rest :)

theorem DieRead.gridOf_eq (k : Nat) : t.gridOf k = s.gridOf k := by
  have grids : t.grids = s.grids := (congrArg State.grids h.rest :)
  rw [State.gridOf, State.team, h.teams_eq, grids, State.gridOf, State.team]
end

theorem fetchKnown_cons {s : State} {tid : Nat} {a w : DWord} (word : s.fetchWord tid a = .ok w) (n : Nat) :
    s.fetchKnown tid a (n + 1) = w :: s.fetchKnown tid (a + 8) n := by
  have next : ∀ k, a + BitVec.ofNat 64 (8 * (k + 1)) = a + 8 + BitVec.ofNat 64 (8 * k) := fun k => by
    rw [Nat.mul_succ, Nat.add_comm, BitVec.ofNat_add, BitVec.add_assoc]
    rfl
  unfold State.fetchKnown
  rw [List.range_succ_eq_map, List.map_cons, List.map_map]
  simp only [Function.comp_def, Nat.succ_eq_add_one, next, Nat.mul_zero, BitVec.add_zero, word]

theorem fetchKnown_of_ok {s : State} {tid : Nat} {a : DWord} {n : Nat} {ws : List DWord} (all : s.fetchWords tid a n = .ok ws) :
    s.fetchKnown tid a n = ws := by
  induction n generalizing a ws with
  | zero =>
    cases all
    rfl
  | succ n ih =>
    unfold State.fetchWords at all
    split at all
    · cases all
    · next w word =>
      split at all
      · next rest words =>
        cases all
        rw [fetchKnown_cons word, ih words]
      · cases all

/-! ### Picks: the bundle that starts (R28, R185) -/

theorem deliverable_unasked {s : State} {m : Member} {lanes act : List Ref} {ecc : EccRec → Bool} (unasked : ∀ e, ecc e = false) :
    s.deliverable m lanes act ecc false false = [] := by
  unfold State.deliverable
  rw [filterMap_const_none]
  · cases (act.filter fun r => !(s.lane r).isHelper).head? <;> simp
  · intro r _
    split
    · exact if_neg (Bool.eq_false_iff.1 (unasked _))
    · rfl

/-- A header that waits for no counter. -/
def waitsForNone (hdr : DWord) : Prop := ∀ k < 7, waitField hdr k = 15

theorem headerFaults_none {s : State} {hdr : DWord} (free : waitsForNone hdr) : s.headerFaults hdr = (s, []) := by
  refine deliverEach_none _ fun m _ => ?_
  rw [free 3 (by decide), free 1 (by decide)]
  refine deliverable_unasked fun e => List.any_eq_false.2 fun k hk => ?_
  rw [free k (List.mem_range.1 hk)]
  exact Bool.false_ne_true

theorem putIssue_last {s : State} {b c : Bundle} {bs : List Bundle} (issue : s.issue = some c) (bundles : s.bundles = bs ++ [b])
    (id : b.id = c.id) (members : c.members ≠ []) (fresh : ∀ x ∈ bs, x.id ≠ c.id) :
    s.putIssue = { s with issue := none, bundles := bs ++ [c] } := by
  have kept : (bs.map fun x => if x.id == c.id then c else x) = bs :=
    (List.map_congr_left fun x hx => if_neg (mt beq_iff_eq.1 (fresh x hx))).trans (List.map_id' bs)
  unfold State.putIssue
  simp only [issue, bundles, List.map_append, kept, List.map_cons, List.map_nil, id, BEq.rfl, if_true,
    List.isEmpty_eq_false_iff.2 members, Bool.false_eq_true, if_false]

theorem startBundle_free {s : State} {b : Bundle} {hdr : DWord} (free : waitsForNone hdr) (members : b.members ≠ [])
    (fresh : ∀ x ∈ s.bundles, x.id ≠ b.id) (bad : Option (Cause × Nat)) : s.startBundle b hdr bad false =
      { s with nextBundle := s.nextBundle + 1, issue := none, bundles := s.bundles ++ [{ b with bad, told := [] }] } := by
  unfold State.startBundle
  dsimp only
  rw [if_pos (free 2 (by decide)), headerFaults_none free, faultLanes_nil]
  exact putIssue_last (b := b) (c := { b with bad, told := [] }) rfl rfl rfl members fresh

/-- The state of a pick once its entries are taken and their binds have settled. -/
def State.taken (s : State) (die core part : Nat) (cs : List Cand) : State :=
  cs.foldl (fun u c => u.settleBinds c.team)
    ((cs.foldl (fun u c => u.takeCand s.nextBundle (s.pickAt die core part) c) s).modDie die fun d => d.nextPick core part)

theorem pickBundle_free {s : State} {seed : Cand} {die core part : Nat} {cs : List Cand} {hdr : DWord} {ws : List DWord}
    (some_ : cs ≠ []) (header : (s.taken die core part cs).fetchWord seed.team seed.e.clause = .ok hdr) (free : waitsForNone hdr)
    (words : (s.taken die core part cs).fetchWords seed.team (seed.e.clause + 8) (hdr.toNat % 16 + 1) = .ok ws)
    (sound : clauseCause hdr ws seed.e.idx = none) (fresh : ∀ b ∈ (s.taken die core part cs).bundles, b.id ≠ s.nextBundle) :
    let u := s.taken die core part cs
    let g := u.gridOf seed.team
    s.pickBundle seed die core part cs =
      { u.noteBytes seed.team seed.e.clause (8 * (hdr.toNat % 16 + 1) + 8) needX with
        nextBundle := u.nextBundle + 1, issue := none, bundles := u.bundles ++ [{ Bundle.blank with
          id := s.nextBundle, die, core, part, clause := seed.e.clause, idx := seed.e.idx, n := hdr.toNat % 16 + 1, words := ws,
          yh := hdr.getLsbD 36, bad := wordCause g.regs g.acct ws seed.e.idx,
          members := cs.map fun c => ⟨c.team, c.wave, c.e.slot, c.e.mask⟩ }] } := by
  intro u g
  have low : bitsOf hdr.toNat 0 4 = hdr.toNat % 16 := by
    rw [bitsOf, Nat.pow_zero, Nat.div_one]
    rfl
  have noted := dieRead_noteBytes u seed.team seed.e.clause (8 * (hdr.toNat % 16 + 1) + 8) needX
  unfold State.pickBundle
  dsimp only
  rw [← State.taken]
  simp only [header, low, fetchKnown_of_ok words, words, sound]
  rw [startBundle_free free (fun none_ => some_ (List.map_eq_nil_iff.1 none_)) (noted.bundles_eq ▸ fresh), noted.bundles_eq,
    noted.nextBundle_eq, noted.gridOf_eq]
  rfl

/-- The state in which PICK judges readiness: entries that may go on have, and those that have met are fused (R181, R184). -/
def State.gathered (s : State) : State :=
  (s.partWaves s.args.a s.args.b s.args.c).foldl (fun u x => (u.wakeWave x.1 x.2).fuse x.1 x.2) s

/-- The ready entries of a partition in the order in which a pick walks them (R185). -/
def State.pickOrder (s : State) (die core part : Nat) : List Cand :=
  (s.cands die core part).foldr (insertCand (s.pickAt die core part)) []

section
variable {s : State}

theorem execPick_full (h : 4 ≤ s.gathered.bundlesOn s.args.a s.args.b s.args.c) : execPick s = .next s.gathered :=
  congrArg Host.Outcome.next (if_pos h)

theorem execPick_none (room : s.gathered.bundlesOn s.args.a s.args.b s.args.c < 4)
    (walk : s.gathered.pickOrder s.args.a s.args.b s.args.c = []) : execPick s = .next s.gathered := by
  refine congrArg Host.Outcome.next ((if_neg (Nat.not_le.2 room)).trans ?_)
  unfold State.pickOrder State.gathered at walk
  dsimp only
  rw [walk]
  rfl

theorem execPick_seed {seed : Cand} {rest : List Cand} (room : s.gathered.bundlesOn s.args.a s.args.b s.args.c < 4)
    (walk : s.gathered.pickOrder s.args.a s.args.b s.args.c = seed :: rest) :
    execPick s = .next (s.gathered.pickBundle seed s.args.a s.args.b s.args.c (joinGo seed [seed] rest)) := by
  refine congrArg Host.Outcome.next ((if_neg (Nat.not_le.2 room)).trans ?_)
  unfold State.pickOrder State.gathered at walk
  dsimp only
  rw [walk]
  rfl
end

/-! ### The obligation -/

/-- Settles O56, word by word: the order of PICK's walk keeps the oldest wave in front, a header without waits delivers no deferred
cause, and the release of the token's old holder leaves every team's grid and index, so that the new one is still found. -/
theorem dispatchEvents : Obligations.DispatchEvents := by
  refine ⟨fun s => ⟨execPick_full, execPick_none, ?_⟩, fun s => ?_, fun s => ?_, fun s => ?_, fun s => ?_, fun s => ?_⟩
  case refine_1 =>
    intro seed rest room walk
    refine ⟨?_, ?_⟩
    · have sorted := oldestFirst_sorted (s.gathered.pickAt s.args.a s.args.b s.args.c) (s.gathered.cands s.args.a s.args.b s.args.c)
      exact (List.pairwise_cons.1 ((congrArg (oldestFirst _) walk).mp sorted)).1
    · intro cs u hdr ws header free words sound fresh g
      exact (execPick_seed room walk).trans (congrArg Host.Outcome.next
        (pickBundle_free (joinGo_ne_nil seed (List.cons_ne_nil seed []) rest) header free words sound fresh))
  case refine_2 =>
    exact ⟨fun k below before places => execTeamClaim_places below (fun j hj => not_not.1 (before j hj)) places,
      fun none_ => execTeamClaim_none fun k hk => not_not.1 (none_ k hk)⟩
  case refine_3 =>
    intro d k g u
    refine ⟨execRangeSteal_idle, fun host out => ⟨fun none_ => ?_, fun j r below before last spare dcnt => ?_⟩⟩
    · refine (execRangeSteal_out host out).trans ?_
      rw [List.findSome?_eq_none_iff.2 fun j hj => none_ j (List.mem_range.1 hj)]
    · refine (execRangeSteal_out host out).trans ?_
      rw [findSome?_range_eq below before (stealFrom_uncharged last spare dcnt)]
  case refine_4 =>
    exact ⟨execTimeSlice_slices, execTimeSlice_stays⟩
  case refine_5 =>
    refine ⟨execCommitTokenPass_stays, fun next x det running holder here =>
      ⟨execCommitTokenPass_first det running holder here, fun h y token turn old =>
        ⟨execCommitTokenPass_busy det running token turn old, execCommitTokenPass_next det running token turn old holder here⟩⟩⟩
  case refine_6 =>
    refine ⟨execTeamEnd_unfinished, fun finished record => ?_, fun f finished record => ?_, execTeamFatalEnd_idle,
      fun f fatal here => ⟨fun waits => ?_, fun none_ free => ?_⟩⟩
    · refine (execTeamEnd_finished finished).trans ?_
      dsimp only
      rw [record]
    · refine (execTeamEnd_finished finished).trans ?_
      dsimp only
      rw [record]
    · exact (execTeamFatalEnd_fatal fatal here).trans
        (congrArg Host.Outcome.next (if_neg (Bool.eq_false_iff.1 (opsOver_eq_false.2 waits))))
    · exact (execTeamFatalEnd_fatal fatal here).trans (congrArg Host.Outcome.next (if_pos (opsOver_eq_true.2 ⟨none_, free⟩)))

end Sys2Proof.Machine

/-! Words on sign bits (R150, R153): the absolute value, the negation and the copied sign of a pattern are masks of it, which a
register of two packed values applies to both halves. -/

namespace Sys2Proof.Machine

/-! ### The sign bit of a pattern of any width -/

section SignBit

variable {w : Nat} (v : BitVec w)

theorem getLsbD_last_eq_msb {k : Nat} (last : k + 1 = w) : v.getLsbD k = v.msb := by
  rw [BitVec.msb_eq_getLsbD_last, show w - 1 = k by omega]

theorem and_intMin_eq : v &&& BitVec.intMin w = if v.msb then BitVec.intMin w else 0 := by
  refine BitVec.eq_of_getLsbD_eq fun k hk => ?_
  rw [BitVec.getLsbD_and, BitVec.getLsbD_intMin]
  by_cases last : k + 1 = w
  · rw [getLsbD_last_eq_msb v last]
    cases v.msb <;> simp [last, BitVec.getLsbD_intMin]
  · cases v.msb <;> simp [last, BitVec.getLsbD_intMin]

theorem and_intMax_or_not_msb : v &&& BitVec.intMax w ||| (if !v.msb then BitVec.intMin w else 0) = v ^^^ BitVec.intMin w := by
  refine BitVec.eq_of_getLsbD_eq fun k hk => ?_
  rw [BitVec.getLsbD_or, BitVec.getLsbD_and, BitVec.getLsbD_xor, BitVec.getLsbD_intMin, BitVec.getLsbD_intMax]
  by_cases last : k + 1 = w
  · rw [getLsbD_last_eq_msb v last]
    cases v.msb <;> simp [last, BitVec.getLsbD_intMin]
  · have below : k + 1 < w := by omega
    cases v.msb <;> simp [last, below, BitVec.getLsbD_intMin]

end SignBit

/-! ### binary32 -/

theorem setSign_false (a : Word) : setSign a false = a &&& 0x7FFFFFFF := BitVec.or_zero

theorem setSign_not (a : Word) : setSign a (!a.getLsbD 31) = a ^^^ 0x80000000 := by
  rw [getLsbD_last_eq_msb a rfl]
  exact and_intMax_or_not_msb a

theorem setSign_copy (a b : Word) : setSign a (b.getLsbD 31) = a &&& 0x7FFFFFFF ||| b &&& 0x80000000 := by
  rw [getLsbD_last_eq_msb b rfl]
  exact congrArg _ (and_intMin_eq b).symm

/-! ### Packed values -/

/-- Element `k` of a packed register. -/
abbrev halfOf (a : Word) (k : Nat) : BitVec 16 := a.extractLsb' (16 * k) 16

theorem halfSign_eq (a : Word) (k : Nat) (neg : Bool) :
    halfSign a k neg = ((halfOf a k &&& BitVec.intMax 16 ||| (if neg then BitVec.intMin 16 else 0)).toNat, 0) := by
  have low : (halfOf a k &&& BitVec.intMax 16).toNat = elem 16 a k % 2 ^ 15 := by
    rw [BitVec.toNat_and, BitVec.toNat_intMax, Nat.and_two_pow_sub_one_eq_mod, elem_eq_extract]
  cases neg with
  | false => simp [halfSign, low]
  | true =>
    rw [BitVec.toNat_or, low, Nat.or_comm]
    exact congrArg (·, 0) ((Nat.add_comm ..).trans (Nat.two_pow_add_eq_or_of_lt (Nat.mod_lt _ (Nat.two_pow_pos 15)) 1))

theorem decide_elem_ge (a : Word) (k : Nat) : decide (32768 ≤ elem 16 a k) = (halfOf a k).msb := by
  rw [elem_eq_extract, BitVec.msb_eq_decide]

theorem halfSign_false (a : Word) (k : Nat) : halfSign a k false = ((halfOf a k &&& BitVec.intMax 16).toNat, 0) := by
  simp [halfSign_eq]

theorem halfSign_not (a : Word) (k : Nat) :
    halfSign a k (elem 16 a k < 32768) = ((halfOf a k ^^^ BitVec.intMin 16).toNat, 0) := by
  have sign : decide (elem 16 a k < 32768) = !(halfOf a k).msb := by
    rw [← decide_elem_ge, ← decide_not]
    exact decide_eq_decide.2 Nat.not_le.symm
  rw [sign, halfSign_eq, and_intMax_or_not_msb]

theorem halfSign_copy (a b : Word) (k : Nat) : halfSign a k (32768 ≤ elem 16 b k) =
    ((halfOf a k &&& BitVec.intMax 16 ||| halfOf b k &&& BitVec.intMin 16).toNat, 0) := by
  rw [decide_elem_ge, halfSign_eq, and_intMin_eq]

/-- Elements without flags are a register of two halves. -/
theorem effEach_halves (rd : BitVec 8) (f : Nat → BitVec 16) : effEach rd (fun k => ((f k).toNat, 0)) = effReg rd (f 1 ++ f 0) := by
  simp [effEach, effHalves, effReg, packElems_halves]

theorem halfOf_append (a : Word) : halfOf a 1 ++ halfOf a 0 = a :=
  (BitVec.extractLsb'_append_extractLsb'_eq_extractLsb' rfl).trans BitVec.extractLsb'_eq_self

theorem and_halves (a : Word) (m : BitVec 16) : (halfOf a 1 &&& m) ++ (halfOf a 0 &&& m) = a &&& (m ++ m) := by
  rw [← BitVec.and_append, halfOf_append]

theorem xor_halves (a : Word) (m : BitVec 16) : (halfOf a 1 ^^^ m) ++ (halfOf a 0 ^^^ m) = a ^^^ (m ++ m) := by
  rw [← BitVec.xor_append, halfOf_append]

theorem effEach_halfSign_false (rd : BitVec 8) (a : Word) :
    effEach rd (fun k => halfSign a k false) = effReg rd (a &&& 0x7FFF7FFF) := by
  simp only [halfSign_false]
  exact (effEach_halves rd _).trans (congrArg (effReg rd) (and_halves a (BitVec.intMax 16)))

theorem effEach_halfSign_not (rd : BitVec 8) (a : Word) :
    effEach rd (fun k => halfSign a k (elem 16 a k < 32768)) = effReg rd (a ^^^ 0x80008000) := by
  simp only [halfSign_not]
  exact (effEach_halves rd _).trans (congrArg (effReg rd) (xor_halves a (BitVec.intMin 16)))

theorem effEach_halfSign_copy (rd : BitVec 8) (a b : Word) :
    effEach rd (fun k => halfSign a k (32768 ≤ elem 16 b k)) = effReg rd (a &&& 0x7FFF7FFF ||| b &&& 0x80008000) := by
  simp only [halfSign_copy]
  rw [effEach_halves, ← BitVec.or_append, and_halves, and_halves]
  rfl

end Sys2Proof.Machine

/-! The words on binary32 and packed 16-bit values and the conversions (R146 to R165): each is a form of class ALU around the
model's rounding. -/

namespace Sys2Proof.Machine

/-! ### Forms of class ALU that read more of a lane than its operands -/

section Forms

variable {i : Instr} {s : State} {o : F3}

/-- A word whose meaning `W` is a word of class ALU with the effect `e` in the state at issue, such as one that draws. -/
theorem ends_effect (h : s.Ready) (W : State → Out) {srcs : List (BitVec 8)} {f : State → Ref → Eff} {e : Ref → Eff}
    (word : exec i s = W s) (form : W s = aluWord s srcs f) (effect : f s = e) : Ends i s (s.gives srcs e) :=
  effect ▸ ends_aluWord h (word.trans form)

theorem ends_f32Word2 (h : s.Ready) (f : Nat → FV → FV → Exact) (word : exec i s = f32Word2 s o f) :
    Ends i s (s.gives [o.ra, o.rb] fun r =>
      effRound o.rd (modeOf o.rc) o.x (s.lane r).gen
        (f (modeOf o.rc) (f32Val (s.src r .f32 o.ra o.ea).toNat) (f32Val (s.src r .f32 o.rb o.eb).toNat))) :=
  ends_of_form word (aluWord_ends h _ _)

theorem ends_f16Word2 (h : s.Ready) (f : Nat → FV → FV → Exact) (word : exec i s = f16Word2 s o f) :
    Ends i s (s.gives [o.ra, o.rb] fun r =>
      effHalves o.rd (isSR (modeOf o.rc)) (s.lane r).gen fun g k =>
        rounded (fmt16 o.x) (modeOf o.rc) false g (f (modeOf o.rc) (halfVal (fmt16 o.x) (s.src r (f16 o.x) o.ra o.ea) k)
          (halfVal (fmt16 o.x) (s.src r (f16 o.x) o.rb o.eb) k))) :=
  ends_of_form word (aluWord_ends h _ _)

end Forms

/-- Settles O5: the rounded words are forms of class ALU around the exact result, FSCALE.sat of an infinity among them (log 80);
the words on sign bits are masks of the register. -/
theorem float32Words : Obligations.Float32Words := by
  intro s h o i
  simp only [← setSign_not, ← setSign_copy]
  simp only [← setSign_false]
  exact ⟨ends_f32Word2 h (fun m a b => addE m a b) rfl, ends_aluI h rfl,
    ends_f32Word2 h (fun m a b => addE m a b.negate) rfl, ends_aluI h rfl,
    ends_f32Word2 h (fun _ a b => mulE a b) rfl, ends_aluI h rfl,
    ends_alu3 h rfl, ends_alu3 h rfl, ends_alu2 h rfl, ends_aluI h rfl, ends_alu2 h rfl, ends_aluI h rfl,
    ends_alu1 h rfl, ends_alu1 h rfl, ends_alu2 h rfl, ends_aluI h rfl,
    ends_f32Word2 h (fun _ a b => divE a b) rfl, ends_aluI h rfl,
    ends_effect h (execFsqrt o) rfl rfl rfl, ends_effect h (execFrnd o) rfl rfl rfl, ends_alu1 h rfl,
    ends_effect h (execFscale o) rfl rfl rfl, ends_aluI h rfl, ends_alu3 h rfl, ends_alu1 h rfl⟩

/-- Settles O6: as O5, the sign bits of both elements being masked at once. The flags of HDOT2 are the model's (log 103). -/
theorem float16Words : Obligations.Float16Words := by
  intro s h o i
  simp only [← effEach_halfSign_false, ← effEach_halfSign_not, ← effEach_halfSign_copy]
  exact ⟨ends_f16Word2 h (fun m a b => addE m a b) rfl, ends_aluI h rfl,
    ends_f16Word2 h (fun m a b => addE m a b.negate) rfl, ends_aluI h rfl,
    ends_f16Word2 h (fun _ a b => mulE a b) rfl, ends_aluI h rfl,
    ends_alu3 h rfl, ends_alu3 h rfl, ends_alu2 h rfl, ends_aluI h rfl, ends_alu2 h rfl, ends_aluI h rfl,
    ends_alu1 h rfl, ends_alu1 h rfl, ends_alu2 h rfl, ends_aluI h rfl, ends_alu3 h rfl,
    ends_effect h (execHrnd o) rfl rfl rfl, ends_effect h (execHscale o) rfl rfl rfl, ends_aluI h rfl, ends_alu3 h rfl⟩

/-- Settles O7: each word is a form of class ALU around the model's conversion, F8F of an inline constant among them
(log 18). -/
theorem conversionWords : Obligations.ConversionWords := by
  intro s h o
  exact ⟨ends_effect h (execF2f o) rfl rfl rfl, ends_effect h (execF2i o) rfl rfl rfl, ends_effect h (execI2f o) rfl rfl rfl,
    ends_effect h (execF2f8 o) rfl rfl rfl, ends_alu1 h rfl, ends_alu1 h rfl, ends_alu2 h rfl,
    ends_effect h (execQnt8 o) rfl rfl rfl, ends_alu2 h rfl, ends_alu2 h rfl, ends_alu1 h rfl, ends_alu1 h rfl,
    ends_alu1 h rfl, ends_alu1 h rfl, ends_alu1 h rfl, ends_alu1 h rfl,
    ends_alu1 h rfl, ends_alu1 h rfl, ends_alu1 h rfl,
    ends_effect h (execFilt o) rfl rfl rfl, ends_alu3 h rfl, ends_alu2 h rfl, ends_effect h execSrgen rfl rfl rfl⟩

end Sys2Proof.Machine

/-! A wake of MWAIT whose final read has to come after an ACCST of the same lane. -/

namespace Sys2Proof.Machine

/-- A monitor on byte 0 of a team's scratchpad. -/
def byteZeroMonitor : Monitor := { addr := 0xFFFFFE0000000000, seen := 0, tgt := .spad 0 0, n := 4, woken := false }

/-- MWAIT.32.device g4, [g2], the example of R290. -/
def mwaitExample : FM := { rd := 4, base := 2, off := 0, sz := 2, cc := 0, scope := 5, sx := false }

/-- The encoding that R290 gives for it. -/
def mwaitExampleWord : DWord := 0x6041A0804000008A

/-- The entry of lane 0, parked at that word. -/
def mwaitEntry : Entry :=
  { slot := 0, stamp := 0, runs := 0, clause := 0x1000, idx := 0, depth := 0, path := 0, park := 2,
    why := .monitor mwaitExampleWord, yh := false, defer := 0, mask := 1, flight := none }

/-- An ACCST of lane 0 that has still to write the 16 bytes of the watched sector. -/
def watchedTileStore : Op :=
  { id := 0, team := 0, wave := 0, ctr := .mx, clause := 0x1000, idx := 0, seq := 1, done := false, counts := true,
    writes := false, regs := [], preds := [], eccs := [],
    body := .mangle ⟨0, 15, .store 0 false, [(0xFFFFFE0000000000, .spad 0 0, 16)]⟩ }

/-- The only lane of a wave is parked in MWAIT, its pair g2 pointing to byte 0 of its scratchpad, where its ACCST has still to
write. -/
def mwaitBehindTileStore : State :=
  { State.reset with
    grids := [placedGrid], ops := [watchedTileStore],
    teams := [{ placedTeam with waves := [{ Wave.blank with
      w := List.replicate 64 0, entries := [mwaitEntry],
      lanes := [{ placedLane with g := placedLane.g.set 3 0xFFFFFE00, mon := some byteZeroMonitor }] }] }] }

/-- The monitor of that lane in a next state. -/
def monitorIn : Out → Option Monitor
  | .next t => (t.lane ⟨0, 0, 0⟩).mon
  | _ => none

theorem mwaitBehindTileStore_quiet : mwaitBehindTileStore.Quiet where
  debug := by decide +kernel
  step := by decide +kernel
  bind := by decide +kernel

/-- The accesses of one lane keep program order (R45, R254, R273): the final read must not pass the ACCST, so the woken word waits
and its lane keeps the monitor. -/
theorem mwaitBehindTileStore_wake :
    monitorIn (exec .mwaitWake mwaitBehindTileStore) = some { byteZeroMonitor with woken := true } := by decide +kernel

/-- Refutes O40: its last clause has the woken lane finish its read at once, and excludes no ACCST of the lane that has still to
write the bytes read; behind one the word waits. -/
theorem not_monitorWaits : ¬ Obligations.MonitorWaits := by
  rintro ⟨-, wake⟩
  obtain ⟨-, -, -, -, final⟩ := wake mwaitBehindTileStore mwaitEntry
  obtain ⟨t, run, freed, -⟩ := final ⟨0, 0, 0⟩ mwaitExampleWord mwaitExample byteZeroMonitor 0 0 mwaitBehindTileStore_quiet
    rfl rfl rfl rfl rfl rfl rfl rfl rfl (by decide) (by decide +kernel) rfl rfl (by decide +kernel) (by decide +kernel) rfl
    (by decide +kernel) (by decide +kernel) (by decide +kernel) (by decide +kernel) (by decide +kernel) (by decide +kernel)
    (by decide) (by decide +kernel) (by decide +kernel) (by decide +kernel) (by decide +kernel)
  have kept := mwaitBehindTileStore_wake
  rw [run, monitorIn, freed] at kept
  cases kept

end Sys2Proof.Machine

/-! Exchanges between the lanes of an entry, votes, reductions and scans (R201 to R210): each word acts for each entry of its
bundle, with one effect for each active lane. -/

namespace Sys2Proof.Machine

/-! ### Words that act for each entry (R201) -/

/-- A word whose meaning `W` acts for each entry has the effect `g` on its active lanes. -/
theorem ends_entryWord {i : Instr} {s : State} (h : s.Ready) (W : State → Out) {srcs : List (BitVec 8)}
    {f : State → List Ref → List (Ref × Eff)} {g : List Ref → Ref → Eff} (word : exec i s = W s) (form : W s = entryWord s srcs f)
    (effect : ∀ act, f s act = act.map fun r => (r, g act r)) : Ends i s (s.givesEach srcs g) :=
  ends_of_form (word.trans form) (entryWord_ends h srcs f g effect)

/-! ### Exchanges (R202, R205, R206) -/

theorem quadLane_of_lt (r : Ref) {k : Nat} (h : k < 4) : quadLane r k = r.lane / 4 * 4 + k := by
  rw [quadLane, Nat.mod_eq_of_lt h]

theorem execQddx_eq (o : F3) (s : State) : execQddx o s =
    quadDeriv s o (fun q => if o.rc.getLsbD 0 then 1 else q ||| 1) (fun q => if o.rc.getLsbD 0 then 0 else q &&& 2) := by
  unfold execQddx
  split <;> simp [*]

theorem execQddy_eq (o : F3) (s : State) : execQddy o s =
    quadDeriv s o (fun q => if o.rc.getLsbD 0 then 2 else q ||| 2) (fun q => if o.rc.getLsbD 0 then 0 else q &&& 1) := by
  unfold execQddy
  split <;> simp [*]

/-- What a lane of WSHFL reads, mode by mode: a lane of its segment, or its own value (R206). -/
theorem read_shflLane {α : Type} (mode c lane b : Nat) (read : Nat → α) (own : α) :
    (match shflLane mode c lane b with
      | some k => read k
      | none => own) =
    let seg := 32 / 2 ^ c
    let base := lane - lane % seg
    match mode with
    | 0 => read (base + b % seg)
    | 1 => if b ≤ lane - base then read (lane - b) else own
    | 2 => if b < base + seg - lane then read (lane + b) else own
    | _ => read (base + (lane % seg ^^^ b % seg)) := by
  match mode with
  | 0 => rfl
  | 1 => by_cases inside : b ≤ lane - (lane - lane % (32 / 2 ^ c)) <;> simp [shflLane, inside]
  | 2 => by_cases inside : b < lane - lane % (32 / 2 ^ c) + 32 / 2 ^ c - lane <;> simp [shflLane, inside]
  | _ + 3 => rfl

/-! ### Votes (R207) -/

theorem voteRes_map {α : Type} (mode : Nat) (p : α → Bool) (qs : List α) :
    voteRes mode (qs.map p) = match mode with
      | 0 => qs.any p
      | 1 => qs.all p
      | _ => qs.all p || qs.all fun q => !p q := by
  match mode with
  | 0 => simp [voteRes]
  | 1 => simp [voteRes]
  | _ + 2 => simp [voteRes, Function.comp_def]

theorem maskOf_map_lane (qs : List Ref) :
    maskOf (qs.map (·.lane)) = qs.foldl (fun (m : BitVec 32) q => m ||| (1 <<< q.lane)) 0 :=
  List.foldl_map ..

/-- WMATCH compares words, zero-extended, as it compares pairs (R207). -/
theorem beq_setWidth_64 (a b : Word) : (a.setWidth 64 == b.setWidth 64) = (a == b) := by
  rw [Bool.eq_iff_iff, beq_iff_eq, beq_iff_eq]
  refine ⟨fun same => ?_, fun same => same ▸ rfl⟩
  have low := congrArg (BitVec.setWidth 32) same
  simpa using low

/-- Settles O11: each word acts for each entry, and its effect reads the lanes that the rule names. -/
theorem exchangeWords : Obligations.ExchangeWords := by
  refine ⟨fun s h o => ?exchanges, fun s h o => ?votes⟩
  case exchanges =>
    extract_lets a quad difference crs
    have inQuad : ∀ r : Ref, r.lane % 4 < 4 := fun r => Nat.mod_lt _ (by decide)
    have reads : ∀ (t : ETy) act (me : Ref) {k : Nat}, k < 4 →
        quad t act me k = fromLane act (fun q => s.src q t o.ra o.ea) me (quadLane me k) := fun t act me k below => by
      rw [quadLane_of_lt me below]
      rfl
    have derives : ∀ (i : Instr) (W : State → Out) (hi lo : Nat → Nat), (∀ q < 4, hi q < 4 ∧ lo q < 4) → exec i s = W s →
        W s = quadDeriv s o hi lo → Ends i s (difference hi lo) := fun i W hi lo below word form => by
      refine ends_entryWord h W word form fun act => List.map_congr_left fun r _ => ?_
      obtain ⟨high, low⟩ := below _ (inQuad r)
      rw [reads _ _ _ high, reads _ _ _ low]
    refine ⟨fun code => ?qswap, ?qddx, ?qddy, ?qbcast, ?wshfl⟩
    case qswap =>
      refine ends_entryWord h (execQswap o) rfl rfl fun act => List.map_congr_left fun r _ => ?_
      rw [reads _ _ _ (Nat.xor_lt_two_pow (n := 2) (inQuad r) (by omega))]
    case qddx =>
      refine derives (.qddx o) (execQddx o) (fun q => if crs then 1 else q ||| 1) (fun q => if crs then 0 else q &&& 2)
        (fun q below => ?_) rfl (execQddx_eq o s)
      cases crs <;> decide +revert
    case qddy =>
      refine derives (.qddy o) (execQddy o) (fun q => if crs then 2 else q ||| 2) (fun q => if crs then 0 else q &&& 1)
        (fun q below => ?_) rfl (execQddy_eq o s)
      cases crs <;> decide +revert
    case qbcast =>
      refine ends_entryWord h (execQbcast o) rfl rfl fun act => List.map_congr_left fun r _ => ?_
      rw [reads _ _ _ (Nat.mod_lt _ (by decide))]
    case wshfl =>
      refine ends_entryWord h (execWshfl o) rfl rfl fun act => List.map_congr_left fun r _ => ?_
      have lane := read_shflLane (o.rc.toNat % 4) (o.rc.toNat / 4) r.lane (s.src r .i32 o.rb o.eb).toNat (a .i32 act r)
        (s.src r .i32 o.ra o.ea)
      exact congrArg (fun v => (r, effReg o.rd v)) lane
  case votes =>
    extract_lets own p mask
    have operand : ∀ q, s.psrc q o.ra = p q := fun q => psrc_eq s q o.ra
    refine ⟨?wvote, ?wballot, ends_entryWord h execElect rfl rfl fun _ => rfl, ?wmatch,
      ends_entryWord h (execWfirst o) rfl rfl fun _ => rfl⟩
    case wvote =>
      refine ends_entryWord h (execWvote o) rfl rfl fun act => List.map_congr_left fun r _ => ?_
      rw [voteRes_map]
      simp only [operand]
      rfl
    case wballot =>
      refine ends_entryWord h (execWballot o) rfl rfl fun act => List.map_congr_left fun r _ => ?_
      rw [maskOf_map_lane]
      simp only [operand]
      rfl
    case wmatch =>
      refine ends_entryWord h (execWmatch o) rfl rfl fun act => List.map_congr_left fun r _ => ?_
      rw [maskOf_map_lane]
      cases o.x with
      | true => rfl
      | false =>
        simp only [Bool.false_eq_true, if_false, beq_setWidth_64]
        rfl

/-! ### Reductions and scans (R208 to R210) -/

/-- Settles O12: each word acts for each entry and combines the values of its contributing lanes. -/
theorem reductionWords : Obligations.ReductionWords := by
  intro s h o own upto op fop v invalid
  have signals : ∀ act, fSigFlags ((s.contribs act).map v) = invalid act := fun act => by
    rw [fSigFlags, List.any_map]
    rfl
  refine ⟨ends_entryWord h (execWred o) rfl rfl fun _ => rfl, ends_entryWord h (execWred64 o) rfl rfl fun _ => rfl,
    ends_entryWord h (execWscan o) rfl rfl fun _ => rfl, ?wredf, ?wscanf⟩
  case wredf =>
    refine ends_entryWord h (execWredf o) rfl rfl fun act => List.map_congr_left fun r _ => ?_
    rw [← signals]
    rfl
  case wscanf =>
    refine ends_entryWord h (execWscanf o) rfl rfl fun act => List.map_congr_left fun r _ => ?_
    rw [← signals, List.map_map]
    rfl

end Sys2Proof.Machine

/-! The split table and the context of a wave, read and written by privileged words (R223, R224, R456). -/

namespace Sys2Proof.Machine

/-! ### Privileged words (R56) -/

theorem privWord_ready {s : State} (ready : s.Ready) (priv : s.issueGrid.priv = true) (f : State → State) :
    privWord s f = .next (f s) := by
  have allowed : s.privFaults = [] := by rw [State.privFaults, if_pos priv]
  rw [privWord, whenIssued_ready ready, allowed]

/-! ### SPLRD, CTXRD and CTXWR (R223, R456) -/

/-- The performing lane is the lowest active lane that is no helper (R203). -/
theorem performer_eq_find? (s : State) (m : Member) :
    s.performer m = (s.activeOf m).find? fun r => !((s.lane r).helper || (s.lane r).bound) :=
  List.head?_filter

@[simp] theorem calm_ctxWrite (s : State) (t w k : Nat) (v : Word) : (s.modWave t w fun x => x.ctxWrite k v).calm = s.calm :=
  calm_modWave _ _ _ _ fun x => by
    unfold Wave.ctxWrite
    split
    · rfl
    · split
      · rfl
      · split <;> rfl

/-- The state in which CTXWR has written its items. -/
def State.ctxWritten (s : State) (o : F3) : State :=
  (s.bundle.members.filterMap fun m => (s.performer m).map fun r => (m, r)).foldl (fun u x =>
    u.modWave x.1.team x.1.wave fun w => w.ctxWrite (s.src x.2 .i32 o.ra o.ea).toNat (s.src x.2 .i32 o.rb o.eb))
    (s.active.foldl (fun u r => (u.latchRead r o.ra.toNat).latchRead r o.rb.toNat) s)

theorem calm_ctxWritten (s : State) (o : F3) : (s.ctxWritten o).calm = s.calm :=
  (calm_foldl _ (fun _ _ => calm_ctxWrite ..) _ _).trans
    (calm_foldl (fun (u : State) r => (u.latchRead r o.ra.toNat).latchRead r o.rb.toNat)
      (fun _ _ => (calm_latchRead ..).trans (calm_latchRead ..)) _ s)

/-- A privileged word whose effects are those of its entries' performing lanes. -/
theorem ends_perEntry {i : Instr} {s : State} {o : F3} {effs : List (Ref × Eff)} (ready : s.Ready)
    (word : exec i s = .next (((s.latched [o.ra]).applyAll effs).finish s.active [])) :
    Ends i s ((s.latched [o.ra]).applyAll effs) :=
  ends_of_finish (ready.of_bare ((bare_applyAll ..).trans (bare_latched ..))) ⟨_, _, word⟩

theorem execSplwr_one {s : State} {o : F3} {m : Member} {r : Ref} {rest : List Ref} (ready : s.Ready)
    (priv : s.issueGrid.priv = true) (members : s.bundle.members = [m]) (lanes : s.activeOf m = r :: rest) :
    exec (.splwr o) s = .next (
      let image := (List.range 8).map fun k => s.rawReg r (o.ra.toNat + k)
      if imageOk image (maskOf ((s.activeOf m).map (·.lane))) (s.bundle.named m.team m.wave) then
        (s.modIssue fun b => { b with images := b.images ++ [(m.team, m.wave, image)] }).finish s.active []
      else (s.faultLanes [{ r, cause := .rsvd }]).finish s.active []) := by
  change execSplwr o s = _
  rw [execSplwr, privWord_ready ready priv]
  simp only [members, List.foldl_cons, List.foldl_nil, lanes, List.head?_cons]
  split
  · rfl
  · rfl

/-- Settles O32: each word is privileged and performed once for an entry, by its lowest contributing lane. -/
theorem contextWords : Obligations.ContextWords := by
  intro s ready priv o lead image lanes
  refine ⟨?splrd, ?ctxrd, ?ctxwr, fun m r rest members active good => ?good, fun m r rest members active bad => ?bad⟩
  case splrd =>
    refine ends_perEntry ready ?_
    change execSplrd o s = _
    rw [execSplrd, privWord_ready ready priv]
    simp only [performer_eq_find?]
    rfl
  case ctxrd =>
    refine ends_perEntry ready ?_
    change execCtxrd o s = _
    rw [execCtxrd, privWord_ready ready priv]
    simp only [performer_eq_find?]
    rfl
  case ctxwr =>
    have found : s.performer = lead := funext (performer_eq_find? s)
    rw [← found]
    refine ends_of_finish (ready.of_calm (calm_ctxWritten s o)) ⟨s.active, [], ?_⟩
    change execCtxwr o s = _
    rw [execCtxwr, privWord_ready ready priv]
    have items : (s.bundle.members.filterMap fun m => (s.performer m).map fun r =>
          (m, (s.src r .i32 o.ra o.ea).toNat, s.src r .i32 o.rb o.eb)) =
        (s.bundle.members.filterMap fun m => (s.performer m).map fun r => (m, r)).map fun x =>
          (x.1, (s.src x.2 .i32 o.ra o.ea).toNat, s.src x.2 .i32 o.rb o.eb) := by
      simp [List.map_filterMap, Function.comp_def]
    simp only [items, List.foldl_map]
  case good =>
    refine ends_of_finish (ready.of_calm ?_) ⟨s.active, [], ?_⟩
    · simp [State.calm]
    · rw [execSplwr_one ready priv members active]
      exact congrArg _ (if_pos good)
  case bad =>
    rw [Gives, execSplwr_one ready priv members active]
    exact congrArg _ (if_neg (by rw [bad]; exact Bool.false_ne_true))

end Sys2Proof.Machine

/-! The grids and the grid of each team, which the upkeep of lanes and split tables keeps, and the issuing bundle under it (R180 to
R183). -/

namespace Sys2Proof.Machine

/-! ### The grid of a team -/

/-- The grids, and the grid of each team. -/
def State.belongs (s : State) : List Grid × List Nat := (s.grids, s.teams.map Team.grid)

theorem gridOf_of_belongs {s u : State} (same : u.belongs = s.belongs) (k : Nat) : u.gridOf k = s.gridOf k := by
  have unfolded : ∀ s : State, s.gridOf k = s.belongs.1.getD (s.belongs.2.getD k 0) Grid.blank := fun s => by
    simp only [State.gridOf, State.belongs, State.team, List.getD_eq_getElem?_getD, List.getElem?_map]
    cases s.teams[k]? <;> rfl
  rw [unfolded u, same, ← unfolded s]

theorem belongs_of_still {s u : State} (same : u.still = s.still) : u.belongs = s.belongs := by
  have unfolded : ∀ s : State, s.belongs = s.still.belongs := fun s => by
    simp [State.belongs, State.still, Team.still, Function.comp_def]
  rw [unfolded u, same, ← unfolded s]

theorem belongs_of_bare {s u : State} (same : u.bare = s.bare) : u.belongs = s.belongs := by
  have unfolded : ∀ s : State, s.belongs = s.bare.belongs := fun s => by
    simp [State.belongs, State.bare, Function.comp_def]
  rw [unfolded u, same, ← unfolded s]

theorem belongs_modTeam (s : State) (k : Nat) (f : Team → Team) (h : ∀ t, (f t).grid = t.grid) :
    (s.modTeam k f).belongs = s.belongs :=
  Prod.ext rfl (map_modTeam Team.grid s k f h)

@[simp] theorem belongs_modWave (s : State) (t w : Nat) (f : Wave → Wave) : (s.modWave t w f).belongs = s.belongs :=
  belongs_modTeam _ _ _ fun _ => rfl

@[simp] theorem belongs_setReg (s : State) (r : Ref) (k : Nat) (v : Word) : (s.setReg r k v).belongs = s.belongs :=
  belongs_of_bare (bare_setReg ..)

/-! ### Lanes that leave their entry (R180, R182, R183) -/

@[simp] theorem still_leave (s : State) (m : Member) (mask : BitVec 32) (c : DWord) (i p : Nat) (y : Why) (same : Bool) :
    (s.leave m mask c i p y same).still = s.still := by
  unfold State.leave
  split
  · rfl
  · extract_lets mask u v
    have moved : u.still = s.still := still_setPcs ..
    split
    · rfl
    · split
      · refine (still_settle ..).trans ?_
        exact (still_modEntry u m.team m.wave m.slot _).trans moved
      · have cut : v.still = u.still := rfl
        split
        · refine (still_addEntry ..).trans ((still_modEntry ..).trans ?_)
          exact cut.trans moved
        · refine (still_modEntry ..).trans ((still_unwait ..).trans ?_)
          exact cut.trans moved

@[simp] theorem issue_setPcs (s : State) (t w : Nat) (m : BitVec 32) (c : DWord) (i : Nat) : (s.setPcs t w m c i).issue = s.issue :=
  issue_foldl (fun s k => s.modLane ⟨t, w, k⟩ fun l => { l with clause := c, idx := i }) (fun _ _ => rfl) _ s

@[simp] theorem issue_unwait (s : State) (t w : Nat) (m : BitVec 32) : (s.unwait t w m).issue = s.issue :=
  issue_foldl (fun s k => s.modLane ⟨t, w, k⟩ Lane.unwait) (fun _ _ => rfl) _ s

@[simp] theorem issue_rotate (s : State) (t w k : Nat) (m : BitVec 32) : (s.rotate t w k m).issue = s.issue := by
  unfold State.rotate
  split
  · rfl
  · dsimp only
    split <;> simp

/-- What a clause boundary does once an entry's deferred lanes have been looked at (R182 steps 3 and 4). -/
theorem issue_turn {s v : State} (same : v.issue = s.issue) (t w k : Nat) (m left : BitVec 32) :
    (match (v.wave t w).entry k with
      | none => v
      | some e =>
        if left != 0 && (e.mask == 0 || e.park != 0 || decide (64 ≤ e.runs)) then v.rotate t w k m
        else if e.mask == 0 && e.defer == 0 then v.modWave t w fun x => x.dropEntry k
        else v).issue = s.issue := by
  split
  · exact same
  · split
    · exact (issue_rotate ..).trans same
    · split
      · exact same
      · exact same

@[simp] theorem issue_settle (s : State) (t w k : Nat) (m : BitVec 32) : (s.settle t w k m).issue = s.issue := by
  unfold State.settle
  split
  case h_1 => rfl
  case h_2 e _ =>
    extract_lets wv same u d
    have joined : u.issue = s.issue := by
      unfold u
      split <;> rfl
    split
    · rfl
    · split
      · split <;> rfl
      · cases (maskLanes d).head? with
        | none => exact issue_turn joined t w k m d
        | some lead =>
          cases u.freeSlot t w with
          | none => exact issue_turn joined t w k m d
          | some free =>
            refine issue_turn ?_ t w k m _
            exact joined

/-- A word that issues still issues when lanes leave entries. -/
theorem issues_leave (s : State) (m : Member) (mask : BitVec 32) (c : DWord) (i p : Nat) (y : Why) (same : Bool) :
    (s.leave m mask c i p y same).issue.isSome = s.issue.isSome := by
  have cut : ∀ (u : State) f, (u.modBundles f).issue.isSome = u.issue.isSome := fun _ _ => Option.isSome_map ..
  unfold State.leave
  split
  · rfl
  · dsimp only
    split
    · rfl
    · split
      · rw [issue_settle, cut]
        exact congrArg Option.isSome (issue_setPcs ..)
      · split
        · exact (cut ..).trans (congrArg Option.isSome (issue_setPcs ..))
        · rw [modEntry_issue, issue_unwait, cut, issue_setPcs]

/-! ### BWAIT's lanes compare again (R216, R220) -/

section
variable {s : State} (quiet : s.Quiet)
include quiet

theorem passBwait_keeps (t w : Nat) (e : Entry) (met : BitVec 32) :
    (s.passBwait t w e met).still = s.still ∧ (s.passBwait t w e met).issue.isSome = s.issue.isSome := by
  unfold State.passBwait
  extract_lets yh marked u v x y
  have lanes : u.still = s.still ∧ u.issue = s.issue :=
    ⟨still_foldl (fun s k => s.modLane ⟨t, w, k⟩ fun l => { l with target := none })
        (fun _ _ => still_modLane _ _ _ fun _ => rfl) _ s,
      issue_foldl (fun s k => s.modLane ⟨t, w, k⟩ fun l => { l with target := none }) (fun _ _ => rfl) _ s⟩
  have table : x.still = s.still ∧ x.issue = s.issue := by
    have retired : v.still = u.still := still_modTeam _ _ _ fun _ => rfl
    unfold x
    split
    · exact ⟨(still_modEntry ..).trans (retired.trans lanes.1), lanes.2⟩
    · exact ⟨retired.trans lanes.1, lanes.2⟩
  have left : y.still = s.still := (still_leave ..).trans table.1
  rw [passHits_quiet (quiet.of_still left)]
  exact ⟨left, (issues_leave ..).trans (congrArg Option.isSome table.2)⟩

theorem recompare_keeps (t b : Nat) :
    (s.recompare t b).still = s.still ∧ (s.recompare t b).issue.isSome = s.issue.isSome := by
  unfold State.recompare
  refine List.foldlRecOn (motive := fun u : State => u.still = s.still ∧ u.issue.isSome = s.issue.isSome) _ _ ⟨rfl, rfl⟩
    fun u kept w _ => ?_
  refine List.foldlRecOn (motive := fun u : State => u.still = s.still ∧ u.issue.isSome = s.issue.isSome) _ _ kept
    fun v kept e _ => ?_
  dsimp only
  split
  · exact kept
  · obtain ⟨still, issues⟩ := passBwait_keeps (quiet.of_still kept.1) t w e (v.metLanes t w b e)
    exact ⟨still.trans kept.1, issues.trans kept.2⟩

end

end Sys2Proof.Machine

/-! Barriers (R215 to R222, R225): arrivals, byte counts and waits of one lane, and the image of a barrier. -/

namespace Sys2Proof.Machine

/-! ### Changes to a barrier -/

theorem modify_congr {α : Type} {l : List α} {i : Nat} {f g : α → α} (same : ∀ a, l[i]? = some a → f a = g a) :
    l.modify i f = l.modify i g := by
  refine List.ext_getElem? fun k => ?_
  simp only [List.getElem?_modify]
  split
  case isTrue h =>
    subst h
    cases found : l[i]? with
    | none => rfl
    | some a => exact congrArg some (same a found)
  case isFalse => rfl

theorem modTeam_congr {s : State} {k : Nat} {f g : Team → Team} (same : f (s.team k) = g (s.team k)) :
    s.modTeam k f = s.modTeam k g := by
  refine congrArg (fun ts => { s with teams := ts }) (modify_congr fun t found => ?_)
  have here : s.team k = t := by rw [State.team, List.getD_eq_getElem?_getD, found]; rfl
  rw [← here, same]

theorem modTeam_modTeam (s : State) (k : Nat) (f g : Team → Team) : (s.modTeam k f).modTeam k g = s.modTeam k fun t => g (f t) :=
  congrArg (fun ts => { s with teams := ts }) (List.modify_modify_eq ..)

theorem modBarrier_congr {s : State} {k b : Nat} {f g : Barrier → Barrier} (same : f (s.barrier k b) = g (s.barrier k b)) :
    s.modBarrier k b f = s.modBarrier k b g := by
  refine modTeam_congr (congrArg (fun bs => { s.team k with bars := bs }) (modify_congr fun x found => ?_))
  have here : s.barrier k b = x := by rw [State.barrier, List.getD_eq_getElem?_getD, found]; rfl
  rw [← here, same]

theorem modBarrier_modBarrier (s : State) (k b : Nat) (f g : Barrier → Barrier) :
    (s.modBarrier k b f).modBarrier k b g = s.modBarrier k b fun x => g (f x) := by
  refine (modTeam_modTeam ..).trans (congrArg (s.modTeam k) (funext fun t => ?_))
  exact congrArg (fun bs => { t with bars := bs }) (List.modify_modify_eq ..)

theorem barrier_modBarrier {s : State} {k b : Nat} (team : k < s.teams.length) (bar : b < (s.team k).bars.length)
    (f : Barrier → Barrier) : (s.modBarrier k b f).barrier k b = f (s.barrier k b) := by
  rw [State.barrier, State.modBarrier, team_modTeam_eq _ _ team]
  exact (getD_modify ..).trans (if_pos ⟨rfl, bar⟩)

@[simp] theorem calm_modBarrier (s : State) (k b : Nat) (f : Barrier → Barrier) : (s.modBarrier k b f).calm = s.calm :=
  calm_modTeam _ _ _ fun _ => ⟨rfl, rfl⟩

/-- The state in which a barrier has come to be `c`, and its phase is over if `c` says so (R216). -/
def State.putBarrier (s : State) (k b : Nat) (c : Barrier) : State :=
  let done := c.expect.toNat ≤ c.arrived.toNat ∧ c.txpend = 0
  let v := s.modBarrier k b fun _ => if done then { c with gen := c.gen + 1, arrived := 0 } else c
  if done then v.recompare k b else v

theorem phase_modBarrier {s : State} {k b : Nat} (team : k < s.teams.length) (bar : b < (s.team k).bars.length)
    {f : Barrier → Barrier} {c : Barrier} (value : f (s.barrier k b) = c) :
    (s.modBarrier k b f).phase k b = s.putBarrier k b c := by
  unfold State.phase State.putBarrier
  simp only [barrier_modBarrier team bar, value]
  split
  · rw [modBarrier_modBarrier, modBarrier_congr (g := fun _ => { c with gen := c.gen + 1, arrived := 0 })
      (by rw [value])]
  · exact modBarrier_congr value

theorem phase_keeps {s : State} (quiet : s.Quiet) (k b : Nat) :
    (s.phase k b).Quiet ∧ (s.phase k b).issue.isSome = s.issue.isSome := by
  unfold State.phase
  dsimp only
  split
  · have changed := quiet.of_calm (calm_modBarrier s k b fun x => { x with gen := x.gen + 1, arrived := 0 })
    obtain ⟨still, issues⟩ := recompare_keeps changed k b
    exact ⟨changed.of_still still, issues⟩
  · exact ⟨quiet, rfl⟩

theorem putBarrier_keeps {s : State} (quiet : s.Quiet) (k b : Nat) (c : Barrier) :
    (s.putBarrier k b c).Quiet ∧ (s.putBarrier k b c).belongs = s.belongs ∧
      (s.putBarrier k b c).issue.isSome = s.issue.isSome := by
  unfold State.putBarrier
  extract_lets done v
  have changed : v.Quiet ∧ v.belongs = s.belongs :=
    ⟨quiet.of_calm (calm_modBarrier ..), belongs_modTeam _ _ _ fun _ => rfl⟩
  split
  · obtain ⟨still, issues⟩ := recompare_keeps changed.1 k b
    exact ⟨changed.1.of_still still, (belongs_of_still still).trans changed.2, issues⟩
  · exact ⟨changed.1, changed.2, rfl⟩

/-! ### A latched operand (R24) -/

/-- A lane but for the high halves that it has latched. -/
def Lane.unlatched (l : Lane) : Lane := { l with latchClock := none, latchGtime := none, latchSeed := none, latchSp := none }

theorem modLane_id (s : State) (r : Ref) : s.modLane r (fun l => l) = s := by
  have lanes : (fun x : Wave => { x with lanes := x.lanes.modify r.lane fun l => l }) = fun x => x :=
    funext fun x => congrArg (fun ls => { x with lanes := ls }) (List.modify_id ..)
  have waves : (fun x : Team => { x with waves := x.waves.modify r.wave fun y => y }) = fun x => x :=
    funext fun x => congrArg (fun ws => { x with waves := ws }) (List.modify_id ..)
  rw [State.modLane, lanes, State.modWave, waves]
  exact congrArg (fun ts => { s with teams := ts }) (List.modify_id ..)

/-- A read of a selector latches a half for its lane, or nothing. -/
theorem latchRead_eq_modLane (s : State) (r : Ref) (n : Nat) :
    ∃ f : Lane → Lane, s.latchRead r n = s.modLane r f ∧ ∀ l, (f l).unlatched = l.unlatched := by
  unfold State.latchRead
  split
  case h_5 => exact ⟨_, (modLane_id s r).symm, fun _ => rfl⟩
  all_goals exact ⟨_, rfl, fun _ => rfl⟩

theorem unlatched_latchRead (s : State) (r : Ref) (n : Nat) (q : Ref) :
    ((s.latchRead r n).lane q).unlatched = (s.lane q).unlatched := by
  obtain ⟨f, latched, same⟩ := latchRead_eq_modLane s r n
  rw [latched, lane_modLane]
  split
  · exact same _
  · rfl

theorem isHelper_latchRead (s : State) (r : Ref) (n : Nat) (q : Ref) : ((s.latchRead r n).lane q).isHelper = (s.lane q).isHelper :=
  (congrArg Lane.isHelper (unlatched_latchRead s r n q) :)

theorem bars_latchRead (s : State) (r : Ref) (n k : Nat) : ((s.latchRead r n).team k).bars = (s.team k).bars := by
  obtain ⟨f, latched, -⟩ := latchRead_eq_modLane s r n
  rw [latched, State.modLane, State.modWave, team_modTeam]
  split <;> rfl

theorem teams_length_latchRead (s : State) (r : Ref) (n : Nat) : (s.latchRead r n).teams.length = s.teams.length := by
  obtain ⟨f, latched, -⟩ := latchRead_eq_modLane s r n
  rw [latched]
  exact List.length_modify ..

/-! ### One lane arrives (R217, R218) -/

theorem laneDesc_one {α : Type} {r : Ref} (below : r.lane < 32) (a : α) : laneDesc [(r, a)] = [(r, a)] := by
  have hit : ∀ l < 32, ((List.range 32).filter fun k => l == 31 - k) = [31 - l] := by decide
  have each : ∀ ks : List Nat, (ks.flatMap fun k => [(r, a)].filter fun x => x.1.lane == 31 - k) =
      (ks.filter fun k => r.lane == 31 - k).map fun _ => (r, a) := fun ks => by
    induction ks with
    | nil => rfl
    | cons k ks ih =>
      rw [List.flatMap_cons, ih]
      cases same : r.lane == 31 - k <;> simp [same]
  rw [laneDesc, each, hit _ below]
  rfl

/-- The hypotheses under which a word issues for one lane, which is no helper, with nothing to release. -/
structure State.Single (s : State) (m : Member) (r : Ref) : Prop where
  ready : s.Ready
  members : s.bundle.members = [m]
  active : s.active = [r]
  own : (s.lane r).isHelper = false
  clear : (s.wave m.team m.wave).rperm = none
  free : (s.gridOf m.team).det = false
  empty : s.NoStores

namespace State.Single

variable {s : State} {m : Member} {r : Ref} (h : s.Single m r)
include h

theorem activeOf : s.activeOf m = [r] := by
  rw [← h.active, State.active, h.members]
  exact (List.append_nil _).symm

theorem ref : r.team = m.team ∧ r.wave = m.wave ∧ m.mask.getLsbD r.lane = true :=
  ref_of_activeOf (by rw [h.activeOf]; exact List.mem_singleton.2 rfl)

theorem has : s.has r ∧ r.lane < 32 := has_of_active (by rw [h.active]; exact List.mem_singleton.2 rfl)

theorem performer : s.performer m = some r := by
  rw [State.performer, State.contribOf, h.activeOf, List.filter_cons_of_pos (by rw [h.own]; rfl)]
  rfl

theorem releaseWord (scope : Nat) : s.releaseWord scope = s := by
  unfold State.releaseWord
  have released : ∀ ws : List (Nat × Nat), ws.foldl (fun s w => s.release w.1 w.2 scope) s = s := fun ws =>
    List.foldlRecOn (motive := fun u : State => u = s) ws _ rfl fun u same w _ => by rw [same, release_noStores h.empty]
  rw [released, deliverRperm_none h.members h.clear]

/-- No turn ends where the grid is not deterministic. -/
theorem endTurn {u : State} (same : u.belongs = s.belongs) : u.endTurn [r] = u := by
  refine endTurn_free fun q hq => ?_
  rw [List.mem_singleton.1 hq, h.ref.1, gridOf_of_belongs same, h.free]

end State.Single

/-- A word that arrives, or counts bytes, for one lane. -/
theorem arriveWord_one {s : State} {m : Member} {r : Ref} (h : s.Single m r) (o : FA) (drop arr bytes : Bool) :
    arriveWord s o drop arr bytes = .next (
      let u := if bytes then s.latchRead r o.rb.toNat else s
      let v := if bytes then u.modBarrier r.team o.bar.toNat fun b => { b with txpend := b.txpend + s.src r .i32 o.rb 0 } else u
      let w := if arr then v.modBarrier r.team o.bar.toNat fun b => b.arrive drop else v
      let x := w.phase r.team o.bar.toNat
      let y := if arr then x.setReg r o.rd.toNat ((w.barrier r.team o.bar.toNat).gen + 1) else x
      if arr then (y.finish [r] []).endTurn [r] else y.finish [r] []) := by
  have own := (isHelper_latchRead s r o.rb.toNat r).trans h.own
  unfold arriveWord
  rw [whenIssued_ready h.ready]
  simp only [tileStores_noStores h.empty, Bool.and_false, Bool.false_eq_true, if_false, h.releaseWord, ite_self, h.active,
    List.map_cons, List.map_nil, List.foldl_cons, List.foldl_nil]
  cases bytes <;> cases arr <;> simp [h.own, own, laneDesc_one h.has.2]

/-- A word of one lane that leaves the state `u` at its end has `u`'s changes and no other; no turn ends with it. -/
theorem State.Single.ends {s : State} {m : Member} {r : Ref} (h : s.Single m r) {i : Instr} {u : State} {ls : List Ref}
    {ws : List Watch} (quiet : u.Quiet) (same : u.belongs = s.belongs) (issues : u.issue.isSome = s.issue.isSome)
    (word : exec i s = .next ((u.finish ls ws).endTurn [r])) : Ends i s u := by
  rw [h.endTurn ((belongs_of_still (still_finish quiet ..)).trans same)] at word
  exact ends_of_finish { quiet with issues := issues.trans h.ready.issues } ⟨_, _, word⟩

/-- What a barrier is once a lane has counted its bytes, if the word counts bytes, and has arrived or dropped, if it arrives. -/
def Barrier.visited (b : Barrier) (drop arr bytes : Bool) (n : Word) : Barrier :=
  let c := if bytes then { b with txpend := b.txpend + n } else b
  if arr then c.arrive drop else c

/-- The state in which a lane has visited a barrier. -/
def State.atBarrier (s : State) (r : Ref) (o : FA) (drop arr bytes : Bool) : State :=
  let b := s.barrier r.team o.bar.toNat
  let u := if bytes then s.latchRead r o.rb.toNat else s
  let x := u.putBarrier r.team o.bar.toNat (b.visited drop arr bytes (s.src r .i32 o.rb 0))
  if arr then x.setReg r o.rd.toNat (b.gen + 1) else x

theorem ends_visit {s : State} {m : Member} {r : Ref} (h : s.Single m r) {i : Instr} {o : FA} {drop arr bytes : Bool}
    (word : exec i s = arriveWord s o drop arr bytes) (counts : (arr || bytes) = true)
    (bar : o.bar.toNat < (s.team r.team).bars.length) : Ends i s (s.atBarrier r o drop arr bytes) := by
  have latched : ∀ (p : Bool), let u := if p then s.latchRead r o.rb.toNat else s
      u.Quiet ∧ u.belongs = s.belongs ∧ u.issue.isSome = s.issue.isSome ∧ r.team < u.teams.length ∧
        (u.team r.team).bars = (s.team r.team).bars := fun p => by
    have bare := bare_latchRead s r o.rb.toNat
    have team := h.has.1.1
    cases p
    · exact ⟨h.ready.toQuiet, rfl, rfl, team, rfl⟩
    · exact ⟨h.ready.toQuiet.of_bare bare, belongs_of_bare bare, congrArg Option.isSome (issue_of_bare bare),
        (teams_length_latchRead ..).symm ▸ team, bars_latchRead ..⟩
  obtain ⟨quiet, belongs, issues, team, bars⟩ := latched bytes
  rw [arriveWord_one h] at word
  extract_lets u v w x y at word
  have same : u.barrier r.team o.bar.toNat = s.barrier r.team o.bar.toNat :=
    congrArg (fun bs : List Barrier => bs.getD o.bar.toNat (Barrier.init 0)) bars
  have changed : w = u.modBarrier r.team o.bar.toNat fun b => b.visited drop arr bytes (s.src r .i32 o.rb 0) := by
    unfold w v Barrier.visited
    cases bytes <;> cases arr
    · cases counts
    · rfl
    · rfl
    · exact modBarrier_modBarrier ..
  have value : w.barrier r.team o.bar.toNat =
      (s.barrier r.team o.bar.toNat).visited drop arr bytes (s.src r .i32 o.rb 0) := by
    rw [changed, barrier_modBarrier team (bars.symm ▸ bar), same]
  have gen : (w.barrier r.team o.bar.toNat).gen = (s.barrier r.team o.bar.toNat).gen := by
    rw [value]
    cases bytes <;> cases arr <;> cases drop <;> rfl
  have phase : x = u.putBarrier r.team o.bar.toNat
      ((s.barrier r.team o.bar.toNat).visited drop arr bytes (s.src r .i32 o.rb 0)) := by
    unfold x
    rw [changed]
    exact phase_modBarrier team (bars.symm ▸ bar) (by rw [same])
  obtain ⟨quiet', belongs', issues'⟩ := putBarrier_keeps quiet r.team o.bar.toNat
    ((s.barrier r.team o.bar.toNat).visited drop arr bytes (s.src r .i32 o.rb 0))
  have left : y = s.atBarrier r o drop arr bytes := by
    unfold y State.atBarrier
    rw [phase, gen]
  have kept : y.Quiet ∧ y.belongs = s.belongs ∧ y.issue.isSome = s.issue.isSome := by
    unfold y
    rw [phase]
    split
    · exact ⟨quiet'.of_calm (calm_setReg ..), (belongs_setReg ..).trans (belongs'.trans belongs),
        (congrArg (·.2.2) (calm_setReg ..) :).trans (issues'.trans issues)⟩
    · exact ⟨quiet', belongs'.trans belongs, issues'.trans issues⟩
  obtain ⟨quiet'', belongs'', issues''⟩ := kept
  rw [← left]
  refine h.ends (ls := [r]) (ws := []) quiet'' belongs'' issues'' (word.trans (congrArg _ ?_))
  have turn : (y.finish [r] []).endTurn [r] = y.finish [r] [] :=
    h.endTurn ((belongs_of_still (still_finish quiet'' ..)).trans belongs'')
  rw [turn, ite_self]

/-! ### BGEN.init and BWAIT (R219 to R221) -/

theorem execBgenInit_ends {s : State} {m : Member} {r : Ref} (h : s.Single m r) (o : FA) :
    Ends (.bgenInit o) s ((s.latchRead r o.rb.toNat).modBarrier r.team o.bar.toNat fun x =>
      { x with expect := if (s.src r .i32 o.rb 0).extractLsb' 0 16 = 0 then BitVec.ofNat 16 (s.gridOf r.team).nt
                         else (s.src r .i32 o.rb 0).extractLsb' 0 16,
               arrived := 0, txpend := 0 }) := by
  refine ends_of_finish (h.ready.of_calm ((calm_modBarrier ..).trans (calm_latchRead ..))) ⟨s.active, [], ?_⟩
  change execBgenInit o s = _
  rw [execBgenInit, whenIssued_ready h.ready]
  simp [h.members, h.performer]

/-- BWAIT of one lane: it goes on, or it waits with its target. -/
theorem execBwait_one {s : State} {m : Member} {r : Ref} (h : s.Single m r) (o : FA) :
    exec (.bwait o) s = .next (
      let l := s.latchRead r o.rb.toNat
      if reached (s.barrier r.team o.bar.toNat).gen (s.src r .i32 o.rb 0) then ((l.acquire r.team 2).finish [r] []).endTurn [r]
      else (((l.modLane r fun x => { x with target := some (l.src r .i32 o.rb 0) }).parkLanes [r] 1 (.barrier o.bar.toNat)
        false).finish [] []).endTurn [r]) := by
  change execBwait o s = _
  rw [execBwait, whenIssued_ready h.ready]
  have none_ : wavesOf [] = [] := rfl
  cases met : reached (s.barrier r.team o.bar.toNat).gen (s.src r .i32 o.rb 0) <;>
    simp only [h.active, met, List.filter_singleton, List.foldl_cons, List.foldl_nil, Bool.not_true, Bool.not_false, cond_true,
      cond_false, wavesOf_singleton, none_, parkLanes_nil, Bool.false_eq_true, if_true, if_false]

theorem still_parkLanes (s : State) (rs : List Ref) (p : Nat) (y : Why) (same : Bool) : (s.parkLanes rs p y same).still = s.still :=
  still_foldl _ (fun _ _ => still_leave ..) _ s

theorem execBwait_ends {s : State} {m : Member} {r : Ref} (h : s.Single m r) (o : FA)
    (met : 0 ≤ ((s.barrier r.team o.bar.toNat).gen - s.src r .i32 o.rb 0).toInt) :
    Ends (.bwait o) s ((s.latchRead r o.rb.toNat).acquire r.team 2) := by
  have latched := bare_latchRead s r o.rb.toNat
  refine h.ends (ls := [r]) (ws := []) (h.ready.toQuiet.of_bare latched) (belongs_of_bare latched)
    (congrArg Option.isSome (issue_of_bare latched)) ?_
  rw [execBwait_one h]
  exact congrArg _ (if_pos (decide_eq_true met))

theorem execBwait_waits {s : State} {m : Member} {r : Ref} (h : s.Single m r) (o : FA)
    (short : ((s.barrier r.team o.bar.toNat).gen - s.src r .i32 o.rb 0).toInt < 0) :
    let l := s.latchRead r o.rb.toNat
    exec (.bwait o) s = .next (((l.modLane r fun x => { x with target := some (l.src r .i32 o.rb 0) }).parkLanes [r] 1
      (.barrier o.bar.toNat) false).finish [] []) := by
  intro l
  have latched := bare_latchRead s r o.rb.toNat
  have parked := (still_parkLanes _ [r] 1 (.barrier o.bar.toNat) false).trans
    (still_modLane l r (fun x => { x with target := some (l.src r .i32 o.rb 0) }) fun _ => rfl)
  have quiet := (h.ready.toQuiet.of_bare latched).of_still parked
  have kept := (belongs_of_still ((still_finish quiet [] []).trans parked)).trans (belongs_of_bare latched)
  rw [execBwait_one h]
  refine congrArg _ ((if_neg ?_).trans (h.endTurn kept))
  exact ne_true_of_eq_false (decide_eq_false (Int.not_le.2 short))

/-! ### The image of a barrier (R225) -/

theorem leNat_leBytes (n x : Nat) : leNat (leBytes n x) = x % 256 ^ n := by
  induction n generalizing x with
  | zero => rw [Nat.pow_zero, Nat.mod_one]; rfl
  | succ n ih => 
    have byte : (BitVec.ofNat 8 x).toNat = x % 256 := BitVec.toNat_ofNat ..
    rw [leBytes, leNat, ih, byte, Nat.pow_succ', Nat.mod_mul]

theorem length_leBytes (n x : Nat) : (leBytes n x).length = n := by
  induction n generalizing x with
  | zero => rfl
  | succ n ih => rw [leBytes, List.length_cons, ih]

theorem drop_leBytes (k n x : Nat) : (leBytes (k + n) x).drop k = leBytes n (x / 256 ^ k) := by
  induction k generalizing x with
  | zero => rw [Nat.zero_add, Nat.pow_zero, Nat.div_one]; rfl
  | succ k ih => rw [Nat.succ_add, leBytes, List.drop_succ_cons, ih, Nat.div_div_eq_div_mul, Nat.pow_succ']

theorem take_leBytes (k n x : Nat) : (leBytes (k + n) x).take k = leBytes k x := by
  induction k generalizing x with
  | zero => rfl
  | succ k ih => rw [Nat.succ_add, leBytes, List.take_succ_cons, ih, leBytes]

/-- The number that stands in `n` bytes of a run of little-endian bytes. -/
theorem leNat_slice (pre post : List Byte) (k n m x : Nat) :
    leNat (sliceBytes (pre ++ (leBytes (k + (n + m)) x ++ post)) (pre.length + k) n) = x / 256 ^ k % 256 ^ n := by
  have found : ((pre ++ (leBytes (k + (n + m)) x ++ post)).drop (pre.length + k)).take n = leBytes n (x / 256 ^ k) := by
    rw [List.drop_append, List.drop_eq_nil_of_le (by omega), Nat.add_sub_cancel_left, List.nil_append,
      List.drop_append_of_le_length (by rw [length_leBytes]; omega), drop_leBytes,
      List.take_append_of_le_length (by rw [length_leBytes]; omega), take_leBytes]
  rw [sliceBytes, found, length_leBytes, Nat.sub_self, List.replicate_zero, List.append_nil, leNat_leBytes]

theorem barrierOf_image (b : Barrier) : barrierOf b.image = b := by
  have gen := b.gen.isLt
  have expect := b.expect.isLt
  have arrived := b.arrived.isLt
  have txpend := b.txpend.isLt
  let lo := leBytes 8 (b.gen.toNat + b.expect.toNat * 2 ^ 32)
  let hi := leBytes 8 (b.arrived.toNat + b.txpend.toNat * 2 ^ 32)
  have image : b.image = lo ++ hi := rfl
  have inLo : ∀ k n m, k + (n + m) = 8 → leNat (sliceBytes b.image k n) =
      (b.gen.toNat + b.expect.toNat * 2 ^ 32) / 256 ^ k % 256 ^ n := fun k n m size => by
    have slice := leNat_slice [] hi k n m (b.gen.toNat + b.expect.toNat * 2 ^ 32)
    rw [size, List.length_nil, Nat.zero_add, List.nil_append] at slice
    exact image ▸ slice
  have inHi : ∀ k n m, k + (n + m) = 8 → leNat (sliceBytes b.image (8 + k) n) =
      (b.arrived.toNat + b.txpend.toNat * 2 ^ 32) / 256 ^ k % 256 ^ n := fun k n m size => by
    have slice := leNat_slice lo [] k n m (b.arrived.toNat + b.txpend.toNat * 2 ^ 32)
    rw [size, length_leBytes, List.append_nil] at slice
    exact image ▸ slice
  have gen' : leNat (sliceBytes b.image 0 4) = b.gen.toNat := by rw [inLo 0 4 4 rfl]; omega
  have expect' : leNat (sliceBytes b.image 4 2) = b.expect.toNat := by rw [inLo 4 2 2 rfl]; omega
  have arrived' : leNat (sliceBytes b.image 8 2) = b.arrived.toNat := by rw [inHi 0 2 6 rfl]; omega
  have txpend' : leNat (sliceBytes b.image 12 4) = b.txpend.toNat := by rw [inHi 4 4 0 rfl]; omega
  unfold barrierOf recU32 recU16
  rw [gen', expect', arrived', txpend']
  simp only [BitVec.ofNat_toNat, BitVec.setWidth_eq]

/-! ### BARSV and BARLD (R225) -/

theorem lintAccess_off {s : State} {r : Ref} (off : s.lintOn r.team = false) (t : Target) (n : Nat) (write atomic : Bool) :
    s.lintAccess r t n write atomic = s :=
  if_pos (by rw [off]; rfl)

/-- Where no store waits to be performed, none of a lane's own is performed ahead of an access (R45). -/
theorem drainOwn_idle {s : State} (idle : ∀ x ∈ s.ops, x.accs = []) (r : Ref) (t : Target) (n : Nat) :
    s.drainOwn r t n = s := by
  rw [State.drainOwn, State.drainWhere, storeClosure_eq_filter fun o mem => .inr (idle o mem)]
  rw [List.filter_eq_nil_iff.2 fun o mem => by simp [idle o mem]]
  rfl

/-- The state in which bytes are written to a scratchpad. -/
def State.spadWritten (s : State) (k off : Nat) (b : List Byte) : State :=
  (s.wakeMonitors (.spad k off) b.length).modTeam k fun x => { x with spad := cellsWriteN x.spad off b }

theorem calm_spadWritten (s : State) (k off : Nat) (b : List Byte) : (s.spadWritten k off b).calm = s.calm :=
  calm_writeTarget s (s.writer k) (.spad k off) b false

theorem laneWrite_spad {s : State} (idle : ∀ x ∈ s.ops, x.accs = []) (r : Ref) (va : DWord) (k off : Nat)
    (b : List Byte) (w : WordRec) : s.laneWrite r va (.spad k off) b w = s.spadWritten k off b := by
  unfold State.laneWrite
  rw [drainOwn_idle idle]
  rfl

theorem laneRead_spad {s : State} (idle : ∀ x ∈ s.ops, x.accs = []) (r : Ref) (k off n : Nat) (via : Via) :
    s.laneRead r (.spad k off) n via = (s, some (cellsReadN (s.team k).spad off n)) := by
  unfold State.laneRead
  rw [drainOwn_idle idle]
  rfl

/-- The one access of BARSV and BARLD for one lane and one barrier. -/
def State.barAsk (s : State) (o : FA) (r : Ref) (need : Nat) : Ask :=
  { r, va := s.src64 r o.ra + 0, n := 16, al := 16, need, once := true, exempt := true }

theorem barAsks_one {s : State} {o : FA} {m : Member} {r : Ref} (alone : s.Alone m r) (one : o.sub = 0) (need : Nat) :
    barAsks s o need = [s.barAsk o r need] := by
  unfold barAsks barsMoved
  simp only [alone.members, one, List.filterMap_cons, performer_alone alone]
  rfl

/-- What is granted to one lane whose one access is granted. -/
theorem fullGrants_one (a : Ask) (t : Target) : fullGrants 1 [(a, t)] = [(a.r, [(a, t)])] := by
  have lanes : [a.r].eraseDups = [a.r] := eraseDups_const (fun _ h => List.mem_singleton.1 h) (List.cons_ne_nil _ _)
  simp [fullGrants, lanes]

theorem fullGrants_barAsk (o : FA) (s : State) (r : Ref) (need : Nat) (t : Target) :
    fullGrants [o.bar.toNat].length ([s.barAsk o r need].map fun a => (a, t)) = [(r, [(s.barAsk o r need, t)])] :=
  fullGrants_one ..

section
variable {s : State} {o : FA} {m : Member} {r : Ref} {off : Nat} (ready : s.Ready) (priv : s.issueGrid.priv = true)
  (alone : s.Alone m r) (one : o.sub = 0) (lint : s.lintOn r.team = false) (idle : ∀ x ∈ s.ops, x.accs = [])
include ready priv alone one lint idle

theorem execBarsv_ends (granted : s.Grants [s.barAsk o r needW] fun _ => .spad r.team off) :
    Ends (.barsv o) s (s.spadWritten r.team off (s.barrier r.team o.bar.toNat).image) := by
  have moved : barsMoved o = [o.bar.toNat] := by rw [barsMoved, one]; rfl
  let u := s.spadWritten r.team off (s.barrier r.team o.bar.toNat).image
  refine ends_of_finish (ready.of_calm (calm_spadWritten ..)) ⟨s.active.filter u.stays,
    u.watch r (s.src64 r o.ra + 0) 16 false true ++ [], ?_⟩
  change execBarsv o s = _
  rw [execBarsv, privWord_ready ready priv]
  simp only [barAsks_one alone one, gate_grants granted, moved, fullGrants_barAsk, List.foldl_cons, List.foldl_nil,
    List.zip_cons_cons, List.zip_nil_left, lintAccess_off lint, laneWrite_spad idle]
  rfl

theorem execBarld_ends (granted : s.Grants [s.barAsk o r needR] fun _ => .spad r.team off) :
    Ends (.barld o) s (((s.modBarrier r.team o.bar.toNat fun _ => barrierOf (cellsReadN (s.team r.team).spad off 16)).phase r.team
      o.bar.toNat).recompare r.team o.bar.toNat) := by
  have moved : barsMoved o = [o.bar.toNat] := by rw [barsMoved, one]; rfl
  have read : barReads s r [(s.barAsk o r needR, .spad r.team off)] = (s, .ok [cellsReadN (s.team r.team).spad off 16]) := by
    unfold barReads
    rw [lintAccess_off lint, laneRead_spad idle]
    rfl
  let v := (s.modBarrier r.team o.bar.toNat fun _ => barrierOf (cellsReadN (s.team r.team).spad off 16)).phase r.team o.bar.toNat
  let u := v.recompare r.team o.bar.toNat
  have quiet : v.Quiet ∧ v.issue.isSome = s.issue.isSome := phase_keeps (ready.toQuiet.of_calm (calm_modBarrier ..)) ..
  obtain ⟨still, issues⟩ := recompare_keeps quiet.1 r.team o.bar.toNat
  refine ends_of_finish { quiet.1.of_still still with issues := issues.trans (quiet.2.trans ready.issues) }
    ⟨s.active.filter u.stays, u.watch r (s.src64 r o.ra + 0) 16 true false ++ [], ?_⟩
  change execBarld o s = _
  rw [execBarld, privWord_ready ready priv]
  simp only [barAsks_one alone one, gate_grants granted, moved, fullGrants_barAsk, List.foldl_cons, List.foldl_nil,
    List.zip_cons_cons, List.zip_nil_left, read]
  rfl

end

/-- Settles O42: each visit of a lane changes its barrier and ends the phase when nothing is missing. -/
theorem barrierWords : Obligations.BarrierWords := by
  refine ⟨fun s o m r ready members active own clear free empty => ?visits,
    fun s o m r off ready priv alone one lint idle => ?moves, barrierOf_image⟩
  case visits =>
    have h : s.Single m r := ⟨ready, members, active, own, clear, free, empty⟩
    have barr : ∀ {drop}, o.sub.getLsbD 0 = drop → exec (.barr o) s = arriveWord s o drop true false := fun sub =>
      congrArg (fun drop => arriveWord s o drop true false) sub
    have btxn : ∀ {arr}, o.sub.getLsbD 0 = arr → exec (.btxn o) s = arriveWord s o false arr true := fun sub =>
      congrArg (fun arr => arriveWord s o false arr true) sub
    intro b put count bytes bar
    refine ⟨fun sub => ?_, fun sub => ?_, fun sub => ?_, fun sub => ?_, execBgenInit_ends h o, execBwait_ends h o,
      execBwait_waits h o⟩
    · exact ends_visit (drop := false) (arr := true) (bytes := false) h (barr (by rw [sub]; rfl)) rfl bar
    · exact ends_visit (drop := true) (arr := true) (bytes := false) h (barr (by rw [sub]; rfl)) rfl bar
    · exact ends_visit (drop := false) (arr := false) (bytes := true) h (btxn (by rw [sub]; rfl)) rfl bar
    · exact ends_visit (drop := false) (arr := true) (bytes := true) h (btxn (by rw [sub]; rfl)) rfl bar
  case moves => exact ⟨execBarsv_ends ready priv alone one lint idle, execBarld_ends ready priv alone one lint idle⟩

end Sys2Proof.Machine

/-! The split table of a wave whose lanes wait at SYNCW and WSYNCM (R211 to R214): distinct entries hold distinct lanes, the lanes
of an entry have arrived at one word or none of them has arrived, and this stays so when entries pass a word and when they fuse. -/

namespace Sys2Proof.Machine

/-! ### Masks -/

theorem getLsbD_foldl_or {α : Type} (f : α → BitVec 32) (l : List α) (d : BitVec 32) (k : Nat) :
    (l.foldl (fun m x => m ||| f x) d).getLsbD k = (d.getLsbD k || l.any fun x => (f x).getLsbD k) := by
  induction l generalizing d with
  | nil => exact (Bool.or_false _).symm
  | cons x l ih => rw [List.foldl_cons, ih, BitVec.getLsbD_or, List.any_cons, Bool.or_assoc]

theorem foldl_or_zero {α : Type} {f : α → BitVec 32} {l : List α} (zero : ∀ x ∈ l, f x = 0) (d : BitVec 32) :
    l.foldl (fun m x => m ||| f x) d = d :=
  List.foldlRecOn (motive := fun m => m = d) l _ rfl fun m same x hx => by rw [same, zero x hx]; exact BitVec.or_zero

theorem and_ne_zero_iff {m n : BitVec 32} : m &&& n ≠ 0 ↔ ∃ k, m.getLsbD k = true ∧ n.getLsbD k = true := by
  constructor
  · intro some
    by_contra none_
    refine some (BitVec.eq_of_getLsbD_eq fun k _ => ?_)
    rw [BitVec.getLsbD_and]
    exact (Bool.eq_false_iff.2 fun both => none_ ⟨k, Bool.and_eq_true_iff.1 both⟩).trans BitVec.getLsbD_zero.symm
  · rintro ⟨k, left, right⟩ zero
    have bit := BitVec.getLsbD_and (x := m) (y := n) (i := k)
    rw [zero, left, right] at bit
    cases BitVec.getLsbD_zero.symm.trans bit

/-! ### A lane that arrives or passes -/

/-- A change to lanes that are not the one asked for leaves it. -/
theorem lane_foldl_modLane_of_notMem {f : Lane → Lane} {t w : Nat} {ks : List Nat} (s : State) {k : Nat} (out : k ∉ ks) :
    (ks.foldl (fun s k => s.modLane ⟨t, w, k⟩ f) s).lane ⟨t, w, k⟩ = s.lane ⟨t, w, k⟩ :=
  List.foldlRecOn (motive := fun u : State => u.lane ⟨t, w, k⟩ = s.lane ⟨t, w, k⟩) ks _ rfl fun u same j hj => by
    have other : ¬((⟨t, w, j⟩ : Ref) = ⟨t, w, k⟩ ∧ u.has ⟨t, w, j⟩) := fun h => out ((Ref.mk.inj h.1).2.2 ▸ hj)
    rw [lane_modLane, if_neg other, same]

theorem lane_modWave_of_lanes {f : Wave → Wave} (same : ∀ x, (f x).lanes = x.lanes) (s : State) (t w : Nat) (r : Ref) :
    (s.modWave t w f).lane r = s.lane r := by
  rw [State.lane, wave_modWave]
  split
  · rw [same]
    rfl
  · rfl

/-! ### Split tables in order -/

/-- What all lanes of an entry wait for: they run, and have arrived at one word. -/
def State.Awaits (s : State) (t w : Nat) (y : Entry) : Prop :=
  y.park = 3 ∧ y.flight = none ∧ ∃ a, ∀ k < 32, y.mask.getLsbD k = true →
    (s.lane ⟨t, w, k⟩).ended = false ∧ (s.lane ⟨t, w, k⟩).arrival = some a

/-- Distinct entries of a wave have distinct slots and no lane in common, and every lane that runs stands in an entry. -/
structure State.Parted (s : State) (t w : Nat) : Prop where
  slots : ∀ y ∈ (s.wave t w).entries, ∀ z ∈ (s.wave t w).entries, y.slot = z.slot → y = z
  lanes : ∀ y ∈ (s.wave t w).entries, ∀ z ∈ (s.wave t w).entries, ∀ k, y.mask.getLsbD k = true → z.mask.getLsbD k = true → y = z
  covered : ∀ k < 32, (s.lane ⟨t, w, k⟩).ended = false → ∃ y ∈ (s.wave t w).entries, y.mask.getLsbD k = true

/-- An entry defers no lane, and its lanes have arrived at one word or none of them has arrived. -/
structure State.Sorted (s : State) (t w : Nat) (y : Entry) : Prop where
  settled : y.defer = 0
  parts : s.Awaits t w y ∨ ∀ k < 32, y.mask.getLsbD k = true → (s.lane ⟨t, w, k⟩).arrival = none

/-- The split table of a wave is in order. -/
structure State.Orderly (s : State) (t w : Nat) : Prop extends State.Parted s t w where
  sorted : ∀ y ∈ (s.wave t w).entries, s.Sorted t w y

/-- The entry `y` has the lanes of `x` and stands where `x` stood. -/
structure Entry.Holds (y x : Entry) : Prop where
  lanes : ∀ k, x.mask.getLsbD k = true → y.mask.getLsbD k = true
  clause : y.clause = x.clause
  idx : y.idx = x.idx
  flight : y.flight = x.flight
  park : y.park = x.park

theorem Entry.Holds.refl (x : Entry) : x.Holds x := ⟨fun _ h => h, rfl, rfl, rfl, rfl⟩

theorem Entry.Holds.trans {x y z : Entry} (h : z.Holds y) (k : y.Holds x) : z.Holds x :=
  ⟨fun j hj => h.lanes j (k.lanes j hj), h.clause.trans k.clause, h.idx.trans k.idx, h.flight.trans k.flight, h.park.trans k.park⟩

/-- The entries of the table `l` that `M` chooses have become the entry `J`, in the slot of one of them. -/
structure Merges (l l' : List Entry) (M : Entry → Prop) (J : Entry) : Prop where
  mem : ∀ z, z ∈ l' ↔ z = J ∨ z ∈ l ∧ ¬M z
  lanes : ∀ k, J.mask.getLsbD k = true ↔ ∃ y ∈ l, M y ∧ y.mask.getLsbD k = true
  slot : ∃ y ∈ l, M y ∧ J.slot = y.slot

/-- Entries merge, and the table is in order. -/
theorem State.Parted.merge {s u : State} {t w : Nat} {M : Entry → Prop} {J : Entry} (h : s.Parted t w)
    (merges : Merges (s.wave t w).entries (u.wave t w).entries M J) (sorted : u.Sorted t w J)
    (others : ∀ y ∈ (s.wave t w).entries, ¬M y → s.Sorted t w y)
    (ended : ∀ k, (u.lane ⟨t, w, k⟩).ended = (s.lane ⟨t, w, k⟩).ended)
    (kept : ∀ k, J.mask.getLsbD k = false → (u.lane ⟨t, w, k⟩).arrival = (s.lane ⟨t, w, k⟩).arrival) : u.Orderly t w := by
  have slot : ∀ z ∈ (s.wave t w).entries, ¬M z → J.slot ≠ z.slot := fun z hz out same => by
    obtain ⟨y, hy, chosen, slot⟩ := merges.slot
    exact out (h.slots y hy z hz (slot.symm.trans same) ▸ chosen)
  have apart : ∀ z ∈ (s.wave t w).entries, ¬M z → ∀ k, z.mask.getLsbD k = true → J.mask.getLsbD k = false := by
    intro z hz out k bit
    refine Bool.eq_false_iff.2 fun own => ?_
    obtain ⟨y, hy, chosen, bit'⟩ := (merges.lanes k).1 own
    exact out (h.lanes y hy z hz k bit' bit ▸ chosen)
  refine ⟨⟨fun y hy z hz same => ?_, fun y hy z hz k left right => ?_, fun k below running => ?_⟩, fun y hy => ?_⟩
  · rw [merges.mem] at hy hz
    obtain rfl | ⟨hy, out⟩ := hy <;> obtain rfl | ⟨hz, out'⟩ := hz
    · rfl
    · exact absurd same (slot z hz out')
    · exact absurd same.symm (slot y hy out)
    · exact h.slots y hy z hz same
  · rw [merges.mem] at hy hz
    obtain rfl | ⟨hy, out⟩ := hy <;> obtain rfl | ⟨hz, out'⟩ := hz
    · rfl
    · exact absurd left (by rw [apart z hz out' k right]; exact Bool.false_ne_true)
    · exact absurd right (by rw [apart y hy out k left]; exact Bool.false_ne_true)
    · exact h.lanes y hy z hz k left right
  · rw [ended] at running
    obtain ⟨y, hy, bit⟩ := h.covered k below running
    by_cases chosen : M y
    · exact ⟨J, (merges.mem J).2 (.inl rfl), (merges.lanes k).2 ⟨y, hy, chosen, bit⟩⟩
    · exact ⟨y, (merges.mem y).2 (.inr ⟨hy, chosen⟩), bit⟩
  · obtain rfl | ⟨hy, out⟩ := (merges.mem y).1 hy
    · exact sorted
    · have same : ∀ k, y.mask.getLsbD k = true → (u.lane ⟨t, w, k⟩).arrival = (s.lane ⟨t, w, k⟩).arrival := fun k bit =>
        kept k (apart y hy out k bit)
      obtain ⟨settled, ⟨park, flight, a, all⟩ | none_⟩ := others y hy out
      · refine ⟨settled, .inl ⟨park, flight, a, fun k below bit => ?_⟩⟩
        rw [ended, same k bit]
        exact all k below bit
      · exact ⟨settled, .inr fun k below bit => (same k bit).trans (none_ k below bit)⟩

/-! ### Fusion (R181) -/

theorem park_flight_of_entryReady {s : State} {t w : Nat} {e : Entry} (ready : s.entryReady t w e = true) :
    e.park = 0 ∧ e.flight = none := by
  simp only [State.entryReady, State.mayGo, Bool.and_eq_true, beq_iff_eq, Option.isNone_iff_eq_none] at ready
  obtain ⟨⟨⟨⟨-, park⟩, ⟨flight, -⟩, -⟩, -⟩, -⟩ := ready
  exact ⟨park, flight⟩

/-- Two entries that fuse are ready and stand at one PC. -/
theorem of_fusePair {s : State} {t w : Nat} {a b : Entry} (pair : s.fusePair t w = some (a, b)) :
    (a ∈ (s.wave t w).entries ∧ s.entryReady t w a = true) ∧ (b ∈ (s.wave t w).entries ∧ s.entryReady t w b = true) ∧
      a.slot < b.slot ∧ a.clause = b.clause ∧ a.idx = b.idx := by
  have found := List.mem_of_head? pair
  obtain ⟨x, hx, found⟩ := List.mem_flatMap.1 found
  obtain ⟨y, hy, found⟩ := List.mem_filterMap.1 found
  split at found
  case isTrue h =>
    obtain ⟨slot, clause, idx, -⟩ := h
    obtain ⟨rfl, rfl⟩ := Prod.mk.inj (Option.some.inj found)
    exact ⟨List.mem_filter.1 hx, List.mem_filter.1 hy, slot, clause, idx⟩
  case isFalse => cases found

/-- The state in which two entries have fused. -/
def State.fused (s : State) (t w : Nat) (a b : Entry) : State :=
  s.modWave t w fun x => (x.dropEntry b.slot).modEntry a.slot fun _ => fuse2 a b

theorem lane_fused (s : State) (t w : Nat) (a b : Entry) (r : Ref) : (s.fused t w a b).lane r = s.lane r :=
  lane_modWave_of_lanes (f := fun x => (x.dropEntry b.slot).modEntry a.slot fun _ => fuse2 a b) (fun _ => rfl) s t w r

section
variable {s : State} {t w : Nat} (h : s.Orderly t w)
include h

theorem merges_fused {a b : Entry} (ha : a ∈ (s.wave t w).entries) (hb : b ∈ (s.wave t w).entries) (slot : a.slot < b.slot) :
    Merges (s.wave t w).entries ((s.fused t w a b).wave t w).entries (fun y => y = a ∨ y = b) (fuse2 a b) := by
  refine ⟨fun z => ?_, fun k => ?_, ⟨a, ha, .inl rfl, rfl⟩⟩
  · rw [State.fused, wave_modWave_of_entries (List.ne_nil_of_mem ha)]
    simp only [Wave.modEntry, Wave.dropEntry, List.mem_map, List.mem_filter, bne_iff_ne]
    constructor
    · rintro ⟨y, ⟨hy, out⟩, rfl⟩
      split
      case isTrue => exact .inl rfl
      case isFalse own =>
        refine .inr ⟨hy, ?_⟩
        rintro (rfl | rfl)
        · exact own (beq_self_eq_true _)
        · exact out rfl
    · rintro (rfl | ⟨hz, out⟩)
      · exact ⟨a, ⟨ha, slot.ne⟩, if_pos (beq_self_eq_true _)⟩
      · refine ⟨z, ⟨hz, fun same => out (.inr (h.slots z hz b hb same))⟩, if_neg fun same => ?_⟩
        exact out (.inl (h.slots z hz a ha (beq_iff_eq.1 same)))
  · have bits : (fuse2 a b).mask.getLsbD k = (a.mask.getLsbD k || b.mask.getLsbD k) := BitVec.getLsbD_or
    rw [bits, Bool.or_eq_true]
    constructor
    · rintro (bit | bit)
      · exact ⟨a, ha, .inl rfl, bit⟩
      · exact ⟨b, hb, .inr rfl, bit⟩
    · rintro ⟨y, -, rfl | rfl, bit⟩
      · exact .inl bit
      · exact .inr bit

/-- The lanes of an entry that is ready have not arrived anywhere. -/
theorem arrival_of_entryReady {e : Entry} (mem : e ∈ (s.wave t w).entries) (ready : s.entryReady t w e = true) {k : Nat}
    (bit : e.mask.getLsbD k = true) : (s.lane ⟨t, w, k⟩).arrival = none := by
  obtain ⟨park, -⟩ := park_flight_of_entryReady ready
  obtain ⟨waits, -⟩ | none_ := (h.sorted e mem).parts
  · rw [park] at waits
    cases waits
  · exact none_ k (BitVec.lt_of_getLsbD bit) bit

theorem orderly_fused {a b : Entry} (pair : s.fusePair t w = some (a, b)) : (s.fused t w a b).Orderly t w := by
  obtain ⟨⟨ha, readyA⟩, ⟨hb, readyB⟩, slot, -, -⟩ := of_fusePair pair
  have merges := merges_fused h ha hb slot
  refine h.merge merges ⟨?_, .inr fun k _ bit => ?_⟩ (fun y hy _ => h.sorted y hy) (fun k => by rw [lane_fused])
    fun k _ => by rw [lane_fused]
  · change a.defer ||| b.defer = 0
    rw [(h.sorted a ha).settled, (h.sorted b hb).settled]
    exact BitVec.or_zero
  · rw [lane_fused]
    obtain ⟨y, -, rfl | rfl, own⟩ := (merges.lanes k).1 bit
    · exact arrival_of_entryReady h ha readyA own
    · exact arrival_of_entryReady h hb readyB own

theorem holds_fused {a b : Entry} (pair : s.fusePair t w = some (a, b)) {x : Entry} (mem : x ∈ (s.wave t w).entries) :
    ∃ y ∈ ((s.fused t w a b).wave t w).entries, y.Holds x := by
  obtain ⟨⟨ha, readyA⟩, ⟨hb, readyB⟩, slot, clause, idx⟩ := of_fusePair pair
  obtain ⟨parkA, flightA⟩ := park_flight_of_entryReady readyA
  obtain ⟨parkB, flightB⟩ := park_flight_of_entryReady readyB
  have merges := merges_fused h ha hb slot
  by_cases chosen : x = a ∨ x = b
  · have lanes : ∀ k, x.mask.getLsbD k = true → (fuse2 a b).mask.getLsbD k = true := fun k bit =>
      (merges.lanes k).2 ⟨x, mem, chosen, bit⟩
    refine ⟨fuse2 a b, (merges.mem _).2 (.inl rfl), ?_⟩
    obtain rfl | rfl := chosen
    · exact { lanes, clause := rfl, idx := rfl, flight := rfl, park := rfl }
    · exact { lanes, clause, idx, flight := flightA.trans flightB.symm, park := parkA.trans parkB.symm }
  · exact ⟨x, (merges.mem x).2 (.inr ⟨mem, chosen⟩), .refl x⟩

end

/-- Fusion keeps a table in order; every lane stays where it stands. -/
theorem fuseGo_keeps {t w : Nat} (n : Nat) {s : State} (h : s.Orderly t w) :
    (s.fuseGo t w n).Orderly t w ∧ (∀ r, (s.fuseGo t w n).lane r = s.lane r) ∧ (s.fuseGo t w n).issue = s.issue ∧
      ∀ x ∈ (s.wave t w).entries, ∃ y ∈ ((s.fuseGo t w n).wave t w).entries, y.Holds x := by
  induction n generalizing s with
  | zero => exact ⟨h, fun _ => rfl, rfl, fun x mem => ⟨x, mem, .refl x⟩⟩
  | succ n ih =>
    rw [State.fuseGo]
    split
    · exact ⟨h, fun _ => rfl, rfl, fun x mem => ⟨x, mem, .refl x⟩⟩
    · next a b pair =>
      obtain ⟨orderly, lanes, issue, holds⟩ := ih (orderly_fused h pair)
      refine ⟨orderly, fun r => (lanes r).trans (lane_fused s t w a b r), issue, fun x mem => ?_⟩
      obtain ⟨y, hy, first⟩ := holds_fused h pair mem
      obtain ⟨z, hz, rest⟩ := holds y hy
      exact ⟨z, hz, rest.trans first⟩

/-! ### Whole entries pass a word (R212 to R214) -/

/-- The lanes of `pass` are all the lanes of some entries. -/
def State.Whole (s : State) (t w : Nat) (pass : BitVec 32) : Prop :=
  ∀ y ∈ (s.wave t w).entries, ∀ k, y.mask.getLsbD k = true → pass.getLsbD k = true →
    ∀ j, y.mask.getLsbD j = true → pass.getLsbD j = true

/-- What the entries `e :: rest` become when all their lanes pass. -/
def passedEntry (s : State) (t : Nat) (c : DWord) (i : Nat) (pass : BitVec 32) (e : Entry) (rest : List Entry) : Entry :=
  joinEntries e rest pass 0 (clauseAfter c i) (s.marked t c i)

/-- What a split table is when the entries `e :: rest` have passed. -/
def passedTogether (J : Entry) (rest : List Entry) (pass : BitVec 32) (es : List Entry) : List Entry :=
  es.flatMap fun y =>
    if y.slot == J.slot then [J]
    else if rest.any (fun z => z.slot == y.slot) then [] else [{ y with defer := y.defer &&& ~~~pass }]

/-- The state in which no bundle holds the entries `es`. -/
def State.unbundled (s : State) (t w : Nat) (es : List Entry) : State :=
  (es.foldl (fun u x => u.modBundles fun b => b.without t w x.slot) s).sweepBundles

theorem teams_unbundled (s : State) (t w : Nat) (es : List Entry) : (s.unbundled t w es).teams = s.teams :=
  List.foldlRecOn (motive := fun u : State => u.teams = s.teams) es _ rfl fun _ same _ _ => same

theorem still_unbundled (s : State) (t w : Nat) (es : List Entry) : (s.unbundled t w es).still = s.still :=
  List.foldlRecOn (motive := fun u : State => u.still = s.still) es _ rfl fun _ same _ _ => same

/-- A bundle without members has none when entries leave it. -/
theorem members_unbundled {s : State} (gone : s.bundle.members = []) (t w : Nat) (es : List Entry) :
    (s.unbundled t w es).bundle.members = [] := by
  refine List.foldlRecOn (motive := fun u : State => u.bundle.members = []) es _ gone fun u none_ x _ => ?_
  unfold State.bundle at none_ ⊢
  cases issue : u.issue with
  | none => simp [State.modBundles, issue, Bundle.blank]
  | some b =>
    rw [issue] at none_
    have members : b.members = [] := none_
    simp [State.modBundles, issue, Bundle.without, members]

/-- A team in which `n` more entries have finished a clause (R447). -/
def Team.retired (n : Nat) (x : Team) : Team := { x with retc := min (x.retc + n) 0xFFFFFFFF }

/-- The lanes of `pass` have passed a word, which counts as retired, and no bundle holds the entries `es`. -/
def State.passedCut (s : State) (t w : Nat) (c : DWord) (i : Nat) (pass : BitVec 32) (es : List Entry) : State :=
  ((s.passedLanes t w c i pass).unbundled t w es).modTeam t (Team.retired es.length)

/-- The state in which the entries `e :: rest` have passed a word, before entries fuse. -/
def State.passedBy (s : State) (t w : Nat) (c : DWord) (i : Nat) (pass : BitVec 32) (e : Entry) (rest : List Entry) : State :=
  (s.passedCut t w c i pass (e :: rest)).modWave t w
    fun x => { x with entries := passedTogether (passedEntry s t c i pass e rest) rest pass x.entries }

/-- An entry of which nothing is deferred, and which has lanes, stays as it is at a clause's end (R182). -/
theorem settle_settled {s : State} {t w k : Nat} (settled : ∀ y ∈ (s.wave t w).entries, y.slot = k → y.defer = 0 ∧ y.mask ≠ 0)
    (old : BitVec 32) : s.settle t w k old = s := by
  unfold State.settle
  split
  · rfl
  · next y found =>
    obtain ⟨none_, some⟩ := settled y (List.mem_of_find?_eq_some found) (beq_iff_eq.1 (List.find?_some found :))
    have lanes : (y.mask == 0) = false := by simpa using some
    rw [none_, lanes]
    split <;> rfl

theorem wave_passedCut (s : State) (t w : Nat) (c : DWord) (i : Nat) (pass : BitVec 32) (es : List Entry) (a b : Nat) :
    (s.passedCut t w c i pass es).wave a b = (s.passedLanes t w c i pass).wave a b :=
  (wave_modTeam _ t (Team.retired es.length) (fun _ => rfl) a b).trans (wave_of_teams (teams_unbundled ..) a b)

theorem lane_passedBy (s : State) (t w : Nat) (c : DWord) (i : Nat) (pass : BitVec 32) (e : Entry) (rest : List Entry) (r : Ref) :
    (s.passedBy t w c i pass e rest).lane r = (s.passedLanes t w c i pass).lane r := by
  have table : (s.passedBy t w c i pass e rest).lane r = (s.passedCut t w c i pass (e :: rest)).lane r :=
    lane_modWave_of_lanes (f := fun x => { x with entries := passedTogether (passedEntry s t c i pass e rest) rest pass x.entries })
      (fun _ => rfl) _ t w r
  rw [table, State.lane, wave_passedCut]
  rfl

theorem still_passedBy (s : State) (t w : Nat) (c : DWord) (i : Nat) (pass : BitVec 32) (e : Entry) (rest : List Entry) :
    (s.passedBy t w c i pass e rest).still = (s.release t w 1).still := by
  have lanes : (s.passedLanes t w c i pass).still = (s.release t w 1).still :=
    still_foldl (fun s k => s.modLane ⟨t, w, k⟩ (Lane.passed c i)) (fun _ _ => still_modLane _ _ _ fun _ => rfl) _ _
  have cut : (s.passedCut t w c i pass (e :: rest)).still = (s.passedLanes t w c i pass).still :=
    (still_modTeam _ t (Team.retired (e :: rest).length) fun _ => rfl).trans (still_unbundled ..)
  exact (still_modWave _ t w (fun x => { x with entries := passedTogether (passedEntry s t c i pass e rest) rest pass x.entries })
    fun _ => rfl).trans (cut.trans lanes)

theorem modWave_congr {s : State} {t w : Nat} {f g : Wave → Wave} (same : f (s.wave t w) = g (s.wave t w)) :
    s.modWave t w f = s.modWave t w g := by
  refine modTeam_congr (congrArg (fun ws => { s.team t with waves := ws }) (modify_congr fun x found => ?_))
  have here : s.wave t w = x := by rw [State.wave, List.getD_eq_getElem?_getD, found]; rfl
  rw [← here, same]

section
variable {s : State} {t w i : Nat} {c : DWord} {pass : BitVec 32} {e : Entry} {rest : List Entry} (h : s.Orderly t w)
  (empty : s.NoStores) (whole : s.Whole t w pass) (runs : ∀ k, pass.getLsbD k = true → (s.lane ⟨t, w, k⟩).ended = false)
  (chosen : (s.wave t w).entries.filter (fun y => y.mask &&& pass != 0) = e :: rest)

section
include empty

theorem passedLanes_eq : s.passedLanes t w c i pass =
    (maskLanes pass).foldl (fun s k => s.modLane ⟨t, w, k⟩ (Lane.passed c i)) s := by
  rw [State.passedLanes, release_noStores empty]

theorem entries_passedLanes_eq : ((s.passedLanes t w c i pass).wave t w).entries = (s.wave t w).entries := by
  rw [passedLanes_eq empty]
  exact entries_foldl_modLane (fun _ => Lane.passed c i) t w (maskLanes pass) s t w

theorem lane_passedBy_of_out {k : Nat} (out : pass.getLsbD k = false) :
    (s.passedBy t w c i pass e rest).lane ⟨t, w, k⟩ = s.lane ⟨t, w, k⟩ := by
  rw [lane_passedBy, passedLanes_eq empty]
  refine lane_foldl_modLane_of_notMem s fun mem => ?_
  rw [(mem_maskLanes.1 mem).2] at out
  cases out

include runs in
theorem lane_passedBy_of_mem {k : Nat} (bit : pass.getLsbD k = true) :
    (s.passedBy t w c i pass e rest).lane ⟨t, w, k⟩ = Lane.passed c i (s.lane ⟨t, w, k⟩) := by
  have named : k ∈ maskLanes pass := mem_maskLanes.2 ⟨BitVec.lt_of_getLsbD bit, bit⟩
  have has := has_of_running (runs k bit)
  rw [lane_passedBy, passedLanes_eq empty, lane_foldl_modLane (f := Lane.passed c i) (fun _ => rfl) t w _ has, if_pos ⟨rfl, rfl, named⟩]

end

section
include chosen

theorem mem_chosen {y : Entry} : y ∈ e :: rest ↔
    y ∈ (s.wave t w).entries ∧ ∃ k, y.mask.getLsbD k = true ∧ pass.getLsbD k = true := by
  rw [← chosen, List.mem_filter, bne_iff_ne, and_ne_zero_iff]

include empty in
theorem entries_passedBy : ((s.passedBy t w c i pass e rest).wave t w).entries =
    passedTogether (passedEntry s t c i pass e rest) rest pass (s.wave t w).entries := by
  have before : ((s.passedCut t w c i pass (e :: rest)).wave t w).entries = (s.wave t w).entries := by
    rw [wave_passedCut, entries_passedLanes_eq empty]
  have mem : e ∈ (s.wave t w).entries := ((mem_chosen chosen).1 List.mem_cons_self).1
  rw [State.passedBy, wave_modWave_of_entries (by rw [before]; exact List.ne_nil_of_mem mem)]
  dsimp only
  rw [before]

include h whole runs

theorem lanes_chosen (k : Nat) : pass.getLsbD k = true ↔
    ∃ y ∈ (s.wave t w).entries, y ∈ e :: rest ∧ y.mask.getLsbD k = true := by
  constructor
  · intro bit
    obtain ⟨y, hy, own⟩ := h.covered k (BitVec.lt_of_getLsbD bit) (runs k bit)
    exact ⟨y, hy, (mem_chosen chosen).2 ⟨hy, k, own, bit⟩, own⟩
  · rintro ⟨y, hy, mem, own⟩
    obtain ⟨-, j, bit, bit'⟩ := (mem_chosen chosen).1 mem
    exact whole y hy j bit bit' k own

theorem merges_passedBy : Merges (s.wave t w).entries
    (passedTogether (passedEntry s t c i pass e rest) rest pass (s.wave t w).entries) (· ∈ e :: rest)
    (passedEntry s t c i pass e rest) := by
  have first : e ∈ (s.wave t w).entries := ((mem_chosen chosen).1 List.mem_cons_self).1
  refine ⟨fun z => ?_, lanes_chosen h whole runs chosen, ⟨e, first, List.mem_cons_self, rfl⟩⟩
  have kept : ∀ y ∈ (s.wave t w).entries, { y with defer := y.defer &&& ~~~pass } = y := fun y hy => by
    have none_ : y.defer &&& ~~~pass = y.defer := by
      rw [(h.sorted y hy).settled]
      exact BitVec.zero_and
    rw [none_]
  have slot : (passedEntry s t c i pass e rest).slot = e.slot := rfl
  simp only [passedTogether, List.mem_flatMap]
  constructor
  · rintro ⟨y, hy, hz⟩
    split at hz
    · exact .inl (List.mem_singleton.1 hz)
    · next other =>
      split at hz
      · cases hz
      · next out =>
        rw [kept y hy, List.mem_singleton] at hz
        subst hz
        refine .inr ⟨hy, fun mem => ?_⟩
        obtain rfl | mem := List.mem_cons.1 mem
        · exact other (beq_self_eq_true _)
        · exact out (List.any_eq_true.2 ⟨z, mem, beq_self_eq_true _⟩)
  · rintro (rfl | ⟨hz, out⟩)
    · refine ⟨e, first, ?_⟩
      rw [if_pos (beq_iff_eq.2 slot.symm)]
      exact List.mem_singleton.2 rfl
    · refine ⟨z, hz, ?_⟩
      have other : ¬(z.slot == (passedEntry s t c i pass e rest).slot) = true := fun same =>
        out (h.slots z hz e first ((beq_iff_eq.1 same).trans slot) ▸ List.mem_cons_self)
      have none_ : ¬(rest.any fun x => x.slot == z.slot) = true := fun same => by
        obtain ⟨x, hx, same⟩ := List.any_eq_true.1 same
        have mem := List.mem_cons_of_mem e hx
        exact out (h.slots x ((mem_chosen chosen).1 mem).1 z hz (beq_iff_eq.1 same) ▸ mem)
      rw [if_neg other, if_neg none_, kept z hz]
      exact List.mem_singleton.2 rfl

/-- The entries that are chosen pass whole. -/
theorem whole_chosen {y : Entry} (hy : y ∈ e :: rest) : y.mask &&& ~~~pass = 0 := by
  obtain ⟨mem, -⟩ := (mem_chosen chosen).1 hy
  refine BitVec.eq_of_getLsbD_eq fun k below => ?_
  rw [BitVec.getLsbD_and, BitVec.getLsbD_not]
  cases bit : y.mask.getLsbD k with
  | false => exact BitVec.getLsbD_zero.symm
  | true =>
    rw [(lanes_chosen h whole runs chosen k).2 ⟨y, mem, hy, bit⟩]
    simp

include empty

theorem orderly_passedBy : (s.passedBy t w c i pass e rest).Orderly t w := by
  refine h.merge (M := (· ∈ e :: rest)) (J := passedEntry s t c i pass e rest) ?_
    ⟨rfl, .inr fun k _ (bit : pass.getLsbD k = true) => ?_⟩ (fun y hy _ => h.sorted y hy) (fun k => ?_) fun k (out : pass.getLsbD k = false) => ?_
  · rw [entries_passedBy empty chosen]
    exact merges_passedBy h whole runs chosen
  · rw [lane_passedBy_of_mem empty runs bit]
    rfl
  · cases bit : pass.getLsbD k with
    | true => rw [lane_passedBy_of_mem empty runs bit]; rfl
    | false => rw [lane_passedBy_of_out empty bit]
  · rw [lane_passedBy_of_out empty out]

/-- At the end of the clause the entry that has passed stays as it is (R182). -/
theorem settle_passedBy : (s.passedBy t w c i pass e rest).settle t w e.slot pass = s.passedBy t w c i pass e rest := by
  have orderly := orderly_passedBy h empty whole runs chosen (c := c) (i := i)
  refine settle_settled (fun y hy same => ?_) pass
  have own : passedEntry s t c i pass e rest ∈ ((s.passedBy t w c i pass e rest).wave t w).entries := by
    rw [entries_passedBy empty chosen]
    exact ((merges_passedBy h whole runs chosen).mem _).2 (.inl rfl)
  rw [orderly.slots y hy _ own same]
  obtain ⟨-, k, bit, bit'⟩ := (mem_chosen chosen).1 List.mem_cons_self
  refine ⟨rfl, fun zero => ?_⟩
  have zero : pass = 0 := zero
  rw [zero] at bit'
  cases BitVec.getLsbD_zero.symm.trans bit'

/-- Whole entries that pass become one, which then may fuse with others. -/
theorem passWord_whole (quiet : s.Quiet) : s.passWord t w c i pass = (s.passedBy t w c i pass e rest).fuse t w := by
  have mem : ∀ y ∈ e :: rest, y ∈ (s.wave t w).entries := fun y hy => ((mem_chosen chosen).1 hy).1
  have before : ((s.passedLanes t w c i pass).wave t w).entries = (s.wave t w).entries := entries_passedLanes_eq empty
  unfold State.passWord
  extract_lets next marked u v es apart s1 s2 deferred kept mask defer s3
  have es_eq : es = e :: rest := by
    unfold es
    rw [show v = s.passedLanes t w c i pass from rfl, before, chosen]
  clear_value es
  subst es_eq
  have stays : s1 = s.passedLanes t w c i pass := by
    refine List.foldlRecOn (motive := fun u : State => u = s.passedLanes t w c i pass) (e :: rest) apart rfl fun u same y hy => ?_
    unfold apart
    rw [whole_chosen h whole runs chosen hy, leave_zero, same]
  have cut : s2 = (s.passedLanes t w c i pass).unbundled t w (e :: rest) := by
    unfold s2
    rw [stays]
    rfl
  have table : (s2.wave t w).entries = (s.wave t w).entries := by
    rw [cut, wave_of_teams (teams_unbundled ..), before]
  have settled : ∀ m : BitVec 32, ∀ y ∈ (s2.wave t w).entries, y.defer &&& m = 0 := fun m y hy => by
    rw [(h.sorted y (table ▸ hy)).settled]
    exact BitVec.zero_and
  have nothing : deferred = 0 := by
    unfold deferred
    rw [List.foldl_map]
    exact foldl_or_zero (settled pass) 0
  have kept_iff : ∀ y, y ∈ kept ↔ y ∈ e :: rest := fun y => by
    unfold kept
    rw [List.mem_filter, table, List.any_eq_true]
    constructor
    · rintro ⟨hy, z, hz, same⟩
      exact h.slots z (mem z hz) y hy (beq_iff_eq.1 same) ▸ hz
    · exact fun hy => ⟨mem y hy, y, hy, beq_self_eq_true _⟩
  have all : mask = pass := by
    refine BitVec.eq_of_getLsbD_eq fun k _ => ?_
    unfold mask
    have zero : BitVec.getLsbD (0 : BitVec 32) k = false := BitVec.getLsbD_zero
    rw [getLsbD_foldl_or, nothing, zero, Bool.false_or, Bool.eq_iff_iff, List.any_eq_true, lanes_chosen h whole runs chosen k]
    simp only [BitVec.getLsbD_and, Bool.and_eq_true]
    constructor
    · rintro ⟨y, hy, own, -⟩
      exact ⟨y, mem y ((kept_iff y).1 hy), (kept_iff y).1 hy, own⟩
    · rintro ⟨y, hy, hz, own⟩
      exact ⟨y, (kept_iff y).2 hz, own, (lanes_chosen h whole runs chosen k).2 ⟨y, hy, hz, own⟩⟩
  have none_ : defer = 0 := foldl_or_zero (fun y hy => settled _ y (List.mem_filter.1 hy).1) 0
  have out : s3 = s.passedCut t w c i pass (e :: rest) := by
    unfold s3
    rw [cut]
    rfl
  have joined : s3.modWave t w (fun x => { x with entries := x.entries.flatMap (fun y =>
      if y.slot == e.slot then [joinEntries y rest mask defer next marked]
      else if (rest.any fun z => z.slot == y.slot) then [] else [{ y with defer := y.defer &&& ~~~pass }]) }) =
      s.passedBy t w c i pass e rest := by
    rw [out, all, none_, State.passedBy]
    refine modWave_congr (congrArg (fun es => { (s.passedCut t w c i pass (e :: rest)).wave t w with entries := es }) ?_)
    refine List.flatMap_congr fun y hy => ?_
    split
    · next same =>
      rw [wave_passedCut, before] at hy
      rw [h.slots y hy e (mem e List.mem_cons_self) (beq_iff_eq.1 same)]
      exact (if_pos (beq_self_eq_true _)).symm
    · next other => exact (if_neg other).symm
  have quiet' : (s.passedBy t w c i pass e rest).Quiet := by
    refine quiet.of_still ?_
    rw [still_passedBy, release_noStores empty]
  dsimp only
  rw [joined, all, settle_passedBy h empty whole runs chosen, passHits_quiet quiet']

end

end

end Sys2Proof.Machine

/-! The lanes of a wave whose wait at SYNCW or WSYNCM is over pass, word after word (R212 to R214). -/

namespace Sys2Proof.Machine

/-! ### One word passes -/

/-- No debugger, no store and no entry of the word that issues has a part in what a wave's waiting lanes do. -/
structure State.Meets (s : State) (t w : Nat) : Prop where
  orderly : s.Orderly t w
  quiet : s.Quiet
  empty : s.NoStores
  gone : s.bundle.members = []

/-- The entry holds the lanes of `pass`, at the clause after that of their word. -/
structure Entry.WentOn (y : Entry) (c : DWord) (i : Nat) (pass : BitVec 32) : Prop where
  lanes : ∀ k, pass.getLsbD k = true → y.mask.getLsbD k = true
  flight : y.flight = none
  clause : y.clause = clauseAfter c i
  idx : y.idx = 0

theorem Entry.WentOn.of_holds {x y : Entry} {c : DWord} {i : Nat} {pass : BitVec 32} (h : x.WentOn c i pass) (k : y.Holds x) :
    y.WentOn c i pass :=
  ⟨fun j hj => k.lanes j (h.lanes j hj), k.flight.trans h.flight, k.clause.trans h.clause, k.idx.trans h.idx⟩

theorem empty_of_still {s u : State} (same : u.still = s.still) (empty : s.NoStores) : u.NoStores := fun x hx =>
  empty x (ops_of_still same ▸ hx)

/-- What passing one word does. -/
structure Passes (s u : State) (t w : Nat) (c : DWord) (i : Nat) (pass : BitVec 32) : Prop where
  meets : u.Meets t w
  still : u.still = s.still
  lane : ∀ k, u.lane ⟨t, w, k⟩ = if pass.getLsbD k then Lane.passed c i (s.lane ⟨t, w, k⟩) else s.lane ⟨t, w, k⟩
  went : ∃ y ∈ (u.wave t w).entries, y.WentOn c i pass
  kept : ∀ x ∈ (s.wave t w).entries, (∀ k, x.mask.getLsbD k = true → pass.getLsbD k = false) →
    ∃ y ∈ (u.wave t w).entries, y.Holds x

theorem members_of_issue {s u : State} (same : u.issue = s.issue) (gone : s.bundle.members = []) : u.bundle.members = [] := by
  rw [State.bundle, same]
  exact gone

theorem members_passedBy {s : State} {t w i : Nat} {c : DWord} {pass : BitVec 32} (empty : s.NoStores)
    (gone : s.bundle.members = []) (e : Entry) (rest : List Entry) : (s.passedBy t w c i pass e rest).bundle.members = [] := by
  have lanes : (s.passedLanes t w c i pass).issue = s.issue := by
    rw [passedLanes_eq empty]
    exact issue_foldl (fun s k => s.modLane ⟨t, w, k⟩ (Lane.passed c i)) (fun _ _ => rfl) _ _
  have cut := members_unbundled (members_of_issue lanes gone) t w (e :: rest)
  exact cut

theorem passes_passWord {s : State} {t w i : Nat} {c : DWord} {pass : BitVec 32} (h : s.Meets t w) (whole : s.Whole t w pass)
    (runs : ∀ k, pass.getLsbD k = true → (s.lane ⟨t, w, k⟩).ended = false) (some : ∃ k, pass.getLsbD k = true) :
    Passes s (s.passWord t w c i pass) t w c i pass := by
  obtain ⟨orderly, quiet, empty, gone⟩ := h
  cases chosen : (s.wave t w).entries.filter fun y => y.mask &&& pass != 0 with
  | nil =>
    obtain ⟨k, bit⟩ := some
    obtain ⟨y, hy, own⟩ := orderly.covered k (BitVec.lt_of_getLsbD bit) (runs k bit)
    refine absurd (List.filter_eq_nil_iff.1 chosen y hy) (not_not.2 ?_)
    rw [bne_iff_ne, and_ne_zero_iff]
    exact ⟨k, own, bit⟩
  | cons e rest =>
    have entries := entries_passedBy empty chosen (c := c) (i := i)
    have merges := merges_passedBy orderly whole runs chosen (c := c) (i := i)
    have still : (s.passedBy t w c i pass e rest).still = s.still := by rw [still_passedBy, release_noStores empty]
    obtain ⟨orderly', lanes, issue, holds⟩ := fuseGo_keeps 64 (orderly_passedBy orderly empty whole runs chosen (c := c) (i := i))
    have still' : ((s.passedBy t w c i pass e rest).fuse t w).still = s.still := (still_fuse ..).trans still
    rw [passWord_whole orderly empty whole runs chosen quiet]
    have gone' := members_of_issue issue (members_passedBy empty gone e rest)
    refine ⟨⟨orderly', quiet.of_still still', empty_of_still still' empty, gone'⟩, still', fun k => (lanes _).trans ?_, ?_, fun x hx out => holds x ?_⟩
    · split
      · next bit => exact lane_passedBy_of_mem empty runs bit
      · next out => exact lane_passedBy_of_out empty (Bool.eq_false_iff.2 out)
    · have joined : (passedEntry s t c i pass e rest).WentOn c i pass := ⟨fun _ bit => bit, rfl, rfl, rfl⟩
      obtain ⟨y, hy, first⟩ := holds (passedEntry s t c i pass e rest) (by rw [entries]; exact (merges.mem _).2 (.inl rfl))
      exact ⟨y, hy, joined.of_holds first⟩
    · rw [entries]
      refine (merges.mem x).2 (.inr ⟨hx, fun mem => ?_⟩)
      obtain ⟨-, k, own, bit⟩ := (mem_chosen chosen).1 mem
      rw [out k own] at bit
      cases bit

/-! ### Every word of a wave passes -/

/-- `P` says of each word of `cs` which lanes pass it: those that have arrived there and whose wait, says `ok`, is over. -/
def State.Named (s : State) (t w : Nat) (ok : Arrival → Bool) (P : DWord × Nat → BitVec 32) (cs : List (DWord × Nat)) : Prop :=
  ∀ c ∈ cs, ∀ k, (P c).getLsbD k = true ↔ k < 32 ∧ (s.lane ⟨t, w, k⟩).ended = false ∧
    ∃ a, (s.lane ⟨t, w, k⟩).arrival = some a ∧ (a.clause, a.idx) = c ∧ ok a = true

section
variable {t w : Nat} {ok : Arrival → Bool} {P : DWord × Nat → BitVec 32}

theorem whole_of_named {s : State} {cs : List (DWord × Nat)} (orderly : s.Orderly t w) (named : s.Named t w ok P cs)
    {c : DWord × Nat} (mem : c ∈ cs) : s.Whole t w (P c) := by
  intro y hy k own bit j own'
  obtain ⟨below, -, a, arrival, word, met⟩ := (named c mem k).1 bit
  obtain ⟨-, -, b, all⟩ | none_ := (orderly.sorted y hy).parts
  · obtain ⟨-, first⟩ := all k below own
    obtain ⟨running, second⟩ := all j (BitVec.lt_of_getLsbD own') own'
    have same : b = a := Option.some.inj (first.symm.trans arrival)
    exact (named c mem j).2 ⟨BitVec.lt_of_getLsbD own', running, a, same ▸ second, word, met⟩
  · rw [none_ k below own] at arrival
    cases arrival

/-- An entry with a lane that passes no word has none that does. -/
theorem out_of_named {s : State} {cs : List (DWord × Nat)} (orderly : s.Orderly t w) (named : s.Named t w ok P cs) {y : Entry}
    (hy : y ∈ (s.wave t w).entries) {k : Nat} (own : y.mask.getLsbD k = true) (out : ∀ c ∈ cs, (P c).getLsbD k = false) {j : Nat}
    (own' : y.mask.getLsbD j = true) : ∀ c ∈ cs, (P c).getLsbD j = false := fun c mem => by
  refine Bool.eq_false_iff.2 fun bit => ?_
  exact absurd (whole_of_named orderly named mem y hy j own' bit k own) (Bool.eq_false_iff.1 (out c mem))

/-- Lanes that pass one word have no part in another. -/
theorem Passes.named {s u : State} {c : DWord × Nat} {cs : List (DWord × Nat)} (h : Passes s u t w c.1 c.2 (P c))
    (named : s.Named t w ok P (c :: cs)) (fresh : c ∉ cs) : u.Named t w ok P cs := by
  intro d mem k
  have lane := h.lane k
  rw [named d (List.mem_cons_of_mem c mem) k, lane]
  split
  · next bit =>
    obtain ⟨-, -, a, arrival, word, -⟩ := (named c List.mem_cons_self k).1 bit
    constructor
    · rintro ⟨-, -, b, arrival', word', -⟩
      obtain rfl : a = b := Option.some.inj (arrival.symm.trans arrival')
      exact absurd (word.symm.trans word' ▸ mem) fresh
    · rintro ⟨-, -, b, none_, -⟩
      cases none_
  · rfl

/-- What passing every word of `cs` does. -/
structure PassesAll (s v : State) (t w : Nat) (P : DWord × Nat → BitVec 32) (cs : List (DWord × Nat)) : Prop where
  still : v.still = s.still
  gone : v.bundle.members = []
  quiet : v.Quiet
  done : ∀ c ∈ cs, ∀ k, (P c).getLsbD k = true → (v.lane ⟨t, w, k⟩).arrival = none
  went : ∀ c ∈ cs, ∃ y ∈ (v.wave t w).entries, y.WentOn c.1 c.2 (P c)
  waits : ∀ k, (∀ c ∈ cs, (P c).getLsbD k = false) → (v.lane ⟨t, w, k⟩).arrival = (s.lane ⟨t, w, k⟩).arrival
  kept : ∀ x ∈ (s.wave t w).entries, ∀ k, x.mask.getLsbD k = true →
    (∀ j, x.mask.getLsbD j = true → ∀ c ∈ cs, (P c).getLsbD j = false) → ∃ y ∈ (v.wave t w).entries, y.Holds x

theorem passesAll_foldl {cs : List (DWord × Nat)} {s : State} (h : s.Meets t w) (named : s.Named t w ok P cs) (distinct : cs.Nodup)
    (some : ∀ c ∈ cs, ∃ k, (P c).getLsbD k = true) :
    PassesAll s (cs.foldl (fun u c => u.passWord t w c.1 c.2 (P c)) s) t w P cs := by
  induction cs generalizing s with
  | nil =>
    exact ⟨rfl, h.gone, h.quiet, fun _ mem => absurd mem List.not_mem_nil, fun _ mem => absurd mem List.not_mem_nil, fun _ _ => rfl,
      fun x hx _ _ _ => ⟨x, hx, .refl x⟩⟩
  | cons c cs ih =>
    obtain ⟨fresh, distinct⟩ := List.nodup_cons.1 distinct
    have first := passes_passWord (c := c.1) (i := c.2) h (whole_of_named h.orderly named List.mem_cons_self)
      (fun k bit => ((named c List.mem_cons_self k).1 bit).2.1) (some c List.mem_cons_self)
    have named' := first.named named fresh
    have rest := ih first.meets named' distinct fun d mem => some d (List.mem_cons_of_mem c mem)
    rw [List.foldl_cons]
    generalize s.passWord t w c.1 c.2 (P c) = u at first rest named'
    have done : ∀ k, (P c).getLsbD k = true → (u.lane ⟨t, w, k⟩).arrival = none ∧ ∀ d ∈ cs, (P d).getLsbD k = false := by
      intro k bit
      have none_ : (u.lane ⟨t, w, k⟩).arrival = none := by
        rw [first.lane, if_pos bit]
        rfl
      refine ⟨none_, fun d mem => Bool.eq_false_iff.2 fun again => ?_⟩
      obtain ⟨-, -, a, arrival, -⟩ := (named' d mem k).1 again
      rw [none_] at arrival
      cases arrival
    refine ⟨rest.still.trans first.still, rest.gone, rest.quiet, fun d mem k bit => ?_, fun d mem => ?_, fun k out => ?_,
      fun x hx k own out => ?_⟩
    · obtain rfl | mem := List.mem_cons.1 mem
      · exact (rest.waits k (done k bit).2).trans (done k bit).1
      · exact rest.done d mem k bit
    · obtain rfl | mem := List.mem_cons.1 mem
      · obtain ⟨y, hy, went⟩ := first.went
        obtain ⟨k, bit⟩ := some d List.mem_cons_self
        have out := fun j own' => out_of_named first.meets.orderly named' hy (went.lanes k bit) (done k bit).2 (j := j) own'
        obtain ⟨z, hz, holds⟩ := rest.kept y hy k (went.lanes k bit) out
        exact ⟨z, hz, went.of_holds holds⟩
      · exact rest.went d mem
    · rw [rest.waits k fun d mem => out d (List.mem_cons_of_mem c mem), first.lane,
        if_neg (Bool.eq_false_iff.1 (out c List.mem_cons_self))]
    · obtain ⟨y, hy, holds⟩ := first.kept x hx fun j own => out j own c List.mem_cons_self
      have out' := fun j own' => out_of_named first.meets.orderly named' hy (holds.lanes k own)
        (fun d mem => out k own d (List.mem_cons_of_mem c mem)) (j := j) own'
      obtain ⟨z, hz, later⟩ := rest.kept y hy k (holds.lanes k own) out'
      exact ⟨z, hz, later.trans holds⟩

end

/-! ### The lanes whose wait is over -/

/-- The lanes that have arrived and whose wait is over. -/
def Wave.passing (x : Wave) : List (Nat × Arrival) := x.arrived.filter fun y => x.passes y.2

/-- The words at which lanes stand whose wait is over. -/
def Wave.passedWords (x : Wave) : List (DWord × Nat) := (x.passing.map fun y => (y.2.clause, y.2.idx)).eraseDups

/-- The lanes whose wait at a word is over. -/
def Wave.passMask (x : Wave) (c : DWord × Nat) : BitVec 32 :=
  maskOf ((x.passing.filter fun y => (y.2.clause, y.2.idx) == c).map (·.1))

theorem syncPass_eq (s : State) (t w : Nat) : s.syncPass t w =
    (s.wave t w).passedWords.foldl (fun u c => u.passWord t w c.1 c.2 ((s.wave t w).passMask c)) s := rfl

theorem mem_passing {s : State} {t w k : Nat} {a : Arrival} : (k, a) ∈ (s.wave t w).passing ↔
    (k < 32 ∧ (s.lane ⟨t, w, k⟩).ended = false ∧ (s.lane ⟨t, w, k⟩).arrival = some a) ∧ (s.wave t w).passes a = true := by
  rw [Wave.passing, List.mem_filter, mem_arrived]
  rfl

theorem getLsbD_passMask {s : State} {t w : Nat} (c : DWord × Nat) (k : Nat) : ((s.wave t w).passMask c).getLsbD k = true ↔
    k < 32 ∧ (s.lane ⟨t, w, k⟩).ended = false ∧
      ∃ a, (s.lane ⟨t, w, k⟩).arrival = some a ∧ (a.clause, a.idx) = c ∧ (s.wave t w).passes a = true := by
  rw [Wave.passMask, getLsbD_maskOf]
  simp only [Bool.and_eq_true, decide_eq_true_eq, List.contains_iff_mem, List.mem_map, List.mem_filter, beq_iff_eq]
  constructor
  · rintro ⟨below, ⟨j, a⟩, ⟨mem, word⟩, rfl⟩
    obtain ⟨⟨-, running, arrival⟩, met⟩ := mem_passing.1 mem
    exact ⟨below, running, a, arrival, word, met⟩
  · rintro ⟨below, running, a, arrival, word, met⟩
    exact ⟨below, (k, a), ⟨mem_passing.2 ⟨⟨below, running, arrival⟩, met⟩, word⟩, rfl⟩

theorem nodup_eraseDups {α : Type} [BEq α] [LawfulBEq α] (l : List α) : l.eraseDups.Nodup := by
  induction size : l.length using Nat.strong_induction_on generalizing l with
  | _ n ih =>
    cases l with
    | nil => exact List.nodup_nil
    | cons a l =>
      have shorter : (l.filter fun b => !b == a).length < n := by
        rw [← size, List.length_cons]
        exact Nat.lt_succ_of_le (List.length_filter_le ..)
      rw [List.eraseDups_cons]
      refine List.nodup_cons.2 ⟨fun mem => ?_, ih _ shorter _ rfl⟩
      simpa using List.mem_eraseDups.1 mem

theorem passesAll_syncPass {s : State} {t w : Nat} (h : s.Meets t w) :
    PassesAll s (s.syncPass t w) t w (s.wave t w).passMask (s.wave t w).passedWords := by
  rw [syncPass_eq]
  refine passesAll_foldl (ok := (s.wave t w).passes) h (fun c _ k => getLsbD_passMask c k) (nodup_eraseDups _) fun c mem => ?_
  obtain ⟨⟨k, a⟩, passing, word⟩ := List.mem_map.1 (List.mem_eraseDups.1 mem)
  obtain ⟨⟨below, running, arrival⟩, met⟩ := mem_passing.1 passing
  exact ⟨k, (getLsbD_passMask c k).2 ⟨below, running, a, arrival, word, met⟩⟩

/-- Lanes whose wait is over go on, those of one word in one entry. -/
theorem syncPass_goes {s : State} {t w k : Nat} {a : Arrival} (h : s.Meets t w) (below : k < 32)
    (running : (s.lane ⟨t, w, k⟩).ended = false) (arrival : (s.lane ⟨t, w, k⟩).arrival = some a)
    (met : (s.wave t w).passes a = true) :
    ((s.syncPass t w).lane ⟨t, w, k⟩).arrival = none ∧
      ∃ y ∈ ((s.syncPass t w).wave t w).entries, y.mask.getLsbD k = true ∧ y.flight = none ∧ y.clause = clauseAfter a.clause a.idx ∧
        y.idx = 0 ∧ ∀ p < 32, (s.lane ⟨t, w, p⟩).ended = false → (s.lane ⟨t, w, p⟩).arrival = some a → y.mask.getLsbD p = true := by
  have all := passesAll_syncPass h
  have bit : ∀ p < 32, (s.lane ⟨t, w, p⟩).ended = false → (s.lane ⟨t, w, p⟩).arrival = some a →
      ((s.wave t w).passMask (a.clause, a.idx)).getLsbD p = true := fun p below running arrival =>
    (getLsbD_passMask _ p).2 ⟨below, running, a, arrival, rfl, met⟩
  have mem : (a.clause, a.idx) ∈ (s.wave t w).passedWords :=
    List.mem_eraseDups.2 (List.mem_map.2 ⟨(k, a), mem_passing.2 ⟨⟨below, running, arrival⟩, met⟩, rfl⟩)
  obtain ⟨y, hy, lanes, flight, clause, idx⟩ := all.went _ mem
  exact ⟨all.done _ mem k (bit k below running arrival), y, hy, lanes k (bit k below running arrival), flight, clause, idx,
    fun p below running arrival => lanes p (bit p below running arrival)⟩

/-- A lane that still waits stays parked as arrived. -/
theorem syncPass_stays {s : State} {t w k : Nat} {a : Arrival} {x : Entry} (h : s.Meets t w)
    (arrival : (s.lane ⟨t, w, k⟩).arrival = some a) (waits : (s.wave t w).passes a = false) (hx : x ∈ (s.wave t w).entries)
    (own : x.mask.getLsbD k = true) : ((s.syncPass t w).lane ⟨t, w, k⟩).arrival = some a ∧
      ∃ y ∈ ((s.syncPass t w).wave t w).entries, y.Holds x := by
  have all := passesAll_syncPass h
  have named : s.Named t w (s.wave t w).passes (s.wave t w).passMask (s.wave t w).passedWords := fun c _ k => getLsbD_passMask c k
  have out : ∀ c ∈ (s.wave t w).passedWords, ((s.wave t w).passMask c).getLsbD k = false := fun c _ => by
    refine Bool.eq_false_iff.2 fun bit => ?_
    obtain ⟨-, -, b, arrival', -, met⟩ := (getLsbD_passMask c k).1 bit
    obtain rfl : a = b := Option.some.inj (arrival.symm.trans arrival')
    rw [waits] at met
    cases met
  exact ⟨(all.waits k out).trans arrival, all.kept x hx k own fun j own' => out_of_named h.orderly named hx own out own'⟩

theorem mem_counted {s : State} {t w q : Nat} : q ∈ (s.wave t w).counted ↔
    q < 32 ∧ (s.lane ⟨t, w, q⟩).ended = false ∧ (s.lane ⟨t, w, q⟩).isHelper = false := by
  simp only [Wave.counted, List.mem_filter, List.mem_range, Bool.and_eq_true, Bool.not_eq_true']
  rfl

/-- A lane that waits for all passes when every lane that counts has arrived as it has (R212). -/
theorem passes_unmasked {s : State} {t w : Nat} {a : Arrival} (none_ : a.mask = none) : (s.wave t w).passes a = true ↔
    ∀ q, (q < 32 ∧ (s.lane ⟨t, w, q⟩).ended = false ∧ (s.lane ⟨t, w, q⟩).isHelper = false) →
      (s.lane ⟨t, w, q⟩).arrival = some a := by
  simp only [Wave.passes, none_, List.all_eq_true, mem_counted, List.any_eq_true, Bool.and_eq_true, beq_iff_eq]
  refine forall₂_congr fun q counts => ⟨?_, fun arrival => ⟨(q, a), mem_arrived.2 ⟨counts.1, counts.2.1, arrival⟩, rfl, rfl⟩⟩
  rintro ⟨⟨k, b⟩, mem, rfl, rfl⟩
  exact (mem_arrived.1 mem).2.2

/-- A lane that waits for those of a mask passes when each of them has arrived with that mask (R213). -/
theorem passes_masked {s : State} {t w : Nat} {a : Arrival} {m : BitVec 32} (some_ : a.mask = some m) :
    (s.wave t w).passes a = true ↔ ∀ q, (q < 32 ∧ (s.lane ⟨t, w, q⟩).ended = false ∧ (s.lane ⟨t, w, q⟩).isHelper = false) → m.getLsbD q = true →
      ∃ b, (s.lane ⟨t, w, q⟩).arrival = some b ∧ b.mask = some m := by
  simp only [Wave.passes, some_, List.all_eq_true, List.mem_filter, mem_counted, List.any_eq_true, Bool.and_eq_true,
    beq_iff_eq, and_imp]
  refine forall_congr' fun q => forall₄_congr fun below running own bit => ⟨?_, ?_⟩
  · rintro ⟨⟨k, b⟩, mem, rfl, same⟩
    exact ⟨b, (mem_arrived.1 mem).2.2, same⟩
  · rintro ⟨b, arrival, same⟩
    exact ⟨(q, b), mem_arrived.2 ⟨below, running, arrival⟩, rfl, same⟩

end Sys2Proof.Machine

/-! SYNCW and WSYNCM of one lane (R211 to R213): it arrives, parks, and its wave's lanes go on when nothing is missing. -/

namespace Sys2Proof.Machine

/-! ### A whole entry leaves its bundle (R183) -/

theorem entry_eq_some {x : Wave} {e : Entry} (mem : e ∈ x.entries) (only : ∀ y ∈ x.entries, y.slot = e.slot → y = e) :
    x.entry e.slot = some e := by
  cases found : x.entry e.slot with
  | none => exact absurd (beq_self_eq_true e.slot) (List.find?_eq_none.1 found e mem)
  | some y => rw [only y (List.mem_of_find?_eq_some found) (beq_iff_eq.1 (List.find?_some found :))]

/-- What an entry is that parks at a word (R183). -/
def Entry.parkedAt (e : Entry) (c : DWord) (i p : Nat) (y : Why) : Entry :=
  { e with clause := c, idx := i, park := p, why := y, flight := none }

/-- The state in which an entry has left its bundle to park at a word. -/
def State.parkedOut (s : State) (m : Member) (mask : BitVec 32) (c : DWord) (i p : Nat) (y : Why) : State :=
  ((s.setPcs m.team m.wave mask c i).modEntry m.team m.wave m.slot fun e => e.parkedAt c i p y).modBundles
    fun b => b.without m.team m.wave m.slot

theorem entries_setPcs (s : State) (t w : Nat) (mask : BitVec 32) (c : DWord) (i : Nat) (a b : Nat) :
    ((s.setPcs t w mask c i).wave a b).entries = (s.wave a b).entries :=
  entries_foldl_modLane (fun _ l => { l with clause := c, idx := i }) t w (maskLanes mask) s a b

theorem arrival_setPcs (s : State) (t w : Nat) (mask : BitVec 32) (c : DWord) (i : Nat) (r : Ref) :
    ((s.setPcs t w mask c i).lane r).arrival = (s.lane r).arrival :=
  List.foldlRecOn (motive := fun u : State => (u.lane r).arrival = (s.lane r).arrival) (maskLanes mask) _ rfl fun u same k _ => by
    rw [lane_modLane]
    split
    · exact same
    · exact same

section
variable {s : State} {m : Member} {e : Entry} (mem : e ∈ (s.wave m.team m.wave).entries) (slot : e.slot = m.slot)
  (only : ∀ y ∈ (s.wave m.team m.wave).entries, y.slot = e.slot → y = e)
include mem

theorem entries_parkedOut (mask : BitVec 32) (c : DWord) (i p : Nat) (y : Why) :
    ((s.parkedOut m mask c i p y).wave m.team m.wave).entries =
      (s.wave m.team m.wave).entries.map fun x => if x.slot == m.slot then x.parkedAt c i p y else x := by
  have before := entries_setPcs s m.team m.wave mask c i m.team m.wave
  have bundles : (s.parkedOut m mask c i p y).wave m.team m.wave = ((s.setPcs m.team m.wave mask c i).modEntry m.team m.wave m.slot
      fun e => e.parkedAt c i p y).wave m.team m.wave := rfl
  rw [bundles, State.modEntry, wave_modWave_of_entries (by rw [before]; exact List.ne_nil_of_mem mem), Wave.modEntry, before]

include slot only

theorem leave_whole (some : e.mask ≠ 0) (settled : e.defer = 0) (c : DWord) (i p : Nat) (y : Why) (b : Bool) :
    s.leave m e.mask c i p y b = s.parkedOut m e.mask c i p y := by
  have found : (s.wave m.team m.wave).entry m.slot = Option.some e := slot ▸ entry_eq_some mem only
  have all : (e.mask &&& e.mask) = e.mask := BitVec.and_self
  have stays : ∀ old, (s.parkedOut m e.mask c i p y).settle m.team m.wave m.slot old = s.parkedOut m e.mask c i p y := fun old => by
    refine settle_settled (fun x hx same => ?_) old
    rw [entries_parkedOut mem] at hx
    obtain ⟨z, hz, rfl⟩ := List.mem_map.1 hx
    split at same
    · next here =>
      rw [only z hz ((beq_iff_eq.1 here).trans slot.symm), if_pos (beq_iff_eq.2 slot)]
      exact ⟨settled, some⟩
    · next other => exact absurd (beq_iff_eq.2 same) other
  unfold State.leave
  simp only [found, all]
  rw [if_neg (by simpa using some), if_pos (beq_self_eq_true _)]
  exact stays e.mask

end

/-! ### One lane arrives (R211) -/

/-- Where a lane arrives that the bundle's word parks. -/
def State.hereWith (s : State) (k : Option (BitVec 32)) : Arrival := ⟨s.bundle.clause, s.bundle.idx, k⟩

theorem still_arriveLanes (s : State) (r : Ref) (k : Option (BitVec 32)) : (s.arriveLanes [(r, k)]).still = s.still :=
  (still_parkLanes ..).trans (still_modLane s r (fun l => { l with arrival := some (s.hereWith k) }) fun _ => rfl)

/-- The word issues for one lane alone in its entry; the other entries of its wave wait as arrived, or their lanes have arrived
nowhere. -/
structure State.Arriving (s : State) (m : Member) (r : Ref) (e : Entry) : Prop where
  quiet : s.Quiet
  empty : s.NoStores
  members : s.bundle.members = [m]
  team : r.team = m.team
  wave : r.wave = m.wave
  running : (s.lane r).ended = false
  parted : s.Parted m.team m.wave
  mem : e ∈ (s.wave m.team m.wave).entries
  slot : e.slot = m.slot
  own : e.mask = m.mask
  lane : ∀ k, m.mask.getLsbD k = true ↔ k = r.lane
  settled : e.defer = 0
  others : ∀ y ∈ (s.wave m.team m.wave).entries, y ≠ e → s.Sorted m.team m.wave y

section
variable {s : State} {m : Member} {r : Ref} {e : Entry} (h : s.Arriving m r e) (k : Option (BitVec 32))
include h

theorem State.Arriving.maskOf : maskOf [r.lane] = e.mask := by
  have below := BitVec.lt_of_getLsbD ((h.lane r.lane).2 rfl)
  refine BitVec.eq_of_getLsbD_eq fun q hq => ?_
  rw [getLsbD_maskOf, h.own, Bool.eq_iff_iff, h.lane]
  simp [hq]

/-- The lane arrives, and its entry leaves the bundle to park. -/
theorem arriveLanes_one : s.arriveLanes [(r, k)] =
    (s.modLane r fun l => { l with arrival := some (s.hereWith k) }).parkedOut m e.mask s.bundle.clause s.bundle.idx 3 .sync := by
  let u := s.modLane r fun l => { l with arrival := some (s.hereWith k) }
  have entries : (u.wave m.team m.wave).entries = (s.wave m.team m.wave).entries := entries_modLane ..
  have some_ : e.mask ≠ 0 := fun zero => by
    have bit := (h.lane r.lane).2 rfl
    rw [← h.own, zero] at bit
    cases BitVec.getLsbD_zero.symm.trans bit
  have here : (r.team == m.team && r.wave == m.wave && m.mask.getLsbD r.lane) = true := by
    rw [(h.lane r.lane).2 rfl, h.team, h.wave]
    simp
  have left := leave_whole (s := u) (m := m) (e := e) (entries ▸ h.mem) h.slot
    (fun y hy same => h.parted.slots y (entries ▸ hy) e h.mem same) some_ h.settled s.bundle.clause s.bundle.idx 3 .sync false
  have members : u.bundle.members = [m] := h.members
  have arrived : s.arriveLanes [(r, k)] = u.parkLanes [r] 3 .sync false := rfl
  have only : [r].filter (fun q => q.team == m.team && q.wave == m.wave && m.mask.getLsbD q.lane) = [r] :=
    List.filter_cons_of_pos here
  rw [arrived, State.parkLanes, members, List.foldl_cons, List.foldl_nil, only, List.map_singleton, h.maskOf]
  exact left

theorem lane_arriveLanes (q : Ref) : ((s.arriveLanes [(r, k)]).lane q).arrival =
    if q = r then some (s.hereWith k) else (s.lane q).arrival := by
  have moved : ∀ u : State, ((u.parkedOut m e.mask s.bundle.clause s.bundle.idx 3 .sync).lane q).arrival = (u.lane q).arrival :=
    fun u => (congrArg Lane.arrival (lane_modEntry ..)).trans (arrival_setPcs ..)
  rw [arriveLanes_one h, moved, lane_modLane]
  by_cases same : q = r
  · subst same
    rw [if_pos ⟨rfl, has_of_running h.running⟩, if_pos rfl]
  · rw [if_neg fun both => same both.1.symm, if_neg same]

/-- The entry of the lane as it is once it has parked. -/
def State.parkedHere (s : State) (e : Entry) : Entry := e.parkedAt s.bundle.clause s.bundle.idx 3 .sync

theorem merges_arriveLanes : Merges (s.wave m.team m.wave).entries ((s.arriveLanes [(r, k)]).wave m.team m.wave).entries (· = e)
    (s.parkedHere e) := by
  let u := s.modLane r fun l => { l with arrival := some (s.hereWith k) }
  have entries : (u.wave m.team m.wave).entries = (s.wave m.team m.wave).entries := entries_modLane ..
  have slot : e.slot == m.slot := beq_iff_eq.2 h.slot
  refine ⟨fun z => ?_, fun q => ⟨fun bit => ⟨e, h.mem, rfl, bit⟩, ?_⟩, ⟨e, h.mem, rfl, rfl⟩⟩
  · rw [arriveLanes_one h, entries_parkedOut (s := u) (entries ▸ h.mem), entries, List.mem_map]
    constructor
    · rintro ⟨y, hy, rfl⟩
      split
      · next same =>
        rw [h.parted.slots y hy e h.mem ((beq_iff_eq.1 same).trans h.slot.symm)]
        exact .inl rfl
      · next other =>
        refine .inr ⟨hy, ?_⟩
        rintro rfl
        exact other slot
    · rintro (rfl | ⟨hz, out⟩)
      · exact ⟨e, h.mem, if_pos slot⟩
      · exact ⟨z, hz, if_neg fun same => out (h.parted.slots z hz e h.mem ((beq_iff_eq.1 same).trans h.slot.symm))⟩
  · rintro ⟨y, -, rfl, bit⟩
    exact bit

theorem meets_arriveLanes : (s.arriveLanes [(r, k)]).Meets m.team m.wave := by
  have still := still_arriveLanes s r k
  have ended : ∀ q, ((s.arriveLanes [(r, k)]).lane q).ended = (s.lane q).ended := fun q =>
    (congrArg Lane.ended (still_lane_of_still still q) :)
  refine ⟨h.parted.merge (merges_arriveLanes h k) ⟨h.settled, .inl ⟨rfl, rfl, s.hereWith k, fun q _ bit => ?_⟩⟩ h.others
    (fun q => ended _) fun q out => ?_, h.quiet.of_still still, empty_of_still still h.empty, ?_⟩
  · have bit : e.mask.getLsbD q = true := bit
    rw [h.own, h.lane] at bit
    subst bit
    rw [ended, lane_arriveLanes h, ← h.team, ← h.wave]
    exact ⟨h.running, if_pos rfl⟩
  · rw [lane_arriveLanes h, if_neg]
    rintro rfl
    have bit := (h.lane q).2 rfl
    rw [← h.own] at bit
    have out : e.mask.getLsbD q = false := out
    rw [bit] at out
    cases out
  · have issue : (s.arriveLanes [(r, k)]).issue = s.issue.map fun b => b.without m.team m.wave m.slot := by
      rw [arriveLanes_one h]
      exact congrArg (Option.map _) (issue_setPcs ..)
    have members := h.members
    unfold State.bundle at members ⊢
    rw [issue]
    cases issues : s.issue with
    | none => rfl
    | some b =>
      rw [issues] at members
      have own : b.members = [m] := members
      simp [Bundle.without, own]

end

/-! ### What the word leaves -/

/-- The state in which the lane has arrived and those lanes of its wave have gone on whose wait is over. -/
def State.synced (s : State) (r : Ref) (k : Option (BitVec 32)) : State := (s.arriveLanes [(r, k)]).syncPass r.team r.wave

section
variable {s : State} {m : Member} {r : Ref} {e : Entry} (h : s.Arriving m r e) (k : Option (BitVec 32))
include h

theorem meets_arrived : (s.arriveLanes [(r, k)]).Meets r.team r.wave := by
  rw [h.team, h.wave]
  exact meets_arriveLanes h k

theorem synced_frame (ls : List Ref) : (((s.synced r k).finish ls []).endTurn [r]).teams = (s.synced r k).teams ∧
    (((s.synced r k).finish ls []).endTurn [r]).mem = s.mem ∧ (s.synced r k).still = s.still := by
  have all := passesAll_syncPass (meets_arrived h k)
  have still : (s.synced r k).still = s.still := all.still.trans (still_arriveLanes s r k)
  obtain ⟨teams, mem, -⟩ := frame_endTurn ((s.synced r k).finish ls []) [r]
  have bytes := mem_of_still ((still_finish all.quiet ls []).trans still)
  exact ⟨teams.trans (teams_finish_gone all.quiet all.gone ls []), mem.trans bytes, still⟩

end

end Sys2Proof.Machine

/-! What SYNCW and WSYNCM of one lane leave (R211 to R213), told of the state in which the word issues. -/

namespace Sys2Proof.Machine

/-! ### Where the lanes of the wave stand once the lane has arrived -/

/-- What each lane of a wave has arrived at when the lane `r` has arrived as well. -/
def State.standsAt (s : State) (r : Ref) (k : Option (BitVec 32)) (q : Nat) : Option Arrival :=
  if q = r.lane then some (s.hereWith k) else (s.lane ⟨r.team, r.wave, q⟩).arrival

/-- A lane counts: it runs and is no helper (R212). -/
def State.countsIn (s : State) (r : Ref) (q : Nat) : Prop :=
  q < 32 ∧ (s.lane ⟨r.team, r.wave, q⟩).ended = false ∧ (s.lane ⟨r.team, r.wave, q⟩).isHelper = false

/-- Nothing has happened but that lanes have latched halves of their operands (R24). -/
structure Latched (s u : State) : Prop where
  lanes : ∀ q, (u.lane q).unlatched = (s.lane q).unlatched
  bundle : u.bundle = s.bundle
  mem : u.mem = s.mem

theorem Latched.refl (s : State) : Latched s s := ⟨fun _ => rfl, rfl, rfl⟩

/-- What a lane keeps that goes on or waits. -/
theorem kept_of_still {l k : Lane} (same : l.still = k.still) :
    l.g = k.g ∧ l.p = k.p ∧ l.sp = k.sp ∧ l.ended = k.ended ∧ l.isHelper = k.isHelper :=
  ⟨(congrArg Lane.g same :), (congrArg Lane.p same :), (congrArg Lane.sp same :), (congrArg Lane.ended same :),
    (congrArg Lane.isHelper same :)⟩

/-- What a lane keeps that latches halves. -/
theorem kept_of_unlatched {l k : Lane} (same : l.unlatched = k.unlatched) :
    l.g = k.g ∧ l.p = k.p ∧ l.sp = k.sp ∧ l.ended = k.ended :=
  ⟨(congrArg Lane.g same :), (congrArg Lane.p same :), (congrArg Lane.sp same :), (congrArg Lane.ended same :)⟩

section
variable {s u : State} {m : Member} {r : Ref} {e : Entry} (l : Latched s u) (h : u.Arriving m r e) (k : Option (BitVec 32))
include l

theorem Latched.ended (q : Ref) : (u.lane q).ended = (s.lane q).ended := (congrArg Lane.ended (l.lanes q) :)

theorem Latched.isHelper (q : Ref) : (u.lane q).isHelper = (s.lane q).isHelper := (congrArg Lane.isHelper (l.lanes q) :)

theorem Latched.arrival (q : Ref) : (u.lane q).arrival = (s.lane q).arrival := (congrArg Lane.arrival (l.lanes q) :)

theorem Latched.hereWith : u.hereWith k = s.hereWith k := by rw [State.hereWith, l.bundle]; rfl

theorem counts_arrived (q : Nat) : (q < 32 ∧ ((u.arriveLanes [(r, k)]).lane ⟨r.team, r.wave, q⟩).ended = false ∧
    ((u.arriveLanes [(r, k)]).lane ⟨r.team, r.wave, q⟩).isHelper = false) ↔ s.countsIn r q := by
  obtain ⟨-, -, -, ended, helper⟩ := kept_of_still (still_lane_of_still (still_arriveLanes u r k) ⟨r.team, r.wave, q⟩)
  rw [ended, helper, l.ended, l.isHelper]
  rfl

include h

theorem arrival_arrived (q : Nat) : ((u.arriveLanes [(r, k)]).lane ⟨r.team, r.wave, q⟩).arrival = s.standsAt r k q := by
  rw [lane_arriveLanes h, l.hereWith, l.arrival, State.standsAt]
  refine if_congr ⟨fun same => (congrArg Ref.lane same :), fun same => ?_⟩ rfl rfl
  rw [same]

/-- SYNCW: the lane's wait is over when every lane that counts has arrived as it has (R212). -/
theorem passes_syncw : ((u.arriveLanes [(r, none)]).wave r.team r.wave).passes (s.hereWith none) = true ↔
    ∀ q, s.countsIn r q → s.standsAt r none q = some (s.hereWith none) := by
  rw [passes_unmasked rfl]
  exact forall_congr' fun q => by rw [counts_arrived l, arrival_arrived l h]

/-- WSYNCM: the wait of who has arrived with a mask is over when every lane of it that counts has arrived with that mask (R213). -/
theorem passes_wsyncm {mask : BitVec 32} {a : Arrival} (masked : a.mask = some mask) :
    ((u.arriveLanes [(r, k)]).wave r.team r.wave).passes a = true ↔
      ∀ q, s.countsIn r q → mask.getLsbD q = true → ∃ b, s.standsAt r k q = some b ∧ b.mask = some mask := by
  rw [passes_masked masked]
  exact forall_congr' fun q => by rw [counts_arrived l, arrival_arrived l h]

/-! ### The word's end -/

/-- The lanes keep their registers, predicates and stacks, and memory its bytes. -/
theorem keeps_synced (ls : List Ref) : (((u.synced r k).finish ls []).endTurn [r]).mem = s.mem ∧
    ∀ q, let x := (((u.synced r k).finish ls []).endTurn [r]).lane q
      x.g = (s.lane q).g ∧ x.p = (s.lane q).p ∧ x.sp = (s.lane q).sp ∧ x.ended = (s.lane q).ended := by
  obtain ⟨teams, mem, still⟩ := synced_frame h k ls
  refine ⟨mem.trans l.mem, fun q => ?_⟩
  have lane : (((u.synced r k).finish ls []).endTurn [r]).lane q = (u.synced r k).lane q := lane_of_teams teams q
  obtain ⟨g, p, sp, ended, -⟩ := kept_of_still (still_lane_of_still still q)
  obtain ⟨g', p', sp', ended'⟩ := kept_of_unlatched (l.lanes q)
  dsimp only
  rw [lane]
  exact ⟨g.trans g', p.trans p', sp.trans sp', ended.trans ended'⟩

/-- A lane whose wait is over goes on, in one entry with those of its word. -/
theorem goes_synced (ls : List Ref) {q : Nat} {a : Arrival} (below : q < 32) (running : (s.lane ⟨r.team, r.wave, q⟩).ended = false)
    (stands : s.standsAt r k q = some a) (met : ((u.arriveLanes [(r, k)]).wave r.team r.wave).passes a = true) :
    let t := ((u.synced r k).finish ls []).endTurn [r]
    (t.lane ⟨r.team, r.wave, q⟩).arrival = none ∧
      ∃ x ∈ (t.wave m.team m.wave).entries, x.mask.getLsbD q = true ∧ x.flight = none ∧
        x.clause = a.clause + BitVec.ofNat 64 (8 * (a.idx + 2)) ∧ x.idx = 0 ∧
        ∀ p < 32, (s.lane ⟨r.team, r.wave, p⟩).ended = false → s.standsAt r k p = some a → x.mask.getLsbD p = true := by
  intro t
  obtain ⟨teams, -, -⟩ := synced_frame h k ls
  have ended : ∀ p, ((u.arriveLanes [(r, k)]).lane ⟨r.team, r.wave, p⟩).ended = (s.lane ⟨r.team, r.wave, p⟩).ended := fun p => by
    obtain ⟨-, -, -, ended, -⟩ := kept_of_still (still_lane_of_still (still_arriveLanes u r k) ⟨r.team, r.wave, p⟩)
    exact ended.trans (l.ended _)
  obtain ⟨none_, x, hx, bit, flight, clause, idx, all⟩ := syncPass_goes (meets_arrived h k) below ((ended q).trans running)
    ((arrival_arrived l h k q).trans stands) met
  rw [lane_of_teams teams, ← h.team, ← h.wave, wave_of_teams teams]
  exact ⟨none_, x, hx, bit, flight, clause, idx, fun p below running stands =>
    all p below ((ended p).trans running) ((arrival_arrived l h k p).trans stands)⟩

/-- A lane whose wait is not over stands parked as arrived. -/
theorem waits_synced (ls : List Ref) (waits : ((u.arriveLanes [(r, k)]).wave r.team r.wave).passes (s.hereWith k) = false) :
    let t := ((u.synced r k).finish ls []).endTurn [r]
    (t.lane r).arrival = some (s.hereWith k) ∧
      ∃ x ∈ (t.wave m.team m.wave).entries, x.mask.getLsbD r.lane = true ∧ x.flight = none ∧ x.park = 3 := by
  intro t
  obtain ⟨teams, -, -⟩ := synced_frame h k ls
  have parked : u.parkedHere e ∈ ((u.arriveLanes [(r, k)]).wave r.team r.wave).entries := by
    rw [h.team, h.wave]
    exact ((merges_arriveLanes h k).mem _).2 (.inl rfl)
  have own : (u.parkedHere e).mask.getLsbD r.lane = true := by
    change e.mask.getLsbD r.lane = true
    rw [h.own]
    exact (h.lane _).2 rfl
  have arrival : ((u.arriveLanes [(r, k)]).lane ⟨r.team, r.wave, r.lane⟩).arrival = some (s.hereWith k) :=
    (arrival_arrived l h k r.lane).trans (if_pos rfl)
  obtain ⟨stays, x, hx, holds⟩ := syncPass_stays (meets_arrived h k) arrival waits parked own
  rw [lane_of_teams teams, ← h.team, ← h.wave, wave_of_teams teams]
  exact ⟨stays, x, hx, holds.lanes _ own, holds.flight, holds.park⟩

end

/-! ### SYNCW and WSYNCM -/

theorem execSyncw_one {s : State} {m : Member} {r : Ref} (h : s.Single m r) :
    exec .syncw s = .next (((s.synced r none).finish [] []).endTurn [r]) := by
  change execSyncw s = _
  rw [execSyncw, whenIssued_ready h.ready]
  simp only [tileStores_noStores h.empty, Bool.false_eq_true, if_false, h.releaseWord, h.active, wavesOf_singleton, List.map_cons,
    List.map_nil, List.foldl_cons, List.foldl_nil]
  rfl

/-! ### The lanes that WSYNCM faults (R213) -/

/-- The lanes that had arrived with a mask that conflicts with a lane's own. -/
def Wave.clashes (x : Wave) (n : Nat) (mask : BitVec 32) : List Nat :=
  (List.range 32).filter fun q => q != n && !(x.lanes.getD q Lane.blank).ended && !(x.lanes.getD q Lane.blank).isHelper &&
    match (x.lanes.getD q Lane.blank).arrival.bind (·.mask) with
    | some k => (mask.getLsbD q || k.getLsbD n) && k != mask
    | none => false

/-- The lanes other than `n` that have arrived with a mask, each with it, but for helpers. -/
def Wave.masked (x : Wave) (n : Nat) : List (Nat × BitVec 32) :=
  (x.arrived.filterMap fun y => match y.2.mask with
    | some m => if n == y.1 then none else some (y.1, m)
    | none => none).filter fun y => !(x.lanes.getD y.1 Lane.blank).isHelper

/-- The absent lanes of a wave. -/
def Wave.absentMask (x : Wave) : BitVec 32 := maskOf ((List.range 32).filter fun k => (x.lanes.getD k Lane.blank).absent)

theorem clashes_eq_masked (x : Wave) (n : Nat) (mask : BitVec 32) :
    ((x.masked n).filter fun y => (mask.getLsbD y.1 || y.2.getLsbD n) && y.2 != mask).map (·.1) = x.clashes n mask := by
  unfold Wave.masked Wave.arrived Wave.clashes
  rw [List.filterMap_filterMap, List.filter_filterMap, List.filter_filterMap, List.map_filterMap, ← List.filterMap_eq_filter]
  refine List.filterMap_congr fun q _ => ?_
  cases running : (x.lanes.getD q Lane.blank).ended with
  | true => simp [-List.getD_eq_getElem?_getD, running, Option.guard]
  | false =>
    cases arrival : (x.lanes.getD q Lane.blank).arrival with
    | none => simp [-List.getD_eq_getElem?_getD, running, arrival, Option.guard]
    | some a =>
      cases masked : a.mask with
      | none => simp [-List.getD_eq_getElem?_getD, running, arrival, masked, Option.guard]
      | some k =>
        cases same : n == q <;> cases own : (x.lanes.getD q Lane.blank).isHelper <;>
          simp_all [-List.getD_eq_getElem?_getD, Option.guard, Option.filter, eq_comm (a := n)]

theorem syncBad_one {x : Wave} {n : Nat} (own : (x.lanes.getD n Lane.blank).isHelper = false) (mask : BitVec 32) :
    x.syncBad [(n, mask)] =
      (if !mask.getLsbD n || mask &&& x.absentMask != 0 then [n] else []) ++
        ((if x.clashes n mask = [] then [] else [n]) ++ x.clashes n mask) := by
  have others : ∀ y ∈ x.masked n, (n == y.1) = false := fun y hy => by
    obtain ⟨hy, -⟩ := List.mem_filter.1 hy
    obtain ⟨z, -, hz⟩ := List.mem_filterMap.1 hy
    split at hz
    · split at hz
      · cases hz
      · next out =>
        obtain rfl := Option.some.inj hz
        exact Bool.eq_false_iff.2 out
    · cases hz
  unfold Wave.syncBad
  extract_lets absent old all clash
  have all_eq : all = (n, mask) :: x.masked n := by
    unfold all old
    simp only [List.any_cons, List.any_nil, Bool.or_false, List.cons_append, List.nil_append]
    exact List.filter_cons_of_pos (by rw [own]; rfl)
  have self : ([(n, mask)].filter fun x => !x.2.getLsbD x.1 || x.2 &&& absent != 0).map (·.1) =
      if !mask.getLsbD n || mask &&& absent != 0 then [n] else [] := by
    rw [List.filter_singleton]
    dsimp only
    cases !mask.getLsbD n || mask &&& absent != 0 <;> rfl
  have other : ∀ y ∈ x.masked n, (all.any fun b => clash y b && [(n, mask)].any fun z => z.1 == y.1 || z.1 == b.1) =
      ((mask.getLsbD y.1 || y.2.getLsbD n) && y.2 != mask) := fun y hy => by
    have none_ : ((x.masked n).any fun b => clash y b && [(n, mask)].any fun z => z.1 == y.1 || z.1 == b.1) = false :=
      List.any_eq_false.2 fun b hb => by simp [others y hy, others b hb]
    have apart : (y.1 != n) = true := bne_iff_ne.2 fun same => by simpa [same] using others y hy
    rw [all_eq, List.any_cons, none_]
    simp [clash, apart, Bool.or_comm]
  have first : (all.any fun b => clash (n, mask) b && [(n, mask)].any fun z => z.1 == (n, mask).1 || z.1 == b.1) =
      !(x.clashes n mask).isEmpty := by
    have apart : ∀ y ∈ x.masked n, (clash (n, mask) y && [(n, mask)].any fun z => z.1 == (n, mask).1 || z.1 == y.1) =
        ((mask.getLsbD y.1 || y.2.getLsbD n) && y.2 != mask) := fun y hy => by
      have apart : (n != y.1) = true := bne_iff_ne.2 fun same => by simpa [← same] using others y hy
      simp [clash, apart, bne_comm (a := mask)]
    have self : (clash (n, mask) (n, mask) && [(n, mask)].any fun z => z.1 == (n, mask).1 || z.1 == (n, mask).1) = false := by
      simp [clash]
    have some_ : ((x.masked n).any fun y => (mask.getLsbD y.1 || y.2.getLsbD n) && y.2 != mask) = !(x.clashes n mask).isEmpty := by
      rw [← clashes_eq_masked, List.isEmpty_map, Bool.eq_iff_iff]
      simp
    rw [all_eq, List.any_cons, self, Bool.false_or, ← some_, Bool.eq_iff_iff, List.any_eq_true, List.any_eq_true]
    exact exists_congr fun y => and_congr_right fun hy => by rw [apart y hy]
  rw [self]
  refine congrArg _ ?_
  rw [all_eq] at first other ⊢
  rw [List.filter_cons, first, List.filter_congr other, ← clashes_eq_masked]
  cases (x.masked n).filter fun y => (mask.getLsbD y.1 || y.2.getLsbD n) && y.2 != mask <;> rfl

/-- The lane that issues meets a cause, or a lane that had arrived conflicts with it (R213). -/
def Wave.refuses (x : Wave) (n : Nat) (mask : BitVec 32) : Prop :=
  mask.getLsbD n = false ∨ (∃ q < 32, mask.getLsbD q = true ∧ (x.lanes.getD q Lane.blank).absent = true) ∨ x.clashes n mask ≠ []

theorem absent_named {x : Wave} {mask : BitVec 32} :
    (mask &&& x.absentMask != 0) = true ↔
      ∃ q < 32, mask.getLsbD q = true ∧ (x.lanes.getD q Lane.blank).absent = true := by
  rw [bne_iff_ne, and_ne_zero_iff]
  refine exists_congr fun q => ⟨fun h => ?_, fun h => ?_⟩
  · obtain ⟨bit, absent⟩ := h
    have below := BitVec.lt_of_getLsbD bit
    exact ⟨below, bit, by rwa [Wave.absentMask, getLsbD_maskOf_filter below] at absent⟩
  · obtain ⟨below, bit, absent⟩ := h
    exact ⟨bit, by rwa [Wave.absentMask, getLsbD_maskOf_filter below]⟩

section
variable {x : Wave} {n : Nat} (own : (x.lanes.getD n Lane.blank).isHelper = false) (mask : BitVec 32)
include own

theorem syncBad_eq_nil (good : ¬x.refuses n mask) : x.syncBad [(n, mask)] = [] := by
  obtain ⟨bit, none_, clashes⟩ := not_or.1 good |>.imp_right not_or.1
  have quiet : (!mask.getLsbD n || mask &&& x.absentMask != 0) = false := by
    rw [Bool.eq_false_iff.2 (mt absent_named.1 none_), Bool.eq_true_of_not_eq_false bit]
    rfl
  rw [syncBad_one own, quiet, not_not.1 clashes]
  rfl

theorem mem_syncBad_self (bad : x.refuses n mask) : (x.syncBad [(n, mask)]).contains n = true := by
  rw [syncBad_one own, List.contains_iff_mem]
  obtain bit | absent | clashes := bad
  · rw [bit]
    exact List.mem_cons_self
  · rw [absent_named.2 absent, Bool.or_true]
    exact List.mem_cons_self
  · rw [if_neg clashes]
    exact List.mem_append_right _ List.mem_cons_self

theorem syncBad_others : (x.syncBad [(n, mask)]).filter (· != n) = x.clashes n mask := by
  have apart : (x.clashes n mask).filter (· != n) = x.clashes n mask := List.filter_eq_self.2 fun q hq => by
    obtain ⟨-, found⟩ := List.mem_filter.1 hq
    simp only [Bool.and_eq_true] at found
    exact found.1.1.1
  have none_ : [n].filter (· != n) = [] := List.filter_cons_of_neg (by simp)
  rw [syncBad_one own, List.filter_append, List.filter_append, apart]
  split <;> split <;> simp [none_]

end

theorem eraseDups_of_nodup {α : Type} [BEq α] [LawfulBEq α] {l : List α} (distinct : l.Nodup) : l.eraseDups = l := by
  induction l with
  | nil => rfl
  | cons a l ih =>
    obtain ⟨fresh, distinct⟩ := List.nodup_cons.1 distinct
    have apart : (l.filter fun b => !b == a) = l := List.filter_eq_self.2 fun b hb => by
      have other : b ≠ a := fun same => fresh (same ▸ hb)
      simpa using other
    rw [List.eraseDups_cons, apart, ih distinct]

theorem nodup_clashes (x : Wave) (n : Nat) (mask : BitVec 32) : (x.clashes n mask).Nodup := List.nodup_range.filter _

/-- The state in which the lanes that WSYNCM faults have their causes (R213). -/
def State.conflicted (s : State) (r : Ref) (n : Nat) (clash : List Nat) : State :=
  (((s.latchRead r n).syncFaults r.team r.wave clash).modLane r fun l => { l with arrival := none }).faultLanes
    [{ r, cause := .syncmask }]

theorem syncFaults_nil (s : State) (t w : Nat) : s.syncFaults t w [] = s.sweepBundles := by
  have none_ : ∀ es : List Entry, es.foldl (fun s (e : Entry) =>
      match ([] : List Nat).filter fun k => e.mask.getLsbD k with
      | [] => s
      | ls => s.trapParked t w e.slot e.clause e.idx (ls.map fun k => { r := ⟨t, w, k⟩, cause := .syncmask })) s = s := fun es =>
    List.foldlRecOn (motive := fun u : State => u = s) es _ rfl fun u same _ _ => same
  unfold State.syncFaults
  exact congrArg State.sweepBundles (none_ _)

theorem execWsyncm_one {s : State} {m : Member} {r : Ref} {o : F3} (h : s.Single m r) :
    exec (.wsyncm o) s = .next (
      let mask := s.src r .i32 o.ra o.ea
      let bad := (s.wave r.team r.wave).syncBad [(r.lane, mask)]
      let u := (s.latchRead r o.ra.toNat).syncFaults r.team r.wave (bad.filter (· != r.lane)).eraseDups
      let v := if bad.contains r.lane then
          (u.modLane r fun l => { l with arrival := none }).faultLanes [{ r, cause := .syncmask }]
        else u.arriveLanes [(r, some mask)]
      ((v.syncPass r.team r.wave).finish [r] []).endTurn [r]) := by
  have self : [r].filter (fun q => (q.team, q.wave) == (r.team, r.wave)) = [r] := List.filter_cons_of_pos (beq_self_eq_true _)
  have own : [r].filter (fun q => !(s.lane q).isHelper) = [r] := List.filter_cons_of_pos (by rw [h.own]; rfl)
  change execWsyncm o s = _
  rw [execWsyncm, whenIssued_ready h.ready]
  simp only [tileStores_noStores h.empty, Bool.false_eq_true, if_false, h.releaseWord, h.active, own, wavesOf_singleton,
    List.map_cons, List.map_nil, List.foldl_cons, List.foldl_nil, self]
  generalize (s.wave r.team r.wave).syncBad [(r.lane, s.src r .i32 o.ra o.ea)] = bad
  have others : (bad.filter fun k => ! [r].contains ⟨r.team, r.wave, k⟩) = bad.filter (· != r.lane) := by
    refine List.filter_congr fun k _ => ?_
    rw [List.contains_cons, List.contains_nil, Bool.or_false, Bool.eq_iff_iff, Bool.not_eq_true', beq_eq_false_iff_ne, bne_iff_ne]
    refine not_congr ⟨fun same => (congrArg Ref.lane same :), fun same => by rw [same]⟩
  have hit : ([((r.team, r.wave), bad)].any fun x => x.1 == (r.team, r.wave) && x.2.contains r.lane) = bad.contains r.lane := by simp
  have nobody : ∀ u : State, u.arriveLanes [] = u := fun u => parkLanes_nil u 3 .sync false
  rw [others]
  cases met : bad.contains r.lane <;>
    simp only [List.filter_singleton, hit, met, Bool.not_true, Bool.not_false, cond_true, cond_false, List.map_cons, List.map_nil,
      List.foldl_cons, List.foldl_nil, nobody, faultLanes_nil, Bool.false_eq_true, if_true, if_false]

/-- WSYNCM whose lane meets no cause: the lane latches its operand and arrives. -/
theorem execWsyncm_good {s : State} {m : Member} {r : Ref} {o : F3} (h : s.Single m r)
    (good : ¬(s.wave r.team r.wave).refuses r.lane (s.src r .i32 o.ra o.ea)) :
    exec (.wsyncm o) s = .next ((((s.latchRead r o.ra.toNat).sweepBundles.synced r (some (s.src r .i32 o.ra o.ea))).finish [r]
      []).endTurn [r]) := by
  have none_ := syncBad_eq_nil (x := s.wave r.team r.wave) h.own (s.src r .i32 o.ra o.ea) good
  rw [execWsyncm_one h]
  simp only [none_]
  have empty : (([] : List Nat).filter (· != r.lane)).eraseDups = [] := rfl
  rw [empty, syncFaults_nil]
  rfl

/-- WSYNCM whose lane meets a cause, or conflicts with lanes that had arrived: they all take it. -/
theorem execWsyncm_bad {s : State} {m : Member} {r : Ref} {o : F3} (h : s.Single m r)
    (bad : (s.wave r.team r.wave).refuses r.lane (s.src r .i32 o.ra o.ea)) :
    exec (.wsyncm o) s = .next ((((s.conflicted r o.ra.toNat ((s.wave r.team r.wave).clashes r.lane
      (s.src r .i32 o.ra o.ea))).syncPass r.team r.wave).finish [r] []).endTurn [r]) := by
  rw [execWsyncm_one h]
  dsimp only
  rw [mem_syncBad_self (x := s.wave r.team r.wave) h.own _ bad, syncBad_others (x := s.wave r.team r.wave) h.own,
    eraseDups_of_nodup (nodup_clashes ..), if_pos rfl]
  rfl

end Sys2Proof.Machine

/-! The grids and the grid of each team, which causes, traps and the end of a word keep (R57 to R59, R213, R426 to R429). -/

namespace Sys2Proof.Machine

/-! ### Writes -/

theorem belongs_foldl {α : Type} {f : State → α → State} (h : ∀ s a, (f s a).belongs = s.belongs) (l : List α) (s : State) :
    (l.foldl f s).belongs = s.belongs :=
  List.foldlRecOn (motive := fun u : State => u.belongs = s.belongs) l f rfl fun u same a _ => (h u a).trans same

theorem belongs_of_dieRead {s u : State} (h : DieRead s u) : u.belongs = s.belongs := by
  rw [h.rest]
  rfl

@[simp] theorem belongs_modLane (s : State) (r : Ref) (f : Lane → Lane) : (s.modLane r f).belongs = s.belongs := belongs_modWave ..

theorem belongs_wakeMonitors (s : State) (t : Target) (n : Nat) : (s.wakeMonitors t n).belongs = s.belongs := by
  simp [State.belongs, State.wakeMonitors, Function.comp_def]

theorem belongs_physWriteSector (s : State) (w : Writer) (pa : Nat) (b : List Byte) (atL2 : Bool) (sec : Nat) :
    (s.physWriteSector w pa b atL2 sec).1.belongs = s.belongs := by
  unfold State.physWriteSector
  dsimp only
  split
  · exact (belongs_of_dieRead (dieRead_fitL2 ..)).trans rfl
  · rfl

theorem belongs_physWrite (s : State) (w : Writer) (pa : Nat) (b : List Byte) (atL2 : Bool) :
    (s.physWrite w pa b atL2).1.belongs = s.belongs := by
  unfold State.physWrite
  extract_lets u reads
  have taken : u.belongs = s.belongs := by
    unfold u
    split
    · exact belongs_of_dieRead (dieRead_takeIn ..)
    · rfl
  generalize loop : List.foldl _ (u, []) (sectorsOf pa b.length) = p
  have sectors : p.1.belongs = s.belongs := by
    rw [← loop]
    exact List.foldlRecOn (motive := fun p : State × List (Nat × WriteOut) => p.1.belongs = s.belongs) _ _ taken fun p same sec _ =>
      (belongs_physWriteSector p.1 w pa b atL2 sec).trans same
  obtain ⟨v, outs⟩ := p
  have noted := belongs_of_dieRead
    (dieRead_noteWords v (codesOf (reads.filter fun k => outs.any fun x => x.1 == k && x.2 != .refused)) true)
  dsimp only
  split
  · exact noted.trans sectors
  · exact noted.trans sectors

theorem belongs_writeTarget (s : State) (w : Writer) (p : Target) (b : List Byte) (atL2 : Bool) :
    (s.writeTarget w p b atL2).1.belongs = s.belongs := by
  have woken := belongs_wakeMonitors s p b.length
  cases p with
  | spad tid off => exact (belongs_modTeam _ tid (fun x => { x with spad := cellsWriteN x.spad off b }) fun _ => rfl).trans woken
  | fw off => exact woken
  | hub off live => cases live <;> exact woken
  | phys pa => exact (belongs_physWrite ..).trans woken

theorem belongs_performStore (s : State) (op : Op) (a : StAcc) : (s.performStore op a).belongs = s.belongs := by
  have written := belongs_writeTarget s { s.writer op.team with strm := a.cc == 1 } a.tgt a.bytes (a.cc == 2)
  unfold State.performStore
  dsimp only
  split
  · exact (belongs_modWave ..).trans written
  · exact written

theorem belongs_drainWhere (s : State) (p : Op → Bool) : (s.drainWhere p).belongs = s.belongs := by
  refine belongs_foldl (f := fun (s : State) (o : Op) => s.drainOp o.id) (fun s o => ?_) _ s
  unfold State.drainOp
  split
  · rfl
  · next op _ =>
    split
    · exact belongs_foldl (f := fun s a => s.performStore op a) (fun s a => belongs_performStore s op a) _ s
    · rfl

theorem belongs_release (s : State) (t w k : Nat) : (s.release t w k).belongs = s.belongs := by
  unfold State.release
  dsimp only
  split
  · exact belongs_drainWhere ..
  · exact belongs_drainWhere ..

theorem belongs_laneWrite (s : State) (r : Ref) (va : DWord) (t : Target) (b : List Byte) (x : WordRec) :
    (s.laneWrite r va t b x).belongs = s.belongs := by
  have written := (belongs_writeTarget (s.drainOwn r t b.length) ((s.drainOwn r t b.length).writer r.team) t b false).trans
    (belongs_drainWhere ..)
  unfold State.laneWrite
  dsimp only
  split
  · exact (belongs_modWave ..).trans written
  · exact written

/-! ### The lint filter's posts -/

theorem belongs_agentWrite (s : State) (pa : Nat) (b : List Byte) : (s.agentWrite pa b).belongs = s.belongs := by
  have sector : ∀ (s : State) sec, (s.agentWriteSector pa b sec).belongs = s.belongs := fun s sec => by
    have recalled : (s.recall (sec / 8)).belongs = s.belongs := by
      unfold State.recall
      split
      · exact belongs_of_dieRead (dieRead_evictL2 ..)
      · rfl
    unfold State.agentWriteSector
    extract_lets lo hi whole t u
    have cured : u.belongs = s.belongs := by
      unfold u
      split
      · exact recalled
      · exact recalled
    split
    · exact cured
    · exact cured
  unfold State.agentWrite
  split
  · rfl
  · exact (belongs_of_dieRead (dieRead_noteWords ..)).trans ((belongs_foldl sector _ _).trans (belongs_wakeMonitors s _ _))

theorem belongs_ringPost (s : State) (die : Nat) (n : RingName) (x : List Byte) (phys : DWord → Option Nat) :
    (s.ringPost die n x phys).belongs = s.belongs := by
  unfold State.ringPost
  dsimp only
  split
  · rfl
  · split
    · rfl
    · split
      · rfl
      · exact belongs_foldl (f := fun (s : State) (p : Option Nat × Nat) => s.agentWrite (p.1.getD 0) (sliceBytes x (64 * p.2) 64))
          (fun s p => belongs_agentWrite s _ _) _ s

theorem belongs_lintAccess (s : State) (r : Ref) (t : Target) (n : Nat) (write atomic : Bool) :
    (s.lintAccess r t n write atomic).belongs = s.belongs := by
  unfold State.lintAccess
  split
  · rfl
  · split
    · refine belongs_foldl (fun s k => ?_) _ s
      extract_lets sec lo hi x sh report u v
      have posts : ∀ (s : State) (old : Option ShadowRec) (kind : Nat), (report s old kind).belongs = s.belongs := by
        intro s old kind
        unfold report
        split
        · split
          · exact belongs_ringPost ..
          · rfl
        · rfl
      have first : u.belongs = s.belongs := posts s sh.wr _
      change v.belongs = s.belongs
      unfold v
      split
      · exact (posts u _ _).trans first
      · exact first
    · rfl

/-! ### Stacks and traps (R48 to R50, R57 to R59) -/

theorem belongs_writeDwords (s : State) (r : Ref) (a : DWord) (vs : List DWord) (x : WordRec) :
    (s.writeDwords r a vs x).belongs = s.belongs := by
  refine belongs_foldl (fun s p => ?_) _ s
  dsimp only
  split
  · exact (belongs_laneWrite ..).trans (belongs_lintAccess ..)
  · rfl

theorem belongs_undefine (tid n : Nat) (s : State) (a : DWord) : (s.undefine tid a n).belongs = s.belongs := by
  induction n generalizing s a with
  | zero => rfl
  | succ n ih =>
    rw [State.undefine]
    split
    · next t _ =>
      refine (ih ..).trans ?_
      cases t with
      | spad k off => exact belongs_modTeam _ _ _ fun _ => rfl
      | fw off => rfl
      | phys pa => rfl
      | hub off live => rfl
    · exact ih ..

theorem belongs_pushSlots (s : State) (r : Ref) (new : List Slot) (x : WordRec) : (s.pushSlots r new x).belongs = s.belongs := by
  have spilled : ∀ ps : List (DWord × Slot), (ps.foldl (fun s p => s.writeDwords r p.1 [p.2.lo, p.2.hi] x) s).belongs = s.belongs :=
    fun ps => belongs_foldl (fun s p => belongs_writeDwords ..) ps s
  unfold State.pushSlots
  dsimp only
  split
  · exact (belongs_modLane ..).trans (spilled _)
  · exact (belongs_undefine ..).trans ((belongs_modLane ..).trans (spilled _))

theorem belongs_endFatal (s : State) (tid : Nat) (f : Fatal) : (s.endFatal tid f).belongs = s.belongs := by
  unfold State.endFatal
  split
  · rfl
  · extract_lets u
    have ended : u.belongs = s.belongs := belongs_modTeam _ _ _ fun _ => rfl
    exact ended

theorem belongs_takeTrap (s : State) (r : Ref) (t : Trap) : (s.takeTrap r t).belongs = s.belongs := by
  unfold State.takeTrap
  dsimp only
  split
  · exact belongs_endFatal ..
  · split
    · exact belongs_endFatal ..
    · split
      · exact belongs_endFatal ..
      · split
        · exact belongs_endFatal ..
        · exact (belongs_modLane ..).trans ((belongs_writeDwords ..).trans (belongs_pushSlots ..))

theorem belongs_enterTrap (s : State) (r : Ref) : (s.enterTrap r).belongs = s.belongs := by
  unfold State.enterTrap
  split
  · rfl
  · split
    · rfl
    · split
      · exact belongs_takeTrap ..
      · exact belongs_modWave ..

/-! ### Causes of a word (R426 to R429, R440) -/

theorem belongs_summarise (s : State) (t w : Nat) (told : List Report) : (s.summarise t w told).belongs = s.belongs := by
  unfold State.summarise
  dsimp only
  split
  · exact belongs_modWave ..
  · exact (belongs_modWave ..).trans (belongs_modWave ..)

theorem belongs_leave (s : State) (m : Member) (mask : BitVec 32) (c : DWord) (i p : Nat) (y : Why) (b : Bool) :
    (s.leave m mask c i p y b).belongs = s.belongs := belongs_of_still (still_leave ..)

theorem belongs_endLanes (s : State) (t w : Nat) (mask : BitVec 32) : (s.endLanes t w mask).belongs = s.belongs :=
  (belongs_of_still (still_endLanes ..)).trans ((belongs_modWave ..).trans (belongs_modWave ..))

theorem belongs_setTraps (fs : List LaneFault) (told : List Report) (c : DWord) (i : Nat) (s : State) :
    (fs.foldl (fun s f => s.setTrap f told c i) s).belongs = s.belongs := belongs_foldl (fun _ _ => belongs_modLane ..) fs s

theorem belongs_enterTraps (fs : List LaneFault) (s : State) : (fs.foldl (fun s f => s.enterTrap f.r) s).belongs = s.belongs :=
  belongs_foldl (fun _ _ => belongs_enterTrap ..) fs s

theorem belongs_trapParked (s : State) (t w slot : Nat) (c : DWord) (i : Nat) (fs : List LaneFault) :
    (s.trapParked t w slot c i fs).belongs = s.belongs := by
  unfold State.trapParked
  split
  · rfl
  · extract_lets real helpers told u v x y
    have trapped : y.belongs = s.belongs := (belongs_enterTraps ..).trans ((belongs_leave ..).trans ((belongs_setTraps ..).trans
      (belongs_summarise ..)))
    split
    · exact trapped
    · exact (belongs_endLanes ..).trans trapped

theorem belongs_syncFaults (s : State) (t w : Nat) (ks : List Nat) : (s.syncFaults t w ks).belongs = s.belongs := by
  unfold State.syncFaults
  extract_lets fault es u v
  have parked : u.belongs = s.belongs := by
    refine belongs_foldl (fun s e => ?_) _ s
    split
    · rfl
    · exact belongs_trapParked ..
  have deferred : v.belongs = u.belongs := by
    refine belongs_foldl (fun s k => ?_) _ u
    exact (belongs_enterTrap ..).trans ((belongs_of_still (still_setPcs ..)).trans
      ((belongs_modLane ..).trans (belongs_summarise ..)))
  exact deferred.trans parked

theorem belongs_parkFaults (s : State) (t w : Nat) (fs : List LaneFault) (c : DWord) (i : Nat) :
    (s.parkFaults t w fs c i).belongs = s.belongs := by
  unfold State.parkFaults
  dsimp only
  split
  · exact belongs_foldl (fun _ _ => belongs_modLane ..) fs _
  · rfl

theorem belongs_faultMember (s : State) (m : Member) (fs : List LaneFault) (told : List Report) (c : DWord) (i : Nat) :
    (s.faultMember m fs told c i).belongs = s.belongs := by
  unfold State.faultMember
  extract_lets mine helpers queued traps u n v x y
  have trapped : y.belongs = s.belongs := (belongs_enterTraps ..).trans ((belongs_leave ..).trans ((belongs_setTraps ..).trans
    (belongs_leave ..)))
  split
  · exact trapped
  · exact (belongs_endLanes ..).trans trapped

theorem belongs_faultLanes (s : State) (fs : List LaneFault) : (s.faultLanes fs).belongs = s.belongs := by
  unfold State.faultLanes
  extract_lets here b real told queued u v x
  split
  · rfl
  · have summarised : v.belongs = s.belongs := belongs_foldl (fun _ _ => belongs_summarise ..) _ u
    have parked : x.belongs = v.belongs := belongs_foldl (fun _ _ => belongs_parkFaults ..) _ v
    exact (belongs_foldl (fun _ _ => belongs_faultMember ..) _ x).trans (parked.trans summarised)

/-! ### Lanes that pass a word, and the end of a word -/

theorem belongs_askSave (s : State) (tid reason : Nat) : (s.askSave tid reason).belongs = s.belongs := by
  unfold State.askSave
  extract_lets ask u
  have asked : ∀ (s : State) (t : Nat), (ask s t).belongs = s.belongs := fun s t => belongs_modTeam _ _ _ fun _ => rfl
  split
  · exact (asked ..).trans (asked ..)
  · exact asked ..

theorem belongs_passHits (s : State) (t w : Nat) (mask : BitVec 32) (c : DWord) (i : Nat) :
    (s.passHits t w mask c i).belongs = s.belongs := by
  unfold State.passHits
  split
  · dsimp only
    split
    · rfl
    · split
      · exact (belongs_askSave ..).trans ((belongs_leave ..).trans (belongs_modTeam _ _ _ fun _ => rfl))
      · exact belongs_trapParked ..
  · rfl

theorem belongs_passWord (s : State) (t w : Nat) (c : DWord) (i : Nat) (pass : BitVec 32) :
    (s.passWord t w c i pass).belongs = s.belongs := by
  unfold State.passWord
  extract_lets next marked u v es apart s1 s2 deferred kept mask defer s3
  have passed : v.belongs = s.belongs := (belongs_foldl (fun _ _ => belongs_modLane ..) _ u).trans (belongs_release ..)
  have left : s1.belongs = v.belongs := belongs_foldl (fun _ _ => belongs_leave ..) es v
  have cut : s2.belongs = s1.belongs :=
    belongs_foldl (f := fun (s : State) (x : Entry) => s.modBundles fun b => b.without t w x.slot) (fun _ _ => rfl) es s1
  have retired : s3.belongs = s2.belongs := belongs_modTeam _ _ _ fun _ => rfl
  clear_value s3 defer mask kept deferred s2 s1 apart es
  cases es with
  | nil => exact passed
  | cons e rest =>
    refine (belongs_of_still (still_fuse ..)).trans ((belongs_passHits ..).trans ((belongs_of_still (still_settle ..)).trans ?_))
    exact (belongs_modWave ..).trans (retired.trans (cut.trans (left.trans passed)))

theorem belongs_syncPass (s : State) (t w : Nat) : (s.syncPass t w).belongs = s.belongs :=
  belongs_foldl (fun _ _ => belongs_passWord ..) _ s

theorem belongs_swapHits (s : State) (rs : List Ref) : (s.swapHits rs).belongs = s.belongs := by
  unfold State.swapHits
  extract_lets b u
  have left : u.belongs = s.belongs := by
    refine belongs_foldl (fun s m => belongs_foldl (fun s g => ?_) _ s) _ s
    split
    · exact belongs_leave ..
    · rfl
  exact (belongs_foldl (fun _ _ => belongs_askSave ..) rs u).trans left

theorem belongs_debugHits (s : State) (lanes : List Ref) (ws : List Watch) : (s.debugHits lanes ws).belongs = s.belongs := by
  unfold State.debugHits
  extract_lets b hits swap trap u v
  split
  · rfl
  · have noted : u.belongs = s.belongs := by
      refine belongs_foldl (fun s h => ?_) swap s
      exact belongs_modTeam _ _ _ fun _ => rfl
    have swapped : v.belongs = u.belongs := by
      unfold v
      split
      · rfl
      · exact belongs_swapHits ..
    exact (belongs_faultLanes ..).trans (swapped.trans noted)

theorem belongs_settleBinds (s : State) (t : Nat) : (s.settleBinds t).belongs = s.belongs := by
  unfold State.settleBinds
  split
  · rfl
  · exact (belongs_foldl (fun _ _ => belongs_endLanes ..) _ _).trans (belongs_modTeam _ _ _ fun _ => rfl)

theorem belongs_endClause (s : State) : s.endClause.belongs = s.belongs := by
  unfold State.endClause
  extract_lets b u v x y
  have ended : v.belongs = s.belongs := belongs_foldl (fun s m => belongs_of_still (still_endMember ..)) b.members u
  have placed : x.belongs = v.belongs := belongs_foldl (fun s i => belongs_of_still (still_placeImage ..)) b.images v
  have bound : y.belongs = x.belongs := belongs_foldl (fun s m => belongs_settleBinds ..) b.members x
  exact (belongs_foldl (fun s m => belongs_of_still (still_fuse ..)) b.members y).trans (bound.trans (placed.trans ended))

theorem belongs_finish (s : State) (lanes : List Ref) (ws : List Watch) : (s.finish lanes ws).belongs = s.belongs := by
  have put : ∀ s : State, s.putIssue.belongs = s.belongs := fun s => belongs_of_still (still_putIssue s)
  unfold State.finish State.nextWord
  extract_lets g u v
  have hit : v.belongs = s.belongs := belongs_debugHits ..
  split
  · exact (put _).trans hit
  · split
    · exact (put _).trans hit
    · split
      · exact (belongs_endClause _).trans hit
      · exact (put _).trans hit

end Sys2Proof.Machine

/-! SYNCW and WSYNCM settle the statement on reconvergence (R211 to R214). -/

namespace Sys2Proof.Machine

/-! ### The state in which the word issues -/

theorem running_of_activeOf {s : State} {m : Member} {r : Ref} (h : r ∈ s.activeOf m) : (s.lane r).ended = false := by
  obtain ⟨-, holds⟩ := List.mem_filter.1 h
  simp only [Bool.and_eq_true, Bool.not_eq_true'] at holds
  exact holds.1

theorem getLsbD_one_shiftLeft {n : Nat} (below : n < 32) (k : Nat) : ((1 : BitVec 32) <<< n).getLsbD k = true ↔ k = n := by
  have one : BitVec.getLsbD (1 : BitVec 32) (k - n) = decide (k - n = 0) := by
    rw [Bool.eq_iff_iff]
    exact (Bool.eq_iff_iff.1 BitVec.getLsbD_one).trans (by simp)
  rw [BitVec.getLsbD_shiftLeft, one]
  simp only [Bool.and_eq_true, decide_eq_true_eq, Bool.not_eq_true', decide_eq_false_iff_not]
  omega

/-- A lane that latches its operand may arrive as before. -/
theorem State.Arriving.latched {s u : State} {m : Member} {r : Ref} {e : Entry} (h : s.Arriving m r e) (l : Latched s u)
    (entries : (u.wave m.team m.wave).entries = (s.wave m.team m.wave).entries) (quiet : u.Quiet) (empty : u.NoStores) :
    u.Arriving m r e := by
  have sorted : ∀ y, s.Sorted m.team m.wave y → u.Sorted m.team m.wave y := fun y sorted => by
    refine ⟨sorted.settled, ?_⟩
    simp only [State.Awaits, l.ended, l.arrival]
    exact sorted.parts
  refine { h with
    quiet
    empty
    members := l.bundle ▸ h.members
    running := (l.ended r).trans h.running
    parted := ⟨?_, ?_, ?_⟩
    mem := entries ▸ h.mem
    others := fun y hy other => sorted y (h.others y (entries ▸ hy) other) }
  · rw [entries]
    exact h.parted.slots
  · rw [entries]
    exact h.parted.lanes
  · simp only [entries, l.ended]
    exact h.parted.covered

theorem latched_latchRead (s : State) (r : Ref) (n : Nat) : Latched s (s.latchRead r n).sweepBundles where
  lanes := unlatched_latchRead s r n
  bundle := congrArg (·.getD Bundle.blank) (issue_of_bare (bare_latchRead s r n))
  mem := (mem_of_bare (bare_latchRead s r n) :)

theorem arriving_latchRead {s : State} {m : Member} {r : Ref} {e : Entry} (h : s.Arriving m r e) (n : Nat) :
    ((s.latchRead r n).sweepBundles).Arriving m r e := by
  have bare := bare_latchRead s r n
  have quiet : (s.latchRead r n).Quiet := h.quiet.of_bare bare
  refine h.latched (latched_latchRead s r n) ?_ (.of_calm (s := s.latchRead r n) rfl quiet) fun x hx => h.empty x ?_
  · obtain ⟨f, latched, -⟩ := latchRead_eq_modLane s r n
    rw [latched]
    exact entries_modLane ..
  · rw [← ops_of_bare bare]
    exact hx

/-- WSYNCM whose lane meets a cause: no turn ends, since the grid is not deterministic. -/
theorem gives_wsyncm_bad {s : State} {m : Member} {r : Ref} {o : F3} (h : s.Single m r)
    (bad : (s.wave r.team r.wave).refuses r.lane (s.src r .i32 o.ra o.ea)) :
    exec (.wsyncm o) s = .next (((s.conflicted r o.ra.toNat ((s.wave r.team r.wave).clashes r.lane
      (s.src r .i32 o.ra o.ea))).syncPass r.team r.wave).finish [r] []) := by
  have conflicted : ∀ clash, (s.conflicted r o.ra.toNat clash).belongs = s.belongs := fun clash =>
    (belongs_faultLanes ..).trans ((belongs_modLane ..).trans ((belongs_syncFaults ..).trans (belongs_of_bare (bare_latchRead ..))))
  rw [execWsyncm_bad h bad, h.endTurn ((belongs_finish ..).trans ((belongs_syncPass ..).trans (conflicted _)))]

/-- Settles O41: the lane arrives in an entry of its own; whole entries pass, one after another, and the others stay parked. -/
theorem reconvergenceWords : Obligations.ReconvergenceWords := by
  intro s o m r e ready empty members active own clear free mask lane es parked mem slot same settled apart others covered
  have single : s.Single m r := ⟨ready, members, active, own, clear, free, empty⟩
  obtain ⟨team, wave, -⟩ := single.ref
  have arriving : s.Arriving m r e := by
    have running : (s.lane r).ended = false :=
      running_of_activeOf (m := m) (by rw [single.activeOf]; exact List.mem_singleton.2 rfl)
    have symmetric : Std.Symm fun x y : Entry => x.slot ≠ y.slot ∧ x.mask &&& y.mask = 0 :=
      ⟨fun x y h => ⟨h.1.symm, by rw [BitVec.and_comm]; exact h.2⟩⟩
    have two := fun y (hy : y ∈ es) z (hz : z ∈ es) (other : y ≠ z) => apart.forall hy hz other
    have bits : ∀ k, m.mask.getLsbD k = true ↔ k = r.lane := fun k => by
      rw [mask]
      exact getLsbD_one_shiftLeft single.has.2 k
    obtain ⟨rt, rw', rl⟩ := r
    obtain rfl : rt = m.team := team
    obtain rfl : rw' = m.wave := wave
    exact {
      quiet := ready.toQuiet
      empty
      members
      team := rfl
      wave := rfl
      running
      parted := ⟨fun y hy z hz equal => by_contra fun other => (two y hy z hz other).1 equal,
        fun y hy z hz k left right => by_contra fun other => and_ne_zero_iff.2 ⟨k, left, right⟩ (two y hy z hz other).2, covered⟩
      mem
      slot
      own := same
      lane := bits
      settled
      others := fun y hy other => ⟨(others y hy other).1, (others y hy other).2⟩ }
  have latched := latched_latchRead s r o.ra.toNat
  have arriving' := arriving_latchRead arriving o.ra.toNat
  intro here stands counts keeps goesOn waits mask' all named clash bad
  have going : ∀ {u : State} {i : Instr} {ls : List Ref} {k : Option (BitVec 32)} {with' : Arrival → Prop},
      Latched s u → u.Arriving m r e → exec i s = .next (((u.synced r k).finish ls []).endTurn [r]) →
      (∀ a, with' a → ((u.arriveLanes [(r, k)]).wave r.team r.wave).passes a = true) → goesOn i k with' := by
    intro u i ls k with' l arriving word met
    obtain ⟨mem, lanes⟩ := keeps_synced l arriving k ls
    exact ⟨_, word, ⟨mem, fun q => lanes _⟩, fun q a below running arrived chosen =>
      goes_synced l arriving k ls below running arrived (met a chosen)⟩
  have waiting : ∀ {u : State} {i : Instr} {ls : List Ref} {k : Option (BitVec 32)}, Latched s u → u.Arriving m r e →
      exec i s = .next (((u.synced r k).finish ls []).endTurn [r]) →
      ((u.arriveLanes [(r, k)]).wave r.team r.wave).passes (s.hereWith k) ≠ true → waits i k := by
    intro u i ls k l arriving word unmet
    obtain ⟨mem, lanes⟩ := keeps_synced l arriving k ls
    exact ⟨_, word, ⟨mem, fun q => lanes _⟩, waits_synced l arriving k ls (Bool.eq_false_iff.2 unmet)⟩
  have syncw := execSyncw_one single
  have passes := passes_syncw (.refl s) arriving
  refine ⟨fun met => going (.refl s) arriving syncw fun a here => here ▸ passes.2 met,
    fun unmet => waiting (.refl s) arriving syncw (mt passes.1 unmet), fun good => ?_, fun bad => gives_wsyncm_bad single bad⟩
  have wsyncm := execWsyncm_good single good
  exact ⟨fun met => going latched arriving' wsyncm fun a masked => (passes_wsyncm latched arriving' _ masked).2 met,
    fun unmet => waiting latched arriving' wsyncm (mt (passes_wsyncm latched arriving' _ rfl).1 unmet)⟩

end Sys2Proof.Machine

/-! Copies at issue (R310, R314 to R318): they start in lane order, or the cause of a probe is raised. -/

namespace Sys2Proof.Machine

/-! ### What stands before a copy (R253, R310, R315, R462) -/

theorem dieRead_noteRange (s : State) (tid : Nat) (a : DWord) (n need : Nat) : DieRead s (s.noteRange tid a n need) :=
  .foldl (f := fun s (p : Nat × Nat) => s.noteAccess tid (BitVec.ofNat 64 p.1) p.2 need)
    (fun s _ => dieRead_noteAccess s tid _ _ need) _ s

/-- With no store outstanding and no REMOTEPERM pending for its waves, a word has nothing to release. -/
theorem releaseWord_idle {s : State} (empty : s.NoStores) (clear : ∀ m ∈ s.bundle.members, (s.wave m.team m.wave).rperm = none)
    (scope : Nat) : s.releaseWord scope = s := by
  have nothing : ∀ m ∈ s.bundle.members, s.deliverable m [] (s.contribOf m) (fun _ => false) false true = [] := fun m hm => by
    unfold State.deliverable
    cases ((s.contribOf m).filter fun r => !(s.lane r).isHelper).head? <;> simp [clear m hm]
  have released : ∀ ws : List (Nat × Nat), ws.foldl (fun s w => s.release w.1 w.2 scope) s = s := fun ws =>
    List.foldlRecOn (motive := fun u : State => u = s) ws _ rfl fun u same w _ => by rw [same, release_noStores empty]
  unfold State.releaseWord
  rw [released, State.deliverRperm, deliverEach_none _ nothing, faultLanes_nil]

/-- Nothing stands before the copies of a word: no counter, no release, no token, no draining handle, and the Shuttle has room. -/
structure State.CopiesGo (s : State) : Prop where
  ready : s.Ready
  empty : s.NoStores
  room : s.cpWaits = false
  clear : ∀ m ∈ s.bundle.members, (s.wave m.team m.wave).rperm = none
  free : ∀ r ∈ s.active, (s.gridOf r.team).det = false
  settled : ∀ r ∈ s.active, (s.team r.team).handles.all (fun x => x.state != 3) = true
  fits : s.copiesOn s.bundle.die s.bundle.core + s.ownLanes.length ≤ Config.coreCopies

namespace State.CopiesGo

variable {s : State} (go : s.CopiesGo)
include go

theorem no_drain {r : Ref} (active : r ∈ s.active) (h : Nat) : ((s.handle r.team h).state == 3) = false := by
  have all := List.all_eq_true.1 (go.settled r active)
  unfold State.handle
  rw [List.getD_eq_getElem?_getD]
  cases found : (s.team r.team).handles[h]? with
  | none => rfl
  | some x => simpa using all x (List.mem_of_getElem? found)

theorem ungoverned {u : State} (read : DieRead s u) {r : Ref} (active : r ∈ s.active) (rs : List (DWord × Nat)) :
    u.rangesGoverned r rs = false := by
  simp [State.rangesGoverned, read.gridOf_eq, go.free r active]

theorem tokenRanges_eq (ranges : State → Ref → List (DWord × Nat)) : s.tokenRanges false s.ownLanes ranges = s := by
  have none_out : s.ownLanes.filter (fun r => s.rangesGoverned r (ranges s r) && !s.holdsToken r) = [] :=
    List.filter_eq_nil_iff.2 fun r own => by simp [go.ungoverned (.refl s) (List.mem_of_mem_filter own)]
  unfold State.tokenRanges
  rw [none_out]
  exact parkLanes_nil ..

end State.CopiesGo

/-! ### Copies start (R314 to R316, R318) -/

/-- What the probes of a word's lanes read has counted: `note` first, then the walks of the bytes that `ranges` names. -/
def State.probed (s : State) (ranges : State → Ref → List (DWord × Nat)) (note : State → Ref → State) : State :=
  s.ownLanes.foldl (fun v r => (ranges v r).foldl (fun v x => v.noteRange r.team x.1 x.2 needR) (note v r)) s

theorem dieRead_probed {note : State → Ref → State} (read : ∀ v r, DieRead v (note v r)) (s : State)
    (ranges : State → Ref → List (DWord × Nat)) : DieRead s (s.probed ranges note) := by
  refine .foldl (fun v r => (read v r).trans (.foldl (fun v x => ?_) _ _)) _ s
  exact dieRead_noteRange v r.team x.1 x.2 needR

/-- The lanes whose probe found a cause, with it. -/
def probeFaults (res : List (Ref × Probe)) : List LaneFault :=
  res.filterMap fun x => match x.2 with
    | .bad b => some { r := x.1, cause := b.cause, addr := b.addr, write := b.write, walk := b.walk }
    | .ok _ => none

/-- The lanes whose probe found none, with what they copy. -/
def probePlans (res : List (Ref × Probe)) : List (Ref × Plan) :=
  res.filterMap fun x => match x.2 with
    | .ok p => some (x.1, p)
    | .bad _ => none

theorem mem_of_mem_probePlans {res : List (Ref × Probe)} {x : Ref × Plan} (h : x ∈ probePlans res) :
    (x.1, Probe.ok x.2) ∈ res := by
  obtain ⟨⟨r, p⟩, hp, found⟩ := List.mem_filterMap.1 h
  cases p with
  | ok q => cases found; exact hp
  | bad b => cases found

/-- The lanes' copies start, in lane order (R318). -/
def State.startCopies (s : State) (o : FA) (plans : List (Ref × Plan)) : State × List (Ref × Copy) :=
  (laneAsc plans).foldl (fun q x => ((q.1.startCopy o x.1 x.2).1, q.2 ++ [(x.1, (q.1.startCopy o x.1 x.2).2)])) (s, [])

/-- The copies that have started stand with the operations of the waves `ws`. -/
def State.postCopies (q : State × List (Ref × Copy)) (ws : List (Nat × Nat)) : State :=
  q.1.postOps ws .cp false [] [] fun w => .copies ((q.2.filter fun x => x.1.team == w.1 && x.1.wave == w.2).map (·.2))

/-- A copy's word does nothing but raise the causes of its probes and start the other lanes' copies. -/
theorem copyWord_eq {s : State} (go : s.CopiesGo) (o : FA) (probe : State → Ref → Probe)
    (ranges : State → Ref → List (DWord × Nat)) {note : State → Ref → State} (read : ∀ v r, DieRead v (note v r)) :
    let res := s.ownLanes.map fun r => (r, probe s r)
    copyWord s o probe ranges note = .next ((State.postCopies
      (((s.probed ranges note).faultLanes (probeFaults res)).startCopies o (probePlans res))
      (wavesOf s.active)).finish s.active []) := by
  intro res
  have seats : (s.copiesOn s.bundle.die s.bundle.core != 0 &&
      decide (Config.coreCopies < s.copiesOn s.bundle.die s.bundle.core + s.ownLanes.length)) = false := by
    rw [decide_eq_false (Nat.not_lt.2 go.fits), Bool.and_false]
  have stuck : (((s.active.filter fun r => !(s.lane r).isHelper &&
      (copyDst o == 1 && (s.handle r.team o.h.toNat).state == 3)).flatMap s.entryMates).eraseDups) = [] := by
    have none_drains : (s.active.filter fun r => !(s.lane r).isHelper &&
        (copyDst o == 1 && (s.handle r.team o.h.toNat).state == 3)) = [] :=
      List.filter_eq_nil_iff.2 fun r active => by simp [go.no_drain active]
    rw [none_drains]
    rfl
  have spent : (probePlans res).filter (fun x =>
      (s.probed ranges note).rangesGoverned x.1 (ranges (s.probed ranges note) x.1)) = [] :=
    List.filter_eq_nil_iff.2 fun x planned => by
      obtain ⟨r, own, same⟩ := List.mem_map.1 (mem_of_mem_probePlans planned)
      obtain ⟨rfl, -⟩ := Prod.mk.inj same
      simp [go.ungoverned (dieRead_probed read s ranges) (List.mem_of_mem_filter own)]
  rw [copyWord, whenIssued_ready go.ready]
  have own : (s.active.filter fun r => !(s.lane r).isHelper) = s.ownLanes := rfl
  have token := go.tokenRanges_eq ranges
  simp only [own, go.room, tileStores_noStores go.empty, seats, token, releaseWord_idle go.empty go.clear, stuck, Bool.or_false,
    Bool.false_eq_true, if_false, List.contains_nil, Bool.not_false, Bool.and_true, List.filter_true, parkLanes_nil]
  change Host.Outcome.next ((State.postCopies (((((probePlans res).filter fun x =>
      (s.probed ranges note).rangesGoverned x.1 (ranges (s.probed ranges note) x.1)).map (·.1)).foldl State.spendToken
    ((s.probed ranges note).faultLanes (probeFaults res))).startCopies o (probePlans res))
    (wavesOf s.active)).finish s.active []) = _
  rw [spent]
  rfl

/-! ### A copy's start leaves a word's end without company -/

theorem calm_setPresence_absent (s : State) (tid : Nat) (lines : List Nat) : (s.setPresence tid lines false).calm = s.calm :=
  calm_modTeam s tid (fun t => { t with absentLines := changeLines t.absentLines lines false }) fun _ => ⟨rfl, rfl⟩

theorem calm_setLines_absent (s : State) (ls : List (Nat × Nat)) : (s.setLines ls false).calm = s.calm :=
  calm_foldl _ (fun _ _ => calm_setPresence_absent ..) _ s

theorem calm_putSync (s : State) (die key : Nat) (v : List (BitVec 32)) : (s.putSync die key v).calm = s.calm := by
  have dropped : ({ s with dies := s.dies.map fun d => d.dropSync key } : State).calm = s.calm := by
    simp [State.calm, Function.comp_def, Die.dropSync]
  exact (calm_modDie _ die (fun d => { d with syncs := { sector := key, v } :: d.syncs }) fun _ => rfl).trans dropped

theorem calm_lintCopy (s : State) (r : Ref) (keys : List Nat) : (s.lintCopy r keys).calm = s.calm := by
  refine calm_foldl _ (fun s k => ?_) _ s
  exact (calm_modTeam _ r.team (fun x => { x with stampV := tickVec x.stamp x.comp }) fun _ => ⟨rfl, rfl⟩).trans (calm_putSync ..)

theorem calm_startCopy (s : State) (o : FA) (r : Ref) (p : Plan) : (s.startCopy o r p).1.calm = s.calm := by
  unfold State.startCopy
  extract_lets ps h lines u v w wide keys x
  have absent : u.calm = s.calm := calm_setLines_absent s lines
  have planes : v.calm = u.calm := by
    unfold v
    split
    · exact calm_modTeam _ _ _ fun _ => ⟨rfl, rfl⟩
    · rfl
  have lint : w.calm = v.calm := by
    refine calm_foldl _ (fun s q => ?_) _ v
    have source : (match q.src with
        | some t => s.lintAccess r t q.n false false
        | none => s).calm = s.calm := by
      split
      · exact calm_lintAccess ..
      · rfl
    dsimp only
    split
    · exact (calm_lintAccess ..).trans source
    · exact source
  have stamped : x.calm = w.calm := by
    unfold x
    split
    · exact calm_lintCopy ..
    · rfl
  exact stamped.trans (lint.trans (planes.trans absent))

theorem calm_startCopies (s : State) (o : FA) (plans : List (Ref × Plan)) : (s.startCopies o plans).1.calm = s.calm :=
  List.foldlRecOn (motive := fun q : State × List (Ref × Copy) => q.1.calm = s.calm) (laneAsc plans) _ rfl
    fun q same x _ => (calm_startCopy q.1 o x.1 x.2).trans same

section
variable {s : State} (go : s.CopiesGo) {i : Instr} {o : FA} {probe : State → Ref → Probe}
  {ranges : State → Ref → List (DWord × Nat)} {note : State → Ref → State} (read : ∀ v r, DieRead v (note v r))
  (word : exec i s = copyWord s o probe ranges note)
include go read word

/-- A copy whose lanes' probes find no cause starts every lane's copy. -/
theorem ends_copyWord {plan : Ref → Plan} (ok : ∀ r ∈ s.ownLanes, probe s r = .ok (plan r)) :
    Ends i s (State.postCopies ((s.probed ranges note).startCopies o (s.ownLanes.map fun r => (r, plan r))) (wavesOf s.active)) := by
  have found : (s.ownLanes.map fun r => (r, probe s r)) = s.ownLanes.map fun r => (r, Probe.ok (plan r)) :=
    List.map_congr_left fun r own => by rw [ok r own]
  have faults : probeFaults (s.ownLanes.map fun r => (r, Probe.ok (plan r))) = [] := by simp [probeFaults]
  have plans : probePlans (s.ownLanes.map fun r => (r, Probe.ok (plan r))) = s.ownLanes.map fun r => (r, plan r) := by
    simp [probePlans, List.filterMap_map]
  refine ends_of_finish (go.ready.of_calm ?_) ⟨s.active, [], ?_⟩
  · exact (calm_postOps ..).trans ((calm_startCopies ..).trans (dieRead_probed read s ranges).calm_eq)
  · rw [word, copyWord_eq go o probe ranges read, found, faults, plans, faultLanes_nil]

/-- A copy whose only lane's probe finds a cause raises it, and copies nothing. -/
theorem gives_copyWord_bad {r : Ref} {b : ProbeBad} (active : s.active = [r]) (own : s.ownLanes = [r]) (bad : probe s r = .bad b) :
    Gives i s ((((s.probed ranges note).faultLanes
      [{ r, cause := b.cause, addr := b.addr, write := b.write, walk := b.walk }]).postOps (wavesOf [r]) .cp false [] []
        fun _ => .copies []).finish [r] []) := by
  rw [Gives, word, copyWord_eq go o probe ranges read, own, active, List.map_singleton, bad]
  rfl

end

end Sys2Proof.Machine

/-! The causes of a copy's probe (R316): which of several is reported, and how they are ordered. -/

namespace Sys2Proof.Machine

/-! ### The causes of a probe (R316) -/

/-- The place of a cause in the order of R316: its priority, its part, its address. -/
def ProbeBad.rank (b : ProbeBad) : Nat := (b.cause.code * 8 + b.part) * 2 ^ 64 + b.addr.toNat

theorem probeWorst_cons (b : ProbeBad) (bs : List ProbeBad) :
    probeWorst (b :: bs) = some b ∧ (∀ c, probeWorst bs = some c → b.rank ≤ c.rank) ∨
      ∃ c, probeWorst bs = some c ∧ c.rank < b.rank ∧ probeWorst (b :: bs) = some c := by
  cases rest : probeWorst bs with
  | none => exact .inl ⟨by rw [probeWorst, rest], fun c h => nomatch h⟩
  | some c =>
    have first : probeWorst (b :: bs) = if c.rank < b.rank then some c else some b := by
      rw [probeWorst, rest]
      rfl
    by_cases worse : c.rank < b.rank
    · exact .inr ⟨c, rfl, worse, first.trans (if_pos worse)⟩
    · exact .inl ⟨first.trans (if_neg worse), fun d same => Option.some.inj same ▸ Nat.not_lt.1 worse⟩

theorem probeWorst_eq_none {bs : List ProbeBad} : probeWorst bs = none ↔ bs = [] := by
  cases bs with
  | nil => simp [probeWorst]
  | cons b bs => obtain ⟨e, -⟩ | ⟨c, -, -, e⟩ := probeWorst_cons b bs <;> simp [e]

theorem probeWorst_least {bs : List ProbeBad} {b : ProbeBad} (worst : probeWorst bs = some b) :
    b ∈ bs ∧ ∀ x ∈ bs, b.rank ≤ x.rank := by
  induction bs generalizing b with
  | nil => cases worst
  | cons a bs ih =>
    obtain ⟨first, least⟩ | ⟨c, rest, below, later⟩ := probeWorst_cons a bs
    · obtain rfl : a = b := Option.some.inj (first.symm.trans worst)
      refine ⟨List.mem_cons_self, fun x hx => ?_⟩
      obtain rfl | hx := List.mem_cons.1 hx
      · exact le_rfl
      · cases among : probeWorst bs with
        | none => exact absurd (probeWorst_eq_none.1 among) (List.ne_nil_of_mem hx)
        | some c => exact (least c among).trans ((ih among).2 x hx)
    · obtain rfl : c = b := Option.some.inj (later.symm.trans worst)
      refine ⟨List.mem_cons_of_mem a (ih rest).1, fun x hx => ?_⟩
      obtain rfl | hx := List.mem_cons.1 hx
      · exact below.le
      · exact (ih rest).2 x hx

theorem probeOf_bad {bs : List ProbeBad} (p : Plan) (some_ : bs ≠ []) : ∃ b, probeOf p bs = .bad b ∧ probeWorst bs = some b := by
  unfold probeOf
  cases worst : probeWorst bs with
  | none => exact absurd (probeWorst_eq_none.1 worst) some_
  | some b => exact ⟨b, rfl, rfl⟩

theorem six_le_code_window : 6 ≤ Cause.window.code := by decide
theorem six_le_code_notmapped : 6 ≤ Cause.notmapped.code := by decide
theorem six_le_code_perm : 6 ≤ Cause.perm.code := by decide
theorem six_le_code_layout : 6 ≤ Cause.layout.code := by decide

/-- Every cause of a translation comes after MISALIGN (R55, R135). -/
theorem resolve_bad_code {s : State} {tid : Nat} {a : DWord} {n need : Nat} {inline walk : Bool} {c : Cause}
    (bad : s.resolve tid a n need inline = .bad c walk) : 6 ≤ c.code := by
  unfold State.resolve at bad
  split at bad
  · cases bad
    exact six_le_code_window
  · split at bad
    · cases bad
      exact six_le_code_window
    · cases bad
  · split at bad
    · cases bad
      exact six_le_code_notmapped
    · dsimp only at bad
      split at bad
      · split at bad
        · cases bad
        · cases bad
          exact six_le_code_notmapped
      · split at bad
        · cases bad
        · split at bad
          · cases bad
          · cases bad
            exact six_le_code_notmapped
          · split at bad
            · cases bad
            · cases bad
              exact six_le_code_perm

theorem probeRange_code {s : State} {tid part : Nat} {a : DWord} {n need : Nat} {win : Bool} {b : ProbeBad}
    (mem : b ∈ s.probeRange tid part a n need win) : 6 ≤ b.cause.code := by
  obtain ⟨p, -, found⟩ := List.mem_filterMap.1 mem
  dsimp only at found
  split at found
  · cases found
    exact six_le_code_window
  · split at found
    · next c w bad =>
      cases found
      exact resolve_bad_code bad
    · cases found

theorem probeDst_code {s : State} {tid : Nat} {o : FA} {a : DWord} {n : Nat} {b : ProbeBad} (mem : b ∈ s.probeDst tid o a n) :
    6 ≤ b.cause.code := by
  have window : ∀ x : DWord, b ∈ [({ cause := .window, part := 4, addr := x, write := true } : ProbeBad)] → 6 ≤ b.cause.code :=
    fun x h => by rw [List.mem_singleton.1 h]; exact six_le_code_window
  unfold State.probeDst at mem
  split at mem
  · split at mem
    · exact window a mem
    · exact probeRange_code mem
  · split at mem
    · exact window a mem
    · exact probeRange_code mem

theorem probePlan_code {s : State} {tid : Nat} {p : Plan} {win : Bool} {b : ProbeBad} (mem : b ∈ s.probePlan tid p win) :
    6 ≤ b.cause.code := by
  simp only [State.probePlan, List.mem_append, List.mem_flatMap] at mem
  obtain (⟨x, -, mem⟩ | ⟨x, -, mem⟩) | ⟨x, -, mem⟩ := mem
  all_goals
    split at mem
    · exact probeRange_code mem
    · cases mem

/-! ### The causes of a CPY.L -/

/-- Addresses of a CPY.L that are no multiple of 16. -/
def State.oddL (s : State) (o : FA) (r : Ref) : List ProbeBad :=
  (if (s.src64 r o.ra).toNat % 16 ≠ 0 then [{ cause := .misalign, part := 1, addr := s.src64 r o.ra }] else []) ++
    if (s.planL o r).dst.toNat % 16 ≠ 0 then [{ cause := .misalign, part := 4, addr := (s.planL o r).dst, write := true }] else []

theorem oddL_cause {s : State} {o : FA} {r : Ref} {b : ProbeBad} (mem : b ∈ s.oddL o r) : b.cause = .misalign ∧ b.part ≤ 4 := by
  unfold State.oddL at mem
  obtain mem | mem := List.mem_append.1 mem
  all_goals
    split at mem
    · rw [List.mem_singleton.1 mem]
      exact ⟨rfl, by dsimp only; decide⟩
    · cases mem

/-- The probe of a CPY.L names the worst of its causes: first come misaligned addresses, then a bad length, and what follows. -/
theorem probeL_eq (s : State) (o : FA) (r : Ref) : ∃ rest : List ProbeBad, (∀ b ∈ rest, 6 ≤ b.cause.code) ∧
    ((s.planL o r).total = 0 ∨ (s.planL o r).total % 16 ≠ 0 ∨ 2 ^ 24 < (s.planL o r).total → rest ≠ []) ∧
    s.probeL o r = probeOf (s.planL o r) (s.oddL o r ++ rest) := by
  have layout : ∀ (p : Prop) [Decidable p] (k : Nat),
      ∀ b ∈ (if p then [({ cause := .layout, part := k } : ProbeBad)] else []), 6 ≤ b.cause.code := fun p _ k b mem => by
    split at mem
    · rw [List.mem_singleton.1 mem]
      exact six_le_code_layout
    · cases mem
  let p := s.planL o r
  refine ⟨(if p.total = 0 ∨ p.total % 16 ≠ 0 ∨ 2 ^ 24 < p.total then [{ cause := .layout, part := 1 }] else []) ++
    ((if (!(copyDst o == 1) && decide ((s.src64 r o.ra).toNat < p.dst.toNat + p.total) &&
        decide (p.dst.toNat < (s.src64 r o.ra).toNat + p.total)) = true then [{ cause := .layout, part := 4 }] else []) ++
      (s.probePlan r.team p true ++
        if (copyDst o == 1) = true then
          (if (s.handle r.team o.h.toNat).state ≠ 1 ∨ (s.handle r.team o.h.toNat).gcnt * 4096 < p.dst.toNat + p.total then
            [{ cause := .layout, part := 4 }] else [])
        else s.probeDst r.team o p.dst p.total)), fun b mem => ?_, fun bad => ?_, ?_⟩
  · simp only [List.mem_append] at mem
    obtain mem | mem | mem | mem := mem
    · exact layout _ _ b mem
    · exact layout _ _ b mem
    · exact probePlan_code mem
    · split at mem
      · exact layout _ _ b mem
      · exact probeDst_code mem
  · rw [if_pos bad]
    exact List.cons_ne_nil _ _
  · simp only [State.oddL, List.append_assoc]
    unfold State.probeL
    simp only [List.append_assoc]
    rfl

theorem probeL_misalign {s : State} {o : FA} {r : Ref}
    (odd : (s.src64 r o.ra).toNat % 16 ≠ 0 ∨ (s.planL o r).dst.toNat % 16 ≠ 0) :
    ∃ b, s.probeL o r = .bad b ∧ b.cause = .misalign := by
  obtain ⟨rest, later, -, probe⟩ := probeL_eq s o r
  obtain ⟨x, hx⟩ : ∃ x, x ∈ s.oddL o r := by
    unfold State.oddL
    obtain odd | odd := odd
    · rw [if_pos odd]
      exact ⟨_, List.mem_cons_self⟩
    · rw [if_pos odd]
      exact ⟨_, List.mem_append_right _ List.mem_cons_self⟩
  obtain ⟨b, bad, worst⟩ := probeOf_bad (s.planL o r) (List.ne_nil_of_mem (List.mem_append_left rest hx))
  refine ⟨b, probe.trans bad, ?_⟩
  obtain ⟨mem, least⟩ := probeWorst_least worst
  obtain mem | mem := List.mem_append.1 mem
  · exact (oddL_cause mem).1
  · obtain ⟨cause, part⟩ := oddL_cause hx
    have below := least x (List.mem_append_left rest hx)
    have code := later b mem
    have addr := x.addr.isLt
    rw [ProbeBad.rank, ProbeBad.rank, cause] at below
    have five : Cause.misalign.code = 5 := rfl
    omega

theorem probeL_length {s : State} {o : FA} {r : Ref}
    (bad : (s.planL o r).total = 0 ∨ (s.planL o r).total % 16 ≠ 0 ∨ 2 ^ 24 < (s.planL o r).total) :
    ∃ b, s.probeL o r = .bad b := by
  obtain ⟨rest, -, nonempty, probe⟩ := probeL_eq s o r
  obtain ⟨b, found, -⟩ := probeOf_bad (s.planL o r) (bs := s.oddL o r ++ rest) (List.append_ne_nil_of_right_ne_nil _ (nonempty bad))
  exact ⟨b, probe.trans found⟩

/-! ### The record of a CPY.T -/

section
variable {s : State} {o : FA} {r : Ref} (even : (s.src64 r o.ra).toNat % 64 = 0)
include even

theorem probeT_unread {c : Cause} {w : Bool} (read : s.engRead r.team (s.src64 r o.ra) 64 = .bad c w) :
    s.probeT o r = .bad { cause := c, part := 0, addr := s.src64 r o.ra, walk := w } := by
  unfold State.probeT
  rw [if_neg (not_not.2 even)]
  simp only [read]

theorem probeT_invalid {b : List Byte} (read : s.engRead r.team (s.src64 r o.ra) 64 = .ok b) (invalid : layoutOf b = none) :
    s.probeT o r = .bad { cause := .layout, part := 0 } := by
  unfold State.probeT
  rw [if_neg (not_not.2 even)]
  simp only [read, invalid]

end

end Sys2Proof.Machine

/-! The arrival of a copy's last piece in a scratchpad, and the completion of copies (R240, R317, R318). -/

namespace Sys2Proof.Machine

/-! ### Entries that go on when lines become present (R241) -/

/-- What entries that go on leave as it is: everything but where the lanes stand, the bundles, their numbers and the agenda. -/
def State.behind (s : State) : State := { s.still with agenda := [], nextBundle := 0 }

theorem behind_of_still {s u : State} (same : u.still = s.still) : u.behind = s.behind :=
  congrArg (fun u : State => { u with agenda := [], nextBundle := 0 }) same

theorem behind_goOn (s : State) (t w : Nat) (e : Entry) : (s.goOn t w e).behind = s.behind := by
  have unparked : (s.unpark t w e).behind = s.behind := behind_of_still (still_modEntry ..)
  have flies : ∀ f, ((s.unpark t w e).modEntry t w e.slot f).behind = s.behind := fun f =>
    (behind_of_still (still_modEntry ..)).trans unparked
  unfold State.goOn
  split
  · rfl
  · split
    · split
      · exact unparked
      · exact flies _
    · exact unparked

theorem behind_foldr {α : Type} {f : α → State → State} (h : ∀ s a, (f a s).behind = s.behind) (l : List α) (s : State) :
    (l.foldr f s).behind = s.behind := by
  induction l with
  | nil => rfl
  | cons a l ih => exact (h _ a).trans ih

/-- Presence bits change, and nothing else but where the waiting entries stand. -/
theorem behind_setPresence (s : State) (tid : Nat) (lines : List Nat) (on : Bool) :
    (s.setPresence tid lines on).behind =
      (s.modTeam tid fun t => { t with absentLines := changeLines t.absentLines lines on }).behind := by
  unfold State.setPresence
  dsimp only
  split
  · rfl
  · refine behind_foldr (fun s t => ?_) _ _
    exact behind_foldr (f := fun (x : Nat × Entry) s => s.goOn t x.1 x.2) (fun s x => behind_goOn s t x.1 x.2) _ s

/-- Presence bits change no memory, no operation and no byte of a scratchpad (R241). -/
theorem setPresence_frame (s : State) (tid : Nat) (lines : List Nat) (on : Bool) :
    (s.setPresence tid lines on).mem = s.mem ∧ (s.setPresence tid lines on).ops = s.ops ∧
      ∀ k, ((s.setPresence tid lines on).team k).spad = (s.team k).spad := by
  have same := behind_setPresence s tid lines on
  have spads : (s.setPresence tid lines on).teams.map Team.spad = s.teams.map Team.spad := by
    have teams := congrArg (List.map Team.spad) (congrArg State.teams same)
    simp only [State.behind, State.still, List.map_map, Function.comp_def, Team.still] at teams
    exact teams.trans
      (map_modTeam Team.spad s tid (fun t => { t with absentLines := changeLines t.absentLines lines on }) fun _ => rfl)
  exact ⟨(congrArg State.mem same :), (congrArg State.ops same :), fun k => by rw [spad_team, spads, ← spad_team]⟩

/-! ### The last piece of a copy arrives in a scratchpad (R317, R318) -/

theorem absentLines_spadWritten (s : State) (tid off : Nat) (bytes : List Byte) (k : Nat) :
    ((s.spadWritten tid off bytes).team k).absentLines = (s.team k).absentLines := by
  have same : (s.spadWritten tid off bytes).absent = s.absent :=
    (map_modTeam Team.absentLines (s.wakeMonitors (.spad tid off) bytes.length) tid
      (fun x => { x with spad := cellsWriteN x.spad off bytes }) fun _ => rfl).trans
      (by simp [State.absent, State.wakeMonitors, Function.comp_def])
  rw [absentLines_team, same, ← absentLines_team]

theorem setLines_one (s : State) (tid line : Nat) (on : Bool) : s.setLines [(tid, line)] on = s.setPresence tid [line] on := by
  have here : (([(tid, line)].filter fun l => l.1 == tid).map (·.2)) = [line] := by simp
  change s.setPresence tid (([(tid, line)].filter fun l => l.1 == tid).map (·.2)) on = _
  rw [here]

/-- A copy whose last piece has arrived, which the line `l` of a scratchpad waited for. -/
def Copy.landed (l : Nat × Nat) (c : Copy) : Copy := { c with pieces := [], lines := c.lines.filter fun x => !([l].contains x) }

section
variable {s : State} {op : Op} {c : Copy} {p : Piece} {t : Target} {tid off line : Nat} {b : List Byte}
  (live : s.liveOp s.args.a = some op) (body : op.body = .copies [c]) (lane : c.lane = s.args.b) (first : s.args.c = 0)
  (last : c.pieces = [p]) (bar : c.bar = none) (hnd : c.hnd = none) (ph : p.hnd = none) (src : p.src = some t)
  (dst : p.dst = .spad tid off) (lines : c.lines = [(tid, line)]) (present : s.absentAt t p.n = none)
  (read : s.nowTarget t p.n = some b)
include live body lane first last bar hnd ph src dst lines present read

theorem execCopyLineArrival_last : exec .copyLineArrival s =
    .next ((((s.noteTarget (s.team op.team).die t p.n).spadWritten tid off b).modCopy op.id c.lane
      (Copy.landed (tid, line))).setPresence tid [line] true) := by
  have found : ([c].find? fun c => c.lane == s.args.b) = some c := by simp [lane]
  have done : ∀ u : State,
      u.pieceDone op c 0 p = (u.modCopy op.id c.lane (Copy.landed (tid, line))).setPresence tid [line] true :=
    fun u => by
      have freed : ∀ l : Nat × Nat, (([p].eraseIdx 0).any fun q => q.lines.contains l) = false := fun _ => rfl
      simp only [State.pieceDone, last, freed, Bool.not_false, List.filter_true, bar, hnd, lines]
      rw [setLines_one]
      rfl
  have args : (s.noteTarget (s.team op.team).die t p.n).args.c = 0 :=
    (congrArg (fun u : State => u.args.c) (dieRead_noteTarget s (s.team op.team).die t p.n).rest :).trans first
  change execCopyLineArrival s = _
  simp only [execCopyLineArrival, live, body, found, first, last, List.getElem?_cons_zero, src, present, Option.isSome_none,
    Bool.false_eq_true, if_false, read, State.putPiece, ph, dst, State.writeTarget, args, done]
  rfl

end

/-- The operation whose copy has landed is the only one that the arrival changes. -/
theorem body_of_mem_modCopy {s : State} {op : Op} {c : Copy} {f : Copy → Copy} (body : op.body = .copies [c])
    (only : (s.ops.filter fun x => x.id == op.id) = [op]) {x : Op} (mem : x ∈ (s.modCopy op.id c.lane f).ops)
    (same : x.id = op.id) : x.body = .copies [f c] := by
  obtain ⟨y, old, rfl⟩ := List.mem_map.1 mem
  by_cases named : y.id = op.id
  · have mine : y ∈ s.ops.filter fun x => x.id == op.id := List.mem_filter.2 ⟨old, by simpa using named⟩
    obtain rfl : y = op := List.mem_singleton.1 (only ▸ mine)
    simp [body]
  · rw [if_neg (by simpa using named)] at same
    exact absurd same named

/-! ### Copies complete (R318) -/

theorem modTeam_id (s : State) (k : Nat) : s.modTeam k (fun t => t) = s :=
  congrArg (fun ts => { s with teams := ts }) (List.modify_id ..)

section
variable {s : State} {op : Op} {cs : List Copy} (live : s.liveOp s.args.a = some op) (body : op.body = .copies cs)
include live body

theorem execCopyComplete_waits (left : ∃ c ∈ cs, c.pieces ≠ []) : exec .copyComplete s = .next s := by
  have unfinished : (cs.all fun c => c.pieces.isEmpty) = false := by simpa using left
  change execCopyComplete s = _
  simp only [execCopyComplete, live, body, unfinished, Bool.false_eq_true, if_false]

theorem execCopyComplete_done (landed : ∀ c ∈ cs, c.pieces = [] ∧ c.keys = []) :
    exec .copyComplete s = .next (s.opDone op.id) := by
  have finished : (cs.all fun c => c.pieces.isEmpty) = true := by simpa using fun c mem => (landed c mem).1
  have keys : cs.flatMap (·.keys) = [] := List.flatMap_eq_nil_iff.2 fun c mem => (landed c mem).2
  change execCopyComplete s = _
  simp only [execCopyComplete, live, body, finished, if_true, keys, List.map_nil, List.append_nil]
  exact congrArg (fun u : State => Host.Outcome.next (u.opDone op.id)) (modTeam_id s op.team)

end

/-- What the last piece of a copy leaves of its scratchpad, of memory and of its operation, when it is written in a state in which no
more than a read has happened (R317, R318). -/
theorem copy_lands {s : State} {op : Op} {c : Copy} {tid off line : Nat} {b : List Byte} {v : State} (read : DieRead s v)
    (body : op.body = .copies [c]) (lines : c.lines = [(tid, line)]) (here : tid < s.teams.length)
    (wf : cellsWf (s.team tid).spad = true) (only : (s.ops.filter fun x => x.id == op.id) = [op]) :
    let u := ((v.spadWritten tid off b).modCopy op.id c.lane (Copy.landed (tid, line))).setPresence tid [line] true
    cellsReadN (u.team tid).spad off b.length = b ∧
      (∀ a, a < off ∨ off + b.length ≤ a → cellsRead (u.team tid).spad a = cellsRead (s.team tid).spad a) ∧
      (u.team tid).absentLines = (s.team tid).absentLines.filter (· != line) ∧ u.mem = v.mem ∧
      ∀ x ∈ u.ops, x.id = op.id → x.body = .copies [{ c with pieces := [], lines := [] }] := by
  intro u
  let w := (v.spadWritten tid off b).modCopy op.id c.lane (Copy.landed (tid, line))
  obtain ⟨mem, ops, spads⟩ := setPresence_frame w tid [line] true
  have team : v.team tid = s.team tid := by rw [State.team, State.team, read.teams_eq]
  have inside : tid < v.teams.length := by rw [read.teams_eq]; exact here
  have inside' : tid < w.teams.length := by
    change tid < ((v.teams.map _).modify tid _).length
    rw [List.length_modify, List.length_map]
    exact inside
  have spad : (u.team tid).spad = cellsWriteN (s.team tid).spad off b := by
    have stored : (w.team tid).spad = if tid = tid then cellsWriteN (v.team tid).spad off b else (v.team tid).spad :=
      spad_spadStored v op off b inside tid
    rw [spads, stored, if_pos rfl, team]
  have absent : (w.team tid).absentLines = (s.team tid).absentLines :=
    (absentLines_spadWritten v tid off b tid).trans (by rw [team])
  refine ⟨?_, fun a outside => ?_, ?_, mem, fun x new same => ?_⟩
  · rw [spad, cellsReadN_writeN wf]
  · rw [spad, cellsRead_writeN_of_outside wf off b outside]
  · rw [absentLines_setPresence inside', absent]
    exact List.filter_congr fun l _ => by rw [List.contains_cons, List.contains_nil, Bool.or_false, bne]
  · have old : x ∈ w.ops := ops ▸ new
    have only' : ((v.spadWritten tid off b).ops.filter fun x => x.id == op.id) = [op] :=
      (congrArg (List.filter fun x : Op => x.id == op.id) read.ops_eq).trans only
    rw [body_of_mem_modCopy body only' old same, Copy.landed, lines]
    simp

/-- Settles O43: nothing stands before the copies, so the word starts them or raises its probe's cause; a last piece writes its bytes,
and its line becomes present with it. -/
theorem copyWords : Obligations.CopyWords := by
  refine ⟨fun s o plan ready empty room clear free settled => ?starts, fun s o r => ?causes,
    fun bs => ⟨probeWorst_eq_none, fun b worst => probeWorst_least worst⟩,
    fun s op c p t tid off line b live body lane first last bar hnd ph src dst lines present read size here wf only => ?arrives,
    fun s op cs live body => ⟨execCopyComplete_waits live body, execCopyComplete_done live body⟩⟩
  case starts =>
    intro own fits started u walks readT readL
    have go : s.CopiesGo := ⟨ready, empty, room, clear, free, settled, fits⟩
    have record : ∀ (v : State) (r : Ref), DieRead v (v.noteBytes r.team (v.src64 r o.ra) 64 needR) := fun v r =>
      dieRead_noteBytes ..
    have wordT : exec (.cpyT o) s = copyWord s o (fun s r => s.probeT o r) (fun s r => s.rangesT o r)
      fun s r => s.noteBytes r.team (s.src64 r o.ra) 64 needR := rfl
    have wordL : exec (.cpyL o) s = copyWord s o (fun s r => s.probeL o r) (fun s r => s.rangesL o r) fun s _ => s := rfl
    exact ⟨ends_copyWord go record wordT, ends_copyWord go (fun v _ => .refl v) wordL, fun r b active alone =>
      ⟨gives_copyWord_bad go record wordT active alone, gives_copyWord_bad go (fun v _ => .refl v) wordL active alone⟩⟩
  case causes =>
    exact ⟨fun odd => if_pos odd, fun even => ⟨fun c w => probeT_unread even, fun b => probeT_invalid even⟩, probeL_misalign,
      probeL_length⟩
  case arrives =>
    refine ⟨_, execCopyLineArrival_last live body lane first last bar hnd ph src dst lines present read, ?_⟩
    rw [← size]
    exact copy_lands (dieRead_noteTarget ..) body lines here wf only

end Sys2Proof.Machine

/-! Cache evictions, and the walk that a bundle waits for (R234 to R239, R428, R435, R473, R500). -/

namespace Sys2Proof.Machine

/-- Settles O37: a walk's reads and what comes down the die's link before its answers leave the bundles, so the bundles that the walk
changes are those of the state before it. -/
theorem cacheAndWalkEvents : Obligations.CacheAndWalkEvents := by
  intro s
  refine ⟨fun off => ?l1, fun on => ?l2, fun nobody => ?idle, fun b grid vpn waiting one => ?walk⟩
  case l1 =>
    change execCacheEviction s = _
    rw [execCacheEviction, off]
    rfl
  case l2 =>
    change execCacheEviction s = _
    rw [execCacheEviction, on]
    rfl
  case idle =>
    have none_waits : (s.bundles.find? fun b => b.id == s.args.a) = none := by simpa using nobody
    change execPageWalkComplete s = _
    rw [execPageWalkComplete, none_waits]
  case walk =>
    intro found v u
    have bundles : v.bundles = s.bundles := ((dieRead_takeIn s b.die).trans (dieRead_noteWalk _ _ _)).bundles_eq
    have filled : u.bundles = s.bundles := by
      unfold u
      cases found with
      | leaf ppn rights => exact bundles
      | none => exact bundles
    change execPageWalkComplete s = _
    rw [← filled, execPageWalkComplete, waiting]
    dsimp only
    rw [one]
    rfl

end Sys2Proof.Machine

/-! Presence bits, WAITC, and the operations that the Shuttle performs (R240, R241, R311, R315, R321, R323, R324). -/

namespace Sys2Proof.Machine

/-! ### Words at issue (R311, R323, R324) -/

/-- PRSET and PRCLR of one entry leave a change of presence bits to the Shuttle, and have no other effect. -/
theorem presenceWord_ends {i : Instr} {s : State} {o : FA} {m : Member} {r : Ref} {p : Nat × Nat × Nat} {set : Bool}
    (word : exec i s = presenceWord s o set) (ready : s.Ready) (alone : s.Alone m r) (room : s.cpWaits = false) (empty : s.NoStores)
    (clear : (s.wave m.team m.wave).rperm = none) (lines : s.presenceLines o r = .ok (some p)) :
    Ends i s ((s.latchRead r o.rb.toNat).addOp m.team m.wave .cp false [] [] [] (.shuttle [(p.1, p.2.1, p.2.2, set)] [])) := by
  refine ends_of_finish (ready.of_calm ((calm_addOp ..).trans (calm_latchRead ..))) ⟨s.active, [], ?_⟩
  obtain ⟨team, wave, -⟩ := ref_of_activeOf (lead_active alone)
  have performs : s.bundle.members.filterMap s.performer = [r] := by simp [alone.members, performer_alone alone]
  have released : (if set then ([r].foldl (fun s r => s.release r.team r.wave (if (s.src64 r o.ra).toNat < winTeam then 3 else 2))
      s).deliverRperm else s) = s := by
    rw [List.foldl_cons, List.foldl_nil, release_noStores empty, deliverRperm_none alone.members clear, ite_self]
  rw [word, presenceWord, whenIssued_ready ready]
  simp only [room, tileStores_noStores empty, performs, released, wavesOf_alone alone, Bool.and_false, Bool.or_false,
    Bool.false_eq_true, if_false]
  simp [lines, State.postOps, State.postOpsP, team, wave]

/-- WAITC parks an entry whose counter stands above its bound. -/
theorem execWaitc_parks {s : State} {o : FA} {m : Member} (ready : s.Ready) (members : s.bundle.members = [m])
    (issues : s.active ≠ [])
    (above : bitsOf o.sub.toNat 0 6 < (s.wave m.team m.wave).ctrs.getD (bitsOf o.sub.toNat 6 3) 0) :
    exec (.waitc o) s = .next ((s.parkLanes (memberRefs m) 4
      (.waitc (bitsOf o.sub.toNat 6 3) (bitsOf o.sub.toNat 0 6) s.word) false).finish s.active []) := by
  have active : s.activeOf m ≠ [] := by simpa [State.active, members] using issues
  have live : s.bundle.members.filter (fun m => !(s.activeOf m).isEmpty) = [m] := by simp [members, active]
  have unmet : decide ((s.wave m.team m.wave).ctrs.getD (bitsOf o.sub.toNat 6 3) 0 ≤ bitsOf o.sub.toNat 0 6) = false :=
    decide_eq_false (Nat.not_le.2 above)
  have goes : [m].filter (fun m => decide ((s.wave m.team m.wave).ctrs.getD (bitsOf o.sub.toNat 6 3) 0 ≤ bitsOf o.sub.toNat 0 6)) =
      [] := List.filter_cons_of_neg (by rw [unmet]; exact Bool.false_ne_true)
  have stuck : [m].filter (fun m => !decide ((s.wave m.team m.wave).ctrs.getD (bitsOf o.sub.toNat 6 3) 0 ≤ bitsOf o.sub.toNat 0 6)) =
      [m] := List.filter_cons_of_pos (by rw [unmet]; rfl)
  change execWaitc o s = _
  rw [execWaitc, whenIssued_ready ready]
  simp only [live, goes, stuck, List.flatMap_cons, List.flatMap_nil, List.append_nil]
  split <;> rfl

/-! ### Operations are performed (R240, R308, R315, R321, R323) -/

section
variable {s : State} {op : Op} {lines : List (Nat × Nat × Nat × Bool)} {waits : List Nat} (live : s.liveOp s.args.a = some op)
  (body : op.body = .shuttle lines waits)
include live body

theorem execShuttleOpPerform_waits (turn : (∃ h ∈ waits, (s.handle op.team h).full = true) ∨ s.resultWaits op = true) :
    exec .shuttleOpPerform s = .next s := by
  have waiting : ((waits.any fun h => (s.handle op.team h).full) || s.resultWaits op) = true := by
    simpa only [Bool.or_eq_true, List.any_eq_true] using turn
  change execShuttleOpPerform s = _
  simp only [execShuttleOpPerform, live, body, waiting, if_true]

theorem execShuttleOpPerform_performs (full : ∀ h ∈ waits, (s.handle op.team h).full = false) (turn : s.resultWaits op = false) :
    exec .shuttleOpPerform s = .next (((lines.foldl (fun u x => u.setPresence x.1 ((List.range x.2.2.1).map (x.2.1 + ·)) x.2.2.2)
      (if lines.any (·.2.2.2) then s.clusterAcquire op.team else s)).writeResults op).opDone op.id) := by
  have going : ((waits.any fun h => (s.handle op.team h).full) || s.resultWaits op) = false := by
    simpa [turn] using full
  change execShuttleOpPerform s = _
  simp only [execShuttleOpPerform, live, body, going, Bool.false_eq_true, if_false]

end

/-- Settles O45: each word's end is that of its own changes, and an operation of the Shuttle is performed once no handle that it waits
for has still to become full and its results are due. -/
theorem presenceWords : Obligations.PresenceWords := by
  refine ⟨⟨fun s o m r p ready alone room empty clear lines => ?change, fun s o at_ ready inside => ?test,
      fun s o m ready members issues allow rperm clean keys => ?waitc⟩,
    fun s op lines waits live body => ?perform, fun s tid lines line here below => ?bits⟩
  case change =>
    exact ⟨presenceWord_ends rfl ready alone room empty clear lines, presenceWord_ends rfl ready alone room empty clear lines⟩
  case test =>
    exact ends_of_finish (ready.of_calm (calm_applyAll ..)) ⟨_, _, execPrtest_eq ready inside⟩
  case waitc =>
    exact ⟨fun met => ends_of_finish ready ⟨_, _, execWaitc_eq ready members issues allow rperm clean keys met⟩,
      fun above => execWaitc_parks ready members issues above⟩
  case perform =>
    refine ⟨execShuttleOpPerform_waits live body, fun full turn => ?_⟩
    intro sets pair acquired
    have same : (if lines.any (·.2.2.2) then s.clusterAcquire op.team else s) = acquired := by
      unfold acquired sets State.clusterAcquire
      have any : (lines.any (·.2.2.2) = true) = ∃ x ∈ lines, x.2.2.2 = true := propext List.any_eq_true
      cases cl2 : (s.gridOf op.team).cl2
      · simp
      · simp only [any, Bool.not_true, Bool.false_eq_true, if_false, and_true, pair]
    exact same ▸ execShuttleOpPerform_performs live body full turn
  case bits =>
    rw [absentLines_setPresence here, absentLines_setPresence here, mem_changeLines below, mem_changeLines below]
    constructor
    · by_cases named : line ∈ lines <;> simp [named]
    · by_cases named : line ∈ lines <;> simp [named]

end Sys2Proof.Machine

/-! FENCE and ACQ.REMOTE (R250, R253, R255, R287 to R289): releases and acquires at a scope. -/

namespace Sys2Proof.Machine

/-! ### What releases leave of the lanes that issue (R201, R203, R253) -/

theorem bundle_of_scene {s u : State} (same : u.scene = s.scene) : u.bundle = s.bundle :=
  congrArg (fun x : _ × Option Bundle => x.2.getD Bundle.blank) same

theorem isHelper_of_scene {s u : State} (same : u.scene = s.scene) (r : Ref) : (u.lane r).isHelper = (s.lane r).isHelper :=
  (congrArg Lane.isHelper (lane_of_scene same r) :)

theorem active_of_scene {s u : State} (same : u.scene = s.scene) : u.active = s.active := by
  have bundle := bundle_of_scene same
  have guard : u.guard = s.guard := by rw [State.guard, State.word, bundle, State.guard, State.word]
  have ended : ∀ r, (u.lane r).ended = (s.lane r).ended := fun r => (congrArg Lane.ended (lane_of_scene same r) :)
  have holds : ∀ r, guardHolds s.guard (u.lane r) = guardHolds s.guard (s.lane r) := fun r =>
    (congrArg (guardHolds s.guard) (lane_of_scene same r) :)
  have lanes : u.activeOf = s.activeOf := funext fun m => by simp only [State.activeOf, guard, ended, holds]
  rw [State.active, State.active, bundle, lanes]

/-- The earlier stores of the waves that contribute to the word are performed, at a scope (R253). -/
def State.released (s : State) (scope : Nat) : State :=
  (wavesOf s.ownLanes).foldl (fun u w => u.release w.1 w.2 scope) s

theorem scene_released (s : State) (scope : Nat) : (s.released scope).scene = s.scene :=
  seen_foldl (g := fun (u : State) (w : Nat × Nat) => u.release w.1 w.2 scope) (fun u w => scene_release u w.1 w.2 scope) _ s

theorem calm_released (s : State) (scope : Nat) : (s.released scope).calm = s.calm :=
  calm_foldl (fun (u : State) (w : Nat × Nat) => u.release w.1 w.2 scope) (fun u w => calm_release u w.1 w.2 scope) _ s

/-! ### No REMOTEPERM is delivered (R430, R431) -/

theorem deliverRperm_clear {s : State} (clear : ∀ m ∈ s.bundle.members, (s.wave m.team m.wave).rperm = none) :
    s.deliverRperm = s := by
  have nothing : ∀ m ∈ s.bundle.members, s.deliverable m [] (s.contribOf m) (fun _ => false) false true = [] := fun m hm => by
    unfold State.deliverable
    cases ((s.contribOf m).filter fun r => !(s.lane r).isHelper).head? <;> simp [clear m hm]
  rw [State.deliverRperm, deliverEach_none _ nothing, faultLanes_nil]

/-- Where no REMOTEPERM is pending once the earlier stores are performed, a release does nothing else. -/
theorem releaseWord_clear {s : State} {scope : Nat}
    (clear : ∀ m ∈ s.bundle.members, ((s.released scope).wave m.team m.wave).rperm = none) :
    s.releaseWord scope = s.released scope := by
  have lanes : s.bundle.members.flatMap s.contribOf = s.ownLanes := (List.filter_flatMap ..).symm
  rw [State.releaseWord, lanes]
  exact deliverRperm_clear (by rwa [← bundle_of_scene (scene_released s scope)] at clear)

/-! ### Acquires and the lint filter leave a word's end without company -/

theorem calm_acquireWord (s : State) (scope : Nat) : (s.acquireWord scope).calm = s.calm := by
  unfold State.acquireWord State.acquire
  split
  · split
    · rfl
    · exact calm_modMem ..
  · rfl

theorem calm_lintFence (s : State) (tid : Nat) (acq rel : Bool) : (s.lintFence tid acq rel).calm = s.calm := by
  unfold State.lintFence
  split
  · rfl
  · extract_lets u
    have first : u.calm = s.calm := by
      unfold u
      split
      · exact calm_modTeam _ _ _ fun _ => ⟨rfl, rfl⟩
      · rfl
    split
    · exact Eq.trans (calm_modTeam _ _ _ fun _ => ⟨rfl, rfl⟩) first
    · exact first

theorem calm_lintAtomicRead (s : State) (r : Ref) (t : Target) (acq : Bool) : (s.lintAtomicRead r t acq).calm = s.calm := by
  unfold State.lintAtomicRead
  split
  · rfl
  · exact calm_modTeam _ _ _ fun _ => by cases acq <;> exact ⟨rfl, rfl⟩

/-! ### FENCE (R287, R288) -/

/-- What a FENCE of at least one contributing lane does: the release of its waves, the acquire of its core, and the lint filter's
stamps of its teams (R253, R471). -/
def State.fenced (s : State) (acq rel : Bool) (scope : Nat) : State :=
  let u := if rel then s.released scope else s
  let v := if acq then u.acquireWord scope else u
  if 3 ≤ scope then ((s.ownLanes.map (·.team)).eraseDups).foldl (fun x t => x.lintFence t acq rel) v else v

theorem calm_fenced (s : State) (acq rel : Bool) (scope : Nat) : (s.fenced acq rel scope).calm = s.calm := by
  unfold State.fenced
  extract_lets u v
  have released : u.calm = s.calm := by
    unfold u
    split
    · exact calm_released ..
    · rfl
  have acquired : v.calm = u.calm := by
    unfold v
    split
    · exact calm_acquireWord ..
    · rfl
  split
  · exact (calm_foldl _ (fun x t => calm_lintFence x t acq rel) _ v).trans (acquired.trans released)
  · exact acquired.trans released

theorem execFence_eq {s : State} {o : FM} {acq rel : Bool} (ready : s.Ready)
    (acquires : (o.cc == 0 || orderAcq o.cc) = acq) (releases : (o.cc == 0 || orderRel o.cc) = rel)
    (stored : rel = true → s.tileStores s.active = false)
    (clear : ∀ m ∈ s.bundle.members, ((if rel then s.released o.scope.toNat else s).wave m.team m.wave).rperm = none) :
    exec (.fence o) s =
      .next ((if s.ownLanes.isEmpty then s else s.fenced acq rel o.scope.toNat).finish s.active []) := by
  have first : (if rel then s.releaseWord o.scope.toNat else s.deliverRperm) = if rel then s.released o.scope.toNat else s := by
    cases rel
    · exact deliverRperm_clear clear
    · exact releaseWord_clear clear
  have scene : (if rel then s.released o.scope.toNat else s).scene = s.scene := by
    cases rel
    · rfl
    · exact scene_released ..
  have own : (s.active.filter fun r => !((if rel then s.released o.scope.toNat else s).lane r).isHelper) = s.ownLanes := by
    simp only [isHelper_of_scene scene, State.ownLanes]
  have goes : (rel && s.tileStores s.active) = false := by
    cases rel
    · rfl
    · exact stored rfl
  change execFence o s = _
  rw [execFence, whenIssued_ready ready]
  simp only [acquires, releases, goes, first, active_of_scene scene, own, Bool.false_eq_true, if_false]
  cases none_ : s.ownLanes with
  | nil =>
    have untouched : (if rel then s.released o.scope.toNat else s) = s := by simp [State.released, none_, wavesOf]
    rw [untouched]
    rfl
  | cons r rs => simp only [State.fenced, none_]; rfl

/-! ### ACQ.REMOTE (R289) -/

theorem calm_laneRead (s : State) (r : Ref) (t : Target) (n : Nat) (via : Via) : (s.laneRead r t n via).1.calm = s.calm := by
  have drained := calm_drainOwn s r t n
  unfold State.laneRead
  cases t with
  | spad tid off => exact drained
  | fw off => exact drained
  | hub off live => exact (dieRead_takeIn ..).calm_eq.trans drained
  | phys pa => exact (dieRead_physRead ..).calm_eq.trans drained

theorem calm_loadPart (s : State) (via : Via) (go : List (Ask × Target)) (rd : Nat) (sx : Bool) :
    (s.loadPart via go rd sx).1.calm = s.calm := by
  refine List.foldlRecOn (motive := fun p : State × List (Ref × RegRes) × List (Ref × DWord) => p.1.calm = s.calm) go _ rfl
    fun p same x _ => ?_
  have read := (calm_laneRead (p.1.lintAccess x.1.r x.2 x.1.n false x.1.atomic) x.1.r x.2 x.1.n via).trans
    ((calm_lintAccess ..).trans same)
  dsimp only
  split
  · next e => rwa [e] at read
  · next e =>
    rw [e] at read
    split
    · exact read
    · exact read

/-- Where no access is governed, no lane parks for the commit token (R462). -/
theorem tokenGate_free {s : State} {asks : List Ask} (free : ∀ a ∈ asks, s.governed a = false) : s.tokenGate asks = s := by
  have none_out : (asks.filter fun a => s.governed a && !s.holdsToken a.r) = [] :=
    List.filter_eq_nil_iff.2 fun a ha => by simp [free a ha]
  unfold State.tokenGate State.tokenOut
  rw [none_out]
  exact parkLanes_nil ..

/-- The sync vectors of the places that an ACQ.REMOTE reads have joined its teams' vectors, as its contributing lanes' device
acquires (R471). -/
def State.remoteStamped (s : State) (o : FM) (f : Ask → Target) : State :=
  s.ownLanes.foldl (fun u r => if u.lintScope r (s.askOf o needR true r).va 5
    then u.lintAtomicRead r (f (s.askOf o needR true r)) true else u) s

/-- What a granted ACQ.REMOTE reads at the hub directory. -/
def State.remoteRead (s : State) (o : FM) (f : Ask → Target) : State × List (Ref × RegRes) × List (Ref × DWord) :=
  (s.remoteStamped o f).loadPart .hub ((s.active.map (s.askOf o needR true)).map fun a => (a, f a)) o.rd.toNat false

/-- The state in which a granted ACQ.REMOTE has left its operations. -/
def State.remotePosted (s : State) (o : FM) (f : Ask → Target) : State :=
  let p := s.remoteRead o f
  (if s.ownLanes.isEmpty then p.1 else p.1.acquireWord 5).postOps (wavesOf s.active) .ld true p.2.1 p.2.2 fun _ => .plain

theorem calm_remotePosted (s : State) (o : FM) (f : Ask → Target) : (s.remotePosted o f).calm = s.calm := by
  have stamped : (s.remoteStamped o f).calm = s.calm := by
    refine calm_foldl _ (fun u r => ?_) _ s
    split
    · exact calm_lintAtomicRead ..
    · rfl
  have read : (s.remoteRead o f).1.calm = s.calm := (calm_loadPart ..).trans stamped
  unfold State.remotePosted
  refine (calm_postOps ..).trans ?_
  split
  · exact read
  · exact (calm_acquireWord ..).trans read

theorem execAcqRemote_eq {s : State} {o : FM} {f : Ask → Target} (ready : s.Ready) (room : s.counterFull .ld = false)
    (granted : s.Grants (s.active.map (s.askOf o needR true)) f)
    (outside : ∀ r ∈ s.active, inWindow (s.askOf o needR true r).va = false) :
    ∃ ws, exec (.acqRemote o) s = .next ((s.remotePosted o f).finish s.active ws) := by
  have asks : fmAsks s s.active o needR true = s.active.map (s.askOf o needR true) := rfl
  have window : ∀ r ∈ s.active, (decide (winCluster ≤ (s.address r o).toNat) && decide ((s.address r o).toNat < winEnd)) = false :=
    outside
  have inside : (s.active.filter fun r => !(s.lane r).isHelper &&
      decide (winCluster ≤ (s.address r o).toNat) && decide ((s.address r o).toNat < winEnd)) = [] :=
    List.filter_eq_nil_iff.2 fun r hr => by rw [Bool.and_assoc, window r hr, Bool.and_false]; exact Bool.false_ne_true
  have others : (s.active.filter fun r => !(!(s.lane r).isHelper &&
      decide (winCluster ≤ (s.address r o).toNat) && decide ((s.address r o).toNat < winEnd))) = s.active :=
    List.filter_eq_self.2 fun r hr => by rw [Bool.and_assoc, window r hr, Bool.and_false]; rfl
  have gate := gate_grants granted
  unfold State.gate at gate
  change ∃ ws, execAcqRemote o s = _
  rw [execAcqRemote, whenIssued_ready ready]
  simp only [room, asks, tokenGate_free granted.free, inside, others, List.map_nil, gate, Bool.false_eq_true, if_false]
  refine ⟨_, congrArg (fun u : State => Host.Outcome.next (u.finish _ _)) ?_⟩
  have own : (((s.active.map (s.askOf o needR true)).map fun a => (a, f a)).filter fun x => !(s.lane x.1.r).isHelper) =
      (s.ownLanes.map (s.askOf o needR true)).map fun a => (a, f a) := by
    simp only [List.filter_map, State.ownLanes]
    rfl
  simp only [own, List.foldl_map, List.isEmpty_map, Gate.counted, List.contains_nil, Bool.not_false, List.filter_true, zeroRegs,
    List.flatMap_nil, List.append_nil]
  rfl

/-- Settles O39: what a release performs leaves the lanes that issue as they stand, so that a FENCE acquires and stamps for the same
lanes; every place that ACQ.REMOTE reads is granted, so that nothing stands before its read and its acquire. -/
theorem fenceWords : Obligations.FenceWords := by
  intro s o ready own rel acq u v x
  refine ⟨fun stored clear => ?fence, fun f room => ?remote⟩
  case fence =>
    have acquires : (o.cc == 0 || orderAcq o.cc) = decide acq := by simp [acq, orderAcq, beq_eq_decide]
    have releases : (o.cc == 0 || orderRel o.cc) = decide rel := by simp [rel, orderRel, beq_eq_decide]
    have released : (if decide rel = true then s.released o.scope.toNat else s) = u := by simp only [decide_eq_true_eq]; rfl
    have fenced : s.fenced (decide acq) (decide rel) o.scope.toNat = x := by
      unfold State.fenced
      simp only [decide_eq_true_eq]
      rfl
    have word := execFence_eq ready acquires releases (fun h => stored (of_decide_eq_true h)) (released.symm ▸ clear)
    rw [fenced] at word
    refine ends_of_finish (ready.of_calm ?_) ⟨_, _, word⟩
    split
    · rfl
    · exact fenced ▸ calm_fenced ..
  case remote =>
    intro ask granted outside l p
    obtain ⟨ws, word⟩ := execAcqRemote_eq ready room granted outside
    exact ends_of_finish (ready.of_calm (calm_remotePosted s o f)) ⟨_, ws, word⟩

end Sys2Proof.Machine

/-! Atomics (R278 to R285): the lanes' accesses in lane order, what the word leaves, and one atomic on a scratchpad. -/

namespace Sys2Proof.Machine

/-! ### One lane's atomic leaves a word's end without company (R280) -/

theorem calm_lintAtomicWrite (s : State) (r : Ref) (t : Target) (rel : Bool) : (s.lintAtomicWrite r t rel).calm = s.calm := by
  unfold State.lintAtomicWrite
  split
  · rfl
  · dsimp only
    split
    · exact (calm_modTeam _ _ (fun x => { x with stampV := tickVec x.stamp x.comp }) fun _ => ⟨rfl, rfl⟩).trans (calm_putSync ..)
    · split
      · rfl
      · exact calm_putSync ..

theorem calm_atomicWrite (s : State) (r : Ref) (va : DWord) (t : Target) (b : List Byte) (scope : Nat) :
    (s.atomicWrite r va t b scope).calm = s.calm := by
  have written := calm_writeTarget s (s.writer r.team) t b (decide (3 ≤ scope))
  unfold State.atomicWrite
  dsimp only
  split
  · exact (calm_recordRperm ..).trans written
  · exact written

theorem calm_atomicLane (s : State) (o : FM) (r : Ref) (va : DWord) (t : Target) (n : Nat) (op : Nat → Option Nat) :
    (s.atomicLane o r va t n op).1.calm = s.calm := by
  have read : (s.atomicRead r t n).1.calm = s.calm := calm_laneRead ..
  unfold State.atomicLane
  split
  · next e => rwa [e] at read
  · next v b e =>
    rw [e] at read
    extract_lets scope new stamped checked
    have noted : checked.calm = s.calm := by
      refine (calm_lintAccess ..).trans (Eq.trans ?_ read)
      unfold stamped
      split
      · exact calm_lintAtomicRead ..
      · rfl
    clear_value new checked
    cases new with
    | none => exact noted
    | some x =>
      have written := (calm_atomicWrite checked r va t (leBytes n x) scope).trans noted
      dsimp only
      split
      · exact (calm_lintAtomicWrite ..).trans written
      · exact written

/-! ### The word (R280, R281, R284) -/

/-- The atomics of the lanes that contribute, in lane order: the state after them, what the places held as register results, and
the lanes whose place could not be read. -/
def State.atomics (s : State) (o : FM) (f : Ask → Target) (op : Ref → Nat → Option Nat) :
    State × List (Ref × RegRes) × List (Ref × DWord) :=
  s.ownLanes.foldl (fun p r =>
    let ask := s.askOf o needRW true r
    match p.1.atomicLane o r ask.va (f ask) (2 ^ o.sz.toNat) (op r) with
    | (t, some old) => (t, p.2.1 ++ laneRegs r (loadRegs o.rd.toNat (2 ^ o.sz.toNat) false old), p.2.2)
    | (t, none) => (t, p.2.1, p.2.2 ++ [(r, ask.va)])) (s, [], [])

/-- What an atomic word leaves of what its accesses answered: the helper lanes' zeros, the acquire and the operations. -/
def State.atomicEnd (s : State) (o : FM) (p : State × List (Ref × RegRes) × List (Ref × DWord)) : State :=
  let zeros := (s.active.filter fun r => (s.lane r).isHelper).flatMap fun r =>
    laneRegs r (loadRegs o.rd.toNat (2 ^ o.sz.toNat) false [])
  (if orderAcq o.cc then p.1.acquireWord o.scope.toNat else p.1).postOps (wavesOf s.active) .ld true (p.2.1 ++ zeros) p.2.2
    fun _ => .plain

theorem calm_atomics (s : State) (o : FM) (f : Ask → Target) (op : Ref → Nat → Option Nat) : (s.atomics o f op).1.calm = s.calm := by
  refine List.foldlRecOn (motive := fun p : State × List (Ref × RegRes) × List (Ref × DWord) => p.1.calm = s.calm) s.ownLanes _ rfl
    fun p same r _ => ?_
  have performed := (calm_atomicLane p.1 o r (s.askOf o needRW true r).va (f (s.askOf o needRW true r)) (2 ^ o.sz.toNat) (op r)).trans
    same
  dsimp only
  split
  · next e => rwa [e] at performed
  · next e => rwa [e] at performed

theorem calm_atomicEnd (s : State) (o : FM) (p : State × List (Ref × RegRes) × List (Ref × DWord)) :
    (s.atomicEnd o p).calm = p.1.calm := by
  refine (calm_postOps ..).trans ?_
  split
  · exact calm_acquireWord ..
  · rfl

/-- The state in which an atomic word makes its accesses: after its release, if it has one. -/
def State.atAtomics (s : State) (o : FM) : State := if orderRel o.cc then s.releaseWord o.scope.toNat else s

theorem atomicWord_eq {s : State} {o : FM} {op : State → Ref → Nat → Option Nat} {f : Ask → Target} (ready : s.Ready)
    (room : s.counterFull .ld = false) (stored : orderRel o.cc = true → s.tileStores s.active = false)
    (free : orderRel o.cc = true → ∀ r ∈ s.active, s.governed (s.askOf o needRW true r) = false)
    (granted : (s.atAtomics o).Grants ((s.atAtomics o).ownLanes.map ((s.atAtomics o).askOf o needRW true)) f) :
    ∃ ls ws, atomicWord s o op = .next (((s.atAtomics o).atomicEnd o ((s.atAtomics o).atomics o f (op (s.atAtomics o)))).finish ls ws) := by
  have goes : (orderRel o.cc && s.tileStores s.active) = false := by
    cases rel : orderRel o.cc
    · rfl
    · exact stored rel
  have released : (if orderRel o.cc then (s.tokenGate ((s.active.filter fun r => !(s.lane r).isHelper).map
      (s.askOf o needRW true))).releaseWord o.scope.toNat else s) = s.atAtomics o := by
    unfold State.atAtomics
    split
    · next rel =>
      rw [tokenGate_free]
      exact List.forall_mem_map.2 fun r own => free rel r (List.mem_of_mem_filter own)
    · rfl
  rw [atomicWord, whenIssued_ready ready]
  simp only [room, goes, fmAsks_eq_map, released, Bool.or_false, Bool.false_eq_true, if_false]
  generalize s.atAtomics o = u at granted
  have gate : u.gate ((u.active.filter fun r => !(u.lane r).isHelper).map (u.askOf o needRW true)) = _ := gate_grants granted
  have all : u.active.filter (fun r => !([] : List Ref).contains r) = u.active := List.filter_eq_self.2 fun _ _ => rfl
  have found : ∀ r ∈ u.ownLanes, ((u.active.map fun r => (r, op u r)).find? fun v => v.1 == r) = some (r, op u r) :=
    fun r own => find?_map_self (op u) (List.mem_of_mem_filter own)
  simp only [gate, Gate.counted, all, Bool.false_eq_true, if_false]
  refine ⟨_, _, congrArg (fun u : State => Host.Outcome.next (u.finish _ _)) (congrArg (u.atomicEnd o) ?_)⟩
  rw [List.foldl_map, List.foldl_map]
  refine List.foldl_ext _ _ _ fun p r own => ?_
  simp only [State.askOf, found r own]
  rfl

/-- An atomic word whose release is free to go completes with the atomics of the lanes that contribute. -/
theorem atomicWord_ends {s : State} {i : Instr} {o : FM} {op : State → Ref → Nat → Option Nat} {f : Ask → Target}
    (word : exec i s = atomicWord s o op) (ready : s.Ready) (room : s.counterFull .ld = false)
    (release : orderRel o.cc = true →
      s.tileStores s.active = false ∧ ∀ r ∈ s.active, s.governed (s.askOf o needRW true r) = false)
    (ready' : (s.atAtomics o).Ready)
    (granted : (s.atAtomics o).Grants ((s.atAtomics o).ownLanes.map ((s.atAtomics o).askOf o needRW true)) f) :
    Ends i s ((s.atAtomics o).atomicEnd o ((s.atAtomics o).atomics o f (op (s.atAtomics o)))) :=
  ends_of_finish (ready'.of_calm ((calm_atomicEnd ..).trans (calm_atomics ..)))
    (word ▸ atomicWord_eq ready room (fun rel => (release rel).1) (fun rel => (release rel).2) granted)

theorem atomicOp_eq (o : FM) (s : State) (g : Nat → Nat → Nat) :
    atomicOp o s g = atomicWord s o fun s r old => some (g old (s.atomicVal r o)) := rfl

/-! ### Operands (R278, R279) -/

theorem atomicVal_eq (s : State) (r : Ref) (o : FM) : s.atomicVal r o =
    if o.sz = 1 then (s.rawReg r o.rd.toNat).toNat % 65536
    else if o.sz = 2 then (s.rawReg r o.rd.toNat).toNat else (s.rawPair r o.rd.toNat).toNat := by
  have half : o.sz = 1 ↔ o.sz.toNat = 1 := BitVec.toNat_inj.symm
  have word : o.sz = 2 ↔ o.sz.toNat = 2 := BitVec.toNat_inj.symm
  simp only [half, word]
  unfold State.atomicVal
  split
  · next e => exact (if_pos e).symm
  · next e => rw [if_neg (by omega), if_pos e]
  · next half word => rw [if_neg half, if_neg word]

theorem atomicFmt_eq (o : FM) : atomicFmt o = if o.sz = 1 then Fmt.b16 else Fmt.b32 :=
  if_congr (BitVec.toNat_inj (y := 1)) rfl rfl

theorem sextOf_eq_toInt (x w : Nat) : sextOf x w = (BitVec.ofNat w x).toInt := by
  rw [← sextOf_toNat, BitVec.toNat_ofNat, sextOf, sextOf, Nat.mod_mod]

/-! ### One atomic on a scratchpad (R280, R281) -/

/-- Where a team stands and which grid it belongs to. -/
def Team.seat (t : Team) : Nat × Nat := (t.die, t.grid)

theorem unstored_seat : Unstored Team.seat := ⟨fun _ _ => rfl, fun _ _ _ => rfl, fun _ _ _ => rfl⟩

/-- The lint filter's verdict depends on the dies, the grids and the seats of the teams. -/
theorem lintOn_of_seats {s u : State} (dies : u.dies = s.dies) (grids : u.grids = s.grids) (seats : u.seen Team.seat = s.seen Team.seat)
    (k : Nat) : u.lintOn k = s.lintOn k := by
  have unfolded : ∀ s : State, (s.team k).seat = (s.seen Team.seat).1.getD k Team.blank.seat := fun s => by
    simp only [State.seen, State.team, List.getD_eq_getElem?_getD, List.getElem?_map]
    cases s.teams[k]? <;> rfl
  have seat : (u.team k).seat = (s.team k).seat := by rw [unfolded u, seats, ← unfolded s]
  have die : (u.team k).die = (s.team k).die := congrArg Prod.fst seat
  have grid : (u.team k).grid = (s.team k).grid := congrArg Prod.snd seat
  simp only [State.lintOn, State.die, State.gridOf, dies, grids, die, grid]

theorem lintOn_spadWritten (s : State) (tid off : Nat) (b : List Byte) (k : Nat) :
    (s.spadWritten tid off b).lintOn k = s.lintOn k :=
  lintOn_of_seats (s := s) (u := s.spadWritten tid off b) rfl rfl
    (seen_writeTarget unstored_seat s (s.writer tid) (.spad tid off) b false :) k

theorem lintScope_off {s : State} {r : Ref} (off : s.lintOn r.team = false) (va : DWord) (scope : Nat) :
    s.lintScope r va scope = false := by
  rw [State.lintScope, off]
  rfl

theorem atomicLane_spad {s : State} {r : Ref} (off : s.lintOn r.team = false) (idle : ∀ x ∈ s.ops, x.accs = []) (o : FM) (va : DWord)
    (tid pos n : Nat) (op : Nat → Option Nat) :
    s.atomicLane o r va (.spad tid pos) n op =
      let old := cellsReadN (s.team tid).spad pos n
      ((match op (leNat old) with
        | some v => s.spadWritten tid pos (leBytes n v)
        | none => s), some old) := by
  have read : s.atomicRead r (.spad tid pos) n = (s, some (cellsReadN (s.team tid).spad pos n)) := by
    rw [State.atomicRead, State.laneRead, drainOwn_idle idle]
    rfl
  unfold State.atomicLane
  simp only [read, lintScope_off off, lintAccess_off off, Bool.false_eq_true, if_false]
  cases op (leNat (cellsReadN (s.team tid).spad pos n)) with
  | none => rfl
  | some v =>
    have written : s.atomicWrite r va (.spad tid pos) (leBytes n v) o.scope.toNat = s.spadWritten tid pos (leBytes n v) := rfl
    have still := lintScope_off ((lintOn_spadWritten s tid pos (leBytes n v) r.team).trans off) va o.scope.toNat
    simp only [written, still, Bool.false_eq_true, if_false]

/-- Settles O38: each atomic is the shared word with its own function of the old value and the operand; on a scratchpad, with nothing
waiting and no filter, that word's step reads and writes the bytes alone. -/
theorem atomicWords : Obligations.AtomicWords := by
  refine ⟨?words, ?spad⟩
  case words =>
    intro s o f ready room release u own ask ready' granted performs w v int F
    have all : ∀ {i : Instr} {op : State → Ref → Nat → Option Nat} {op' : Ref → Nat → Option Nat}, exec i s = atomicWord s o op →
        (∀ r old, op u r old = op' r old) → performs i op' := by
      intro i op op' word same
      obtain rfl : op u = op' := funext₂ same
      exact atomicWord_ends word ready room release ready' granted
    clear_value performs
    have each : ∀ {i : Instr} {g : Nat → Nat → Nat} {op : Ref → Nat → Option Nat} (out : Out), exec i s = out →
        out = atomicOp o s g → (∀ r old, some (g old (v r)) = op r old) → performs i op := fun {_ g _} out word form same =>
      all (word.trans (form.trans (atomicOp_eq ..))) fun r old =>
        (congrArg (fun x => some (g old x)) (atomicVal_eq u r o)).trans (same r old)
    have signed : ∀ x, sextOf x w = int x := fun x => sextOf_eq_toInt x w
    have fmt : atomicFmt o = F := atomicFmt_eq o
    refine ⟨?add, ?min, ?max, ?and, ?or, ?xor, ?exch, ?fadd, ?fmin, ?fmax, ?cas⟩
    case add => exact each (execAtomAdd o s) rfl rfl fun r old => rfl
    case min => exact each (execAtomMin o s) rfl rfl fun r old => by rw [← signed, ← signed]; rfl
    case max => exact each (execAtomMax o s) rfl rfl fun r old => by rw [← signed, ← signed]; rfl
    case and => exact each (execAtomAnd o s) rfl rfl fun r old => rfl
    case or => exact each (execAtomOr o s) rfl rfl fun r old => rfl
    case xor => exact each (execAtomXor o s) rfl rfl fun r old => rfl
    case exch => exact each (execAtomExch o s) rfl rfl fun r old => rfl
    case fadd => exact each (execAtomFadd o s) rfl rfl fun r old => by rw [← fmt]
    case fmin => exact each (execAtomFmin o s) rfl rfl fun r old => by rw [← fmt]
    case fmax => exact each (execAtomFmax o s) rfl rfl fun r old => by rw [← fmt]
    case cas =>
      have word : o.sz = 2 ↔ o.sz.toNat = 2 := BitVec.toNat_inj.symm
      refine all (rfl : execCas o s = _) fun r old => ?_
      simp only [word]
      split
      · rfl
      · rfl
  case spad =>
    intro s o r va tid off n op filter idle old
    rw [atomicLane_spad filter idle]
    simp only [State.spadWritten, length_leBytes]
    rfl

end Sys2Proof.Machine

/-! Texture words (R294, R301 to R307): what is sampled at issue, and its delivery. -/

namespace Sys2Proof.Machine

/-! ### What a word leaves (R301 to R306, R532) -/

theorem calm_noteTexture (s : State) (k : TexKind) (o : FA) : (s.noteTexture k o).calm = s.calm := by
  unfold State.noteTexture
  extract_lets read faults u
  have words : u.calm = s.calm := calm_noteWords s _ false
  exact (calm_foldl (fun (s : State) (x : Ref × DWord) => s.noteAccess x.1.team x.2 1 needR)
    (fun s x => (dieRead_noteAccess ..).calm_eq) faults u).trans words

/-- What a texture word leaves where every lane is answered: the counted reads, and one operation for each wave with the results, the
status predicates and the feedback bits of its lanes. -/
def State.texPosted (s : State) (k : TexKind) (o : FA) (out : Ref → TexOut) : State :=
  (s.noteTexture k o).postOpsP (wavesOf s.active) .tx true
    (s.active.flatMap fun r => (out r).regs.zipIdx.map fun p => (r, RegRes.mk r.lane (o.rd.toNat + p.2) p.1))
    (if o.sub.toNat % 128 = 96 then [] else s.active.map fun r => (r, PredRes.mk r.lane (o.sub.toNat % 128) (out r).status)) []
    fun w => .texture ((s.active.filter fun r => r.team == w.1 && r.wave == w.2).flatMap fun r =>
      s.texFeedback k o r (out r).met.tiles)

theorem calm_texPosted (s : State) (k : TexKind) (o : FA) (out : Ref → TexOut) : (s.texPosted k o out).calm = s.calm :=
  (calm_postOpsP ..).trans (calm_noteTexture ..)

/-! ### What a word finds (R305, R306) -/

section
variable {s : State} {k : TexKind} {o : FA} {out : Ref → TexOut}
  (found : ∀ m ∈ s.bundle.members, ∀ r ∈ s.activeOf m, s.texOne k o (s.activeOf m) r = .ok (out r) ∧ (out r).met.ecc = [] ∧
    (out r).met.ue = [])
include found

theorem texOuts_good : s.texOuts k o = s.active.map fun r => (r, .ok (out r)) := by
  rw [State.texOuts, State.active, List.map_flatMap]
  exact List.flatMap_congr fun m member => List.map_congr_left fun r active => by rw [(found m member r active).1]

theorem ecc_good {r : Ref} (active : r ∈ s.active) : (out r).met.ecc = [] := by
  obtain ⟨m, member, active⟩ := List.mem_flatMap.1 active
  exact (found m member r active).2.1

theorem texWord_ends {i : Instr} (word : exec i s = texWord s k o) (ready : s.Ready) (room : s.counterFull .tx = false) :
    Ends i s (s.texPosted k o out) := by
  refine ends_of_finish (ready.of_calm (calm_texPosted ..)) ⟨s.active, [], word.trans ?_⟩
  have good : (s.active.filterMap fun r => if (s.lane r).isHelper && !(out r).met.ecc.isEmpty then some (r, texZero k o)
      else some (r, out r)) = s.active.map fun r => (r, out r) := by
    rw [← List.filterMap_eq_map]
    exact List.filterMap_congr fun r active => by simp [ecc_good found active]
  have clean : (s.active.filterMap fun r => (out r).met.ecc.head?.map fun a => (r, a)) = [] :=
    List.filterMap_eq_nil_iff.2 fun r active => by rw [ecc_good found active]; rfl
  have fine : (s.active.filter fun r => (out r).met.ecc.isEmpty) = s.active :=
    List.filter_eq_self.2 fun r active => by rw [ecc_good found active]; rfl
  rw [texWord, whenIssued_ready ready]
  simp only [room, texOuts_good found, List.filterMap_map, List.filter_map, Function.comp_def, List.filterMap_none, good, clean, fine,
    faultLanes_nil, Bool.false_eq_true, if_false, bitsOf_zero, List.flatMap_map, List.map_map, laneRegs]
  rfl
end

/-! ### One lane's descriptor (R294, R305, R306) -/

section
variable {s : State} {k : TexKind} {o : FA} {act : List Ref} {r : Ref} {b : List Byte}

theorem texOne_misaligned (odd : (s.src64 r o.ra).toNat % 64 ≠ 0) :
    s.texOne k o act r = .error (⟨.misalign, s.src64 r o.ra, false⟩, []) := if_pos odd

variable (aligned : (s.src64 r o.ra).toNat % 64 = 0) (read : s.engRead r.team (s.src64 r o.ra) 64 = .ok b)
include aligned read

theorem texOne_bad (bad : texDesc b = none) : s.texOne k o act r = .error (⟨.layout, 0, false⟩, []) := by
  simp only [State.texOne, aligned, read, bad, ne_eq, not_true_eq_false, if_false]

theorem texOne_good {d : TexDesc} (good : texDesc b = some d) (clean : (s.texLane k o d act r).met.bad = []) :
    s.texOne k o act r = .ok (s.texLane k o d act r) := by
  simp only [State.texOne, aligned, read, good, clean, List.map_nil, reported, ne_eq, not_true_eq_false, if_false]
end

/-! ### Delivery (R46, R305) -/

section
variable {s : State} {op : Op} {fb : List FeedbackBit} (live : s.liveOp s.args.a = some op) (body : op.body = .texture fb)
include live body

theorem execTextureComplete_waits (turn : s.resultWaits op = true) : exec .textureComplete s = .next s := by
  change execTextureComplete s = _
  simp only [execTextureComplete, live, body, turn, if_true]

theorem execTextureComplete_delivers (turn : s.resultWaits op = false) : exec .textureComplete s =
    .next (((fb.foldl (fun u x => u.feedbackOr op x) s).writeResults op).opDone op.id) := by
  change execTextureComplete s = _
  simp only [execTextureComplete, live, body, turn, Bool.false_eq_true, if_false]
end

/-- Settles O51: the five words are one word of five kinds, which leaves what its lanes have sampled; a lane's descriptor is checked
before it samples; an operation is delivered once no older result waits. -/
theorem textureWords : Obligations.TextureWords := by
  refine ⟨fun s o k out ready room found => ?word, fun s o k act r b => ?lane, fun s op fb live body =>
    ⟨execTextureComplete_waits live body, execTextureComplete_delivers live body⟩⟩
  case word =>
    refine texWord_ends found ?_ ready room
    cases k <;> rfl
  case lane =>
    exact ⟨texOne_misaligned, fun aligned read => ⟨texOne_bad aligned read, fun d good clean => texOne_good aligned read good clean⟩⟩

end Sys2Proof.Machine

/-! The canonical form of memory under every step. Each function of the state has one lemma, named after it, which says that the
state it leaves stands in canonical form when the state it is given does (`memOk_f`; `outOk_f` where the answer is an outcome). A
lemma's proof follows the function's definition and cites the lemmas of the functions it calls, so that only the few functions that
write bytes speak of cells. -/

namespace Sys2Proof.Machine

/-- Settles O19: memory, the firmware store and the list of teams are empty. -/
theorem resetMemOk : Obligations.ResetMemOk := rfl

/-! ### The state's parts, choices and repetitions -/

section
variable {s : State}

theorem memOk_iff : s.memOk = true ↔ s.mem.wf = true ∧ ∀ t ∈ s.teams, cellsWf t.spad = true := by
  simp [State.memOk]

theorem mem_wf (ok : s.memOk) : s.mem.wf = true := (memOk_iff.1 ok).1

/-- Memory may change to any memory in canonical form. -/
theorem memOk_setMem {m : Memory} (ok : s.memOk) (wf : m.wf = true) : State.memOk { s with mem := m } :=
  memOk_iff.2 ⟨wf, (memOk_iff.1 ok).2⟩

theorem memOk_modMem {f : Memory → Memory} (ok : s.memOk) (wf : (f s.mem).wf = true) : (s.modMem f).memOk := memOk_setMem ok wf

/-- A change of one team's scratchpad that keeps its form. -/
theorem memOk_modTeam_wf {k : Nat} {f : Team → Team} (ok : s.memOk) (wf : ∀ t, cellsWf t.spad = true → cellsWf (f t).spad = true) :
    (s.modTeam k f).memOk := by
  obtain ⟨mem, spads⟩ := memOk_iff.1 ok
  refine memOk_iff.2 ⟨mem, fun t member => ?_⟩
  obtain ⟨n, found⟩ := List.getElem?_of_mem member
  rw [modTeam_teams, List.getElem?_modify] at found
  obtain ⟨u, listed, rfl⟩ := Option.map_eq_some_iff.1 found
  have form := spads u (List.mem_of_getElem? listed)
  split
  · exact wf u form
  · exact form

theorem memOk_modTeam {k : Nat} {f : Team → Team} (same : ∀ t, (f t).spad = t.spad) (ok : s.memOk) :
    (s.modTeam k f).memOk := memOk_modTeam_wf ok fun t wf => by rw [same t, wf]

theorem memOk_modWave {t w : Nat} {f : Wave → Wave} (ok : s.memOk) : (s.modWave t w f).memOk := memOk_modTeam (by intro; rfl) ok

theorem memOk_modLane {r : Ref} {f : Lane → Lane} (ok : s.memOk) : (s.modLane r f).memOk := memOk_modWave ok

theorem memOk_modEntry {t w k : Nat} {f : Entry → Entry} (ok : s.memOk) : (s.modEntry t w k f).memOk := memOk_modWave ok

theorem memOk_mapTeams {f : Team → Team} (same : ∀ t, (f t).spad = t.spad) (ok : s.memOk) :
    State.memOk { s with teams := s.teams.map f } := by
  obtain ⟨mem, spads⟩ := memOk_iff.1 ok
  refine memOk_iff.2 ⟨mem, fun t member => ?_⟩
  obtain ⟨u, listed, rfl⟩ := List.mem_map.1 member
  rw [same, spads u listed]

theorem memOk_modDie {d : Nat} {f : Die → Die} (ok : s.memOk) : (s.modDie d f).memOk := ok

theorem memOk_modHub {f : Hub → Hub} (ok : s.memOk) : (s.modHub f).memOk := ok

theorem memOk_modGrid {k : Nat} {f : Grid → Grid} (ok : s.memOk) : (s.modGrid k f).memOk := ok

theorem memOk_modIssue {f : Bundle → Bundle} (ok : s.memOk) : (s.modIssue f).memOk := ok

theorem memOk_modBundles {f : Bundle → Bundle} (ok : s.memOk) : (s.modBundles f).memOk := ok

theorem memOk_sweepBundles (ok : s.memOk) : s.sweepBundles.memOk := ok

theorem memOk_modOp {id : Nat} {f : Op → Op} (ok : s.memOk) : (s.modOp id f).memOk := ok

/-- Everything beside memory and the teams is free. -/
theorem memOk_with {hub dies grids ops bundles nextOp nextBundle agenda free issue args} (ok : s.memOk) :
    State.memOk { mem := s.mem, teams := s.teams, hub, dies, grids, ops, bundles, nextOp, nextBundle, agenda, free, issue, args } := ok

theorem memOk_addTeam {k t : Nat} (ok : s.memOk) : (s.addTeam k t).memOk := by
  obtain ⟨mem, spads⟩ := memOk_iff.1 ok
  refine memOk_iff.2 ⟨mem, fun x member => ?_⟩
  obtain listed | fresh := List.mem_append.1 member
  · exact spads x listed
  · rw [List.mem_singleton.1 fresh]
    rfl

end

theorem memOk_ite {c : Prop} [Decidable c] {s t : State} (yes : s.memOk) (no : t.memOk) : (if c then s else t).memOk := by
  split
  · exact yes
  · exact no

/-- A change that a condition asks for. -/
theorem memOk_change {c : Prop} [Decidable c] {s t : State} (keeps : s.memOk → t.memOk) (ok : s.memOk) :
    (if c then t else s).memOk := memOk_ite (keeps ok) ok

theorem memOk_keep {c : Prop} [Decidable c] {s t : State} (keeps : s.memOk → t.memOk) (ok : s.memOk) :
    (if c then s else t).memOk := memOk_ite ok (keeps ok)

section
variable {α β : Type}

theorem memOk_ite_fst {c : Prop} [Decidable c] {p q : State × α} (yes : p.1.memOk) (no : q.1.memOk) :
    (if c then p else q).1.memOk := by
  split
  · exact yes
  · exact no

theorem memOk_foldl {f : State → α → State} (keeps : ∀ {s a}, s.memOk → (f s a).memOk) {l : List α} {s : State} (ok : s.memOk) :
    (l.foldl f s).memOk := List.foldlRecOn (motive := fun s => s.memOk = true) l f ok fun _ ok _ _ => keeps ok

theorem memOk_foldr {f : α → State → State} (keeps : ∀ {a s}, s.memOk → (f a s).memOk) {l : List α} {s : State} (ok : s.memOk) :
    (l.foldr f s).memOk := List.foldrRecOn (motive := fun s => s.memOk = true) l f ok fun _ ok _ _ => keeps ok

theorem memOk_foldl_fst {f : State × β → α → State × β} (keeps : ∀ {p a}, p.1.memOk → (f p a).1.memOk) {l : List α} {p : State × β}
    (ok : p.1.memOk) : (l.foldl f p).1.memOk := List.foldlRecOn (motive := fun p => p.1.memOk = true) l f ok fun _ ok _ _ => keeps ok

/-- The state of a pair that an operation has answered. -/
theorem memOk_of_eq {p : State × α} {s : State} {a : α} (answer : p = (s, a)) (ok : p.1.memOk) : s.memOk := by
  rw [answer] at ok
  exact ok

end

/-- A next state that an instruction answers stands in canonical form. -/
def OutOk (o : Out) : Prop := ∀ t, o = .next t → t.memOk = true

theorem outOk_next {s : State} (ok : s.memOk) : OutOk (.next s) := fun t answer => by
  cases answer
  exact ok

theorem outOk_fault {e : Fault} : OutOk (.fault e) := fun _ answer => nomatch answer

theorem outOk_ite {c : Prop} [Decidable c] {a b : Out} (yes : OutOk a) (no : OutOk b) : OutOk (if c then a else b) := by
  split
  · exact yes
  · exact no

theorem outOk_andThen {o : Out} {f : State → State} (ok : OutOk o) (keeps : ∀ {s}, s.memOk → (f s).memOk) : OutOk (andThen o f) :=
  fun t answer => by
    obtain ⟨u, first, rfl⟩ := andThen_eq_next.1 answer
    exact keeps (ok u first)

theorem outOk_whenIssued {s : State} {f : State → State} (ok : s.memOk) (keeps : ∀ {s}, s.memOk → (f s).memOk) :
    OutOk (whenIssued s f) := outOk_ite (outOk_next ok) (outOk_next (keeps ok))

/-! ### The functions of the state -/

section
variable {s : State}

theorem memOk_draw (ok : s.memOk) : s.draw.1.memOk := memOk_with ok

theorem memOk_setReg {r sel v} (ok : s.memOk) : (s.setReg r sel v).memOk := memOk_ite (memOk_modLane ok) (memOk_modWave ok)

theorem memOk_setP {r k v} (ok : s.memOk) : (s.setP r k v).memOk := memOk_modLane ok

theorem memOk_linkPut {d m} (ok : s.memOk) : (s.linkPut d m).memOk := memOk_modDie ok

theorem memOk_hubMarks (ok : s.memOk) : s.hubMarks.memOk :=
  memOk_foldl (fun ok => memOk_ite ok (memOk_foldl memOk_linkPut (memOk_modHub ok))) ok

theorem memOk_sendMark {d} (ok : s.memOk) : (s.sendMark d).memOk := memOk_ite ok (memOk_modHub (memOk_modDie ok))

theorem memOk_sendMarks (ok : s.memOk) : s.sendMarks.memOk := memOk_hubMarks (memOk_foldl memOk_sendMark ok)

theorem memOk_logUE {pa part} (ok : s.memOk) : (s.logUE pa part).memOk := memOk_modHub ok

theorem memOk_upset {code correctable} (ok : s.memOk) : (s.upset code correctable).memOk :=
  memOk_ite ok (memOk_ite (memOk_ite ok (memOk_modMem ok (mem_wf ok))) (memOk_modMem ok (mem_wf ok)))

theorem memOk_noteWord {code part} (ok : s.memOk) : (s.noteWord code part).memOk :=
  memOk_ite (memOk_logUE ok) (memOk_ite (memOk_modHub (memOk_modMem ok (mem_wf ok))) ok)

theorem memOk_noteRead {pa n} (ok : s.memOk) : (s.noteRead pa n).memOk := memOk_ite ok (memOk_foldl memOk_noteWord ok)

theorem memOk_noteWalk {root va} (ok : s.memOk) : (s.noteWalk root va).memOk := by
  unfold State.noteWalk
  dsimp only
  split
  · exact memOk_noteRead ok
  · refine memOk_ite (memOk_noteRead ok) ?_
    split
    · exact memOk_noteRead (memOk_noteRead ok)
    · exact memOk_keep memOk_noteRead (memOk_noteRead (memOk_noteRead ok))

theorem memOk_noteAccess {tid a n need} (ok : s.memOk) : (s.noteAccess tid a n need).memOk := by
  unfold State.noteAccess
  split
  · exact memOk_noteWalk (memOk_modDie ok)
  · exact ok

theorem memOk_noteRange {tid a n need} (ok : s.memOk) : (s.noteRange tid a n need).memOk := memOk_foldl memOk_noteAccess ok

theorem memOk_logGuard {pa die core slot} (ok : s.memOk) : (s.logGuard pa die core slot).memOk := memOk_modHub ok

theorem memOk_recordRperm {team wave rec} (ok : s.memOk) : (s.recordRperm team wave rec).memOk := memOk_modWave ok

theorem memOk_evictLint {die line} (ok : s.memOk) : (s.evictLint die line).memOk := memOk_modDie (memOk_foldl memOk_modHub ok)

theorem memOk_wroteBack {p : Memory × List Nat} (ok : s.memOk) (wf : p.1.wf = true) : (s.wroteBack p).memOk :=
  memOk_foldl memOk_noteWord (memOk_setMem ok wf)

theorem memOk_evictL2 {die line} (ok : s.memOk) : (s.evictL2 die line).memOk :=
  memOk_wroteBack ok (evictL2_wf (mem_wf ok) ..)

theorem memOk_fitL2 {die but} (ok : s.memOk) : (s.fitL2 die but).memOk := by
  unfold State.fitL2
  split
  · exact memOk_evictLint (memOk_evictL2 ok)
  · exact ok

theorem memOk_hubAnswers {die secs} (ok : s.memOk) : (s.hubAnswers die secs).memOk :=
  memOk_ite ok (memOk_foldl memOk_noteWord (memOk_modDie ok))

theorem memOk_noteTarget {die t n} (ok : s.memOk) : (s.noteTarget die t n).memOk := by
  unfold State.noteTarget
  split
  · exact memOk_hubAnswers ok
  · exact memOk_modDie ok
  · exact ok

theorem memOk_noteBytes {tid a n need} (ok : s.memOk) : (s.noteBytes tid a n need).memOk := by
  unfold State.noteBytes
  dsimp only
  refine memOk_foldl (fun ok => ?_) ?_
  · split
    · exact memOk_noteTarget (memOk_noteAccess ok)
    · exact memOk_noteAccess ok
  · exact ok

theorem sectorRead_wf {m : Memory} {die core sec : Nat} {via : Via} (wf : m.wf = true) :
    (m.sectorRead die core sec via).1.wf = true := by
  cases via
  · exact coreRead_wf wf ..
  · exact coreRead_wf wf ..
  · exact bypassRead_wf wf ..
  · exact dieReadFresh_wf wf ..
  · exact hubRead_wf wf ..

theorem memOk_physRead {die core pa n via} (ok : s.memOk) : (s.physRead die core pa n via).1.memOk := by
  unfold State.physRead
  refine memOk_foldl_fst (fun {p sec} ok => ?_) (memOk_hubAnswers ok)
  have wf := sectorRead_wf (die := die) (core := core) (sec := sec) (via := via) (mem_wf ok)
  split
  · next read =>
    rw [read] at wf
    exact memOk_fitL2 (memOk_setMem ok wf)
  · next read =>
    rw [read] at wf
    exact memOk_setMem ok wf

theorem memOk_physWriteSector {w pa b atL2 sec} (ok : s.memOk) : (s.physWriteSector w pa b atL2 sec).1.memOk := by
  unfold State.physWriteSector
  extract_lets lo hi whole m
  have wf : m.wf = true := by
    unfold m
    split <;> exact mem_wf ok
  have written := sectorWrite_wf wf s.hub.guards w.die w.core sec (lo - 16 * sec) ((b.drop (lo - pa)).take (hi - lo)) w.priv atL2
    w.strm
  split
  · next done =>
    rw [done] at written
    exact memOk_fitL2 (memOk_setMem ok written)
  · exact ok

theorem memOk_physWrite {w pa b atL2} (ok : s.memOk) : (s.physWrite w pa b atL2).1.memOk := by
  unfold State.physWrite
  extract_lets asked reads
  have begun : asked.memOk := memOk_ite (memOk_modDie ok) ok
  split
  next u outs answer =>
  have written : u.memOk := by
    refine memOk_of_eq answer (memOk_foldl_fst (fun ok => ?_) begun)
    exact memOk_physWriteSector ok
  split
  · exact memOk_foldl memOk_noteWord written
  · exact memOk_logGuard (memOk_foldl memOk_noteWord written)

theorem memOk_readTarget {die core t n via} (ok : s.memOk) : (s.readTarget die core t n via).1.memOk := by
  unfold State.readTarget
  split
  · exact ok
  · exact ok
  · exact memOk_modDie ok
  · exact memOk_physRead ok

theorem memOk_wakeMonitors {t n} (ok : s.memOk) : (s.wakeMonitors t n).memOk := memOk_mapTeams (by intro; rfl) ok

/-- A scratchpad's bytes change. -/
theorem memOk_spadWrite {k off : Nat} {b : List Byte} (ok : s.memOk) :
    (s.modTeam k fun x => { x with spad := cellsWriteN x.spad off b }).memOk :=
  memOk_modTeam_wf ok fun _ wf => cellsWf_writeN wf ..

/-- The firmware store's bytes change. -/
theorem memOk_fwWrite {off : Nat} {b : List Byte} (ok : s.memOk) :
    (s.modMem fun m => { m with fw := cellsWriteN m.fw off b }).memOk := by
  refine memOk_modMem ok ?_
  have wf := mem_wf ok
  simp only [Memory.wf, Bool.and_eq_true] at wf ⊢
  exact ⟨wf.1, cellsWf_writeN wf.2 ..⟩

theorem memOk_writeTarget {w t b atL2} (ok : s.memOk) : (s.writeTarget w t b atL2).1.memOk := by
  have woken := memOk_wakeMonitors (t := t) (n := b.length) ok
  cases t with
  | spad k off => exact memOk_spadWrite woken
  | fw off => exact memOk_fwWrite woken
  | hub off live => exact memOk_change memOk_with woken
  | phys pa => exact memOk_physWrite woken

theorem memOk_poke {t v} (ok : s.memOk) : (s.poke t v).memOk := by
  cases t with
  | spad k off => exact memOk_spadWrite ok
  | fw off => exact memOk_fwWrite ok
  | hub off live => exact ok
  | phys pa => exact memOk_modMem ok (poke_wf (mem_wf ok) ..)

theorem memOk_performStore {op a} (ok : s.memOk) : (s.performStore op a).memOk :=
  memOk_change memOk_recordRperm (memOk_writeTarget ok)

theorem memOk_drainOp {id} (ok : s.memOk) : (s.drainOp id).memOk := by
  unfold State.drainOp
  split
  · exact ok
  · split
    · exact memOk_with (memOk_foldl memOk_performStore ok)
    · exact ok

theorem memOk_drainWhere {p} (ok : s.memOk) : (s.drainWhere p).memOk := memOk_foldl memOk_drainOp ok

theorem memOk_drainOwn {r t n} (ok : s.memOk) : (s.drainOwn r t n).memOk := memOk_drainWhere ok

theorem memOk_release {tid wave scope} (ok : s.memOk) : (s.release tid wave scope).memOk :=
  memOk_ite (memOk_drainWhere ok) (memOk_drainWhere ok)

theorem memOk_acquire {tid scope} (ok : s.memOk) : (s.acquire tid scope).memOk :=
  memOk_ite ok (memOk_modMem ok (acquire_wf (mem_wf ok) ..))

theorem memOk_laneRead {r t n via} (ok : s.memOk) : (s.laneRead r t n via).1.memOk := memOk_readTarget (memOk_drainOwn ok)

theorem memOk_laneWrite {r va t b rec} (ok : s.memOk) : (s.laneWrite r va t b rec).memOk :=
  memOk_change memOk_recordRperm (memOk_writeTarget (memOk_drainOwn ok))

theorem memOk_putIssue (ok : s.memOk) : s.putIssue.memOk := by
  unfold State.putIssue
  split
  · exact ok
  · exact memOk_with ok

theorem memOk_setPcs {t w mask clause idx} (ok : s.memOk) : (s.setPcs t w mask clause idx).memOk := memOk_foldl memOk_modLane ok

theorem memOk_unwait {t w mask} (ok : s.memOk) : (s.unwait t w mask).memOk := memOk_foldl memOk_modLane ok

theorem memOk_rotate {t w slot old} (ok : s.memOk) : (s.rotate t w slot old).memOk := by
  unfold State.rotate
  split
  · exact ok
  · dsimp only
    split
    · exact memOk_unwait (memOk_setPcs ok)
    · exact memOk_modEntry (memOk_unwait (memOk_setPcs ok))

theorem memOk_settle {t w slot old} (ok : s.memOk) : (s.settle t w slot old).memOk := by
  unfold State.settle
  split
  · exact ok
  · refine memOk_ite ok ?_
    refine memOk_ite (memOk_ite (memOk_modWave ok) ok) ?_
    dsimp only
    split
    · split
      · exact memOk_modEntry (memOk_modWave (memOk_ite ok (memOk_modEntry ok)))
      · exact memOk_ite ok (memOk_modEntry ok)
    · split
      · exact memOk_ite (memOk_rotate (memOk_modEntry (memOk_modWave (memOk_ite ok (memOk_modEntry ok))))) (memOk_change
          memOk_modWave (memOk_modEntry (memOk_modWave (memOk_ite ok (memOk_modEntry ok)))))
      · exact memOk_ite (memOk_rotate (memOk_ite ok (memOk_modEntry ok))) (memOk_change memOk_modWave (memOk_ite ok (memOk_modEntry
          ok)))

theorem memOk_leave {m mask clause idx park why same} (ok : s.memOk) : (s.leave m mask clause idx park why same).memOk := by
  unfold State.leave
  split
  · exact ok
  · refine memOk_ite ok ?_
    refine memOk_ite (memOk_settle (memOk_modBundles (memOk_modEntry (memOk_setPcs ok)))) ?_
    dsimp only
    split
    · exact memOk_modWave (memOk_modEntry (memOk_modBundles (memOk_setPcs ok)))
    · exact memOk_modEntry (memOk_unwait (memOk_modBundles (memOk_setPcs ok)))

theorem memOk_place {t w slot gs} (ok : s.memOk) : (s.place t w slot gs).memOk := by
  induction gs generalizing s slot with
  | nil => exact memOk_modEntry ok
  | cons g rest ih =>
    unfold State.place
    refine memOk_ite (memOk_modEntry ok) ?_
    extract_lets
    split
    · exact ih (memOk_modWave (memOk_modEntry (memOk_modEntry ok)))
    · exact memOk_modEntry (memOk_modEntry ok)

theorem memOk_endLanes {t w mask} (ok : s.memOk) : (s.endLanes t w mask).memOk :=
  memOk_foldl (fun ok => memOk_ite (memOk_settle ok) ok) (memOk_modWave (memOk_sweepBundles (memOk_modBundles (memOk_modWave
    (memOk_modWave ok)))))

theorem memOk_fuseGo {t w n} (ok : s.memOk) : (s.fuseGo t w n).memOk := by
  induction n generalizing s with
  | zero => exact ok
  | succ n ih =>
    unfold State.fuseGo
    split
    · exact ok
    · exact ih (memOk_modWave ok)

theorem memOk_fuse {t w} (ok : s.memOk) : (s.fuse t w).memOk := memOk_fuseGo ok

theorem memOk_recall {line} (ok : s.memOk) : (s.recall line).memOk := by
  unfold State.recall
  split
  · exact memOk_evictL2 ok
  · exact ok

theorem memOk_agentWriteSector {pa b sec} (ok : s.memOk) : (s.agentWriteSector pa b sec).memOk := by
  have recalled := memOk_recall (line := sec / 8) ok
  unfold State.agentWriteSector
  extract_lets lo hi whole u v
  have cured : v.memOk := memOk_ite (memOk_modMem recalled (mem_wf recalled)) recalled
  refine memOk_ite cured (memOk_modMem cured ?_)
  have wf := mem_wf cured
  simp only [Memory.wf, Bool.and_eq_true] at wf ⊢
  exact ⟨cellsWf_writeN wf.1 .., wf.2⟩

theorem memOk_agentWrite {pa b} (ok : s.memOk) : (s.agentWrite pa b).memOk :=
  memOk_ite (memOk_with ok) (memOk_foldl memOk_noteWord (memOk_foldl memOk_agentWriteSector (memOk_wakeMonitors ok)))

theorem memOk_noteAgent {root va} (ok : s.memOk) : (s.noteAgent root va).memOk := memOk_ite ok (memOk_noteWalk ok)

theorem memOk_noteRoot {root va n} (ok : s.memOk) : (s.noteRoot root va n).memOk := by
  unfold State.noteRoot
  dsimp only
  refine memOk_foldl (fun ok => ?_) ?_
  · split
    · exact memOk_noteRead (memOk_noteAgent ok)
    · exact memOk_noteAgent ok
  · exact ok

theorem memOk_ringPost {die n rec phys} (ok : s.memOk) : (s.ringPost die n rec phys).memOk :=
  memOk_ite ok (memOk_keep (fun ok => memOk_ite ok (memOk_modDie (memOk_foldl memOk_agentWrite ok))) (memOk_modDie ok))

theorem memOk_putShadow {die x} (ok : s.memOk) : (s.putShadow die x).memOk := memOk_modDie (memOk_with ok)

theorem memOk_putSync {die key v} (ok : s.memOk) : (s.putSync die key v).memOk := memOk_modDie (memOk_with ok)

theorem memOk_lintAccess {r t n write atomic} (ok : s.memOk) : (s.lintAccess r t n write atomic).memOk := by
  refine memOk_ite ok ?_
  split
  · refine memOk_foldl (fun ok => ?_) ok
    extract_lets sec lo hi rec' sh report
    have reported : ∀ {u : State} {old kind}, u.memOk → (report u old kind).memOk := fun ok => by
      unfold report
      split
      · exact memOk_ite (memOk_ringPost ok) ok
      · exact ok
    exact memOk_putShadow (memOk_change reported (reported ok))
  · exact ok

theorem memOk_lintAtomicWrite {r t rel} (ok : s.memOk) : (s.lintAtomicWrite r t rel).memOk := by
  unfold State.lintAtomicWrite
  split
  · exact ok
  · exact memOk_ite (memOk_modTeam (by intro; rfl) (memOk_putSync ok)) (memOk_ite ok (memOk_putSync ok))

theorem memOk_lintAtomicRead {r t acq} (ok : s.memOk) : (s.lintAtomicRead r t acq).memOk := by
  unfold State.lintAtomicRead
  split
  · exact ok
  · exact memOk_modTeam (fun _ => by split <;> rfl) ok

theorem memOk_lintFence {tid acq rel} (ok : s.memOk) : (s.lintFence tid acq rel).memOk :=
  memOk_ite ok (memOk_change (memOk_modTeam (by intro; rfl)) (memOk_ite (memOk_modTeam (by intro; rfl) ok) ok))

theorem memOk_endFatal {tid f} (ok : s.memOk) : (s.endFatal tid f).memOk :=
  memOk_ite ok (memOk_sweepBundles (memOk_modBundles (memOk_modTeam (by intro; rfl) ok)))

theorem memOk_writeDwords {r a vs rec} (ok : s.memOk) : (s.writeDwords r a vs rec).memOk := by
  unfold State.writeDwords
  dsimp only
  refine memOk_foldl (fun ok => ?_) ?_
  · split
    · exact memOk_laneWrite (memOk_lintAccess ok)
    · exact ok
  · exact ok

theorem memOk_readDwords {r a n} (ok : s.memOk) : (s.readDwords r a n).1.memOk := by
  induction n generalizing s a with
  | zero => exact ok
  | succ n ih =>
    unfold State.readDwords
    split
    · exact ok
    · exact ok
    · split
      · next read => exact memOk_of_eq read (memOk_laneRead (memOk_lintAccess ok))
      · next read =>
        have rest := ih (a := a + 8) (memOk_of_eq read (memOk_laneRead (memOk_lintAccess ok)))
        split
        · next more => exact memOk_of_eq more rest
        · next more => exact memOk_of_eq more rest

theorem memOk_undefine {tid a n} (ok : s.memOk) : (s.undefine tid a n).memOk := by
  induction n generalizing s a with
  | zero => exact ok
  | succ n ih =>
    unfold State.undefine
    split
    · exact ih (memOk_poke (memOk_draw ok))
    · exact ih ok

theorem memOk_pushSlots {r new rec} (ok : s.memOk) : (s.pushSlots r new rec).memOk :=
  memOk_keep memOk_undefine (memOk_modLane (memOk_foldl memOk_writeDwords ok))

theorem memOk_refill {r a mid n} (ok : s.memOk) : (s.refill r a mid n).1.memOk := by
  induction n generalizing s a mid with
  | zero => exact ok
  | succ n ih =>
    unfold State.refill
    split
    · next read => exact memOk_of_eq read (memOk_readDwords ok)
    · next vs read =>
      have rest := ih (a := a + 16) (mid := !mid && (vs.getD 0 0).toNat % 8 == 2) (memOk_of_eq read (memOk_readDwords ok))
      dsimp only
      split
      · next more => exact memOk_of_eq more rest
      · next more => exact memOk_of_eq more rest

theorem memOk_popSlots {r k} (ok : s.memOk) : (s.popSlots r k).1.memOk := by
  unfold State.popSlots
  extract_lets l sp chip
  split
  · next refilled => exact memOk_of_eq refilled (memOk_refill ok)
  · next refilled => exact memOk_modLane (memOk_of_eq refilled (memOk_refill ok))

theorem memOk_takeTrap {r t} (ok : s.memOk) : (s.takeTrap r t).memOk := by
  unfold State.takeTrap
  refine memOk_ite (memOk_endFatal ok) ?_
  refine memOk_ite (memOk_endFatal ok) ?_
  split
  · exact memOk_endFatal ok
  · dsimp only
    split
    · exact memOk_endFatal ok
    · exact memOk_modLane (memOk_writeDwords (memOk_pushSlots ok))

theorem memOk_enterTrap {r} (ok : s.memOk) : (s.enterTrap r).memOk := by
  unfold State.enterTrap
  split
  · exact ok
  · refine memOk_ite ok ?_
    split
    · exact memOk_takeTrap ok
    · exact memOk_modWave ok

theorem memOk_returnTrap {r} (ok : s.memOk) : (s.returnTrap r).1.memOk := by
  refine memOk_ite_fst ok ?_
  split
  · next read => exact memOk_of_eq read (memOk_readDwords ok)
  · next read =>
    have framed := memOk_of_eq read (memOk_readDwords ok)
    refine memOk_ite_fst framed ?_
    split
    · next popped => exact memOk_of_eq popped (memOk_popSlots framed)
    · next popped => exact memOk_of_eq popped (memOk_popSlots framed)

theorem memOk_fqAdd {die e} (ok : s.memOk) : (s.fqAdd die e).memOk := memOk_modDie ok

theorem memOk_fqPromote {die} (ok : s.memOk) : (s.fqPromote die).memOk := by
  unfold State.fqPromote
  dsimp only
  split
  · exact memOk_modTeam (by intro; rfl) (memOk_modDie ok)
  · exact ok

theorem memOk_fqDrop {die k} (ok : s.memOk) : (s.fqDrop die k).memOk := memOk_fqPromote (memOk_modDie ok)

theorem memOk_summarise {t w told} (ok : s.memOk) : (s.summarise t w told).memOk := by
  unfold State.summarise
  dsimp only
  split
  · exact memOk_modWave ok
  · exact memOk_modWave (memOk_modWave ok)

theorem memOk_parkFaults {t w fs clause idx} (ok : s.memOk) : (s.parkFaults t w fs clause idx).memOk := by
  unfold State.parkFaults
  split
  · exact memOk_foldl memOk_modLane (memOk_fqAdd ok)
  · exact ok

theorem memOk_setTrap {f told clause idx} (ok : s.memOk) : (s.setTrap f told clause idx).memOk := memOk_modLane ok

theorem memOk_faultMember {m fs told clause idx} (ok : s.memOk) : (s.faultMember m fs told clause idx).memOk :=
  memOk_keep memOk_endLanes (memOk_foldl memOk_enterTrap (memOk_leave (memOk_foldl memOk_setTrap (memOk_leave ok))))

theorem memOk_faultLanes {fs} (ok : s.memOk) : (s.faultLanes fs).memOk :=
  memOk_ite ok (memOk_foldl memOk_faultMember (memOk_foldl memOk_parkFaults (memOk_foldl memOk_summarise (memOk_modIssue ok))))

theorem memOk_trapParked {t w slot clause idx fs} (ok : s.memOk) : (s.trapParked t w slot clause idx fs).memOk := by
  unfold State.trapParked
  split
  · exact ok
  · refine memOk_ite (memOk_foldl memOk_enterTrap (memOk_leave (memOk_foldl memOk_setTrap (memOk_summarise ok)))) ?_
    exact memOk_endLanes (memOk_foldl memOk_enterTrap (memOk_leave (memOk_foldl memOk_setTrap (memOk_summarise ok))))

theorem memOk_hold (ok : s.memOk) : s.hold.memOk := memOk_putIssue (memOk_modIssue ok)

theorem memOk_endMember {b m} (ok : s.memOk) : (s.endMember b m).memOk :=
  memOk_settle (memOk_foldl memOk_modLane (memOk_foldl memOk_setPcs (memOk_place (memOk_modEntry (memOk_modTeam (by intro; rfl)
    ok)))))

theorem memOk_placeImage {t w img here} (ok : s.memOk) : (s.placeImage t w img here).memOk := by
  unfold State.placeImage
  refine memOk_ite ok ?_
  dsimp only
  split
  · exact memOk_modWave (memOk_setPcs ok)
  · exact memOk_modWave (memOk_setPcs ok)

theorem memOk_settleBinds {t} (ok : s.memOk) : (s.settleBinds t).memOk :=
  memOk_ite ok (memOk_foldl memOk_endLanes (memOk_modTeam (by intro; rfl) ok))

theorem memOk_endClause (ok : s.memOk) : s.endClause.memOk :=
  memOk_foldl memOk_fuse (memOk_foldl memOk_settleBinds (memOk_foldl memOk_placeImage (memOk_foldl memOk_endMember (memOk_with
    ok))))

theorem memOk_nextWord (ok : s.memOk) : s.nextWord.memOk :=
  memOk_ite (memOk_putIssue ok) (memOk_ite (memOk_endClause (memOk_modIssue ok)) (memOk_putIssue (memOk_modIssue ok)))

theorem memOk_dropRecords {fs} (ok : s.memOk) : (s.dropRecords fs).memOk := by
  unfold State.dropRecords
  refine memOk_foldl (fun ok => ?_) ?_
  · split
    · exact memOk_modLane ok
    · exact memOk_modWave ok
    · exact memOk_modWave ok
    · exact ok
  · exact ok

theorem memOk_deliverEach {ms f} (ok : s.memOk) : (s.deliverEach ms f).1.memOk := memOk_foldl_fst memOk_dropRecords ok

theorem memOk_endResults {t w slot} (ok : s.memOk) : (s.endResults t w slot).memOk := by
  unfold State.endResults
  split
  · exact ok
  · exact memOk_keep (fun ok => memOk_trapParked (memOk_dropRecords ok)) (memOk_modEntry ok)

theorem memOk_noteHit {r kind n code addr parked} (ok : s.memOk) : (s.noteHit r kind n code addr parked).memOk :=
  memOk_modTeam (by intro; rfl) ok

theorem memOk_askSave {tid reason} (ok : s.memOk) : (s.askSave tid reason).memOk := by
  unfold State.askSave
  split
  · dsimp only
    split
    · exact memOk_modTeam (by intro; rfl) (memOk_modTeam (by intro; rfl) ok)
    · exact memOk_modTeam (by intro; rfl) ok
  · dsimp only
    split
    · exact memOk_modTeam (by intro; rfl) (memOk_modTeam (by intro; rfl) ok)
    · exact memOk_modTeam (by intro; rfl) ok

theorem memOk_swapHits {rs} (ok : s.memOk) : (s.swapHits rs).memOk := by
  unfold State.swapHits
  extract_lets b u
  have oku : u.memOk := by
    unfold u
    refine memOk_foldl (fun ok => ?_) ?_
    · refine memOk_foldl (fun ok => ?_) ?_
      · split
        · exact memOk_leave ok
        · exact ok
      · exact ok
    · exact ok
  exact memOk_foldl memOk_askSave oku

theorem memOk_debugHits {lanes ws} (ok : s.memOk) : (s.debugHits lanes ws).memOk :=
  memOk_ite ok (memOk_faultLanes (memOk_keep memOk_swapHits (memOk_foldl memOk_noteHit ok)))

theorem memOk_stepDone {t w lane parked} (ok : s.memOk) : (s.stepDone t w lane parked).memOk :=
  memOk_askSave (memOk_modTeam (by intro; rfl) ok)

theorem memOk_releaseBundle {b} (ok : s.memOk) : (s.releaseBundle b).memOk :=
  memOk_foldl (fun ok => memOk_change memOk_endResults (memOk_modEntry (memOk_setPcs ok))) (memOk_with ok)

theorem memOk_afterStep {id steps} (ok : s.memOk) : (s.afterStep id steps).memOk := by
  unfold State.afterStep
  refine memOk_ite ok ?_
  split
  · exact memOk_foldl memOk_stepDone ok
  · exact memOk_ite ok (memOk_ite (memOk_foldl memOk_stepDone (memOk_releaseBundle ok)) (memOk_foldl memOk_stepDone (memOk_endClause
      (memOk_with ok))))

theorem memOk_finish {lanes ws} (ok : s.memOk) : (s.finish lanes ws).memOk :=
  memOk_ite (memOk_putIssue (memOk_modIssue (memOk_debugHits ok))) (memOk_ite (memOk_putIssue (memOk_modIssue (memOk_modIssue
    (memOk_debugHits ok)))) (memOk_nextWord (memOk_modIssue (memOk_debugHits ok))))

theorem memOk_advance (ok : s.memOk) : s.advance.memOk := memOk_finish ok

theorem memOk_passHits {t w mask clause idx} (ok : s.memOk) : (s.passHits t w mask clause idx).memOk := by
  unfold State.passHits
  split
  · exact memOk_ite ok (memOk_ite (memOk_askSave (memOk_leave (memOk_modTeam (by intro; rfl) ok))) (memOk_trapParked ok))
  · exact ok

/-- A parked word that issues at last keeps the form when the word's own meaning does. -/
theorem memOk_reissue {t w e lanes word f} (ok : s.memOk) (keeps : ∀ {u : State}, u.memOk → OutOk (f u)) :
    (s.reissue t w e lanes word f).memOk := by
  unfold State.reissue
  extract_lets u
  have apart : u.memOk := memOk_ite (memOk_modEntry ok) (memOk_leave ok)
  split
  · exact apart
  · extract_lets b src v
    have issued : OutOk (f v) := keeps (memOk_with (memOk_modEntry apart))
    split
    · next x answer => exact memOk_afterStep (issued x answer)
    · exact apart

theorem memOk_deliverRperm (ok : s.memOk) : s.deliverRperm.memOk := memOk_faultLanes (memOk_deliverEach ok)

theorem memOk_releaseWord {scope} (ok : s.memOk) : (s.releaseWord scope).memOk :=
  memOk_deliverRperm (memOk_foldl memOk_release ok)

theorem memOk_endTurn {lanes} (ok : s.memOk) : (s.endTurn lanes).memOk :=
  memOk_foldl (fun ok => memOk_ite (memOk_with (memOk_modGrid ok)) ok) ok

theorem memOk_bump {t w c up} (ok : s.memOk) : (s.bump t w c up).memOk := memOk_modWave ok

theorem memOk_pushOp {t w c counts writes regs preds eccs body} (ok : s.memOk) :
    (s.pushOp t w c counts writes regs preds eccs body).memOk :=
  memOk_with (memOk_ite (memOk_modWave (memOk_bump ok)) ok)

theorem memOk_addOp {t w c writes regs preds eccs body} (ok : s.memOk) : (s.addOp t w c writes regs preds eccs body).memOk :=
    memOk_pushOp ok

theorem memOk_retire (ok : s.memOk) : s.retire.memOk := memOk_foldl memOk_bump (memOk_with ok)

theorem memOk_opDone {id} (ok : s.memOk) : (s.opDone id).memOk := memOk_retire (memOk_with ok)

theorem outOk_privWord {f} (ok : s.memOk) (keeps : ∀ {u : State}, u.memOk → (f u).memOk) : OutOk (privWord s f) :=
  outOk_whenIssued ok fun ok => by
    split
    · exact keeps ok
    · exact memOk_finish (memOk_faultLanes ok)

theorem memOk_latchRead {r sel} (ok : s.memOk) : (s.latchRead r sel).memOk := by
  unfold State.latchRead
  split
  · exact memOk_modLane ok
  · exact memOk_modLane ok
  · exact memOk_modLane ok
  · exact memOk_modLane ok
  · exact ok

theorem memOk_apply {r e} (ok : s.memOk) : (s.apply r e).memOk := memOk_modLane (memOk_foldl memOk_setReg ok)

theorem memOk_applyAll {effs} (ok : s.memOk) : (s.applyAll effs).memOk := memOk_foldl memOk_apply ok

theorem outOk_aluWord {srcs f} (ok : s.memOk) : OutOk (aluWord s srcs f) :=
  outOk_whenIssued ok (fun ok => memOk_finish (memOk_applyAll (memOk_foldl (fun ok => memOk_foldl memOk_latchRead ok) ok)))

theorem outOk_alu3 {o ta tb tc f} (ok : s.memOk) : OutOk (alu3 s o ta tb tc f) := outOk_aluWord ok

theorem outOk_alu2 {o ta tb f} (ok : s.memOk) : OutOk (alu2 s o ta tb f) := outOk_aluWord ok

theorem outOk_alu1 {o ta f} (ok : s.memOk) : OutOk (alu1 s o ta f) := outOk_aluWord ok

theorem outOk_aluI {o ta tb f} (ok : s.memOk) : OutOk (aluI s o ta tb f) := outOk_aluWord ok

theorem outOk_alu64 {o f} (ok : s.memOk) : OutOk (alu64 s o f) := outOk_aluWord ok

theorem outOk_alu64c {o f} (ok : s.memOk) : OutOk (alu64c s o f) := outOk_aluWord ok

theorem outOk_alu64I {o f} (ok : s.memOk) : OutOk (alu64I s o f) := outOk_aluWord ok

theorem memOk_parkLanes {rs park why same} (ok : s.memOk) : (s.parkLanes rs park why same).memOk := memOk_foldl memOk_leave ok

theorem memOk_parkAbsent {xs} (ok : s.memOk) : (s.parkAbsent xs).memOk := by
  unfold State.parkAbsent
  refine memOk_foldl (fun ok => ?_) ?_
  · split
    · exact memOk_ite (memOk_parkLanes ok) ok
    · exact ok
  · exact ok

theorem memOk_tokenGate {asks} (ok : s.memOk) : (s.tokenGate asks).memOk := memOk_parkLanes ok

theorem memOk_spendToken {r} (ok : s.memOk) : (s.spendToken r).memOk := memOk_keep memOk_with (memOk_modGrid ok)

theorem memOk_postOpsP {ws c writes res preds eccs body} (ok : s.memOk) : (s.postOpsP ws c writes res preds eccs body).memOk :=
    memOk_foldl memOk_addOp ok

theorem memOk_postOps {ws c writes res eccs body} (ok : s.memOk) : (s.postOps ws c writes res eccs body).memOk :=
  memOk_postOpsP ok

theorem memOk_postEach {ws c writes jobs} (ok : s.memOk) : (s.postEach ws c writes jobs).memOk :=
  memOk_foldl (fun ok => memOk_ite (memOk_opDone (memOk_addOp ok)) (memOk_foldl memOk_pushOp ok)) ok

theorem memOk_unpark {t w e} (ok : s.memOk) : (s.unpark t w e).memOk := memOk_modEntry ok

theorem memOk_goOn {t w e} (ok : s.memOk) : (s.goOn t w e).memOk := by
  unfold State.goOn
  refine memOk_ite ok ?_
  split
  · split
    · exact memOk_unpark ok
    · exact memOk_with (memOk_modEntry (memOk_unpark ok))
  · exact memOk_with (memOk_unpark ok)

theorem memOk_goOnWhere {t p} (ok : s.memOk) : (s.goOnWhere t p).memOk := memOk_foldr memOk_goOn ok

theorem memOk_modBarrier {tid b f} (ok : s.memOk) : (s.modBarrier tid b f).memOk := memOk_modTeam (by intro; rfl) ok

theorem memOk_passBwait {t w e met} (ok : s.memOk) : (s.passBwait t w e met).memOk :=
  memOk_passHits (memOk_leave (memOk_change memOk_modEntry (memOk_modTeam (by intro; rfl) (memOk_foldl memOk_modLane ok))))

theorem memOk_recompare {tid b} (ok : s.memOk) : (s.recompare tid b).memOk :=
  memOk_foldl (fun ok => memOk_foldl (fun ok => memOk_ite ok (memOk_passBwait ok)) ok) ok

theorem memOk_phase {tid b} (ok : s.memOk) : (s.phase tid b).memOk := memOk_ite (memOk_recompare (memOk_modBarrier ok)) ok

theorem memOk_barrierBytes {tid b n} (ok : s.memOk) : (s.barrierBytes tid b n).memOk := memOk_phase (memOk_modBarrier ok)

theorem memOk_gateWith {asks more} (ok : s.memOk) : (s.gateWith asks more).s.memOk := by
  unfold State.gateWith
  extract_lets tok rest res misses faults zero oks waits parked go
  split
  · exact memOk_hold (memOk_modIssue ok)
  · split
    · exact memOk_hold (memOk_foldl memOk_drainOwn ok)
    · exact memOk_foldl memOk_spendToken (memOk_foldl memOk_parkLanes (memOk_faultLanes (memOk_parkLanes ok)))

theorem memOk_gate {asks} (ok : s.memOk) : (s.gate asks).s.memOk := memOk_gateWith ok

theorem outOk_arriveWord {o drop arr bytes} (ok : s.memOk) : OutOk (arriveWord s o drop arr bytes) :=
  outOk_whenIssued ok fun ok => by
    refine memOk_ite (memOk_hold ok) ?_
    extract_lets u act n vals v help
    have oku : u.memOk := memOk_change memOk_releaseWord ok
    have okv : v.memOk := memOk_change (memOk_foldl memOk_latchRead) oku
    split
    next w got arrived =>
    have okw : w.memOk := by
      refine memOk_of_eq arrived (memOk_foldl_fst (fun ok => ?_) okv)
      exact memOk_phase (memOk_change memOk_modBarrier (memOk_change memOk_modBarrier ok))
    exact memOk_change memOk_endTurn (memOk_finish (memOk_change (memOk_foldl memOk_setReg) okw))

theorem memOk_barReads {r ps} (ok : s.memOk) : (barReads s r ps).1.memOk := by
  induction ps generalizing s with
  | nil => exact ok
  | cons p ps ih =>
    unfold barReads
    split
    · next read => exact memOk_of_eq read (memOk_laneRead (memOk_lintAccess ok))
    · next read =>
      have rest := ih (memOk_of_eq read (memOk_laneRead (memOk_lintAccess ok)))
      split
      · next more => exact memOk_of_eq more rest
      · next more => exact memOk_of_eq more rest

theorem memOk_sendTo {xs} (ok : s.memOk) : (s.sendTo xs).memOk := memOk_modIssue ok

theorem memOk_callLanes {xs} (ok : s.memOk) : (s.callLanes xs).memOk :=
  memOk_sendTo (memOk_foldl memOk_pushSlots (memOk_parkAbsent (memOk_faultLanes ok)))

theorem memOk_retLane {r} (ok : s.memOk) : (s.retLane r).1.memOk := by
  unfold State.retLane
  extract_lets l
  split
  · exact ok
  · refine memOk_ite_fst ok ?_
    split
    · next popped => exact memOk_of_eq popped (memOk_popSlots ok)
    · next popped => exact memOk_of_eq popped (memOk_popSlots ok)

theorem outOk_returnWord {pop places k} (ok : s.memOk) (keeps : ∀ {u : State} {r : Ref}, u.memOk → (pop u r).1.memOk) :
    OutOk (returnWord s pop places k) := by
  refine outOk_whenIssued ok fun ok => memOk_ite (memOk_hold ok) ?_
  extract_lets act
  split
  next u bad answer =>
  have tried : u.memOk := by
    refine memOk_of_eq answer (memOk_foldl_fst (fun ok => ?_) ok)
    split
    · next popped => exact memOk_of_eq popped (keeps ok)
    · exact ok
  extract_lets v go ws
  have parked : v.memOk := memOk_parkAbsent (memOk_faultLanes tried)
  split
  next goes answer =>
  refine memOk_finish (memOk_sendTo (memOk_of_eq answer (memOk_foldl_fst (fun ok => ?_) parked)))
  split
  · next popped => exact memOk_of_eq popped (keeps ok)
  · exact ok

theorem memOk_passWord {t w clause idx pass} (ok : s.memOk) : (s.passWord t w clause idx pass).memOk := by
  unfold State.passWord
  dsimp only
  split
  · exact memOk_foldl memOk_modLane (memOk_release ok)
  · exact memOk_fuse (memOk_passHits (memOk_settle (memOk_modWave (memOk_modTeam (by intro; rfl) (memOk_sweepBundles (memOk_foldl
      memOk_modBundles (memOk_foldl memOk_leave (memOk_foldl memOk_modLane (memOk_release ok)))))))))

theorem memOk_syncPass {t w} (ok : s.memOk) : (s.syncPass t w).memOk := memOk_foldl memOk_passWord ok

theorem memOk_arriveLanes {rs} (ok : s.memOk) : (s.arriveLanes rs).memOk := memOk_parkLanes (memOk_foldl memOk_modLane ok)

theorem memOk_syncFaults {t w ks} (ok : s.memOk) : (s.syncFaults t w ks).memOk := by
  unfold State.syncFaults
  dsimp only
  refine memOk_sweepBundles ?_
  refine memOk_foldl (fun ok => ?_) ?_
  · exact memOk_enterTrap (memOk_setPcs (memOk_setTrap (memOk_summarise ok)))
  · refine memOk_foldl (fun ok => ?_) ?_
    · split
      · exact ok
      · exact memOk_trapParked ok
    · exact ok

theorem outOk_f32Word2 {o f} (ok : s.memOk) : OutOk (f32Word2 s o f) := outOk_aluWord ok

theorem outOk_f32WordI {o f} (ok : s.memOk) : OutOk (f32WordI s o f) := outOk_aluI ok

theorem outOk_f16Word2 {o f} (ok : s.memOk) : OutOk (f16Word2 s o f) := outOk_aluWord ok

theorem outOk_f16WordI {o f} (ok : s.memOk) : OutOk (f16WordI s o f) := outOk_aluI ok

theorem outOk_transcWord {o fn} (ok : s.memOk) : OutOk (transcWord s o fn) := outOk_alu1 ok

theorem memOk_mailPut {d p} (ok : s.memOk) : (s.mailPut d p).memOk := memOk_linkPut ok

theorem memOk_mailTake {d} (ok : s.memOk) : (s.mailTake d).1.memOk := by
  unfold State.mailTake
  split
  · exact ok
  · exact memOk_modDie ok

theorem memOk_eqAdd {p} (ok : s.memOk) : (s.eqAdd p).memOk := memOk_modHub ok

theorem outOk_eqFlushGo {n} (ok : s.memOk) : OutOk (eqFlushGo n s) := by
  induction n generalizing s with
  | zero => exact outOk_next ok
  | succ n ih =>
    unfold eqFlushGo
    split
    · exact outOk_next ok
    · exact outOk_ite (outOk_next ok) (outOk_ite outOk_fault (ih (memOk_modHub (memOk_agentWrite ok))))

theorem outOk_eqFlush (ok : s.memOk) : OutOk s.eqFlush := outOk_eqFlushGo ok

theorem memOk_loadPart {via go rd sx} (ok : s.memOk) : (s.loadPart via go rd sx).1.memOk := by
  refine memOk_foldl_fst (fun ok => ?_) ok
  extract_lets r
  split
  · next read => exact memOk_of_eq read (memOk_laneRead (memOk_lintAccess ok))
  · next read =>
    have done := memOk_of_eq read (memOk_laneRead (memOk_lintAccess ok))
    exact memOk_ite_fst done done

theorem memOk_emptyOps {ws c} (ok : s.memOk) : (s.emptyOps ws c).memOk := memOk_foldl (fun ok => memOk_opDone (memOk_addOp ok)) ok

theorem memOk_wbackLine {r t scope} (ok : s.memOk) : (s.wbackLine r t scope).memOk := by
  unfold State.wbackLine
  split
  · extract_lets line u die v
    have drained : u.memOk := memOk_drainOwn ok
    have back : v.memOk := memOk_modMem drained (wbackL1_wf (mem_wf drained) ..)
    exact memOk_ite (memOk_wroteBack back (flushL2_wf (mem_wf back) ..)) back
  · exact ok

theorem memOk_writeResults {op} (ok : s.memOk) : (s.writeResults op).memOk :=
  memOk_foldl memOk_modLane (memOk_foldl (fun ok => memOk_ite ok (memOk_setP ok)) (memOk_foldl (fun ok => memOk_ite ok
    (memOk_setReg ok)) ok))

theorem memOk_landCharges {die p} (ok : s.memOk) : (s.landCharges die p).memOk := memOk_ite (memOk_modHub ok) ok

theorem memOk_installRange {die r} (ok : s.memOk) : (s.installRange die r).memOk := by
  unfold State.installRange
  split
  · exact ok
  · exact memOk_modGrid (memOk_modDie ok)

theorem outOk_sendPacket {op p} (ok : s.memOk) : OutOk (s.sendPacket op p) :=
  outOk_ite (outOk_next ok) (outOk_eqFlush (memOk_opDone (memOk_eqAdd ok)))

theorem memOk_acquireWord {scope} (ok : s.memOk) : (s.acquireWord scope).memOk := by
  unfold State.acquireWord
  split
  · exact memOk_acquire ok
  · exact ok

theorem memOk_atomicRead {r t n} (ok : s.memOk) : (s.atomicRead r t n).1.memOk := memOk_laneRead ok

theorem memOk_atomicWrite {r va t b scope} (ok : s.memOk) : (s.atomicWrite r va t b scope).memOk :=
  memOk_change memOk_recordRperm (memOk_writeTarget ok)

theorem memOk_atomicLane {o : FM} {r va t n f} (ok : s.memOk) : (s.atomicLane o r va t n f).1.memOk := by
  unfold State.atomicLane
  split
  · next read => exact memOk_of_eq read (memOk_atomicRead ok)
  · next u b read =>
    have done := memOk_of_eq read (memOk_atomicRead ok)
    cases f (leNat b) with
    | none => exact memOk_lintAccess (memOk_change memOk_lintAtomicRead done)
    | some _ =>
      extract_lets scope new v w
      have joined : w.memOk := memOk_lintAccess (memOk_change memOk_lintAtomicRead done)
      exact memOk_change memOk_lintAtomicWrite (memOk_atomicWrite joined)

theorem outOk_atomicWord {o f} (ok : s.memOk) : OutOk (atomicWord s o f) :=
  outOk_whenIssued ok fun ok => by
    refine memOk_ite (memOk_hold ok) ?_
    extract_lets asks u act helpers n vals g
    have oku : u.memOk := memOk_change (fun ok => memOk_releaseWord (memOk_tokenGate ok)) ok
    have gated : g.s.memOk := memOk_gate oku
    refine memOk_ite gated (memOk_finish (memOk_postOps (memOk_change memOk_acquireWord (memOk_foldl_fst (fun ok => ?_) gated))))
    dsimp only
    split
    · next done => exact memOk_of_eq done (memOk_atomicLane ok)
    · next done => exact memOk_of_eq done (memOk_atomicLane ok)

theorem outOk_atomicOp {o f} (ok : s.memOk) : OutOk (atomicOp o s f) := outOk_atomicWord ok

theorem memOk_mwaitLane {o x} (ok : s.memOk) : (s.mwaitLane o x).1.memOk := by
  unfold State.mwaitLane
  extract_lets r l rd
  have pair := memOk_ite_fst (c := l.isHelper = true) (memOk_laneRead (r := r) (t := x.2) (n := x.1.n) (via := .l1) ok)
    (memOk_atomicRead (r := r) (t := x.2) (n := x.1.n) ok)
  split
  · next read => exact memOk_of_eq read pair
  · next u b read =>
    have done := memOk_of_eq read pair
    exact memOk_ite_fst (memOk_modLane (memOk_lintAccess (memOk_change memOk_lintAtomicRead done)))
      (memOk_modLane (memOk_lintAccess (memOk_change memOk_lintAtomicRead done)))

theorem outOk_execMwait {o} (ok : s.memOk) : OutOk (execMwait o s) := by
  refine outOk_whenIssued ok fun ok => ?_
  extract_lets act asks bad g rd
  have gated : g.s.memOk := memOk_gate ok
  refine memOk_ite gated (memOk_endTurn (memOk_finish (memOk_faultLanes (memOk_parkLanes ?_))))
  have waited := memOk_foldl_fst (l := g.go) (p := (g.s, [])) (f := fun (p : State × List (Ref × MwaitRes)) x =>
    ((p.1.mwaitLane o x).1, p.2 ++ [(x.1.r, (p.1.mwaitLane o x).2)])) memOk_mwaitLane gated
  refine memOk_ite (memOk_acquireWord ?_) ?_ <;>
    exact memOk_foldl (fun ok => memOk_change memOk_setReg (memOk_setReg ok)) waited

theorem memOk_passMonitor {t w e} (ok : s.memOk) : (s.passMonitor t w e).memOk := by
  unfold State.passMonitor
  extract_lets woken
  split
  · split
    · exact memOk_ite ok (memOk_reissue ok outOk_execMwait)
    · exact ok
  · exact ok

theorem memOk_modHandle {tid h f} (ok : s.memOk) : (s.modHandle tid h f).memOk := memOk_modTeam (by intro; rfl) ok

theorem memOk_goOnFreed {tid} (ok : s.memOk) : (s.goOnFreed tid).memOk := memOk_goOnWhere ok

theorem memOk_wakeHandle {tid h} (ok : s.memOk) : (s.wakeHandle tid h).memOk := memOk_goOnWhere ok

theorem memOk_settleHandle {tid h} (ok : s.memOk) : (s.settleHandle tid h).memOk :=
  memOk_ite (memOk_wakeHandle (memOk_modHandle ok)) ok

theorem memOk_drainHandle {tid h} (ok : s.memOk) : (s.drainHandle tid h).memOk :=
  memOk_ite (memOk_settleHandle (memOk_wakeHandle (memOk_modHandle ok))) ok

theorem memOk_setPresence {tid lines on} (ok : s.memOk) : (s.setPresence tid lines on).memOk :=
  memOk_keep (fun ok => memOk_foldr memOk_goOnWhere ok) (memOk_modTeam (by intro; rfl) ok)

theorem memOk_setLines {ls on} (ok : s.memOk) : (s.setLines ls on).memOk := memOk_foldl memOk_setPresence ok

theorem memOk_lintCopy {r keys} (ok : s.memOk) : (s.lintCopy r keys).memOk :=
  memOk_foldl (fun ok => memOk_modTeam (by intro; rfl) (memOk_putSync ok)) ok

theorem memOk_startCopy {o r p} (ok : s.memOk) : (s.startCopy o r p).1.memOk := by
  unfold State.startCopy
  extract_lets ps h lines u v w wide keys x
  have okv : v.memOk := memOk_change memOk_modHandle (memOk_setLines ok)
  have okw : w.memOk := by
    refine memOk_foldl (fun ok => memOk_change memOk_lintAccess ?_) okv
    split
    · exact memOk_lintAccess ok
    · exact ok
  exact memOk_change memOk_lintCopy okw

theorem memOk_tokenRanges {once rs ranges} (ok : s.memOk) : (s.tokenRanges once rs ranges).memOk := memOk_parkLanes ok

theorem outOk_copyWord {o probe ranges note} (ok : s.memOk) (notes : ∀ {s : State} {r}, s.memOk → (note s r).memOk) :
    OutOk (copyWord s o probe ranges note) :=
  outOk_whenIssued ok fun ok => by
    extract_lets flying own u v act drains stuck lanes res w bad plans spent x y z ws
    refine memOk_ite (memOk_hold ok) ?_
    have okv : v.memOk := memOk_releaseWord (memOk_tokenRanges ok)
    have okw : w.memOk := memOk_foldl (fun ok => memOk_foldl memOk_noteRange (notes ok)) okv
    have okz : z.memOk := memOk_foldl memOk_spendToken (memOk_faultLanes (memOk_parkLanes okw))
    clear_value z plans
    split
    next a cs started =>
    have oka : a.memOk := by
      refine memOk_of_eq started (memOk_foldl_fst (fun ok => ?_) ?_)
      · split
        next copy => exact memOk_of_eq copy (memOk_startCopy ok)
      · exact okz
    exact memOk_finish (memOk_postOps oka)

theorem memOk_modCopy {id lane f} (ok : s.memOk) : (s.modCopy id lane f).memOk := memOk_modOp ok

theorem memOk_engineEcc {op lane sec} (ok : s.memOk) : (s.engineEcc op lane sec).memOk := memOk_endFatal ok

theorem memOk_putPiece {op lane p b} (ok : s.memOk) : (s.putPiece op lane p b).memOk := by
  unfold State.putPiece
  split
  · exact memOk_modHandle ok
  · exact memOk_change memOk_recordRperm (memOk_writeTarget ok)

theorem memOk_pieceDone {op c k p} (ok : s.memOk) : (s.pieceDone op c k p).memOk := by
  unfold State.pieceDone
  split
  · split
    · exact memOk_settleHandle (memOk_modHandle (memOk_setLines (memOk_barrierBytes (memOk_modCopy ok))))
    · exact memOk_setLines (memOk_barrierBytes (memOk_modCopy ok))
  · split
    · exact memOk_settleHandle (memOk_modHandle (memOk_setLines (memOk_modCopy ok)))
    · exact memOk_setLines (memOk_modCopy ok)

theorem memOk_lintCpWait {t w} (ok : s.memOk) : (s.lintCpWait t w).memOk :=
  memOk_modTeam (by intro; rfl) (memOk_foldl (memOk_modTeam (by intro; rfl)) ok)

theorem outOk_handleWord {hn stops rd wait rb judge} (ok : s.memOk) : OutOk (handleWord s hn stops rd wait rb judge) :=
  outOk_whenIssued ok fun ok => by
    refine memOk_ite (memOk_hold ok) ?_
    extract_lets act vals mates
    split
    next u parks bad res judged =>
    have oku : u.memOk := by
      refine memOk_of_eq judged (memOk_foldl_fst (fun ok => ?_) ok)
      dsimp only
      split
      · exact ok
      · exact ok
      · exact memOk_settleHandle (memOk_change memOk_wakeHandle (memOk_modHandle ok))
    refine memOk_finish (memOk_postOps (memOk_faultLanes (memOk_parkLanes ?_)))
    split
    · exact memOk_foldl memOk_latchRead oku
    · exact oku

theorem outOk_presenceWord {o set} (ok : s.memOk) : OutOk (presenceWord s o set) :=
  outOk_whenIssued ok (fun ok => memOk_ite (memOk_hold ok) (memOk_finish (memOk_postOps (memOk_faultLanes (memOk_foldl
    memOk_latchRead (memOk_ite (memOk_deliverRperm (memOk_foldl memOk_release ok)) ok))))))

theorem memOk_clusterAcquire {tid} (ok : s.memOk) : (s.clusterAcquire tid).memOk := memOk_ite ok (memOk_foldl memOk_acquire ok)

theorem memOk_unitWrite {die pa b} (ok : s.memOk) : (s.unitWrite die pa b).memOk :=
  memOk_keep (fun ok => memOk_modHub (memOk_draw ok)) (memOk_writeTarget ok)

theorem memOk_modFrame {f} (ok : s.memOk) : (s.modFrame f).memOk := memOk_modHub ok

theorem memOk_blendSample {die f c x y k g} (ok : s.memOk) : (s.blendSample die f c x y k g).memOk := by
  unfold State.blendSample
  extract_lets va
  cases f.phys va 16 with
  | none => exact ok
  | some pa =>
    dsimp only
    split
    · next read => exact memOk_modFrame (memOk_of_eq read (memOk_readTarget ok))
    · next read =>
      have done := memOk_of_eq read (memOk_readTarget ok)
      split
      · exact done
      · exact memOk_unitWrite done

theorem memOk_samplePoly {die f c at' i j} (ok : s.memOk) : (s.samplePoly die f c at' i j).memOk := by
  unfold State.samplePoly
  refine memOk_ite ok ?_
  refine memOk_foldl (fun ok => ?_) ok
  split
  · exact memOk_blendSample ok
  · exact ok

theorem memOk_sampleCopy {die f c} (ok : s.memOk) : (s.sampleCopy die f c).memOk := memOk_foldl memOk_samplePoly ok

theorem memOk_spillFull {a c} (ok : s.memOk) : (s.spillFull a c).memOk :=
  memOk_keep (fun ok => memOk_modDie (memOk_eqAdd ok)) (memOk_modDie ok)

theorem memOk_spillCopy {a f c} (ok : s.memOk) : (s.spillCopy a f c).memOk := by
  unfold State.spillCopy
  dsimp only
  refine memOk_modDie ?_
  refine memOk_foldl (fun ok => ?_) (memOk_draw ok)
  split
  · exact memOk_unitWrite (memOk_with ok)
  · exact ok

theorem memOk_slotCopy {a c resv} (ok : s.memOk) : (s.slotCopy a c resv).memOk := memOk_change memOk_eqAdd (memOk_modDie ok)

theorem memOk_displace {a f top c} (ok : s.memOk) : (s.displace a f top c).memOk :=
  memOk_slotCopy (memOk_spillCopy (memOk_modDie ok))

theorem memOk_placeCopy {a f c} (ok : s.memOk) : (s.placeCopy a f c).memOk := by
  unfold State.placeCopy
  refine memOk_ite (memOk_ite (memOk_spillCopy ok) (memOk_spillFull ok)) ?_
  refine memOk_ite (memOk_slotCopy ok) ?_
  refine memOk_ite (memOk_slotCopy ok) ?_
  split
  · exact memOk_ite (memOk_ite (memOk_displace ok) (memOk_spillFull ok)) (memOk_modDie ok)
  · exact memOk_modDie ok

theorem memOk_unspill {a f c} (ok : s.memOk) : (s.unspill a f c).1.memOk := by
  unfold State.unspill
  dsimp only
  refine memOk_ite_fst ?_ ?_
  · dsimp only
    refine memOk_foldl_fst (fun ok => ?_) (memOk_modDie ok)
    split
    · exact memOk_readTarget ok
    · exact ok
  · dsimp only
    refine memOk_modFrame ?_
    refine memOk_foldl_fst (fun ok => ?_) (memOk_modDie ok)
    split
    · exact memOk_readTarget ok
    · exact ok

theorem memOk_returnCopy {a f c resv} (ok : s.memOk) : (s.returnCopy a f c resv).memOk := by
  unfold State.returnCopy
  split
  next back => exact memOk_change memOk_slotCopy (memOk_of_eq back (memOk_unspill ok))

theorem memOk_returnReserved {n a f} (ok : s.memOk) : (returnReserved n a f s).memOk := by
  induction n generalizing s with
  | zero => exact ok
  | succ n ih =>
    unfold returnReserved
    extract_lets d
    split
    · exact ok
    · refine memOk_ite (ih (memOk_returnCopy ok)) ?_
      split
      · exact ok
      · split
        next back => exact ih (memOk_change memOk_displace (memOk_of_eq back (memOk_unspill ok)))

theorem memOk_retryExchange {a f} (ok : s.memOk) : (s.retryExchange a f).memOk := memOk_foldl memOk_placeCopy (memOk_modDie ok)

theorem memOk_settleBasket {a f} (ok : s.memOk) : (s.settleBasket a f).memOk := memOk_retryExchange (memOk_returnReserved ok)

theorem memOk_returnCopies {n a go f} (ok : s.memOk) : (returnCopies n a go f s).memOk := by
  induction n generalizing s with
  | zero => exact ok
  | succ n ih =>
    unfold returnCopies
    split
    · exact ok
    · exact memOk_ite (ih (memOk_returnCopy ok)) ok

theorem memOk_writeRecord {crec status slot gid fatal} (ok : s.memOk) : (s.writeRecord crec status slot gid fatal).memOk := by
  unfold State.writeRecord
  split
  · exact ok
  · exact memOk_agentWrite ok

theorem memOk_closeTiles {a} (ok : s.memOk) : (s.closeTiles a).memOk := by
  unfold State.closeTiles
  split
  · exact ok
  · refine memOk_ite ok ?_
    refine memOk_foldl (fun ok => ?_) ok
    extract_lets u
    have oku : u.memOk := by
      unfold u
      split
      · exact memOk_unitWrite ok
      · exact ok
    exact memOk_modFrame oku

theorem memOk_closeFrame (ok : s.memOk) : s.closeFrame.memOk := by
  unfold State.closeFrame
  split
  · exact ok
  · split
    · exact ok
    · exact memOk_ite ok (memOk_modHub (memOk_with (memOk_writeRecord ok)))

theorem memOk_takeCopy {a f c} (ok : s.memOk) : (s.takeCopy a f c).1.memOk :=
  memOk_ite_fst (memOk_modDie ok) (memOk_ite_fst (memOk_modDie ok) (memOk_unspill ok))

theorem memOk_endHandoff (ok : s.memOk) : s.endHandoff.memOk := by
  unfold State.endHandoff
  split
  · exact ok
  · split
    · exact ok
    · exact memOk_ite ok (memOk_modHub (memOk_modFrame ok))

theorem memOk_modRay {id lane f} (ok : s.memOk) : (s.modRay id lane f).memOk := memOk_modOp ok

theorem memOk_putRecord {r va t x wrec} (ok : s.memOk) : (s.putRecord r va t x wrec).memOk :=
  memOk_change memOk_recordRperm (memOk_writeTarget ok)

theorem memOk_holdRecord {tid t} (ok : s.memOk) : (s.holdRecord tid t).memOk :=
  memOk_ite ok (memOk_foldl (fun ok => memOk_poke (memOk_draw ok)) ok)

theorem memOk_rayAct {r rd va t x wrec a} (ok : s.memOk) : (s.rayAct r rd va t x wrec a).1.memOk := by
  unfold State.rayAct
  split
  · exact memOk_holdRecord (memOk_putRecord ok)
  · exact memOk_ite_fst ok (memOk_ite_fst ok (memOk_holdRecord (memOk_putRecord ok)))
  · exact memOk_ite_fst ok (memOk_ite_fst ok (memOk_putRecord ok))
  · exact memOk_ite_fst ok ok
  · refine memOk_ite_fst ok ?_
    split
    · exact memOk_putRecord ok
    · split
      · exact memOk_putRecord (memOk_modRay (memOk_fqDrop ok))
      · exact memOk_putRecord (memOk_modRay ok)

theorem memOk_readRecord {tid t a} (ok : s.memOk) : (s.readRecord tid t a).1.memOk := by
  unfold State.readRecord
  split
  · exact ok
  · exact memOk_readTarget ok

theorem memOk_rayLane {o r va t a} (ok : s.memOk) : (s.rayLane o r va t a).1.memOk := by
  unfold State.rayLane
  split
  · exact ok
  · split
    · next read => exact memOk_of_eq read (memOk_readRecord ok)
    · next read => exact memOk_rayAct (memOk_of_eq read (memOk_readRecord ok))

theorem outOk_rayWord {o inFlight writes act} (ok : s.memOk) : OutOk (rayWord s o inFlight writes act) :=
  outOk_whenIssued ok fun ok => by
    refine memOk_ite (memOk_hold ok) (memOk_ite (memOk_hold (memOk_modIssue ok)) (memOk_ite (memOk_hold ok) (memOk_ite
      (memOk_hold ok) (memOk_finish (memOk_foldl (fun ok => memOk_ite (memOk_emptyOps ok) (memOk_addOp ok))
        (memOk_faultLanes (memOk_foldl_fst (fun ok => ?_) (memOk_releaseWord ok))))))))
    split <;> next done => exact memOk_of_eq done (memOk_rayLane ok)

theorem memOk_rayDone {op x regs} (ok : s.memOk) : (s.rayDone op x regs).memOk :=
  memOk_change memOk_opDone (memOk_modRay (memOk_ite ok (memOk_foldl memOk_setReg ok)))

theorem memOk_postRay {op lane cause addr} (ok : s.memOk) : (s.postRay op lane cause addr).memOk := by
  unfold State.postRay
  dsimp only
  split
  · exact memOk_modRay ok
  · exact memOk_modRay (memOk_fqAdd ok)

theorem memOk_rayResolve {op x regs} (ok : s.memOk) : (s.rayResolve op x regs).memOk :=
  memOk_ite (memOk_modRay ok) (memOk_rayDone ok)

theorem memOk_noteRay {tid x} (ok : s.memOk) : (s.noteRay tid x).memOk := by
  unfold State.noteRay
  dsimp only
  split
  · exact memOk_logUE (memOk_foldl memOk_noteWord ok)
  · exact memOk_noteAccess (memOk_foldl memOk_noteWord ok)
  · exact memOk_foldl memOk_noteWord ok

theorem memOk_runRay {op x} (ok : s.memOk) : (s.runRay op x).memOk := by
  unfold State.runRay
  dsimp only
  split
  · exact memOk_rayDone (memOk_engineEcc (memOk_noteRay ok))
  · exact memOk_ite (memOk_postRay (memOk_modRay (memOk_putRecord (memOk_noteRay ok)))) (memOk_rayResolve (memOk_putRecord
      (memOk_noteRay ok)))
  · exact memOk_rayResolve (memOk_putRecord (memOk_noteRay ok))

theorem memOk_rayBegin {op x} (ok : s.memOk) : (s.rayBegin op x).memOk :=
  memOk_ite ok (memOk_modRay (memOk_holdRecord (memOk_putRecord ok)))

theorem memOk_trimSlices (ok : s.memOk) : s.trimSlices.memOk := memOk_modMem ok (mem_wf ok)

theorem memOk_giveSlices {tid} (ok : s.memOk) : (s.giveSlices tid).memOk := by
  have taken : (s.mem.takeSlices tid).wf = true := (takeSlices_bytes s.mem tid).wf_eq ▸ mem_wf ok
  exact memOk_modMem ok (giveSlices_wf taken _ _ _ _)

theorem memOk_startTeam {tid die core p0 scope} (ok : s.memOk) : (s.startTeam tid die core p0 scope).memOk :=
  memOk_acquire (memOk_giveSlices (memOk_modTeam_wf ok fun _ _ => rfl))

theorem memOk_placeNew {k t die core} (ok : s.memOk) : (s.placeNew k t die core).memOk := by
  unfold State.placeNew
  split
  · exact memOk_startTeam (memOk_addTeam ok)
  · exact ok

theorem memOk_dropSplit {k} (ok : s.memOk) : (s.dropSplit k).memOk := memOk_with ok

theorem memOk_completeGrid {k} (ok : s.memOk) : (s.completeGrid k).memOk :=
  memOk_ite (memOk_writeRecord (memOk_with (memOk_modGrid (memOk_dropSplit ok)))) ok

theorem memOk_completeGrids (ok : s.memOk) : s.completeGrids.memOk := memOk_foldl memOk_completeGrid ok

theorem memOk_settlePreq {d} (ok : s.memOk) : (s.settlePreq d).memOk := memOk_ite (memOk_modDie ok) ok

theorem memOk_reportPending {tid} (ok : s.memOk) : (s.reportPending tid).memOk := memOk_modDie ok

theorem memOk_postFatal {tid f} (ok : s.memOk) : (s.postFatal tid f).memOk := by
  unfold State.postFatal
  split
  · dsimp only
    split
    · exact memOk_fqAdd ok
    · exact memOk_modDie ok
  · dsimp only
    split
    · exact memOk_fqAdd ok
    · exact memOk_modDie ok

theorem memOk_freeTeam {tid} (ok : s.memOk) : (s.freeTeam tid).memOk :=
  memOk_trimSlices (memOk_with (memOk_modTeam (by intro; rfl) ok))

theorem memOk_dropParked {tid} (ok : s.memOk) : (s.dropParked tid).memOk := memOk_retire (memOk_with ok)

theorem memOk_notePages {root priv need page n} (ok : s.memOk) : (s.notePages root priv need page n).memOk := by
  induction n generalizing s page with
  | zero => exact ok
  | succ n ih => exact memOk_keep ih (memOk_noteAgent ok)

theorem memOk_noteExtents {root priv es} (ok : s.memOk) : (s.noteExtents root priv es).memOk := by
  induction es generalizing s with
  | nil => exact ok
  | cons e es ih =>
    unfold State.noteExtents
    extract_lets t
    have okt : t.memOk := memOk_notePages ok
    split
    · exact ih okt
    · exact okt

theorem memOk_rejectGrid {k} (ok : s.memOk) : (s.rejectGrid k).memOk :=
  memOk_writeRecord (memOk_hubMarks (memOk_modHub (memOk_foldl memOk_fqPromote (memOk_with (memOk_modGrid ok)))))

theorem memOk_tryExtents {k d} (ok : s.memOk) : (s.tryExtents k d).memOk := by
  unfold State.tryExtents
  refine memOk_ite ok ?_
  dsimp only
  split
  · exact memOk_modGrid (memOk_noteExtents ok)
  · exact memOk_ite (memOk_rejectGrid (memOk_noteExtents ok)) (memOk_fqAdd (memOk_noteExtents ok))

theorem memOk_allExtents {k} (ok : s.memOk) : (s.allExtents k).memOk := memOk_foldl memOk_tryExtents ok

theorem memOk_pushSplit {d grid regs} (ok : s.memOk) : (s.pushSplit d grid regs).memOk := memOk_modDie ok

theorem memOk_popSplit {tid} (ok : s.memOk) : (s.popSplit tid).1.memOk := by
  unfold State.popSplit
  refine memOk_ite_fst ok ?_
  refine memOk_ite_fst ok ?_
  split
  · exact memOk_modTeam (by intro; rfl) (memOk_modDie ok)
  · exact memOk_ite_fst ok (memOk_modTeam (by intro; rfl) ok)

theorem memOk_noteDice {r} (ok : s.memOk) : (s.noteDice r).memOk := by
  unfold State.noteDice
  split
  · exact ok
  · dsimp only
    split
    · exact memOk_noteBytes ok
    · exact memOk_noteBytes ok

theorem memOk_diceJobs {o} (ok : s.memOk) : (s.diceJobs o).1.memOk := by
  unfold State.diceJobs
  split
  · exact ok
  · exact memOk_faultLanes (memOk_foldl memOk_noteDice ok)

theorem memOk_bindTeam {tid nu nv} (ok : s.memOk) : (s.bindTeam tid nu nv).memOk :=
  memOk_foldl (fun ok => memOk_foldl memOk_modLane ok) ok

theorem memOk_unbindTeam {tid} (ok : s.memOk) : (s.unbindTeam tid).memOk := memOk_modTeam (by intro; rfl) ok

theorem memOk_passTeam {tid} (ok : s.memOk) : (s.passTeam tid).memOk := memOk_foldl memOk_syncPass ok

theorem outOk_bindWord {f} (ok : s.memOk) (binds : ∀ {s : State} {r}, s.memOk → (f s r).memOk) : OutOk (bindWord s f) :=
  outOk_whenIssued ok fun ok => by
    refine memOk_ite (memOk_hold ok) ?_
    extract_lets act rs bad good u v w
    have bound : u.memOk := memOk_foldl (fun ok => memOk_passTeam (memOk_settleBinds (binds ok))) ok
    exact memOk_finish (memOk_postEach (memOk_faultLanes bound))

theorem memOk_emitCopies {cs} (ok : s.memOk) : (s.emitCopies cs).memOk := memOk_foldl memOk_linkPut ok

theorem outOk_wmarkRead {f} (ok : s.memOk) : OutOk (wmarkRead s f) :=
  outOk_whenIssued ok (fun ok => memOk_ite (memOk_hold ok) (memOk_finish (memOk_emptyOps (memOk_applyAll ok))))

theorem memOk_replayLanes {t w} (ok : s.memOk) : (s.replayLanes t w).memOk :=
  memOk_ite ok (memOk_foldl memOk_fqDrop (memOk_modWave ok))

theorem outOk_execWaitc {o} (ok : s.memOk) : OutOk (execWaitc o s) :=
  outOk_whenIssued ok fun ok => by
    extract_lets act c t live met stuck p u v w
    have delivered : u.memOk := memOk_deliverEach ok
    have okv : v.memOk := memOk_change (memOk_foldl memOk_lintCpWait) delivered
    exact memOk_finish (memOk_faultLanes (memOk_parkLanes okv))

theorem memOk_wakeEntry {t w e} (ok : s.memOk) : (s.wakeEntry t w e).memOk := by
  unfold State.wakeEntry
  cases e.why with
  | results => exact memOk_endResults ok
  | monitor => exact memOk_passMonitor ok
  | waitc _ _ word =>
    dsimp only
    split
    · exact memOk_reissue ok outOk_execWaitc
    · exact ok
  | faultQueue => exact memOk_unpark ok
  | none => exact memOk_unpark ok
  | _ => exact memOk_goOn ok

theorem memOk_wakeWave {t w} (ok : s.memOk) : (s.wakeWave t w).memOk :=
  memOk_keep (fun ok => memOk_foldl memOk_settle (memOk_foldl memOk_wakeEntry ok)) (memOk_replayLanes ok)

theorem memOk_takeCand {id now c} (ok : s.memOk) : (s.takeCand id now c).memOk := memOk_modEntry (memOk_modWave ok)

theorem memOk_headerFaults {hdr} (ok : s.memOk) : (s.headerFaults hdr).1.memOk := memOk_deliverEach ok

theorem memOk_startBundle {b hdr bad whole} (ok : s.memOk) : (s.startBundle b hdr bad whole).memOk :=
  memOk_putIssue (memOk_modIssue (memOk_faultLanes (memOk_headerFaults (memOk_keep (fun ok => memOk_foldl memOk_lintCpWait ok)
    (memOk_with ok)))))

theorem memOk_pickBundle {seed die core part cs} (ok : s.memOk) : (s.pickBundle seed die core part cs).memOk := by
  unfold State.pickBundle
  dsimp only
  split
  · exact memOk_putIssue (memOk_faultLanes (memOk_with (memOk_noteBytes (memOk_foldl memOk_settleBinds (memOk_modDie (memOk_foldl
      memOk_takeCand ok))))))
  · split
    · exact memOk_startBundle (memOk_noteBytes (memOk_foldl memOk_settleBinds (memOk_modDie (memOk_foldl memOk_takeCand ok))))
    · exact memOk_putIssue (memOk_faultLanes (memOk_with (memOk_noteBytes (memOk_foldl memOk_settleBinds (memOk_modDie (memOk_foldl
        memOk_takeCand ok))))))
    · exact memOk_startBundle (memOk_noteBytes (memOk_foldl memOk_settleBinds (memOk_modDie (memOk_foldl memOk_takeCand ok))))

theorem memOk_takeRun {d k m} (ok : s.memOk) : (s.takeRun d k m).memOk := by
  unfold State.takeRun
  refine memOk_ite (memOk_modGrid ok) ?_
  split
  · exact memOk_modDie ok
  · exact ok

theorem memOk_claimNew {d c k} (ok : s.memOk) : (s.claimNew d c k).memOk := by
  unfold State.claimNew
  split
  · exact ok
  · exact memOk_ite (memOk_foldl (fun ok => memOk_placeNew (memOk_placeNew ok)) (memOk_takeRun ok)) (memOk_foldl memOk_placeNew
      (memOk_takeRun ok))

theorem memOk_claimFlushed {d c tid} (ok : s.memOk) : (s.claimFlushed d c tid).memOk := by
  unfold State.claimFlushed
  dsimp only
  refine memOk_ite ?_ ok
  refine memOk_modDie ?_
  refine memOk_foldl_fst (fun ok => ?_) ok
  split
  · exact memOk_startTeam (memOk_release ok)
  · exact ok

theorem memOk_claimGrid {d c k} (ok : s.memOk) : (s.claimGrid d c k).memOk := by
  unfold State.claimGrid
  refine memOk_ite ok ?_
  split
  · exact memOk_ite (memOk_claimFlushed ok) ok
  · exact memOk_claimNew ok

theorem memOk_postExhausted {d} (ok : s.memOk) : (s.postExhausted d).memOk :=
  memOk_ite ok (memOk_foldl (fun ok => memOk_modGrid (memOk_eqAdd ok)) ok)

theorem memOk_stealFrom {d v k t} (ok : s.memOk) (stolen : s.stealFrom d v k = some t) : t.memOk := by
  unfold State.stealFrom at stolen
  extract_lets g u at stolen
  split at stolen
  · cases stolen
  · extract_lets rem cut v add at stolen
    have okv : v.memOk := memOk_modDie (memOk_modDie ok)
    split at stolen
    · cases stolen
    · cases stolen
      split
      · exact okv
      · exact memOk_hubMarks (memOk_modHub okv)

theorem memOk_endBadHelpers {tid} (ok : s.memOk) : (s.endBadHelpers tid).memOk := memOk_foldl memOk_endLanes ok

theorem memOk_writeChip {tid} (ok : s.memOk) : (s.writeChip tid).memOk :=
  memOk_foldl (fun ok => memOk_ite ok (memOk_foldl memOk_writeDwords ok)) ok

theorem memOk_reloadChip {r} (ok : s.memOk) : (s.reloadChip r).memOk := memOk_modLane (memOk_foldl memOk_noteBytes ok)

theorem memOk_saveRay {x} (ok : s.memOk) : (s.saveRay x).memOk := memOk_keep memOk_putRecord (memOk_modRay ok)

theorem memOk_prepareSave {tid} (ok : s.memOk) : (s.prepareSave tid).memOk :=
  memOk_ite ok (memOk_foldl memOk_saveRay (memOk_writeChip (memOk_endBadHelpers ok)))

theorem memOk_poolWrite {d root va b} (ok : s.memOk) : (s.poolWrite d root va b).1.memOk :=
  memOk_ite_fst ok (memOk_foldl memOk_unitWrite ok)

theorem memOk_postHits {tid slot} (ok : s.memOk) : (s.postHits tid slot).memOk :=
  memOk_modTeam (by intro; rfl) (memOk_foldl memOk_ringPost ok)

theorem memOk_saveTo {tid slot} (ok : s.memOk) : (s.saveTo tid slot).memOk := by
  unfold State.saveTo
  extract_lets t reason
  split
  · exact memOk_endFatal ok
  · split
    · next written => exact memOk_endFatal (memOk_of_eq written (memOk_poolWrite ok))
    · next written =>
      exact memOk_trimSlices (memOk_modDie (memOk_modTeam (by intro; rfl) (memOk_postHits (memOk_foldl memOk_release
        (memOk_of_eq written (memOk_poolWrite ok))))))

theorem memOk_saveAll {ts t} (ok : s.memOk) (saved : s.saveAll ts = some t) : t.memOk := by
  induction ts generalizing s with
  | nil => exact Option.some.inj saved ▸ ok
  | cons k ts ih =>
    unfold State.saveAll at saved
    split at saved
    · cases saved
    · exact ih (memOk_saveTo ok) saved

/-- The state that a SPAWN of a lane leaves stands in canonical form. -/
def Spawned.Ok : Spawned → Prop
  | .bad s _ => s.memOk
  | .ok s _ _ _ => s.memOk

theorem memOk_spawnRange {more r p} (ok : s.memOk) : (s.spawnRange more r p).Ok := by
  unfold State.spawnRange
  extract_lets d lo hi
  split
  · exact ok
  · extract_lets g here cause u v
    have oku : u.memOk := memOk_keep (fun ok => memOk_noteRoot (memOk_modDie ok)) ok
    have okv : v.memOk := memOk_keep memOk_modDie oku
    clear_value cause
    split
    · exact oku
    · split
      · exact oku
      · split
        · exact okv
        · exact okv

theorem memOk_spawnTrim {r p} (ok : s.memOk) : (s.spawnTrim r p).Ok := by
  unfold State.spawnTrim
  extract_lets d
  split
  · exact ok
  · extract_lets g c0 c
    split
    · split
      · exact ok
      · exact memOk_keep memOk_modDie (memOk_modDie ok)
    · exact ok

theorem memOk_spawnKind {more r p} (ok : s.memOk) : (s.spawnKind more r p).Ok := by
  unfold State.spawnKind
  split
  · exact memOk_spawnRange ok
  · split
    · exact memOk_spawnTrim ok
    · exact ok

theorem outOk_spawnWord {o f} (ok : s.memOk) (spawns : ∀ {s : State} {more r p}, s.memOk → (f s more r p).Ok) :
    OutOk (spawnWord s o f) :=
  outOk_privWord ok fun ok => by
    refine memOk_ite (memOk_hold ok) ?_
    extract_lets u act ws
    have oku : u.memOk := memOk_releaseWord ok
    split
    next spawned =>
    refine memOk_finish (memOk_postEach (memOk_faultLanes (memOk_of_eq spawned (memOk_foldl_fst (fun {q r} ok => ?_) oku))))
    have lane := spawns (more := jobRanges q.2.1) (r := r) (p := packetOfRegs (q.1.blockOf r o.rb)) ok
    dsimp only
    split <;> next answer =>
      rw [answer] at lane
      exact lane

theorem memOk_discard {tid} (ok : s.memOk) : (s.discard tid).memOk :=
  memOk_trimSlices (memOk_modDie (memOk_modTeam_wf (memOk_sweepBundles (memOk_modBundles ok)) fun _ _ => rfl))

theorem memOk_reseat {t w e own} (ok : s.memOk) : (s.reseat t w e own).memOk := by
  unfold State.reseat
  split
  · dsimp only
    exact memOk_modWave ok
  · split
    · exact memOk_modWave ok
    · dsimp only
      split
      · exact memOk_unwait (memOk_setPcs ok)
      · exact memOk_modEntry (memOk_unwait (memOk_setPcs ok))

theorem memOk_seatTeam {tid core p0} (ok : s.memOk) : (s.seatTeam tid core p0).memOk :=
  memOk_giveSlices (memOk_foldl (fun ok => memOk_foldl memOk_reseat ok) (memOk_modTeam (by intro; rfl) ok))

theorem memOk_rearm {r} (ok : s.memOk) : (s.rearm r).memOk := by
  unfold State.rearm
  split
  · exact ok
  · exact memOk_modLane (memOk_noteBytes ok)

theorem memOk_relane {tid} (ok : s.memOk) : (s.relane tid).memOk := memOk_foldr (fun ok => memOk_rearm (memOk_reloadChip ok)) ok

theorem memOk_resumeRay {x} (ok : s.memOk) : (s.resumeRay x).memOk := by
  unfold State.resumeRay
  refine memOk_ite (memOk_modRay ok) ?_
  split
  · exact memOk_keep memOk_holdRecord (memOk_modRay (memOk_noteTarget (memOk_modRay ok)))
  · exact memOk_modRay ok

theorem memOk_promote {t w lane} (ok : s.memOk) : (s.promote t w lane).memOk := by
  unfold State.promote
  split
  · exact memOk_modEntry (memOk_unwait (memOk_setPcs ok))
  · exact ok

theorem memOk_isolate {t w lane} (ok : s.memOk) : (s.isolate t w lane).memOk := by
  unfold State.isolate
  extract_lets u
  have oku : u.memOk := by
    unfold u
    split
    · exact memOk_ite ok (memOk_leave ok)
    · exact ok
  exact memOk_promote oku

theorem memOk_isolateStep {tid} (ok : s.memOk) : (s.isolateStep tid).memOk := by
  unfold State.isolateStep
  split
  · exact memOk_isolate ok
  · exact ok

theorem memOk_restoreAt {tid core p0} (ok : s.memOk) : (s.restoreAt tid core p0).memOk := by
  unfold State.restoreAt
  dsimp only
  split
  · exact ok
  · split
    · exact memOk_endFatal (memOk_noteRoot (memOk_modDie ok))
    · exact memOk_ite (memOk_endFatal (memOk_noteRoot (memOk_modDie ok))) (memOk_goOnFreed (memOk_acquire (memOk_isolateStep
        (memOk_foldl memOk_resumeRay (memOk_relane (memOk_modDie (memOk_seatTeam (memOk_foldl memOk_release (memOk_modTeam
        (by intro; rfl) (memOk_noteRoot (memOk_modDie ok)))))))))))

theorem memOk_requeue {tid} (ok : s.memOk) : (s.requeue tid).memOk := memOk_foldl memOk_modDie ok

theorem memOk_replayRays {tid i} (ok : s.memOk) : (s.replayRays tid i).memOk :=
  memOk_keep (fun ok => memOk_foldl (fun ok => memOk_holdRecord (memOk_modRay ok)) ok) (memOk_with ok)

theorem memOk_forward {src p} (ok : s.memOk) : (s.forward src p).memOk := by
  unfold State.forward
  dsimp only
  split
  · exact memOk_mailPut ok
  · exact memOk_hubMarks (memOk_modHub (memOk_modDie (memOk_mailPut ok)))

theorem memOk_dumpPut {tid va b} (ok : s.memOk) : (s.dumpPut tid va b).1.memOk := by
  unfold State.dumpPut
  refine memOk_ite_fst ok ?_
  split
  · exact memOk_writeTarget ok
  · exact ok

theorem memOk_dumpWrite {tid va off n b} (ok : s.memOk) : (s.dumpWrite tid va off n b).1.memOk := by
  induction n generalizing s off b with
  | zero => exact ok
  | succ n ih =>
    unfold State.dumpWrite
    refine memOk_ite_fst ok ?_
    split
    · next put => exact memOk_of_eq put (memOk_dumpPut ok)
    · next put => exact ih (memOk_of_eq put (memOk_dumpPut ok))

theorem memOk_standAt {tid} (ok : s.memOk) : (s.standAt tid).memOk := memOk_foldl (fun ok => memOk_foldl memOk_setPcs ok) ok

theorem memOk_dumpTeam {tid buf size} (ok : s.memOk) : (s.dumpTeam tid buf size).1.memOk := by
  unfold State.dumpTeam
  extract_lets u img required start head v
  have headed : v.memOk := memOk_dumpWrite (memOk_standAt ok)
  refine memOk_ite_fst (memOk_dumpWrite headed) ?_
  split
  · next written => exact memOk_dumpWrite (memOk_of_eq written (memOk_dumpWrite headed))
  · next written => exact memOk_dumpWrite (memOk_of_eq written (memOk_dumpWrite headed))

theorem memOk_noteSq (ok : s.memOk) : s.noteSq.memOk := memOk_keep memOk_noteAgent (memOk_noteRead ok)

theorem memOk_takeSq (ok : s.memOk) : s.takeSq.memOk := memOk_modHub ok

theorem memOk_refuse {crec status} (ok : s.memOk) : (s.refuse crec status).memOk := memOk_writeRecord (memOk_takeSq ok)

theorem outOk_gcp {kind run} (ok : s.memOk) (runs : ∀ {s : State} {p c}, s.memOk → (run s p c).memOk) : OutOk (s.gcp kind run) := by
  unfold State.gcp
  extract_lets p
  refine outOk_ite (outOk_next ok) (outOk_ite outOk_fault (outOk_ite (outOk_next ok) ?_))
  split
  · exact outOk_eqFlush (memOk_eqAdd (memOk_takeSq (memOk_noteSq ok)))
  · exact outOk_next (runs (memOk_noteSq ok))

theorem memOk_sendRange {g d lo hi} (ok : s.memOk) : (s.sendRange g d lo hi).memOk := memOk_keep memOk_modHub (memOk_mailPut ok)

theorem memOk_splitGrid {k} (ok : s.memOk) : (s.splitGrid k).memOk :=
  memOk_ite ok (memOk_hubMarks (memOk_foldl memOk_sendRange ok))

theorem memOk_takeIn {g slot} (ok : s.memOk) : (s.takeIn g slot).memOk :=
  memOk_writeRecord (memOk_modFrame (memOk_modHub (memOk_with ok)))

theorem memOk_noteLaunch {p} (ok : s.memOk) : (s.noteLaunch p).memOk := by
  unfold State.noteLaunch
  refine memOk_ite ok ?_
  split
  · exact memOk_noteRoot ok
  · exact memOk_keep (fun ok => memOk_keep memOk_noteRoot (memOk_noteRoot ok)) (memOk_noteRoot ok)

theorem memOk_launch {p crec slot} (ok : s.memOk) : (s.launch p crec slot).memOk := by
  have noted : (s.noteLaunch p).memOk := memOk_noteLaunch ok
  unfold State.launch
  generalize s.noteLaunch p = u at noted
  extract_lets root
  split
  · exact memOk_refuse noted
  · extract_lets d
    split
    · exact memOk_refuse noted
    · refine memOk_ite (memOk_refuse noted) ?_
      split
      · exact memOk_refuse noted
      · exact memOk_allExtents (memOk_splitGrid (memOk_takeIn (memOk_takeSq noted)))

theorem memOk_noteFrame {root a crec} (ok : s.memOk) : (s.noteFrame root a crec).memOk := by
  unfold State.noteFrame
  refine memOk_ite ok ?_
  extract_lets u
  have oku : u.memOk := memOk_noteRoot ok
  split
  · exact oku
  · exact memOk_ite oku (memOk_keep (fun ok => memOk_keep memOk_noteRoot (memOk_noteRoot ok)) (memOk_foldl memOk_notePages oku))

theorem memOk_startDispatcher {k d} (ok : s.memOk) : (s.startDispatcher k d).memOk := memOk_startTeam (memOk_addTeam ok)

theorem memOk_ready {img} (ok : s.memOk) : (s.ready img).memOk := by
  have stored (m : Memory) (body) (wf : m.wf = true) : Memory.wf { m with fw := cellsWriteN [] 0 body } = true := by
    simp only [Memory.wf, Bool.and_eq_true] at wf ⊢
    exact ⟨wf.1, cellsWf_writeN rfl 0 body⟩
  exact memOk_foldl memOk_startDispatcher (memOk_with (memOk_change memOk_modHub (memOk_modMem ok (stored _ _ (mem_wf ok)))))

theorem memOk_bootEnd (ok : s.memOk) : s.bootEnd.memOk := memOk_change memOk_ready (memOk_modHub ok)

theorem memOk_writeDieReg {d off n v} (ok : s.memOk) : (s.writeDieReg d off n v).memOk := memOk_keep memOk_with (memOk_modDie ok)

theorem memOk_writeHubReg {off n v} (ok : s.memOk) : (s.writeHubReg off n v).memOk :=
  memOk_ite (memOk_with ok) (memOk_with (memOk_modHub ok))

theorem memOk_dropPages {v} (ok : s.memOk) : (s.dropPages v).memOk := memOk_with ok

theorem memOk_spillCopies {n a f} (ok : s.memOk) : (spillCopies n a f s).memOk := by
  induction n generalizing s with
  | zero => exact ok
  | succ n ih =>
    unfold spillCopies
    split
    · exact ok
    · exact memOk_ite ok (ih (memOk_change memOk_eqAdd (memOk_spillCopy (memOk_modDie ok))))

theorem memOk_modTile {t n f} (ok : s.memOk) : (s.modTile t n f).memOk := memOk_modTeam (by intro; rfl) ok

theorem outOk_mxWord {aty o} (ok : s.memOk) : OutOk (mxWord s aty o) := by
  unfold mxWord
  refine outOk_whenIssued ok (fun ok => ?_)
  refine memOk_ite (memOk_hold ok) ?_
  dsimp only
  refine memOk_finish ?_
  refine memOk_postEach ?_
  refine memOk_faultLanes ?_
  refine memOk_parkLanes ?_
  refine memOk_foldl_fst (fun ok => ?_) ok
  refine memOk_ite_fst ok ?_
  split
  · exact ok
  · exact memOk_change (fun ok => memOk_foldl memOk_modTile ok) (memOk_modTeam (by intro; rfl) ok)

theorem memOk_modMx {id f} (ok : s.memOk) : (s.modMx id f).memOk := memOk_modOp ok

theorem memOk_mxRun {op j} (ok : s.memOk) : (s.mxRun op j).memOk := by
  unfold State.mxRun
  split
  · exact memOk_modTile (memOk_modTile ok)
  · exact memOk_modTile ok

theorem memOk_mxRetire {op j} (ok : s.memOk) : (s.mxRetire op j).memOk :=
  memOk_opDone (memOk_modMx (memOk_drainHandle (memOk_modHandle ok)))

theorem memOk_recordAllowance {op lane} (ok : s.memOk) : (s.recordAllowance op lane).memOk := memOk_modWave ok

theorem memOk_restoreTiles {op j} (ok : s.memOk) : (s.restoreTiles op j).memOk := memOk_foldl memOk_modTile ok

theorem outOk_tileWord {o reads writes now act} (ok : s.memOk) (nows : ∀ {s : State} {r}, s.memOk → (now s r).memOk) :
    OutOk (tileWord s o reads writes now act) :=
  outOk_whenIssued ok fun ok => memOk_ite (memOk_hold ok) (memOk_finish (memOk_postEach (memOk_foldl nows
    (memOk_change (memOk_foldl memOk_latchRead) ok))))

theorem outOk_accWord {o act need rb probe} (ok : s.memOk) : OutOk (accWord s o act need rb probe) :=
  outOk_whenIssued ok fun ok => by
    refine memOk_ite (memOk_hold ok) (memOk_finish (memOk_postEach (memOk_faultLanes (memOk_foldl_fst (fun {q r} ok => ?_)
      (memOk_change (memOk_foldl memOk_latchRead) (memOk_releaseWord (memOk_tokenRanges ok)))))))
    obtain ⟨u, bad, jobs⟩ := q
    dsimp -zeta only at ok ⊢
    extract_lets v w
    have noted : v.memOk := memOk_foldl memOk_noteRange ok
    split
    · exact noted
    · have spent : w.memOk := memOk_change memOk_spendToken noted
      show (State.memOk (match act with | .load int => w.modTile r.team (subTile o) fun t => { t with int } | _ => w)) = true
      split
      · exact memOk_modTile spent
      · exact spent

theorem memOk_tileWrite {op lane ps b} (ok : s.memOk) : (s.tileWrite op lane ps b).memOk := by
  induction ps generalizing s b with
  | nil => exact ok
  | cons p ps ih => exact ih (memOk_change memOk_recordRperm (memOk_writeTarget ok))

theorem memOk_tileRead {op ps} (ok : s.memOk) : (s.tileRead op ps).1.memOk := by
  induction ps generalizing s with
  | nil => exact ok
  | cons p ps ih =>
    unfold State.tileRead
    split
    · next read => exact memOk_of_eq read (memOk_readTarget ok)
    · next read =>
      have rest := ih (memOk_of_eq read (memOk_readTarget ok))
      split
      · next more => exact memOk_of_eq more rest
      · next more => exact memOk_of_eq more rest

theorem outOk_entryWord {srcs f} (ok : s.memOk) : OutOk (entryWord s srcs f) :=
  outOk_whenIssued ok (fun ok => memOk_finish (memOk_applyAll (memOk_foldl (fun ok => memOk_foldl memOk_latchRead ok) ok)))

theorem outOk_quadDeriv {o hi lo} (ok : s.memOk) : OutOk (quadDeriv s o hi lo) := outOk_entryWord ok

theorem memOk_noteTexture {k o} (ok : s.memOk) : (s.noteTexture k o).memOk :=
  memOk_foldl memOk_noteAccess (memOk_foldl memOk_noteWord ok)

theorem outOk_texWord {k o} (ok : s.memOk) : OutOk (texWord s k o) :=
  outOk_whenIssued ok (fun ok => memOk_ite (memOk_hold ok) (memOk_finish (memOk_postOpsP (memOk_faultLanes (memOk_noteTexture
    ok)))))

theorem memOk_feedbackOr {op f} (ok : s.memOk) : (s.feedbackOr op f).memOk := by
  unfold State.feedbackOr
  split
  · next read => exact memOk_of_eq read (memOk_readTarget ok)
  · next read => exact memOk_change memOk_recordRperm (memOk_writeTarget (memOk_of_eq read (memOk_readTarget ok)))

theorem memOk_decodeFault {c} (ok : s.memOk) : (s.decodeFault c).memOk := memOk_putIssue (memOk_faultLanes ok)

end

/-! ### Words and events -/

section
variable {s : State}

theorem outOk_execBgenInit {o} (ok : s.memOk) : OutOk (execBgenInit o s) :=
  outOk_whenIssued ok (fun ok => memOk_finish (memOk_foldl (fun ok => memOk_modBarrier (memOk_latchRead ok)) ok))

theorem outOk_execBwait {o} (ok : s.memOk) : OutOk (execBwait o s) :=
  outOk_whenIssued ok (fun ok => memOk_endTurn (memOk_finish (memOk_foldl memOk_acquire (memOk_parkLanes (memOk_foldl
    memOk_modLane (memOk_foldl memOk_latchRead ok))))))

theorem outOk_execBarsv {o} (ok : s.memOk) : OutOk (execBarsv o s) :=
  outOk_privWord ok (fun ok => memOk_keep (fun ok => memOk_finish (memOk_foldl (fun ok => memOk_foldl (fun ok => memOk_laneWrite
    (memOk_lintAccess ok)) ok) ok)) (memOk_gate ok))

theorem outOk_execBarld {o} (ok : s.memOk) : OutOk (execBarld o s) :=
  outOk_privWord ok fun ok => by
    extract_lets act g
    have gated : g.s.memOk := memOk_gate ok
    refine memOk_ite gated (memOk_finish (memOk_foldl (fun ok => ?_) gated))
    split
    · next read => exact memOk_faultLanes (memOk_of_eq read (memOk_barReads ok))
    · next read =>
      exact memOk_foldl (fun ok => memOk_recompare (memOk_phase (memOk_modBarrier ok))) (memOk_of_eq read (memOk_barReads ok))

theorem outOk_execBra {o} (ok : s.memOk) : OutOk (execBra o s) := outOk_whenIssued ok (fun ok => memOk_finish (memOk_sendTo ok))

theorem outOk_execJmpi {o} (ok : s.memOk) : OutOk (execJmpi o s) :=
  outOk_whenIssued ok (fun ok => memOk_finish (memOk_faultLanes (memOk_sendTo ok)))

theorem outOk_execCall {o} (ok : s.memOk) : OutOk (execCall o s) :=
  outOk_whenIssued ok (fun ok => memOk_ite (memOk_hold ok) (memOk_finish (memOk_callLanes ok)))

theorem outOk_execCalli {o} (ok : s.memOk) : OutOk (execCalli o s) :=
  outOk_whenIssued ok (fun ok => memOk_ite (memOk_hold ok) (memOk_finish (memOk_callLanes ok)))

theorem outOk_execRet (ok : s.memOk) : OutOk (execRet s) :=
  outOk_returnWord ok fun ok => by
    split <;> next back => exact memOk_of_eq back (memOk_retLane ok)

theorem outOk_execSyncw (ok : s.memOk) : OutOk (execSyncw s) :=
  outOk_whenIssued ok (fun ok => memOk_ite (memOk_hold ok) (memOk_endTurn (memOk_finish (memOk_foldl memOk_syncPass
    (memOk_arriveLanes (memOk_releaseWord ok))))))

theorem outOk_execWsyncm {o} (ok : s.memOk) : OutOk (execWsyncm o s) :=
  outOk_whenIssued ok (fun ok => memOk_ite (memOk_hold ok) (memOk_endTurn (memOk_finish (memOk_foldl memOk_syncPass
    (memOk_arriveLanes (memOk_faultLanes (memOk_foldl memOk_modLane (memOk_foldl memOk_syncFaults (memOk_foldl memOk_latchRead
    (memOk_releaseWord ok))))))))))

theorem outOk_execExit (ok : s.memOk) : OutOk (execExit s) :=
  outOk_whenIssued ok (fun ok => memOk_endTurn (memOk_finish (memOk_foldl (fun ok => memOk_keep (fun ok => memOk_syncPass
    (memOk_endLanes ok)) (memOk_ite (memOk_modTeam (by intro; rfl) ok) ok)) ok)))

theorem outOk_execYield (ok : s.memOk) : OutOk (execYield s) :=
  outOk_whenIssued ok (fun ok => memOk_endTurn (memOk_finish (memOk_foldl (fun ok => memOk_ite ok (memOk_modEntry ok)) ok)))

theorem outOk_execSwitchMarkerResume (ok : s.memOk) : OutOk (execSwitchMarkerResume s) := by
  unfold execSwitchMarkerResume
  split
  · exact outOk_next ok
  · exact outOk_ite (outOk_next ok) (outOk_next (memOk_ite (memOk_putIssue (memOk_faultLanes (memOk_dropRecords (memOk_with ok))))
      (memOk_endClause (memOk_faultLanes (memOk_dropRecords (memOk_with ok))))))

theorem outOk_execTrapEntry (ok : s.memOk) : OutOk (execTrapEntry s) := outOk_next (memOk_ite (memOk_enterTrap ok) ok)

theorem outOk_execLd {o} (ok : s.memOk) : OutOk (execLd o s) :=
  outOk_whenIssued ok (fun ok => memOk_ite (memOk_hold ok) (memOk_keep (fun ok => memOk_finish (memOk_postOps (memOk_loadPart
    ok))) (memOk_gate ok)))

theorem outOk_execSt {o} (ok : s.memOk) : OutOk (execSt o s) :=
  outOk_whenIssued ok (fun ok => memOk_ite (memOk_hold ok) (memOk_keep (fun ok => memOk_finish (memOk_postOps (memOk_foldl
    memOk_lintAccess (memOk_foldl memOk_latchRead ok)))) (memOk_gate ok)))

theorem outOk_execLdw {o} (ok : s.memOk) : OutOk (execLdw o s) :=
  outOk_whenIssued ok (fun ok => memOk_ite (memOk_hold ok) (memOk_keep (fun ok => memOk_finish (memOk_emptyOps (memOk_postOps
    (memOk_loadPart ok)))) (memOk_gate (memOk_tokenGate ok))))

theorem outOk_execPref {o} (ok : s.memOk) : OutOk (execPref o s) := by
  unfold execPref
  refine outOk_whenIssued ok (fun ok => ?_)
  extract_lets act u
  have oku : u.memOk := by
    unfold u
    refine memOk_foldl (fun ok => ?_) ok
    split
    · exact memOk_physRead (memOk_noteAccess ok)
    · exact ok
  exact memOk_finish oku

theorem outOk_execWback {o} (ok : s.memOk) : OutOk (execWback o s) := by
  unfold execWback
  refine outOk_whenIssued ok (fun ok => ?_)
  refine memOk_ite (memOk_hold ok) ?_
  refine memOk_ite (memOk_hold (memOk_modIssue ok)) ?_
  refine memOk_ite (memOk_hold ok) ?_
  dsimp only
  refine memOk_finish ?_
  refine memOk_postOps ?_
  refine memOk_faultLanes ?_
  refine memOk_foldl (fun ok => ?_) ok
  split
  · exact memOk_wbackLine ok
  · exact ok

theorem outOk_execLoadResultReturn (ok : s.memOk) : OutOk (execLoadResultReturn s) := by
  unfold execLoadResultReturn
  refine outOk_next ?_
  split
  · refine memOk_ite ok ?_
    split
    · exact memOk_opDone (memOk_writeResults ok)
    · exact memOk_ite ok (memOk_opDone (memOk_landCharges (memOk_installRange (memOk_writeResults ok))))
    · exact ok
  · exact ok

theorem outOk_execStorePerformed (ok : s.memOk) : OutOk (execStorePerformed s) := by
  unfold execStorePerformed
  split
  · exact outOk_next ok
  · split
    · exact outOk_next (memOk_opDone (memOk_drainWhere ok))
    · exact outOk_next (memOk_ite ok (memOk_opDone (memOk_writeResults ok)))
    · exact outOk_sendPacket ok
    · exact outOk_next ok

theorem outOk_execCacheEviction (ok : s.memOk) : OutOk (execCacheEviction s) :=
  outOk_next (memOk_ite (memOk_evictLint (memOk_evictL2 ok)) (memOk_modMem ok (evictL1_wf (mem_wf ok) _ _ _)))

theorem outOk_execPageWalkComplete (ok : s.memOk) : OutOk (execPageWalkComplete s) := by
  unfold execPageWalkComplete
  refine outOk_next ?_
  split
  · exact ok
  · refine memOk_foldl (fun ok => ?_) ok
    dsimp only
    refine memOk_with ?_
    split
    · exact memOk_modDie (memOk_noteWalk (memOk_modDie ok))
    · exact memOk_noteWalk (memOk_modDie ok)

theorem outOk_execFence {o} (ok : s.memOk) : OutOk (execFence o s) :=
  outOk_whenIssued ok (fun ok => memOk_ite (memOk_hold ok) (memOk_ite (memOk_finish (memOk_ite (memOk_releaseWord ok)
    (memOk_deliverRperm ok))) (memOk_finish (memOk_change (fun ok => memOk_foldl memOk_lintFence ok) (memOk_change
    memOk_acquireWord (memOk_ite (memOk_releaseWord ok) (memOk_deliverRperm ok)))))))

theorem outOk_execAcqRemote {o} (ok : s.memOk) : OutOk (execAcqRemote o s) :=
  outOk_whenIssued ok (fun ok => memOk_ite (memOk_hold ok) (memOk_keep (fun ok => memOk_finish (memOk_postOps (memOk_keep
    memOk_acquireWord (memOk_loadPart (memOk_foldl (fun ok => memOk_ite (memOk_lintAtomicRead ok) ok) ok))))) (memOk_gateWith
    (memOk_tokenGate ok))))

theorem outOk_execMwaitWake (ok : s.memOk) : OutOk (execMwaitWake s) := by
  unfold execMwaitWake
  dsimp only
  refine outOk_next ?_
  split
  · exact ok
  · exact memOk_ite ok (memOk_passMonitor (memOk_foldl memOk_modLane ok))

theorem outOk_execCpyL {o} (ok : s.memOk) : OutOk (execCpyL o s) := outOk_copyWord ok (fun ok => ok)

theorem outOk_execCopyLineArrival (ok : s.memOk) : OutOk (execCopyLineArrival s) := by
  unfold execCopyLineArrival
  refine outOk_next ?_
  split
  · exact ok
  · split
    · split
      · exact ok
      · split
        · exact ok
        · split
          · exact memOk_pieceDone (memOk_putPiece ok)
          · refine memOk_ite ok ?_
            dsimp only
            split
            · exact memOk_pieceDone (memOk_putPiece (memOk_noteTarget ok))
            · exact memOk_modCopy (memOk_setLines (memOk_engineEcc (memOk_noteTarget ok)))
    · exact ok

theorem outOk_execCopyComplete (ok : s.memOk) : OutOk (execCopyComplete s) := by
  unfold execCopyComplete
  refine outOk_next ?_
  split
  · exact ok
  · split
    · exact memOk_ite (memOk_opDone (memOk_modTeam (by intro; rfl) ok)) ok
    · exact ok

theorem outOk_execObrel (ok : s.memOk) : OutOk (execObrel s) := by
  unfold execObrel
  exact outOk_handleWord ok

theorem outOk_execObstateFull (ok : s.memOk) : OutOk (execObstateFull s) := by
  unfold execObstateFull
  exact outOk_handleWord ok

theorem outOk_execPrtest {o} (ok : s.memOk) : OutOk (execPrtest o s) :=
  outOk_whenIssued ok (fun ok => memOk_finish (memOk_faultLanes (memOk_applyAll ok)))

theorem outOk_execShuttleOpPerform (ok : s.memOk) : OutOk (execShuttleOpPerform s) := by
  unfold execShuttleOpPerform
  refine outOk_next ?_
  split
  · exact ok
  · split
    · exact memOk_ite ok (memOk_opDone (memOk_writeResults (memOk_foldl memOk_setPresence (memOk_ite (memOk_clusterAcquire ok)
        ok))))
    · exact ok

theorem outOk_execWatermarkDelivery (ok : s.memOk) : OutOk (execWatermarkDelivery s) := by
  unfold execWatermarkDelivery
  dsimp only
  split
  · refine outOk_eqFlush ?_
    split
    · exact memOk_settleBasket (memOk_modDie ok)
    · exact memOk_modDie ok
  · exact outOk_next ok

theorem outOk_execGridCopyArrival (ok : s.memOk) : OutOk (execGridCopyArrival s) := by
  unfold execGridCopyArrival
  split
  · exact outOk_next ok
  · dsimp only
    split
    · exact outOk_eqFlush (memOk_settleBasket (memOk_placeCopy (memOk_modDie ok)))
    · exact outOk_eqFlush (memOk_settleBasket ok)

theorem outOk_execCopySampling (ok : s.memOk) : OutOk (execCopySampling s) := by
  unfold execCopySampling
  split
  · exact outOk_next ok
  · dsimp only
    refine outOk_eqFlush ?_
    refine memOk_closeFrame ?_
    refine memOk_closeTiles ?_
    split
    · exact ok
    · exact memOk_settleBasket (memOk_ite (memOk_change memOk_eqAdd (memOk_change memOk_sampleCopy (memOk_takeCopy ok)))
        (memOk_change memOk_returnCopies (memOk_change memOk_sampleCopy (memOk_takeCopy ok))))

theorem outOk_execTileHandoff (ok : s.memOk) : OutOk (execTileHandoff s) := by
  unfold execTileHandoff
  split
  · exact outOk_next ok
  · split
    · exact outOk_next ok
    · exact outOk_ite (outOk_next ok) (outOk_next (memOk_closeFrame (memOk_closeTiles (memOk_endHandoff (memOk_ite ok (memOk_linkPut
        ok))))))

theorem outOk_execRayReturn (ok : s.memOk) : OutOk (execRayReturn s) := by
  unfold execRayReturn
  refine outOk_next ?_
  split
  · exact ok
  · split
    · exact ok
    · refine memOk_ite ok ?_
      split
      · exact memOk_rayResolve ok
      · exact ok
      · exact memOk_postRay ok
      · exact memOk_ite (memOk_rayBegin ok) (memOk_ite ok (memOk_runRay ok))

theorem outOk_execTeamEnd (ok : s.memOk) : OutOk (execTeamEnd s) := by
  unfold execTeamEnd
  dsimp only
  refine outOk_next ?_
  refine memOk_ite ok ?_
  split
  · exact memOk_endFatal ok
  · exact memOk_completeGrid (memOk_settlePreq (memOk_freeTeam (memOk_modDie ok)))

theorem outOk_execTeamFatalEnd (ok : s.memOk) : OutOk (execTeamFatalEnd s) := by
  unfold execTeamFatalEnd
  dsimp only
  refine outOk_next ?_
  split
  · exact ok
  · exact memOk_ite ok (memOk_keep (fun ok => memOk_completeGrid (memOk_settlePreq (memOk_freeTeam (memOk_modGrid (memOk_postFatal
      (memOk_reportPending ok)))))) (memOk_dropParked ok))

theorem outOk_execPatchq {o} (ok : s.memOk) : OutOk (execPatchq o s) := by
  unfold execPatchq
  refine outOk_whenIssued ok (fun ok => ?_)
  refine memOk_ite (memOk_hold ok) ?_
  dsimp only
  refine memOk_finish ?_
  refine memOk_emptyOps ?_
  refine memOk_faultLanes ?_
  refine memOk_parkLanes ?_
  refine memOk_foldl_fst (fun ok => ?_) (memOk_foldl memOk_latchRead ok)
  split
  · exact memOk_ite (memOk_noteBytes ok) ok
  · exact memOk_ite_fst (memOk_ite (memOk_noteBytes ok) ok) (memOk_pushSplit (memOk_ite (memOk_noteBytes ok) ok))

theorem outOk_execPatchdq (ok : s.memOk) : OutOk (execPatchdq s) :=
  outOk_whenIssued ok fun ok => by
    extract_lets act rd
    refine memOk_ite (memOk_hold ok) ?_
    split
    next u effs bad parks popped =>
    have oku : u.memOk := by
      refine memOk_of_eq popped (memOk_foldl_fst (fun ok => ?_) ok)
      split <;> next pop => exact memOk_of_eq pop (memOk_popSplit ok)
    exact memOk_finish (memOk_emptyOps (memOk_faultLanes (memOk_parkLanes (memOk_applyAll oku))))

theorem outOk_execDiceRun {o} (ok : s.memOk) : OutOk (execDiceRun o s) :=
  outOk_whenIssued ok (fun ok => memOk_ite (memOk_hold ok) (memOk_ite (memOk_hold (memOk_modIssue (memOk_diceJobs ok)))
    (memOk_finish (memOk_postEach (memOk_setLines (memOk_diceJobs ok))))))

theorem spad_unheld {t : Team} {e} : (t.unheld e).spad = t.spad := by
  unfold Team.unheld
  split <;> rfl

theorem outOk_execShearsDelivery (ok : s.memOk) : OutOk (execShearsDelivery s) := by
  unfold execShearsDelivery
  refine outOk_next ?_
  split
  · split
    · exact memOk_opDone (memOk_setLines (memOk_change (fun ok => memOk_modTeam (fun _ => spad_unheld) ok) (memOk_change
        (memOk_foldl memOk_pushSplit) (memOk_writeTarget ok))))
    · exact ok
  · exact ok

theorem outOk_execDiceBind {o} (ok : s.memOk) : OutOk (execDiceBind o s) :=
  outOk_bindWord (memOk_foldl memOk_latchRead ok) memOk_bindTeam

theorem outOk_execGemit {o} (ok : s.memOk) : OutOk (execGemit o s) :=
  outOk_whenIssued ok fun ok => memOk_ite (memOk_hold ok) (memOk_ite (memOk_hold ok) (memOk_finish (memOk_postEach
    (memOk_faultLanes ok))))

theorem outOk_execGemitRetire (ok : s.memOk) : OutOk (execGemitRetire s) := by
  unfold execGemitRetire
  refine outOk_next ?_
  split
  · exact ok
  · split
    · refine memOk_ite ok ?_
      extract_lets u
      have oku : u.memOk := by
        unfold u
        split
        · exact memOk_emitCopies ok
        · exact ok
      exact memOk_opDone (memOk_modTeam (fun _ => spad_unheld) oku)
    · exact memOk_keep (fun ok => memOk_opDone (memOk_passTeam ok)) (memOk_settleBinds ok)
    · exact ok

theorem outOk_execWmarkRel (ok : s.memOk) : OutOk (execWmarkRel s) :=
  outOk_whenIssued ok (fun ok => memOk_ite (memOk_hold ok) (memOk_finish (memOk_emptyOps (memOk_foldl (memOk_modTeam
    (by intro; rfl)) ok))))

theorem outOk_execPick (ok : s.memOk) : OutOk (execPick s) := by
  unfold execPick
  dsimp only
  refine outOk_next ?_
  refine memOk_ite (memOk_foldl (fun ok => memOk_fuse (memOk_wakeWave ok)) ok) ?_
  split
  · exact memOk_foldl (fun ok => memOk_fuse (memOk_wakeWave ok)) ok
  · exact memOk_pickBundle (memOk_foldl (fun ok => memOk_fuse (memOk_wakeWave ok)) ok)

theorem outOk_execTeamClaim (ok : s.memOk) : OutOk (execTeamClaim s) := by
  unfold execTeamClaim
  extract_lets d c u
  have oku : u.memOk := by
    unfold u
    cases found : (List.range s.grids.length).findSome? fun k =>
        let s' := s.claimGrid d c k
        if s'.teams == s.teams then none else some s' with
    | none => exact ok
    | some v =>
      obtain ⟨k, _, claimed⟩ := List.exists_of_findSome?_eq_some found
      dsimp only at claimed
      split at claimed
      · cases claimed
      · cases claimed
        exact memOk_claimGrid ok
  exact outOk_eqFlush (memOk_completeGrids (memOk_postExhausted oku))

theorem outOk_execRangeSteal (ok : s.memOk) : OutOk (execRangeSteal s) := by
  refine outOk_next (memOk_ite ok ?_)
  split
  · next u found =>
    obtain ⟨v, _, stolen⟩ := List.exists_of_findSome?_eq_some found
    exact memOk_stealFrom ok stolen
  · exact memOk_completeGrid (memOk_modGrid ok)

theorem outOk_execTimeSlice (ok : s.memOk) : OutOk (execTimeSlice s) :=
  outOk_next (memOk_ite ok (memOk_foldl (fun ok => memOk_askSave (memOk_modTeam (by intro; rfl) ok)) (memOk_foldl (fun ok =>
    memOk_ite
    (memOk_modTeam (by intro; rfl) ok) ok) ok)))

theorem outOk_execCommitTokenPass (ok : s.memOk) : OutOk (execCommitTokenPass s) := by
  unfold execCommitTokenPass
  extract_lets k g old u
  have oku : u.memOk := by
    clear_value old
    unfold u
    split
    · exact memOk_keep memOk_release ok
    · exact ok
  clear_value u old
  refine outOk_next (memOk_ite ok (memOk_ite ok ?_))
  split
  · exact ok
  · extract_lets v
    have okv : v.memOk := memOk_modGrid oku
    split
    · exact okv
    · split
      · exact memOk_acquire okv
      · exact memOk_keep (fun ok => memOk_modTeam (by intro; rfl) (memOk_modTeam (by intro; rfl) ok)) (memOk_acquire okv)

theorem outOk_execWrsr {o} (ok : s.memOk) : OutOk (execWrsr o s) :=
  outOk_whenIssued ok (fun ok => memOk_finish (memOk_foldl memOk_modLane (memOk_foldl memOk_latchRead ok)))

theorem outOk_execStpred {o} (ok : s.memOk) : OutOk (execStpred o s) :=
  outOk_whenIssued ok (fun ok => memOk_keep (fun ok => memOk_finish (memOk_foldl (fun ok => memOk_laneWrite (memOk_lintAccess ok))
    ok)) (memOk_gate ok))

theorem outOk_execLdpred {o} (ok : s.memOk) : OutOk (execLdpred o s) :=
  outOk_whenIssued ok fun ok => by
    extract_lets act g
    have gated : g.s.memOk := memOk_gate ok
    refine memOk_ite gated ?_
    split
    next u bad loaded =>
    have oku : u.memOk := by
      refine memOk_of_eq loaded (memOk_foldl_fst (fun ok => ?_) gated)
      split
      · next read => exact memOk_modLane (memOk_of_eq read (memOk_laneRead (memOk_lintAccess ok)))
      · next read =>
        have done := memOk_of_eq read (memOk_laneRead (memOk_lintAccess ok))
        exact memOk_ite_fst (memOk_modLane done) done
    exact memOk_finish (memOk_faultLanes (memOk_foldl memOk_modLane oku))

theorem outOk_execTrap {o} (ok : s.memOk) : OutOk (execTrap o s) :=
  outOk_whenIssued ok (fun ok => memOk_finish (memOk_faultLanes ok))

theorem outOk_execBkpt {o} (ok : s.memOk) : OutOk (execBkpt o s) :=
  outOk_whenIssued ok (fun ok => memOk_finish (memOk_faultLanes (memOk_keep memOk_swapHits (memOk_foldl memOk_noteHit ok))))

theorem outOk_execSplrd {o} (ok : s.memOk) : OutOk (execSplrd o s) :=
  outOk_privWord ok (fun ok => memOk_finish (memOk_applyAll (memOk_foldl memOk_latchRead ok)))

theorem outOk_execSplwr {o} (ok : s.memOk) : OutOk (execSplwr o s) := by
  unfold execSplwr
  refine outOk_privWord ok (fun ok => ?_)
  dsimp only
  refine memOk_finish ?_
  refine memOk_faultLanes ?_
  refine memOk_foldl_fst (fun ok => ?_) ok
  split
  · exact ok
  · exact memOk_ite_fst (memOk_modIssue ok) ok

theorem outOk_execCtxrd {o} (ok : s.memOk) : OutOk (execCtxrd o s) :=
  outOk_privWord ok (fun ok => memOk_finish (memOk_applyAll (memOk_foldl memOk_latchRead ok)))

theorem outOk_execCtxwr {o} (ok : s.memOk) : OutOk (execCtxwr o s) :=
  outOk_privWord ok (fun ok => memOk_finish (memOk_foldl memOk_modWave (memOk_foldl (fun ok => memOk_latchRead (memOk_latchRead
    ok)) ok)))

theorem outOk_execTeamSave (ok : s.memOk) : OutOk (execTeamSave s) := by
  refine outOk_next (memOk_ite ok ?_)
  split
  · next saved => exact memOk_settlePreq (memOk_saveAll (memOk_foldl memOk_prepareSave ok) saved)
  · exact ok

theorem outOk_execTeamFlush (ok : s.memOk) : OutOk (execTeamFlush s) :=
  outOk_next (memOk_ite ok (memOk_ite (memOk_foldl (memOk_modTeam (by intro; rfl)) ok) (memOk_ite ok (memOk_settlePreq (memOk_foldl
    memOk_discard
    ok)))))

theorem outOk_execDrainTimeout (ok : s.memOk) : OutOk (execDrainTimeout s) := by
  unfold execDrainTimeout
  dsimp only
  refine outOk_next ?_
  split
  · exact memOk_ite (memOk_askSave ok) ok
  · exact ok

theorem outOk_execPreqPreempt (ok : s.memOk) : OutOk (execPreqPreempt s) :=
  outOk_next (memOk_settlePreq (memOk_foldl (memOk_modTeam (by intro; rfl)) (memOk_modDie ok)))

theorem spad_undrain {t : Team} : t.undrain.spad = t.spad := by
  unfold Team.undrain
  split <;> rfl

theorem outOk_execPreqResume (ok : s.memOk) : OutOk (execPreqResume s) :=
  outOk_next (memOk_modDie (memOk_foldl (fun ok => memOk_modTeam (fun _ => spad_undrain) ok) ok))

theorem outOk_execTeamRestore (ok : s.memOk) : OutOk (execTeamRestore s) := by
  unfold execTeamRestore
  dsimp only
  refine outOk_next ?_
  refine memOk_ite ?_ ok
  refine memOk_foldl_fst (fun ok => ?_) ok
  split
  · exact memOk_restoreAt ok
  · exact ok

theorem outOk_execDbgcmdResume (ok : s.memOk) : OutOk (execDbgcmdResume s) := by
  unfold execDbgcmdResume
  refine outOk_next ?_
  split
  · exact memOk_requeue ok
  · exact ok

theorem outOk_execDbgcmdStep (ok : s.memOk) : OutOk (execDbgcmdStep s) := by
  unfold execDbgcmdStep
  split
  · exact outOk_next ok
  · exact outOk_next (memOk_ite ok (memOk_requeue (memOk_modTeam (by intro; rfl) ok)))

theorem outOk_execDbgcmdKill (ok : s.memOk) : OutOk (execDbgcmdKill s) := by
  unfold execDbgcmdKill
  refine outOk_next ?_
  split
  · exact memOk_endFatal ok
  · exact ok

theorem outOk_execFqcmdAck (ok : s.memOk) : OutOk (execFqcmdAck s) := by
  unfold execFqcmdAck
  refine outOk_next ?_
  split
  · exact memOk_ite (memOk_fqDrop ok) ok
  · exact ok

theorem outOk_execMbrecv {o} (ok : s.memOk) : OutOk (execMbrecv o s) :=
  outOk_privWord ok fun ok => by
    extract_lets act ws
    refine memOk_ite (memOk_hold ok) ?_
    split
    next u jobs parks taken =>
    have oku : u.memOk := by
      refine memOk_of_eq taken (memOk_foldl_fst (fun ok => ?_) ok)
      split
      · next take => exact memOk_of_eq take (memOk_mailTake ok)
      · next take =>
        have done := memOk_of_eq take (memOk_mailTake ok)
        exact memOk_ite_fst done done
    exact memOk_finish (memOk_postEach (memOk_parkLanes oku))

theorem outOk_execMbsend {o} (ok : s.memOk) : OutOk (execMbsend o s) :=
  outOk_privWord ok (fun ok => memOk_ite (memOk_hold ok) (memOk_finish (memOk_postEach (memOk_faultLanes ok))))

theorem outOk_execFwd {o} (ok : s.memOk) : OutOk (execFwd o s) :=
  outOk_privWord ok (fun ok => memOk_ite (memOk_hold ok) (memOk_finish (memOk_postEach (memOk_faultLanes (memOk_foldl
    memOk_forward (memOk_releaseWord ok))))))

theorem outOk_execSpawnRange {o} (ok : s.memOk) : OutOk (execSpawnRange o s) := outOk_spawnWord ok memOk_spawnKind

theorem outOk_execSpawnTrim {o} (ok : s.memOk) : OutOk (execSpawnTrim o s) :=
  outOk_spawnWord ok fun ok => by
    split
    · exact memOk_spawnTrim ok
    · exact ok

theorem outOk_execDump {o} (ok : s.memOk) : OutOk (execDump o s) := by
  unfold execDump
  refine outOk_privWord ok (fun ok => ?_)
  refine memOk_ite (memOk_hold ok) ?_
  refine memOk_ite (memOk_hold (memOk_foldl (memOk_modTeam (by intro; rfl)) ok)) ?_
  dsimp only
  refine memOk_finish ?_
  refine memOk_foldl memOk_swapHits ?_
  refine memOk_postEach ?_
  refine memOk_faultLanes ?_
  refine memOk_foldl_fst (fun ok => ?_) (memOk_foldl memOk_latchRead (memOk_foldl (fun ok => memOk_goOnFreed (memOk_modTeam
    (by intro; rfl) ok))
    ok))
  split
  · exact ok
  · exact memOk_dumpTeam ok
  · exact memOk_noteHit ok

theorem outOk_execMailboxPacketFromHost (ok : s.memOk) : OutOk (execMailboxPacketFromHost s) :=
  outOk_next (memOk_ite (memOk_mailPut ok) ok)

theorem outOk_execLaunch (ok : s.memOk) : OutOk (execLaunch s) := by
  unfold execLaunch
  split
  · exact outOk_next ok
  · exact outOk_ite (outOk_next ok) (outOk_gcp ok memOk_launch)

theorem outOk_execFrame (ok : s.memOk) : OutOk (execFrame s) := by
  unfold execFrame
  refine outOk_gcp ok (fun ok => ?_)
  split
  · exact memOk_refuse (memOk_noteFrame ok)
  · exact memOk_writeRecord (memOk_modHub (memOk_takeSq (memOk_noteFrame ok)))

theorem outOk_execEndframe (ok : s.memOk) : OutOk (execEndframe s) :=
  outOk_ite (outOk_next ok) (outOk_gcp ok (fun ok => memOk_ite (memOk_refuse ok) (memOk_closeFrame (memOk_foldl memOk_closeTiles
    (memOk_modFrame (memOk_takeSq ok))))))

theorem outOk_execFqcmdReplay (ok : s.memOk) : OutOk (execFqcmdReplay s) := by
  unfold execFqcmdReplay
  dsimp only
  refine outOk_next ?_
  split
  · exact ok
  · refine memOk_ite ok ?_
    refine memOk_ite (memOk_modDie ok) ?_
    refine memOk_ite (memOk_fqDrop (memOk_replayRays ok)) ?_
    split
    · exact memOk_tryExtents (memOk_fqDrop ok)
    · exact memOk_fqDrop ok

theorem outOk_execFqcmdCancel (ok : s.memOk) : OutOk (execFqcmdCancel s) := by
  unfold execFqcmdCancel
  dsimp only
  refine outOk_next ?_
  split
  · exact ok
  · refine memOk_ite ok ?_
    refine memOk_ite (memOk_endFatal (memOk_modDie ok)) ?_
    split
    · exact memOk_rejectGrid ok
    · exact memOk_fqDrop ok

theorem outOk_execFwgo (ok : s.memOk) : OutOk (execFwgo s) :=
  outOk_next (memOk_ite (memOk_ite (memOk_bootEnd ok) ok) (memOk_keep memOk_modHub (memOk_modHub ok)))

theorem outOk_execModuleReset (ok : s.memOk) : OutOk (execModuleReset s) := by
  have cells : cellsWf s.mem.cells = true := (Bool.and_eq_true_iff.1 (mem_wf ok)).1
  exact outOk_next (memOk_iff.2 ⟨Bool.and_eq_true_iff.2 ⟨cells, rfl⟩, fun _ listed => nomatch listed⟩)

theorem outOk_execRegisterWrite (ok : s.memOk) : OutOk (execRegisterWrite s) :=
  outOk_ite (outOk_next ok) (outOk_ite (outOk_next (memOk_ite (memOk_writeDieReg ok) ok)) (outOk_ite (outOk_eqFlush
    (memOk_writeHubReg ok)) (outOk_next (memOk_writeHubReg ok))))

theorem outOk_execSqtailWrite (ok : s.memOk) : OutOk (execSqtailWrite s) := outOk_next (memOk_ite (memOk_modHub ok) ok)

theorem outOk_execEqtailWrite (ok : s.memOk) : OutOk (execEqtailWrite s) :=
  outOk_ite (outOk_eqFlush (memOk_modHub ok)) (outOk_next ok)

theorem outOk_execTlbsyncWrite (ok : s.memOk) : OutOk (execTlbsyncWrite s) :=
  outOk_next (memOk_ite ok (memOk_ite (memOk_modHub ok) (memOk_modHub (memOk_dropPages ok))))

theorem outOk_execTlbSyncComplete (ok : s.memOk) : OutOk (execTlbSyncComplete s) := outOk_next (memOk_ite ok (memOk_modHub ok))

theorem outOk_execPmctlWrite (ok : s.memOk) : OutOk (execPmctlWrite s) := outOk_next (memOk_modHub ok)

theorem outOk_execPmTick (ok : s.memOk) : OutOk (execPmTick s) :=
  outOk_next (memOk_ite ok (memOk_modHub (memOk_ite (memOk_modHub (memOk_foldl memOk_ringPost ok)) ok)))

theorem outOk_execQctlWrite (ok : s.memOk) : OutOk (execQctlWrite s) := outOk_next (memOk_with ok)

theorem outOk_execClockChange (ok : s.memOk) : OutOk (execClockChange s) := outOk_next (memOk_modHub ok)

theorem outOk_execThermalThrottle (ok : s.memOk) : OutOk (execThermalThrottle s) := outOk_next (memOk_modHub ok)

theorem outOk_execBskcmdSpill (ok : s.memOk) : OutOk (execBskcmdSpill s) := by
  unfold execBskcmdSpill
  split
  · exact outOk_ite (outOk_eqFlush (memOk_settleBasket (memOk_spillCopies ok))) (outOk_next ok)
  · exact outOk_next ok

theorem outOk_execBskcmdReturn (ok : s.memOk) : OutOk (execBskcmdReturn s) := by
  unfold execBskcmdReturn
  split
  · exact outOk_ite (outOk_eqFlush (memOk_settleBasket (memOk_returnCopies ok))) (outOk_next ok)
  · exact outOk_next ok

theorem outOk_execOwnmove (ok : s.memOk) : OutOk (execOwnmove s) := by
  unfold execOwnmove
  split
  · exact outOk_next (memOk_ite ok (memOk_ite (memOk_modHub ok) (memOk_modHub ok)))
  · exact outOk_next (memOk_ite ok (memOk_ite (memOk_modHub ok) (memOk_ite (memOk_modHub ok) (memOk_modDie (memOk_modHub ok)))))

theorem outOk_execHostMemoryAccess (ok : s.memOk) : OutOk (execHostMemoryAccess s) :=
  outOk_next (memOk_ite (memOk_ite (memOk_agentWrite ok) ok) (memOk_ite (memOk_noteRead ok) ok))

theorem outOk_execHostBarAssignment (ok : s.memOk) : OutOk (execHostBarAssignment s) :=
  outOk_next (memOk_ite (memOk_modHub ok) ok)

theorem outOk_execMxStart (ok : s.memOk) : OutOk (execMxStart s) := by
  unfold execMxStart
  refine outOk_next ?_
  split
  · exact ok
  · split
    · exact memOk_ite ok (memOk_ite ok (memOk_modMx (memOk_modHandle ok)))
    · exact ok

theorem outOk_execMxFinish (ok : s.memOk) : OutOk (execMxFinish s) := by
  unfold execMxFinish
  refine outOk_next ?_
  split
  · exact ok
  · split
    · exact memOk_ite ok (memOk_ite (memOk_mxRetire (memOk_mxRun ok)) (memOk_ite (memOk_modMx (memOk_restoreTiles (memOk_mxRun ok)))
        (memOk_mxRetire (memOk_recordAllowance (memOk_mxRun ok)))))
    · exact ok

theorem outOk_execAlset {o} (ok : s.memOk) : OutOk (execAlset o s) := outOk_tileWord ok (fun ok => ok)

theorem outOk_execAlsetLim {o} (ok : s.memOk) : OutOk (execAlsetLim o s) := outOk_tileWord ok (fun ok => ok)

theorem outOk_execAlget {o} (ok : s.memOk) : OutOk (execAlget o s) := outOk_tileWord ok (fun ok => ok)

theorem outOk_execMangleOpPerform (ok : s.memOk) : OutOk (execMangleOpPerform s) := by
  unfold execMangleOpPerform
  refine outOk_next ?_
  cases s.liveOp s.args.a with
  | none => exact ok
  | some op =>
    dsimp only
    split
    · refine memOk_ite ok ?_
      split
      · split
        · next read => exact memOk_opDone (memOk_modTile (memOk_of_eq read (memOk_tileRead ok)))
        · next read => exact memOk_opDone (memOk_engineEcc (memOk_of_eq read (memOk_tileRead ok)))
      · exact memOk_opDone (memOk_tileWrite ok)
      · exact memOk_opDone (memOk_modTile ok)
      · exact memOk_opDone (memOk_modTile ok)
      · exact memOk_opDone (memOk_modTile ok)
      · exact memOk_ite ok (memOk_opDone (memOk_writeResults ok))
    · exact ok

theorem outOk_execQddx {o} (ok : s.memOk) : OutOk (execQddx o s) := outOk_ite (outOk_quadDeriv ok) (outOk_quadDeriv ok)

theorem outOk_execQddy {o} (ok : s.memOk) : OutOk (execQddy o s) := outOk_ite (outOk_quadDeriv ok) (outOk_quadDeriv ok)

theorem outOk_execTextureComplete (ok : s.memOk) : OutOk (execTextureComplete s) := by
  unfold execTextureComplete
  refine outOk_next ?_
  split
  · split
    · exact memOk_ite ok (memOk_opDone (memOk_writeResults (memOk_foldl memOk_feedbackOr ok)))
    · exact ok
  · exact ok

theorem outOk_exec {i : Instr} (ok : s.memOk) : OutOk (exec i s) := by
  unfold exec
  cases i with
  | iadd _ | isub _ | imul _ | imulh _ | idiv _ | irem _ | imin _ | imax _ | and _ | or _ | xor _ | shl _ | shr _ | rol _
    | bfe _ | padd8 _ | padd16 _ | bmsk _ | fmin _ | fmax _ | fcpys _ | hmin _ | hmax _ | hcpys _ | bscale _ | qnt8Err _
    | dq8 _ | alrnd _ | icmp _ | fcmp _ | hcmp _ | fclass _ | btest _ => exact outOk_alu2 ok
  | iaddImm _ | isubImm _ | imulImm _ | imulhImm _ | idivImm _ | iremImm _ | iminImm _ | imaxImm _ | andImm _ | orImm _
    | xorImm _ | shlImm _ | shrImm _ | rolImm _ | bfeImm _ | padd8Imm _ | padd16Imm _ | bmskImm _ | fminImm _ | fmaxImm _
    | fcpysImm _ | fscaleImm _ | hminImm _ | hmaxImm _ | hcpysImm _ | hscaleImm _ | icmpImm _ | fcmpImm _ | hcmpImm _
    | selImm _ | fclassImm _ | btestImm _ => exact outOk_aluI ok
  | imad _ | bfi _ | shf _ | pdot4 _ | pdot8 _ | ffma _ | ffms _ | fclamp _ | hfma _ | hfms _ | hdot2 _ | hclamp _
    | filtl _ => exact outOk_alu3 ok
  | iabs _ | ineg _ | not _ | mov _ | popc _ | clz _ | brev _ | bpx _ | bpi _ | fabs _ | fneg _ | ffrac _ | fsat _ | habs _
    | hneg _ | f8f _ | h2f _ | fxpn _ | fmnt _ | g2p _ => exact outOk_alu1 ok
  | movImm _ | movk _ | movk64 _ | fsqrt _ | frnd _ | fscale _ | hrnd _ | hscale _ | f2f _ | f2i _ | i2f _ | f2f8 _ | qnt8 _
    | filt _ | pand _ | por _ | pxor _ | pnot _ | sel _ | sel64 _ | p2g _ | bgenRead _ | rdsr _
    | srgen => exact outOk_aluWord ok
  | iadd64 _ | isub64 _ | imul64 _ | icmp64 _ => exact outOk_alu64 ok
  | iadd64Imm _ | isub64Imm _ | imul64Imm _ | icmp64Imm _ => exact outOk_alu64I ok
  | imad64 _ => exact outOk_alu64c ok
  | fadd _ | fsub _ | fmul _ | fdiv _ => exact outOk_f32Word2 ok
  | faddImm _ | fsubImm _ | fmulImm _ | fdivImm _ => exact outOk_f32WordI ok
  | hadd _ | hsub _ | hmul _ => exact outOk_f16Word2 ok
  | haddImm _ | hsubImm _ | hmulImm _ => exact outOk_f16WordI ok
  | exp2 _ | log2 _ | rcp _ | rsqrt _ | sqrt _ | sin _ | cos _ => exact outOk_transcWord ok
  | bra _ => exact outOk_execBra ok
  | call _ => exact outOk_execCall ok
  | calli _ => exact outOk_execCalli ok
  | jmpi _ => exact outOk_execJmpi ok
  | ld _ => exact outOk_execLd ok
  | st _ => exact outOk_execSt ok
  | ldw _ => exact outOk_execLdw ok
  | pref _ => exact outOk_execPref ok
  | wback _ => exact outOk_execWback ok
  | atomAdd _ | atomMin _ | atomMax _ | atomAnd _ | atomOr _ | atomXor _ | atomExch _ | atomFadd _ | atomFmin _
    | atomFmax _ => exact outOk_atomicOp ok
  | cas _ => exact outOk_atomicWord ok
  | fence _ => exact outOk_execFence ok
  | acqRemote _ => exact outOk_execAcqRemote ok
  | mwait _ => exact outOk_execMwait ok
  | barr _ | btxn _ => exact outOk_arriveWord ok
  | bwait _ => exact outOk_execBwait ok
  | bgenInit _ => exact outOk_execBgenInit ok
  | qswap _ | qbcast _ | wshfl _ | wvote _ | wballot _ | wred _ | wred64 _ | wredf _ | wscan _ | wscanf _ | wmatch _
    | wfirst _ | elect => exact outOk_entryWord ok
  | qddx _ => exact outOk_execQddx ok
  | qddy _ => exact outOk_execQddy ok
  | wsyncm _ => exact outOk_execWsyncm ok
  | cpyT _ => exact outOk_copyWord ok memOk_noteBytes
  | cpyL _ => exact outOk_execCpyL ok
  | obres _ | obstateRead _ | obstatePend _ | obstateRefill _ => exact outOk_handleWord ok
  | prset _ | prclr _ => exact outOk_presenceWord ok
  | prtest _ => exact outOk_execPrtest ok
  | waitc _ => exact outOk_execWaitc ok
  | mxI8 _ | mxE4 _ | mxE5 _ | mxH _ | mxBf _ => exact outOk_mxWord ok
  | accld _ | accst _ | accstNi8 _ => exact outOk_accWord ok
  | alset _ => exact outOk_execAlset ok
  | alsetLim _ => exact outOk_execAlsetLim ok
  | alget _ => exact outOk_execAlget ok
  | diceRun _ => exact outOk_execDiceRun ok
  | diceBind _ => exact outOk_execDiceBind ok
  | patchq _ => exact outOk_execPatchq ok
  | gemit _ => exact outOk_execGemit ok
  | samp _ | sampl _ | sampd _ | sampg _ | resq _ => exact outOk_texWord ok
  | trace _ | tresume _ | taccept _ | tstateRead _ | tstateEnd _ => exact outOk_rayWord ok
  | wrsr _ => exact outOk_execWrsr ok
  | stpred _ => exact outOk_execStpred ok
  | ldpred _ => exact outOk_execLdpred ok
  | trap _ => exact outOk_execTrap ok
  | bkpt _ => exact outOk_execBkpt ok
  | splrd _ => exact outOk_execSplrd ok
  | splwr _ => exact outOk_execSplwr ok
  | barsv _ => exact outOk_execBarsv ok
  | barld _ => exact outOk_execBarld ok
  | ctxrd _ => exact outOk_execCtxrd ok
  | ctxwr _ => exact outOk_execCtxwr ok
  | mbrecv _ => exact outOk_execMbrecv ok
  | mbsend _ => exact outOk_execMbsend ok
  | spawnRange _ => exact outOk_execSpawnRange ok
  | fwd _ => exact outOk_execFwd ok
  | dump _ => exact outOk_execDump ok
  | spawnTrim _ => exact outOk_execSpawnTrim ok
  | ret => exact outOk_execRet ok
  | rett => exact outOk_returnWord ok memOk_returnTrap
  | exit => exact outOk_execExit ok
  | yield => exact outOk_execYield ok
  | syncw => exact outOk_execSyncw ok
  | obrel => exact outOk_execObrel ok
  | obstateFull => exact outOk_execObstateFull ok
  | accz => exact outOk_tileWord ok memOk_modTile
  | diceUnbind => exact outOk_bindWord ok memOk_unbindTeam
  | patchdq => exact outOk_execPatchdq ok
  | wmarkRel => exact outOk_execWmarkRel ok
  | wmarkGlob | wmarkDie => exact outOk_wmarkRead ok
  | nop => exact outOk_whenIssued ok memOk_advance
  | moduleReset => exact outOk_execModuleReset ok
  | fwgo => exact outOk_execFwgo ok
  | sqtailWrite => exact outOk_execSqtailWrite ok
  | launch => exact outOk_execLaunch ok
  | frame => exact outOk_execFrame ok
  | endframe => exact outOk_execEndframe ok
  | teamClaim => exact outOk_execTeamClaim ok
  | rangeSteal => exact outOk_execRangeSteal ok
  | pick => exact outOk_execPick ok
  | switchMarkerResume => exact outOk_execSwitchMarkerResume ok
  | trapEntry => exact outOk_execTrapEntry ok
  | loadResultReturn => exact outOk_execLoadResultReturn ok
  | storePerformed => exact outOk_execStorePerformed ok
  | cacheEviction => exact outOk_execCacheEviction ok
  | teamEnd => exact outOk_execTeamEnd ok
  | teamFatalEnd => exact outOk_execTeamFatalEnd ok
  | tlbsyncWrite => exact outOk_execTlbsyncWrite ok
  | tlbSyncComplete => exact outOk_execTlbSyncComplete ok
  | fqcmdReplay => exact outOk_execFqcmdReplay ok
  | fqcmdCancel => exact outOk_execFqcmdCancel ok
  | fqcmdAck => exact outOk_execFqcmdAck ok
  | preqPreempt => exact outOk_execPreqPreempt ok
  | preqResume => exact outOk_execPreqResume ok
  | teamFlush => exact outOk_execTeamFlush ok
  | drainTimeout => exact outOk_execDrainTimeout ok
  | timeSlice => exact outOk_execTimeSlice ok
  | teamSave => exact outOk_execTeamSave ok
  | teamRestore => exact outOk_execTeamRestore ok
  | dbgcmdResume => exact outOk_execDbgcmdResume ok
  | dbgcmdStep => exact outOk_execDbgcmdStep ok
  | dbgcmdKill => exact outOk_execDbgcmdKill ok
  | pmTick => exact outOk_execPmTick ok
  | pmctlWrite => exact outOk_execPmctlWrite ok
  | qctlWrite => exact outOk_execQctlWrite ok
  | clockChange => exact outOk_execClockChange ok
  | thermalThrottle => exact outOk_execThermalThrottle ok
  | bskcmdSpill => exact outOk_execBskcmdSpill ok
  | bskcmdReturn => exact outOk_execBskcmdReturn ok
  | ownmove => exact outOk_execOwnmove ok
  | tileHandoff => exact outOk_execTileHandoff ok
  | registerWrite => exact outOk_execRegisterWrite ok
  | hostMemoryAccess => exact outOk_execHostMemoryAccess ok
  | copyLineArrival => exact outOk_execCopyLineArrival ok
  | copyComplete => exact outOk_execCopyComplete ok
  | shuttleOpPerform => exact outOk_execShuttleOpPerform ok
  | mxStart => exact outOk_execMxStart ok
  | mxFinish => exact outOk_execMxFinish ok
  | mangleOpPerform => exact outOk_execMangleOpPerform ok
  | textureComplete => exact outOk_execTextureComplete ok
  | rayReturn => exact outOk_execRayReturn ok
  | shearsDelivery => exact outOk_execShearsDelivery ok
  | gemitRetire => exact outOk_execGemitRetire ok
  | watermarkDelivery => exact outOk_execWatermarkDelivery ok
  | gridCopyArrival => exact outOk_execGridCopyArrival ok
  | copySampling => exact outOk_execCopySampling ok
  | mwaitWake => exact outOk_execMwaitWake ok
  | commitTokenPass => exact outOk_execCommitTokenPass ok
  | badpacket => exact outOk_gcp ok memOk_refuse
  | mailboxPacketFromHost => exact outOk_execMailboxPacketFromHost ok
  | eqtailWrite => exact outOk_execEqtailWrite ok
  | hostBarAssignment => exact outOk_execHostBarAssignment ok
  | pageWalkComplete => exact outOk_execPageWalkComplete ok

/-! ### Turns -/

theorem outOk_issueWord {b} (ok : s.memOk) : OutOk (s.issueWord exec b) := by
  unfold State.issueWord
  extract_lets u
  have oku : u.memOk := memOk_with ok
  split
  · refine outOk_ite (outOk_next (memOk_decodeFault oku)) ?_
    split
    · exact outOk_exec oku
    · exact outOk_next (memOk_nextWord oku)
  · exact outOk_exec oku
  · exact outOk_next (memOk_decodeFault oku)
  · exact outOk_next (memOk_decodeFault oku)

theorem outOk_wordTurn {id} (ok : s.memOk) : OutOk (s.wordTurn exec id) := by
  unfold State.wordTurn
  split
  · exact outOk_next ok
  · exact outOk_ite (outOk_andThen (outOk_issueWord ok) memOk_afterStep) (outOk_next ok)

theorem outOk_runTurn {t} (ok : s.memOk) : OutOk (s.runTurn exec t) := by
  refine outOk_andThen ?_ memOk_sendMarks
  cases t with
  | word => exact outOk_wordTurn (memOk_with ok)
  | ev => exact outOk_exec (memOk_with ok)
  | upset => exact outOk_next (memOk_upset (memOk_with ok))

theorem outOk_takeTurn (ok : s.memOk) : OutOk (s.takeTurn exec) := by
  unfold State.takeTurn
  split
  · exact outOk_runTurn (memOk_with ok)
  · extract_lets cs
    split
    · exact outOk_runTurn (memOk_with ok)
    · exact outOk_next ok

theorem memOk_tick (ok : s.memOk) : s.tick.memOk :=
  memOk_with (memOk_mapTeams (f := fun t => t.noteBlocked s.hub.gtime.toNat) (fun _ => rfl) ok)

end

/-- Settles O20: what one step writes to memory and to scratchpads goes through the writes of cells, which keep their form. -/
theorem stepKeepsMemOk : Obligations.StepKeepsMemOk := fun _ t ok next => outOk_takeTurn (memOk_tick ok) t next

end Sys2Proof.Machine

/-! Commands on a fault queue's entry and on a team that the debugger has saved (R444, R482): an equation for each command and each
kind of entry. -/

namespace Sys2Proof.Machine

section
variable {s : State} {e : FqEntry}

/-- The entry that a command names has the command's index. -/
theorem index_of_fqAt {d i : Nat} (found : s.fqAt d i = some e) : e.index = i :=
  eq_of_beq (List.find?_some (p := fun e : FqEntry => e.index == i) found)

/-- The grid that waits for the extents of an entry's grid slot. -/
def State.extentGrid (s : State) (e : FqEntry) : Option Nat :=
  (List.range s.grids.length).find? fun k =>
    (s.grids.getD k Grid.blank).slot == e.grid && (s.grids.getD k Grid.blank).phase == .extents

/-- The entries of index `k` in die `d`'s fault queue get a state and a kind. -/
def State.markFq (s : State) (d k st : Nat) (kind : Nat → Nat) : State :=
  s.modDie d fun x => { x with faultQ := x.faultQ.map fun y => if y.index = k then { y with state := st, kind := kind y.kind } else y }

theorem replaying_eq (i : Nat) : e.replaying i = if e.index = i then { e with state := 2, kind := id e.kind } else e := by
  simp [FqEntry.replaying]

theorem cancelled_eq (i : Nat) : e.cancelled i = if e.index = i then { e with state := 3, kind := 3 } else e := by
  simp [FqEntry.cancelled]

theorem gives_fqcmd_none (none : s.fqAt s.args.a s.args.b = none) :
    Gives .fqcmdReplay s s ∧ Gives .fqcmdCancel s s ∧ Gives .fqcmdAck s s := by
  show execFqcmdReplay s = _ ∧ execFqcmdCancel s = _ ∧ execFqcmdAck s = _
  simp [execFqcmdReplay, execFqcmdCancel, execFqcmdAck, none]

section
variable (found : s.fqAt s.args.a s.args.b = some e)
include found

theorem gives_fqcmd_idle (idle : e.state ≠ 1) : Gives .fqcmdReplay s s ∧ Gives .fqcmdCancel s s := by
  show execFqcmdReplay s = _ ∧ execFqcmdCancel s = _
  simp [execFqcmdReplay, execFqcmdCancel, found, idle]

theorem gives_fqcmdReplay_lanes (waits : e.state = 1) (kind : e.kind = 0) :
    Gives .fqcmdReplay s (s.markFq s.args.a s.args.b 2 id) := by
  show execFqcmdReplay s = _
  simp [execFqcmdReplay, found, waits, kind, State.markFq, replaying_eq, index_of_fqAt found]

theorem gives_fqcmdReplay_rays (waits : e.state = 1) (kind : e.kind = 1) :
    Gives .fqcmdReplay s ((s.replayRays (e.tid.getD 0) s.args.b).fqDrop s.args.a s.args.b) := by
  show execFqcmdReplay s = _
  simp [execFqcmdReplay, found, waits, kind, index_of_fqAt found]

theorem gives_fqcmdCancel_team (waits : e.state = 1) (kind : e.kind ≤ 1) :
    Gives .fqcmdCancel s ((s.markFq s.args.a s.args.b 3 fun _ => 3).endFatal (e.tid.getD 0) e.fatal) := by
  show execFqcmdCancel s = _
  simp [execFqcmdCancel, found, waits, kind, State.markFq, cancelled_eq, index_of_fqAt found]

theorem gives_fqcmd_extent {k : Nat} (waits : e.state = 1) (kind : 2 ≤ e.kind) (held : s.extentGrid e = some k) :
    Gives .fqcmdReplay s ((s.fqDrop s.args.a s.args.b).tryExtents k s.args.a) ∧ Gives .fqcmdCancel s (s.rejectGrid k) := by
  show execFqcmdReplay s = _ ∧ execFqcmdCancel s = _
  rw [State.extentGrid] at held
  simp only [execFqcmdReplay, execFqcmdCancel, found, waits, index_of_fqAt found, held,
    show e.kind ≠ 0 by omega, show e.kind ≠ 1 by omega, show ¬e.kind ≤ 1 by omega]
  exact ⟨rfl, rfl⟩

theorem gives_fqcmd_extent_gone (waits : e.state = 1) (kind : 2 ≤ e.kind) (gone : s.extentGrid e = none) :
    Gives .fqcmdReplay s (s.fqDrop s.args.a s.args.b) ∧ Gives .fqcmdCancel s (s.fqDrop s.args.a s.args.b) := by
  show execFqcmdReplay s = _ ∧ execFqcmdCancel s = _
  rw [State.extentGrid] at gone
  simp only [execFqcmdReplay, execFqcmdCancel, found, waits, index_of_fqAt found, gone,
    show e.kind ≠ 0 by omega, show e.kind ≠ 1 by omega, show ¬e.kind ≤ 1 by omega]
  exact ⟨rfl, rfl⟩

theorem gives_fqcmdAck_report (report : e.state = 3) : Gives .fqcmdAck s (s.fqDrop s.args.a s.args.b) := by
  show execFqcmdAck s = _
  simp [execFqcmdAck, found, report, index_of_fqAt found]

theorem gives_fqcmdAck_other (other : e.state ≠ 3) : Gives .fqcmdAck s s := by
  show execFqcmdAck s = _
  simp [execFqcmdAck, found, other]

end

theorem gives_dbgcmd_none (none : s.debugTeam s.args.a s.args.b = none) :
    Gives .dbgcmdResume s s ∧ Gives .dbgcmdStep s s ∧ Gives .dbgcmdKill s s := by
  show execDbgcmdResume s = _ ∧ execDbgcmdStep s = _ ∧ execDbgcmdKill s = _
  simp [execDbgcmdResume, execDbgcmdStep, execDbgcmdKill, none]

section
variable {tid : Nat} (named : s.debugTeam s.args.a s.args.b = some tid)
include named

theorem gives_dbgcmdResume : Gives .dbgcmdResume s (s.requeue tid) := by
  show execDbgcmdResume s = _
  simp [execDbgcmdResume, named]

theorem gives_dbgcmdStep (able : (s.lane ⟨tid, s.args.c, s.args.d⟩).ended = false) (there : (s.lane ⟨tid, s.args.c, s.args.d⟩).absent = false)
    (own : (s.lane ⟨tid, s.args.c, s.args.d⟩).isHelper = false) :
    Gives .dbgcmdStep s ((s.modTeam tid fun x => { x with step := some (s.args.c, s.args.d) }).requeue tid) := by
  show execDbgcmdStep s = _
  simp [execDbgcmdStep, named, able, there, own]

theorem gives_dbgcmdStep_unable (unable : (s.lane ⟨tid, s.args.c, s.args.d⟩).ended = true ∨
    (s.lane ⟨tid, s.args.c, s.args.d⟩).absent = true ∨ (s.lane ⟨tid, s.args.c, s.args.d⟩).isHelper = true) : Gives .dbgcmdStep s s := by
  show execDbgcmdStep s = _
  simp [execDbgcmdStep, named, or_assoc, unable]

theorem gives_dbgcmdKill : Gives .dbgcmdKill s (s.endFatal tid (restoreFatal .brk)) := by
  show execDbgcmdKill s = _
  simp [execDbgcmdKill, named]

end

end

/-- Settles O58: each command acts by the kind and the state of the entry, or of the team, that it names. -/
theorem faultCommands : Obligations.FaultCommands := by
  intro s d i
  refine ⟨gives_fqcmd_none, fun e found => ⟨gives_fqcmd_idle found, gives_fqcmdReplay_lanes found, gives_fqcmdReplay_rays found,
    gives_fqcmdCancel_team found, fun waits kind => ⟨fun k => gives_fqcmd_extent found waits kind,
      gives_fqcmd_extent_gone found waits kind⟩, gives_fqcmdAck_report found, gives_fqcmdAck_other found⟩, gives_dbgcmd_none,
    fun tid named => ⟨gives_dbgcmdResume named, gives_dbgcmdStep_unable named, gives_dbgcmdStep named, gives_dbgcmdKill named⟩⟩

end Sys2Proof.Machine

/-! Taking teams off their cores (R446 to R458): an equation for each event and each state of its team. -/

namespace Sys2Proof.Machine

theorem extractLsb'_low (x : DWord) : x.extractLsb' 0 32 = x.setWidth 32 := BitVec.eq_of_toNat_eq (by simp)

section
variable (s : State)

/-- The teams of a pre-empted slot that PREQ takes off their cores. -/
def State.preqTeams (slots : List Nat) : List Nat :=
  (s.concerned s.args.a).filter fun t => slots.contains (s.gridOf t).slot && (s.team t).leaving == .no && (s.team t).fatal.isNone

theorem gives_preqPreempt {v : BitVec 32} (word : v = s.args.v.extractLsb' 0 32) {u : State}
    (named : u = s.modDie s.args.a fun x => { x with preq := v &&& 0xFFE1 ||| 1, preempted := (x.preempted ++ s.preqSlots v).eraseDups }) :
    Gives .preqPreempt s (((((u.preqTeams (s.preqSlots v)).map fun t => (t, u.treat v t)).foldl
      (fun u x => u.modTeam x.1 fun t => { t with leaving := x.2 }) u)).settlePreq s.args.a) := by
  rw [extractLsb'_low] at word
  subst word named
  rfl

theorem gives_preqResume {v : BitVec 32} (word : v = s.args.v.extractLsb' 0 32) {gone : Nat → Bool}
    (named : gone = fun k => v.getLsbD 7 || v.toNat / 256 % 256 == k) :
    Gives .preqResume s ((((s.concerned s.args.a).filter fun t => gone (s.gridOf t).slot).foldl (fun u t => u.modTeam t Team.undrain)
      s).modDie s.args.a fun x => { x with preq := v &&& 0xFFE2, preempted := x.preempted.filter fun k => !gone k }) := by
  rw [extractLsb'_low] at word
  subst word named
  rfl

/-- The team of an event and its partner, as far as they are on a core. -/
def State.onCores : List Nat := (s.both s.args.a).filter fun t => (s.team t).place == .resident

/-- A team that is being flushed, and no fatal cause has come to it. -/
def State.Flushing (tid : Nat) : Prop := (s.team tid).leaving = .flush ∧ (s.team tid).fatal = none

variable {s}

theorem flushing_iff {tid : Nat} : ((s.team tid).leaving == .flush && (s.team tid).fatal.isNone) = true ↔ s.Flushing tid := by
  simp [State.Flushing]

/-! ### Flushing -/

theorem gives_teamFlush_other (other : (s.team s.args.a).place ≠ .resident ∨ ¬s.Flushing s.args.a) : Gives .teamFlush s s := by
  rw [← flushing_iff] at other
  exact congrArg Host.Outcome.next (if_pos (by rwa [Bool.or_eq_true, bne_iff_ne, Bool.not_eq_true', ← Bool.not_eq_true]))

section
variable (here : (s.team s.args.a).place = .resident) (flushing : s.Flushing s.args.a)
include here flushing

theorem gives_teamFlush_holds (holds : ∃ t ∈ s.onCores, s.keepsState t = true) :
    Gives .teamFlush s (s.onCores.foldl (fun u t => u.modTeam t fun x => { x with leaving := u.saveOrDrain t }) s) := by
  have kept : s.onCores.any s.keepsState = true := List.any_eq_true.2 holds
  show execTeamFlush s = _
  unfold execTeamFlush
  simp only [here, flushing_iff.2 flushing]
  unfold State.onCores at kept
  rw [kept]
  rfl

theorem gives_teamFlush (free : ∀ t ∈ s.onCores, s.keepsState t = false ∧ s.Flushing t ∧ s.opsRest t = true) :
    Gives .teamFlush s (((sortKey (fun t => (s.team t).t) s.onCores).reverse.foldl State.discard s).settlePreq
      (s.team s.args.a).die) := by
  have kept : s.onCores.any s.keepsState = false := List.any_eq_false.2 fun t on => by simp [(free t on).1]
  have ready : (s.onCores.all fun t => (s.team t).leaving == .flush && (s.team t).fatal.isNone && s.opsRest t) = true :=
    List.all_eq_true.2 fun t on => by
      obtain ⟨_, flush, rest⟩ := free t on
      rw [flushing_iff.2 flush, rest]
      rfl
  show execTeamFlush s = _
  unfold execTeamFlush
  simp only [here, flushing_iff.2 flushing]
  unfold State.onCores at kept ready
  rw [kept, ready]
  rfl

end

/-! ### Draining and saving -/

theorem gives_drainTimeout {since : Nat} (drains : (s.team s.args.a).leaving = .drain since)
    (here : (s.team s.args.a).place = .resident) (live : (s.team s.args.a).fatal = none)
    (slot : s.hasSaveSlot (s.team s.args.a).die (s.gridOf s.args.a) = true)
    (late : 2 * ((s.die (s.team s.args.a).die).pctl.toNat / 2 ^ 32) < s.hub.gtime.toNat - since) :
    Gives .drainTimeout s (s.askSave s.args.a 1) := by
  have passed : 2 * bitsOf (s.die (s.team s.args.a).die).pctl.toNat 32 32 < s.hub.gtime.toNat - since := by
    rw [bitsOf]
    omega
  show execDrainTimeout s = _
  unfold execDrainTimeout
  simp [drains, here, live, slot, passed]

theorem gives_drainTimeout_other (other : ∀ since, (s.team s.args.a).leaving ≠ .drain since) : Gives .drainTimeout s s := by
  show execDrainTimeout s = _
  unfold execDrainTimeout
  dsimp only
  split
  · next since drains => exact absurd drains (other since)
  · rfl

theorem gives_teamSave_other (other : (s.team s.args.a).saving = false) : Gives .teamSave s s := by
  show execTeamSave s = _
  unfold execTeamSave
  simp only [other]
  rfl

/-- The teams that are saved together, in the order of their indices, once their stacks and rays stand in memory. -/
def State.saved (s : State) : Option State :=
  (s.onCores.foldl State.prepareSave s).saveAll (sortKey (fun t => (s.team t).t) s.onCores)

theorem ready_to_save (rest : ∀ t ∈ s.onCores, (s.team t).saving = true ∧ s.atRest t = true) :
    (s.onCores.all fun t => (s.team t).saving && s.atRest t) = true := List.all_eq_true.2 fun t on => by simp [rest t on]

section
variable (saving : (s.team s.args.a).saving = true) (rest : ∀ t ∈ s.onCores, (s.team t).saving = true ∧ s.atRest t = true)
  (turn : s.slicedBefore s.args.a = false)
include saving rest turn

theorem gives_teamSave_full (full : s.saved = none) : Gives .teamSave s s := by
  have ready := ready_to_save rest
  show execTeamSave s = _
  unfold execTeamSave
  unfold State.saved State.onCores at *
  simp only [saving, turn, ready, full]
  rfl

theorem gives_teamSave {u : State} (saved : s.saved = some u) : Gives .teamSave s (u.settlePreq (s.team s.args.a).die) := by
  have ready := ready_to_save rest
  show execTeamSave s = _
  unfold execTeamSave
  unfold State.saved State.onCores at *
  simp only [saving, turn, ready, saved]
  rfl

end

/-! ### Restoring -/

theorem gives_teamRestore_other (other : s.restorable s.args.a = false) : Gives .teamRestore s s := by
  show execTeamRestore s = _
  unfold execTeamRestore
  simp only [other]
  rfl

theorem gives_teamRestore {p0 : Nat} (restorable : s.restorable s.args.a = true) (alone : s.both s.args.a = [s.args.a])
    (room : s.room (s.team s.args.a).die (pairCore (s.gridOf s.args.a) s.args.b ((s.team s.args.a).t % 2)) (s.gridOf s.args.a)
      (s.team s.args.a).granules = some p0) :
    Gives .teamRestore s (s.restoreAt s.args.a (pairCore (s.gridOf s.args.a) s.args.b ((s.team s.args.a).t % 2)) p0) := by
  have saved : (s.team s.args.a).isSaved = true := by
    simp only [State.restorable, Bool.and_eq_true] at restorable
    obtain ⟨⟨⟨⟨saved, _⟩, _⟩, _⟩, _⟩ := restorable
    exact saved
  show execTeamRestore s = _
  unfold execTeamRestore
  simp [alone, room, restorable, saved]

end

/-- Settles O57: each event acts by what its team, and the cluster's other, are doing. -/
theorem preemptionEvents : Obligations.PreemptionEvents := by
  intro s
  refine ⟨⟨gives_preqPreempt s rfl rfl, gives_preqResume s rfl rfl⟩, gives_teamFlush_other, fun here flushing =>
    ⟨gives_teamFlush_holds here flushing, gives_teamFlush here flushing⟩, fun since drains here live slot late =>
    gives_drainTimeout drains here live slot late, gives_drainTimeout_other, gives_teamSave_other, fun saving rest turn =>
    ⟨gives_teamSave_full saving rest turn, fun u => gives_teamSave saving rest turn⟩, gives_teamRestore_other,
    fun restorable alone p0 room => gives_teamRestore restorable alone room⟩

end Sys2Proof.Machine

/-! Matrix operations, and operations on a tile, in the order of their tile (R336 to R345, R350 to R352). -/

namespace Sys2Proof.Machine

theorem normAL16_eq (c : BitVec 16) :
    normAL16 c = if c.toNat / 256 = 0 then 0 else if c.toNat / 256 = 255 then 0xFFFF else c := by
  have high : (c.extractLsb' 8 8).toNat = c.toNat / 256 := by
    rw [BitVec.extractLsb'_toNat, Nat.shiftRight_eq_div_pow]
    omega
  simp [normAL16, BitVec.toNat_eq, high]

section
variable {s : State} {op : Op} {j : MxJob}

/-- A matrix operation is checked against allowances. -/
def MxJob.Checked (j : MxJob) : Prop := j.am = 2 ∧ j.int = false

/-- A core of a matrix operation has no room for its shadow. -/
def State.ShadowsFull (s : State) (op : Op) (j : MxJob) : Prop := ∃ t ∈ j.teams op.team, 2 ≤ s.shadowsOn (s.coreKey t)

/-- An allowance is past its limit after an attempt. -/
def State.PastLimit (s : State) (op : Op) (j : MxJob) : Prop :=
  ∃ t ∈ j.teams op.team, (s.tile t j.tile).limit < (s.tile t j.tile).value

/-- An attempt past its limit is made again, with 8 planes. -/
def State.RunsAgain (s : State) (op : Op) (j : MxJob) : Prop := j.alw = false ∧ j.planes < 8 ∧ (s.handle op.team j.handle).plf = 8

theorem checked_iff : j.checked = true ↔ j.Checked := by simp [MxJob.checked, MxJob.Checked]

theorem shadowsFull_iff : ((j.teams op.team).any fun t => decide (2 ≤ s.shadowsOn (s.coreKey t))) = true ↔ s.ShadowsFull op j := by
  simp [State.ShadowsFull]

theorem pastLimit_iff :
    ((j.teams op.team).any fun t => (s.tile t j.tile).limit < (s.tile t j.tile).value) = true ↔ s.PastLimit op j := by
  simp [State.PastLimit]

theorem runsAgain_iff : (!j.alw && decide (j.planes < 8) && (s.handle op.team j.handle).plf == 8) = true ↔ s.RunsAgain op j := by
  simp [State.RunsAgain, and_assoc]

theorem takeShadows_unchecked (unchecked : ¬j.Checked) : s.takeShadows op j = j := by
  rw [← checked_iff] at unchecked
  exact if_neg unchecked

theorem takeShadows_checked (checked : j.Checked) :
    s.takeShadows op j = { j with shadows := (j.teams op.team).map fun t => s.tile t j.tile, alw := s.hub.fnmode.getLsbD 1 } :=
  if_pos (checked_iff.2 checked)

section
variable (live : s.liveOp s.args.a = some op) (body : op.body = .mx j)
include live body

theorem execMxStart_eq : exec .mxStart s = .next (
    if j.started || !s.mangleReady op then s
    else if j.checked && (j.teams op.team).any fun t => decide (2 ≤ s.shadowsOn (s.coreKey t)) then s
    else (s.modHandle op.team j.handle fun x => { x with mxout := x.mxout + 1 }).modMx op.id fun j =>
      { s.takeShadows op j with started := true }) := by
  show execMxStart s = _
  simp only [execMxStart, live, body]

theorem gives_mxStart_waits (waits : j.started = true ∨ s.mangleReady op = false ∨ j.Checked ∧ s.ShadowsFull op j) :
    Gives .mxStart s s := by
  rw [← checked_iff, ← shadowsFull_iff] at waits
  rw [Gives, execMxStart_eq live body]
  obtain started | unready | ⟨checked, full⟩ := waits
  · simp [started]
  · simp [unready]
  · simp only [checked, full, Bool.and_self, if_true, ite_self]

theorem gives_mxStart (idle : j.started = false) (ready : s.mangleReady op = true) (room : ¬(j.Checked ∧ s.ShadowsFull op j)) :
    Gives .mxStart s ((s.modHandle op.team j.handle fun x => { x with mxout := x.mxout + 1 }).modMx op.id fun x =>
      { s.takeShadows op x with started := true }) := by
  rw [← checked_iff, ← shadowsFull_iff, ← Bool.and_eq_true] at room
  rw [Gives, execMxStart_eq live body, if_neg (by simp [idle, ready]), if_neg room]

theorem execMxFinish_eq : exec .mxFinish s = .next (
    if !j.started then s
    else if !(j.checked && (j.teams op.team).any fun t => ((s.mxRun op j).tile t j.tile).limit < ((s.mxRun op j).tile t j.tile).value) then
      (s.mxRun op j).mxRetire op j
    else if !j.alw && decide (j.planes < 8) && ((s.mxRun op j).handle op.team j.handle).plf == 8 then
      ((s.mxRun op j).restoreTiles op j).modMx op.id fun j => { j with planes := 8 }
    else ((s.mxRun op j).recordAllowance op j.lane).mxRetire op j) := by
  show execMxFinish s = _
  simp only [execMxFinish, live, body]

theorem gives_mxFinish_idle (idle : j.started = false) : Gives .mxFinish s s := by
  rw [Gives, execMxFinish_eq live body, if_pos (by simp [idle])]

section
variable (started : j.started = true)
include started

theorem gives_mxFinish (within : ¬(j.Checked ∧ (s.mxRun op j).PastLimit op j)) : Gives .mxFinish s ((s.mxRun op j).mxRetire op j) := by
  rw [← checked_iff, ← pastLimit_iff, ← Bool.and_eq_true] at within
  rw [Gives, execMxFinish_eq live body, if_neg (by simp [started]), if_pos (by rw [Bool.eq_false_of_not_eq_true within]; rfl)]

variable (checked : j.Checked) (past : (s.mxRun op j).PastLimit op j)
include checked past

theorem gives_mxFinish_again (again : (s.mxRun op j).RunsAgain op j) :
    Gives .mxFinish s (((s.mxRun op j).restoreTiles op j).modMx op.id fun x => { x with planes := 8 }) := by
  rw [Gives, execMxFinish_eq live body, if_neg (by simp [started]),
    if_neg (by rw [checked_iff.2 checked, pastLimit_iff.2 past]; decide), if_pos (runsAgain_iff.2 again)]

theorem gives_mxFinish_records (last : ¬(s.mxRun op j).RunsAgain op j) :
    Gives .mxFinish s (((s.mxRun op j).recordAllowance op j.lane).mxRetire op j) := by
  rw [Gives, execMxFinish_eq live body, if_neg (by simp [started]),
    if_neg (by rw [checked_iff.2 checked, pastLimit_iff.2 past]; decide), if_neg (mt runsAgain_iff.1 last)]

end

end

end

/-! ### Operations on a tile -/

/-- What an operation that has its turn, and whose places are present, does. -/
def TileJob.performed (s : State) (op : Op) (j : TileJob) : TileAct → State
  | .load _ =>
    match s.tileRead op j.places with
    | (u, .ok b) => (u.modTile op.team j.tile fun t => { t with elems := tileElems b 4096 }).opDone op.id
    | (u, .error e) => (u.engineEcc op j.lane (u.badSector e.1 e.2)).opDone op.id
  | .store fmt cols => (s.tileWrite op j.lane j.places ((s.tile op.team j.tile).stored fmt cols)).opDone op.id
  | .zero _ => (s.modTile op.team j.tile fun t => { t with elems := [], value := 0 }).opDone op.id
  | .setAll v => (s.modTile op.team j.tile fun t =>
      { t with limit := normAL16 (v.extractLsb' 16 16), value := normAL16 (v.extractLsb' 0 16) }).opDone op.id
  | .setLim v => (s.modTile op.team j.tile fun t => { t with limit := normAL16 (v.extractLsb' 16 16) }).opDone op.id
  | .get rd lanes => if s.resultWaits op then s else (s.writeResults { op with regs := lanes.map fun k =>
      ⟨k, rd, (s.tile op.team j.tile).limit ++ (s.tile op.team j.tile).value⟩ }).opDone op.id

section
variable {s : State} {op : Op} {j : TileJob} (live : s.liveOp s.args.a = some op) (body : op.body = .mangle j)
include live body

theorem gives_mangleOpPerform_waits (waits : s.mangleReady op = false) : Gives .mangleOpPerform s s := by
  show execMangleOpPerform s = _
  simp [execMangleOpPerform, live, body, waits]

theorem gives_mangleOpPerform (ready : s.mangleReady op = true) (present : ∀ p ∈ j.places, s.absentAt p.2.1 p.2.2 = none) :
    Gives .mangleOpPerform s (j.performed s op j.act) := by
  have none : (j.places.any fun p => (s.absentAt p.2.1 p.2.2).isSome) = false :=
    List.any_eq_false.2 fun p listed => by simp [present p listed]
  show execMangleOpPerform s = _
  simp only [execMangleOpPerform, live, body, ready, none]
  cases j.act <;> rfl

end

/-- Settles O47: a matrix operation by the cases of its start and of its finish, an operation on a tile by its kind. -/
theorem matrixEvents : Obligations.MatrixEvents := by
  refine ⟨fun s op j live body => ⟨gives_mxStart_waits live body, gives_mxStart live body, takeShadows_unchecked, takeShadows_checked,
    gives_mxFinish_idle live body, gives_mxFinish live body, gives_mxFinish_again live body, gives_mxFinish_records live body⟩,
    fun s op j live body => ⟨gives_mangleOpPerform_waits live body, fun ready empty => ?_, fun ready present => ?_⟩⟩
  · have performed := gives_mangleOpPerform live body ready (by simp [empty])
    refine ⟨fun i kind => ?_, fun v kind => ?_, fun v kind => ?_, fun rd lanes kind free => ?_⟩ <;> rw [kind] at performed
    · exact performed
    · simpa only [TileJob.performed, normAL16_eq] using performed
    · simpa only [TileJob.performed, normAL16_eq] using performed
    · exact performed.trans (congrArg Host.Outcome.next (if_neg (by simp [free])))
  · have performed := gives_mangleOpPerform live body ready present
    refine ⟨fun i u b kind read => ?_, fun fmt cols kind => ?_⟩ <;> rw [kind] at performed
    · simpa only [TileJob.performed, read] using performed
    · exact performed

end Sys2Proof.Machine

/-! Words on a handle: the word is one function of what the handle's judge answers (R320, R321). -/

namespace Sys2Proof.Machine

/-! ### Entries that go on when a handle's state changes -/

theorem calm_modEntry (s : State) (t w k : Nat) (f : Entry → Entry) : (s.modEntry t w k f).calm = s.calm :=
  calm_modWave _ _ _ _ fun _ => rfl

theorem calm_goOn (s : State) (t w : Nat) (e : Entry) : (s.goOn t w e).calm = s.calm := by
  have freed : (s.unpark t w e).calm = s.calm := calm_modEntry ..
  unfold State.goOn
  split
  · rfl
  · split
    · split
      · exact freed
      · exact (calm_modEntry ..).trans freed
    · exact freed

theorem calm_goOnWhere (s : State) (t : Nat) (p : Why → Bool) : (s.goOnWhere t p).calm = s.calm := by
  unfold State.goOnWhere
  rw [List.foldr_eq_foldl_reverse]
  exact calm_foldl (fun (s : State) (x : Nat × Entry) => s.goOn t x.1 x.2) (fun s x => calm_goOn s t x.1 x.2) _ s

theorem calm_modHandle (s : State) (tid h : Nat) (f : Handle → Handle) : (s.modHandle tid h f).calm = s.calm :=
  calm_modTeam _ _ _ fun _ => ⟨rfl, rfl⟩

theorem calm_settleHandle (s : State) (tid h : Nat) : (s.settleHandle tid h).calm = s.calm := by
  unfold State.settleHandle
  dsimp only
  split
  · exact (calm_goOnWhere ..).trans (calm_modHandle ..)
  · rfl

/-- A handle is given a value: the entries that wait for its state go on when it changes, and it settles. -/
def State.putHandle (s : State) (tid h : Nat) (y : Handle) : State :=
  (if (s.handle tid h).state = y.state then s.modHandle tid h fun _ => y
    else (s.modHandle tid h fun _ => y).wakeHandle tid h).settleHandle tid h

theorem calm_putHandle (s : State) (tid h : Nat) (y : Handle) : (s.putHandle tid h y).calm = s.calm := by
  unfold State.putHandle
  rw [calm_settleHandle]
  split
  · exact calm_modHandle ..
  · exact (calm_goOnWhere ..).trans (calm_modHandle ..)

/-! ### The word of one entry -/

section
variable {s : State} {m : Member} {r : Ref}

theorem entryMates_alone (alone : s.Alone m r) : s.entryMates r = memberRefs m := by
  obtain ⟨team, wave, lane⟩ := ref_of_activeOf (lead_active alone)
  have mine : (m.team == r.team && m.wave == r.wave && m.mask.getLsbD r.lane) = true := by simp [team, wave, lane]
  have found : [m].find? (fun m => m.team == r.team && m.wave == r.wave && m.mask.getLsbD r.lane) = some m :=
    List.find?_cons_of_pos mine
  unfold State.entryMates
  rw [alone.members, found]

/-- The active lanes of an entry among its lanes. -/
theorem active_of_mates (alone : s.Alone m r) : (memberRefs m).filter s.active.contains = s.activeOf m := by
  rw [active_alone alone]
  unfold State.activeOf
  exact List.filter_congr fun q listed => by simp [listed]

/-- Latches of an entry's lane. -/
def State.latchWhere (s : State) (r : Ref) : Option Nat → State
  | some b => s.latchRead r b
  | none => s

theorem calm_latchWhere (s : State) (r : Ref) (rb : Option Nat) : (s.latchWhere r rb).calm = s.calm := by
  cases rb with
  | none => rfl
  | some b => exact calm_latchRead ..

/-- The results of a word on a handle: every active lane of the entry gets the answer. -/
def handleResults (lanes : List Ref) (rd : Option Nat) (v : Option Word) : List (Ref × RegRes) :=
  match rd, v with
  | some d, some v => lanes.map fun q => (q, ⟨q.lane, d, v⟩)
  | _, _ => []

/-- No lane is among those that wait when none waits. -/
theorem filter_noParks (l : List Ref) : (l.filter fun r => !([] : List Ref).contains r) = l :=
  List.filter_eq_self.2 fun _ _ => rfl

/-- The new value of a handle, as the word gives it. -/
theorem putHandle_eq (s : State) (tid h : Nat) (y : Handle) :
    (if ((s.handle tid h).state != y.state) = true then (s.modHandle tid h fun _ => y).wakeHandle tid h
      else s.modHandle tid h fun _ => y).settleHandle tid h = s.putHandle tid h y := by
  unfold State.putHandle
  by_cases same : (s.handle tid h).state = y.state
  · rw [if_pos same, if_neg (by simp [same])]
  · rw [if_neg same, if_pos (by simpa using same)]

/-- The answers of the active lanes, lane by lane as the word makes them. -/
theorem lanes_answer (l : List Ref) (d : Nat) (v : Word) :
    (l.flatMap fun q => laneRegs q [(d, v)]) = l.map fun q => (q, ⟨q.lane, d, v⟩) :=
  (List.map_eq_flatMap ..).symm

section
variable {hn : Nat} {stops : List Nat} {rd rb : Option Nat} {wait : Bool} {judge : State → Ref → Judged} (ready : s.Ready)
  (alone : s.Alone m r) (room : s.cpWaits = false)
include ready alone room

theorem handleWord_go {y : Handle} {v : Option Word} (judged : judge s r = .go y v) :
    handleWord s hn stops rd wait rb judge = .next (((((s.putHandle r.team hn y).latchWhere r rb).postOps [(m.team, m.wave)] .cp
      rd.isSome (handleResults (s.activeOf m) rd v) [] fun _ => .shuttle [] (if wait then [hn] else []))).finish s.active []) := by
  have performs : s.bundle.members.filterMap s.performer = [r] := by simp [alone.members, performer_alone alone]
  rw [handleWord, whenIssued_ready ready]
  simp only [room, performs, Bool.false_eq_true, if_false, List.map_cons, List.map_nil, List.foldl_cons, List.foldl_nil, judged,
    filter_noParks, putHandle_eq, wavesOf_alone alone, entryMates_alone alone, active_of_mates alone, List.nil_append,
    faultLanes_nil]
  cases rb <;> cases rd <;> cases v <;>
    simp only [parkLanes_nil, State.latchWhere, handleResults, lanes_answer]

theorem handleWord_bad (judged : judge s r = .bad) :
    handleWord s hn stops rd wait rb judge = .next ((((s.latchWhere r rb).faultLanes [{ r, cause := .layout }]).postOps
      (wavesOf s.active) .cp rd.isSome [] [] fun _ => .shuttle [] (if wait then [hn] else [])).finish s.active []) := by
  have performs : s.bundle.members.filterMap s.performer = [r] := by simp [alone.members, performer_alone alone]
  rw [handleWord, whenIssued_ready ready]
  simp only [room, performs, Bool.false_eq_true, if_false, List.map_cons, List.map_nil, List.foldl_cons, List.foldl_nil, judged,
    filter_noParks, List.nil_append]
  cases rb <;> simp only [parkLanes_nil, State.latchWhere]

/-- A word that changes its handle and answers nothing. -/
theorem handleWord_ends {i : Instr} {y : Handle} (word : exec i s = handleWord s hn stops none wait rb judge)
    (judged : judge s r = .go y none) :
    Ends i s (((s.putHandle r.team hn y).latchWhere r rb).addOp m.team m.wave .cp false [] [] []
      (.shuttle [] (if wait then [hn] else []))) :=
  ends_of_finish (ready.of_calm ((calm_addOp ..).trans ((calm_latchWhere ..).trans (calm_putHandle ..))))
    ⟨s.active, [], word.trans (handleWord_go ready alone room judged)⟩

/-- A word whose answer every active lane gets. -/
theorem handleWord_answers {i : Instr} {y : Handle} {d : Nat} {v : Word}
    (word : exec i s = handleWord s hn stops (some d) false none judge) (judged : judge s r = .go y (some v)) :
    Ends i s ((s.putHandle r.team hn y).addOp m.team m.wave .cp true ((s.activeOf m).map fun q => ⟨q.lane, d, v⟩) [] []
      (.shuttle [] [])) := by
  refine ends_of_finish (ready.of_calm ((calm_addOp ..).trans (calm_putHandle ..))) ⟨s.active, [], ?_⟩
  rw [word, handleWord_go ready alone room judged]
  have mine : ((handleResults (s.activeOf m) (some d) (some v)).filter fun x => x.1.team == m.team && x.1.wave == m.wave) =
      handleResults (s.activeOf m) (some d) (some v) := by
    refine List.filter_eq_self.2 fun x listed => ?_
    obtain ⟨q, active, rfl⟩ := List.mem_map.1 listed
    obtain ⟨team, wave, -⟩ := ref_of_activeOf active
    simp [team, wave]
  have answers : (handleResults (s.activeOf m) (some d) (some v)).map (·.2) = (s.activeOf m).map fun q => ⟨q.lane, d, v⟩ := by
    simp [handleResults]
  simp only [State.postOps, State.postOpsP, List.foldl_cons, List.foldl_nil, mine, answers, List.filter_nil, List.map_nil]
  rfl

/-- A word that raises LAYOUT. -/
theorem gives_handleWord_bad {i : Instr} (word : exec i s = handleWord s hn stops rd wait rb judge) (judged : judge s r = .bad) :
    Gives i s ((((s.latchWhere r rb).faultLanes [{ r, cause := .layout }]).postOps (wavesOf s.active) .cp rd.isSome [] [] fun _ =>
      .shuttle [] (if wait then [hn] else [])).finish s.active []) :=
  word.trans (handleWord_bad ready alone room judged)
end

end

/-! ### What each word judges -/

/-- OBRES: its granules and bytes are judged first, then the handle, then the core's granules. -/
def judgeObres (o : FA) (s : State) (r : Ref) : Judged :=
  let g := ((s.lane r).gr o.rb.toNat).toNat
  let e := (s.lane r).gr (o.rb.toNat + 1)
  let fmt := bitsOf o.sub.toNat 0 3
  let off := bitsOf o.sub.toNat 5 6
  let x := s.handle r.team o.h.toNat
  if g = 0 ∨ 64 < g ∨ g * 4096 < e.toNat ∨ (blockedFmt fmt = true ∧ g ≤ off) then .bad
  else if x.state ≠ 0 then .park
  else if s.granules (s.team r.team).die (s.team r.team).core + g ≤ 64 then
    .go { Handle.blank with state := 1, fmt, baxis := o.sub.getLsbD 3, gcnt := g, scoff := off, pend := e } (some 1)
  else .go x (some 0)

/-- OBREL and OBSTATE.refill: a full handle takes `now`, or `later` while multiplications read it. -/
def judgeFull (h : Nat) (now later : State → Ref → Handle) (s : State) (r : Ref) : Judged :=
  let x := s.handle r.team h
  if x.state = 0 then .bad
  else if x.state ≠ 2 then .park
  else if !s.mxHolds r.team h then .go (now s r) none
  else .go (later s r) none

/-- OBSTATE.full: a filling handle is marked, and a full one is left as it is. -/
def judgeMark (h : Nat) (s : State) (r : Ref) : Judged :=
  let x := s.handle r.team h
  if x.state = 0 then .bad
  else if x.state = 3 then .park
  else if x.state = 2 then .go x none
  else .go { x with full := true } none

theorem exec_obres (s : State) (o : FA) :
    exec (.obres o) s = handleWord s o.h.toNat [1, 2, 3] (some o.rd.toNat) false none (judgeObres o) := rfl

theorem exec_obrel (s : State) : exec .obrel s = handleWord s (faOfWord s.word).h.toNat [1, 3] none false none
    (judgeFull (faOfWord s.word).h.toNat (fun _ _ => Handle.blank)
      fun u r => { u.handle r.team (faOfWord s.word).h.toNat with state := 3, next := true }) := rfl

theorem exec_obstateRefill (s : State) (o : FA) :
    exec (.obstateRefill o) s = handleWord s o.h.toNat [1, 3] none false (some o.rb.toNat)
      (judgeFull o.h.toNat (fun u r => { u.handle r.team o.h.toNat with state := 1, pend := u.src r .i32 o.rb 0, plf := 8 })
        fun u r => { u.handle r.team o.h.toNat with state := 3, next := false, refill := u.src r .i32 o.rb 0 }) := rfl

theorem exec_obstateFull (s : State) : exec .obstateFull s = handleWord s (faOfWord s.word).h.toNat [3] none true none
    (judgeMark (faOfWord s.word).h.toNat) := rfl

theorem exec_obstateRead (s : State) (o : FA) : exec (.obstateRead o) s = handleWord s o.h.toNat [] (some o.rd.toNat) false none
    fun u r => .go (u.handle r.team o.h.toNat) (some (u.handle r.team o.h.toNat).image) := rfl

theorem exec_obstatePend (s : State) (o : FA) : exec (.obstatePend o) s = handleWord s o.h.toNat [] (some o.rd.toNat) false none
    fun u r => .go (u.handle r.team o.h.toNat) (some (u.handle r.team o.h.toNat).pend) := rfl

theorem judgeFull_now {h : Nat} {now later : State → Ref → Handle} {s : State} {r : Ref} (full : (s.handle r.team h).state = 2)
    (idle : s.mxHolds r.team h = false) : judgeFull h now later s r = .go (now s r) none := by
  simp [judgeFull, full, idle]

theorem judgeFull_later {h : Nat} {now later : State → Ref → Handle} {s : State} {r : Ref} (full : (s.handle r.team h).state = 2)
    (busy : s.mxHolds r.team h = true) : judgeFull h now later s r = .go (later s r) none := by
  simp [judgeFull, full, busy]

theorem judgeMark_full {h : Nat} {s : State} {r : Ref} (full : (s.handle r.team h).state = 2) :
    judgeMark h s r = .go (s.handle r.team h) none := by
  simp [judgeMark, full]

theorem judgeMark_filling {h : Nat} {s : State} {r : Ref} (filling : (s.handle r.team h).state = 1) :
    judgeMark h s r = .go { s.handle r.team h with full := true } none := by
  simp [judgeMark, filling]

section
variable {s : State} {o : FA} {r : Ref} {g : Nat} (free : (s.handle r.team o.h.toNat).state = 0)
  (granules : ((s.lane r).gr o.rb.toNat).toNat = g) (some : 0 < g) (bytes : ((s.lane r).gr (o.rb.toNat + 1)).toNat ≤ g * 4096)
  (scales : blockedFmt (bitsOf o.sub.toNat 0 3) = true → bitsOf o.sub.toNat 5 6 < g)
include free granules some bytes scales

/-- OBRES of a free handle is judged by the core's granules alone, when it asks for what a handle can have. -/
theorem judgeObres_free (most : g ≤ 64) : judgeObres o s r =
    if s.granules (s.team r.team).die (s.team r.team).core + g ≤ 64 then
      .go { Handle.blank with state := 1, fmt := bitsOf o.sub.toNat 0 3, baxis := o.sub.getLsbD 3, gcnt := g,
                              scoff := bitsOf o.sub.toNat 5 6, pend := (s.lane r).gr (o.rb.toNat + 1) } (Option.some 1)
    else .go (s.handle r.team o.h.toNat) (Option.some 0) := by
  have fine : ¬ (g = 0 ∨ 64 < g ∨ g * 4096 < ((s.lane r).gr (o.rb.toNat + 1)).toNat ∨
      (blockedFmt (bitsOf o.sub.toNat 0 3) = true ∧ g ≤ bitsOf o.sub.toNat 5 6)) := by
    rintro (none | much | short | ⟨blocked, outside⟩)
    · omega
    · omega
    · omega
    · exact absurd (scales blocked) (by omega)
  unfold judgeObres
  simp only [granules]
  rw [if_neg fine, if_neg (not_not.2 free)]
end

/-! ### The obligation -/

/-- Settles O44: each clause is what the word's judge answers for the state of its handle. -/
theorem handleWords : Obligations.HandleWords := by
  unfold Obligations.HandleWords
  intro s o m r ready alone room x put ends layout h g e fmt off used w n
  have puts (k : BitVec 5) (y : Handle) : put s k y = s.putHandle r.team k.toNat y := rfl
  simp only [puts, ends, layout]
  refine ⟨fun free some bytes scales (fits : used + g ≤ 64) => ?_,
    fun free some most bytes scales full => ?_, ?_, ?_, fun full idle => ?_,
    fun full busy => ?_, fun full idle => ?_, fun full busy => ?_, fun full => ?_, fun filling => ?_, fun bad => ?_,
    fun free => ⟨?_, ?_⟩, fun free => ?_⟩
  · exact handleWord_answers ready alone room (exec_obres s o)
      ((judgeObres_free free rfl some bytes scales (by omega)).trans (if_pos fits))
  · exact handleWord_answers ready alone room (exec_obres s o)
      ((judgeObres_free free rfl some bytes scales most).trans (if_neg (Nat.not_le.2 full)))
  · exact handleWord_answers ready alone room (exec_obstateRead s o) rfl
  · exact handleWord_answers ready alone room (exec_obstatePend s o) rfl
  · exact (handleWord_ends ready alone room (exec_obrel s) (judgeFull_now full idle) :)
  · exact (handleWord_ends ready alone room (exec_obrel s) (judgeFull_later full busy) :)
  · exact (handleWord_ends ready alone room (exec_obstateRefill s o) (judgeFull_now full idle) :)
  · exact (handleWord_ends ready alone room (exec_obstateRefill s o) (judgeFull_later full busy) :)
  · exact (handleWord_ends ready alone room (exec_obstateFull s) (judgeMark_full full) :)
  · exact (handleWord_ends ready alone room (exec_obstateFull s) (judgeMark_filling filling) :)
  · exact (gives_handleWord_bad ready alone room (exec_obres s o) (if_pos bad) :)
  · exact (gives_handleWord_bad ready alone room (exec_obrel s) (if_pos free) :)
  · exact (gives_handleWord_bad ready alone room (exec_obstateFull s) (if_pos free) :)
  · exact (gives_handleWord_bad ready alone room (exec_obstateRefill s o) (if_pos free) :)

end Sys2Proof.Machine

/-! Matrix words of one entry: a word that fits captures its job, and one that does not raises LAYOUT (R330 to R333, R344 to
R347). -/

namespace Sys2Proof.Machine

/-- Rows of A that a shape needs (R331, R344). -/
def aNeed (shape : Nat) : Nat := if pairedShape shape then 128 else (shapeMN shape).1

/-- The integer form of a word of A type `aty` on handle `x` (R338). -/
def intForm (x : Handle) (aty : Nat) (o : FX) : Bool := aty == 0 && o.ssel == 2 && x.fmt == 0

/-- The tile of a team has the word's type, or the word sets it (R333). -/
def State.mxTyped (s : State) (aty : Nat) (o : FX) (r : Ref) (t : Nat) : Prop :=
  o.am.toNat = 1 ∨ (s.tile t o.tile.toNat).int = intForm (s.handle r.team o.bh.toNat) aty o

/-- R347 as a whole: the handle, the type of the tiles, the latch and the partner let the word run. -/
structure State.MxFit (s : State) (aty : Nat) (o : FX) (r : Ref) : Prop where
  fits : mxFits (s.handle r.team o.bh.toNat) aty o = true
  typed : s.mxTyped aty o r r.team
  latch : ∀ l, (s.team r.team).latch = some l → l.aty = aty ∧ aNeed o.shape.toNat ≤ l.rows
  mate : pairedShape o.shape.toNat = true → ∃ p, s.mxMate r.team r.wave o.tile.toNat = some p ∧ s.mxTyped aty o r p

/-- The job that a word captures, with its rows and scales (R330 to R333). -/
def State.mxJobOf (s : State) (aty : Nat) (o : FX) (r : Ref) (rows : List (List Word)) (scales : List (Option Nat)) : MxJob :=
  { lane := r.lane, aty, m := (shapeMN o.shape.toNat).1, n := (shapeMN o.shape.toNat).2, handle := o.bh.toNat,
    off := o.boff.toNat * 4096, tile := o.tile.toNat, am := o.am.toNat, rows, scales,
    mate := if pairedShape o.shape.toNat then s.mxMate r.team r.wave o.tile.toNat else none,
    int := intForm (s.handle r.team o.bh.toNat) aty o, planes := o.pl.toNat, started := false, shadows := [], alw := false }

/-- A rows read from the registers, the partner's behind a team's own (R331, R344). -/
def State.mxRegRows (s : State) (o : FX) (r : Ref) : List (List Word) :=
  s.aRows r.team r.wave (shapeMN o.shape.toNat).1 o.abase.toNat ++
    match if pairedShape o.shape.toNat then s.mxMate r.team r.wave o.tile.toNat else none with
    | some p => s.aRows p r.wave 64 o.abase.toNat
    | none => []

/-- Row scales read from the registers. -/
def State.mxRegScales (s : State) (o : FX) (r : Ref) : List (Option Nat) :=
  s.aScales r.team r.wave (shapeMN o.shape.toNat).1 o ++
    match if pairedShape o.shape.toNat then s.mxMate r.team r.wave o.tile.toNat else none with
    | some p => s.aScales p r.wave 64 o
    | none => []

/-- What the word checks, as the model computes it. -/
def State.mxChecks (s : State) (aty : Nat) (o : FX) (r : Ref) : Bool :=
  let typed := fun (t : Nat) => o.am.toNat == 1 || (s.tile t o.tile.toNat).int == intForm (s.handle r.team o.bh.toNat) aty o
  mxFits (s.handle r.team o.bh.toNat) aty o && typed r.team &&
    (match (s.team r.team).latch with
      | some l => l.aty == aty && decide (aNeed o.shape.toNat ≤ l.rows)
      | none => true) &&
    match s.mxMate r.team r.wave o.tile.toNat with
    | some p => !pairedShape o.shape.toNat || typed p
    | none => !pairedShape o.shape.toNat

section
variable {s : State} {aty : Nat} {o : FX} {r : Ref}

theorem mxChecks_iff : s.mxChecks aty o r = true ↔ s.MxFit aty o r := by
  have mate : ((match s.mxMate r.team r.wave o.tile.toNat with
      | some p => !pairedShape o.shape.toNat || (o.am.toNat == 1 ||
          (s.tile p o.tile.toNat).int == intForm (s.handle r.team o.bh.toNat) aty o)
      | none => !pairedShape o.shape.toNat) = true) ↔
      (pairedShape o.shape.toNat = true → ∃ p, s.mxMate r.team r.wave o.tile.toNat = some p ∧ s.mxTyped aty o r p) := by
    cases s.mxMate r.team r.wave o.tile.toNat with
    | none => simp
    | some p => by_cases pair : pairedShape o.shape.toNat = true <;> simp [pair, State.mxTyped]
  have latch : ((match (s.team r.team).latch with
      | some l => l.aty == aty && decide (aNeed o.shape.toNat ≤ l.rows)
      | none => true) = true) ↔ ∀ l, (s.team r.team).latch = some l → l.aty = aty ∧ aNeed o.shape.toNat ≤ l.rows := by
    cases (s.team r.team).latch with
    | none => simp
    | some l => simp
  have typed : (o.am.toNat == 1 || (s.tile r.team o.tile.toNat).int == intForm (s.handle r.team o.bh.toNat) aty o) = true ↔
      s.mxTyped aty o r r.team := by simp [State.mxTyped]
  unfold State.mxChecks
  simp only [Bool.and_eq_true, mate, latch, typed]
  exact ⟨fun ⟨⟨⟨f, t⟩, l⟩, p⟩ => ⟨f, t, l, p⟩, fun ⟨f, t, l, p⟩ => ⟨⟨⟨f, t⟩, l⟩, p⟩⟩

theorem mxJob_refused (unfit : ¬ s.MxFit aty o r) : s.mxJob aty o r = none := by
  have checks : (!s.mxChecks aty o r) = true := by simpa using mt mxChecks_iff.1 unfit
  exact if_pos checks

/-- A word that fits keeps a held latch where it names it, and captures its rows from it. -/
theorem mxJob_latched {l : Latch} (fit : s.MxFit aty o r) (held : (s.team r.team).latch = some l) :
    s.mxJob aty o r = some (s.mxJobOf aty o r (l.data.take (aNeed o.shape.toNat)) (l.scales.take (aNeed o.shape.toNat)),
      if o.ru then some l else none) := by
  have checks : ¬ (!s.mxChecks aty o r) = true := by simpa using mxChecks_iff.2 fit
  refine (if_neg checks).trans ?_
  rw [held]
  cases o.ru <;> rfl

/-- Without a latch it reads them from the registers, and makes a latch of them where it names one. -/
theorem mxJob_unlatched (fit : s.MxFit aty o r) (held : (s.team r.team).latch = none) :
    s.mxJob aty o r = some (s.mxJobOf aty o r (s.mxRegRows o r) (s.mxRegScales o r),
      if o.ru then some ⟨aty, aNeed o.shape.toNat, s.mxRegRows o r, s.mxRegScales o r⟩ else none) := by
  have checks : ¬ (!s.mxChecks aty o r) = true := by simpa using mxChecks_iff.2 fit
  refine (if_neg checks).trans ?_
  rw [held]
  cases o.ru <;> rfl

/-! ### The word -/

/-- The latch and the tiles' type as the word leaves them when it issues (R332, R333). -/
def State.mxTake (s : State) (r : Ref) (j : MxJob) (left : Option Latch) : State :=
  let u := s.modTeam r.team fun t => { t with latch := left }
  if j.am = 1 then (j.teams r.team).foldl (fun u t => u.modTile t j.tile fun x => { x with int := j.int }) u else u

theorem calm_modTile (s : State) (t n : Nat) (f : Tile → Tile) : (s.modTile t n f).calm = s.calm :=
  calm_modTeam _ _ _ fun _ => ⟨rfl, rfl⟩

theorem calm_mxTake (s : State) (r : Ref) (j : MxJob) (left : Option Latch) : (s.mxTake r j left).calm = s.calm := by
  have latched : (s.modTeam r.team fun t => { t with latch := left }).calm = s.calm := calm_modTeam _ _ _ fun _ => ⟨rfl, rfl⟩
  unfold State.mxTake
  dsimp only
  split
  · exact (calm_foldl (fun (u : State) t => u.modTile t j.tile fun x => { x with int := j.int })
      (fun _ _ => calm_modTile ..) _ _).trans latched
  · exact latched

/-- No operation is issued by that, and no memory changed. -/
theorem mxTake_frame (s : State) (r : Ref) (j : MxJob) (left : Option Latch) :
    (s.mxTake r j left).ops = s.ops ∧ (s.mxTake r j left).mem = s.mem := by
  unfold State.mxTake
  dsimp only
  split
  · refine List.foldlRecOn (motive := fun u => u.ops = s.ops ∧ u.mem = s.mem) _
      (fun (u : State) t => u.modTile t j.tile fun x => { x with int := j.int })
      (b := s.modTeam r.team fun t => { t with latch := left }) ⟨rfl, rfl⟩ ?_
    exact fun _ same _ _ => same
  · exact ⟨rfl, rfl⟩

theorem postEach_none (s : State) (w : Nat × Nat) (c : Ctr) (b : Bool) : s.postEach [w] c b [] = s.emptyOps [w] c := rfl

section
variable {m : Member} (ready : s.Ready) (alone : s.Alone m r) (room : s.counterFull .mx = false)
  (filling : (s.handle r.team o.bh.toNat).state ≠ 1) (draining : (s.handle r.team o.bh.toNat).state ≠ 3)
include ready alone room filling draining

theorem mxWord_captures {j : MxJob} {left : Option Latch} (job : s.mxJob aty o r = some (j, left)) :
    mxWord s aty o = .next (((s.mxTake r j left).addOp m.team m.wave .mx false [] [] [] (.mx j)).finish s.active []) := by
  have open' : ¬ ((s.handle r.team o.bh.toNat).state = 1 ∨ (s.handle r.team o.bh.toNat).state = 3) := by simp [filling, draining]
  rw [mxWord, whenIssued_ready ready]
  simp only [State.mxWaits, room, Bool.false_eq_true, if_false, performers_alone alone, List.foldl_cons, List.foldl_nil, open', job,
    filter_noParks, parkLanes_nil, faultLanes_nil, List.nil_append, postEach_one _ _ _ _ _ alone]
  rfl

theorem mxWord_refused (job : s.mxJob aty o r = none) :
    mxWord s aty o =
      .next (((s.faultLanes [{ r, cause := .layout }]).emptyOps (wavesOf s.active) .mx).finish s.active []) := by
  have open' : ¬ ((s.handle r.team o.bh.toNat).state = 1 ∨ (s.handle r.team o.bh.toNat).state = 3) := by simp [filling, draining]
  rw [mxWord, whenIssued_ready ready]
  simp only [State.mxWaits, room, Bool.false_eq_true, if_false, performers_alone alone, List.foldl_cons, List.foldl_nil, open', job,
    filter_noParks, parkLanes_nil, List.nil_append, wavesOf_alone alone, postEach_none]

/-- What the word does when it fits. -/
theorem mxWord_ends {i : Instr} {j : MxJob} {left : Option Latch} (word : exec i s = mxWord s aty o)
    (job : s.mxJob aty o r = some (j, left)) :
    Ends i s ((s.mxTake r j left).addOp m.team m.wave .mx false [] [] [] (.mx j)) :=
  ends_of_finish (ready.of_calm ((calm_addOp ..).trans (calm_mxTake ..)))
    ⟨s.active, [], word.trans (mxWord_captures ready alone room filling draining job)⟩

/-- The one operation that such a word leaves. -/
theorem mxWord_posts {i : Instr} {j : MxJob} {left : Option Latch} (word : exec i s = mxWord s aty o)
    (job : s.mxJob aty o r = some (j, left)) :
    ∃ t op, exec i s = .next t ∧ t.ops = s.ops ++ [op] ∧ op.body = .mx j ∧ op.team = r.team ∧ op.wave = r.wave ∧
      op.ctr = .mx ∧ op.done = false ∧ t.mem = s.mem := by
  obtain ⟨team, wave, -⟩ := ref_of_activeOf (lead_active alone)
  obtain ⟨ops, mem⟩ := mxTake_frame s r j left
  let u := (s.mxTake r j left).addOp m.team m.wave .mx false [] [] [] (.mx j)
  have kept := still_finish (ready.of_calm ((calm_addOp ..).trans (calm_mxTake ..)) : u.Ready).toQuiet s.active []
  exact ⟨_, _, word.trans (mxWord_captures ready alone room filling draining job),
    (ops_of_still kept).trans ((addOp_ops ..).trans (by rw [ops])), rfl, team.symm, wave.symm, rfl, rfl,
    (mem_of_still kept).trans mem⟩
end

end

/-! ### The statement's own names -/

theorem pairedShape_iff {o : FX} : pairedShape o.shape.toNat = true ↔ o.shape = 5 ∨ o.shape = 6 := by
  simp [pairedShape, ← BitVec.toNat_inj]

theorem sets_iff {o : FX} : o.am.toNat = 1 ↔ o.am = 1 := by simp [← BitVec.toNat_inj]

theorem aNeed_eq (o : FX) : aNeed o.shape.toNat = if o.shape = 5 ∨ o.shape = 6 then 128 else (shapeMN o.shape.toNat).1 := by
  unfold aNeed
  simp only [pairedShape_iff]

theorem intForm_eq (x : Handle) (aty : Nat) (o : FX) : intForm x aty o = decide (aty = 0 ∧ o.ssel = 2 ∧ x.fmt = 0) := by
  unfold intForm
  simp only [Bool.decide_and, Bool.and_assoc, beq_eq_decide]

theorem mxFits_iff {x : Handle} {aty : Nat} {o : FX} : mxFits x aty o = true ↔
    x.state ≠ 0 ∧ (if aty < 3 then x.fmt = 0 ∨ x.fmt = 3 ∨ x.fmt = 4 else x.fmt = 1) ∧ (x.fmt = 3 → x.baxis = true) ∧
      (o.pl.toNat < 8 → x.fmt = 3) ∧ o.pl.toNat ≤ x.plf ∧ o.boff.toNat * 4096 + 64 * (shapeMN o.shape.toNat).2 ≤ x.area := by
  unfold mxFits
  split <;> simp [and_assoc, or_assoc, imp_iff_not_or]

theorem mxTyped_iff {s : State} {aty : Nat} {o : FX} {r : Ref} {t : Nat} : s.mxTyped aty o r t ↔
    o.am = 1 ∨ (s.tile t o.tile.toNat).int = decide (aty = 0 ∧ o.ssel = 2 ∧ (s.handle r.team o.bh.toNat).fmt = 0) := by
  unfold State.mxTyped
  rw [sets_iff, intForm_eq]

/-- The state a word leaves behind, in the statement's words. -/
theorem mxTake_jobOf (s : State) (aty : Nat) (o : FX) (r : Ref) (rows : List (List Word)) (scales : List (Option Nat))
    (left : Option Latch) : s.mxTake r (s.mxJobOf aty o r rows scales) left =
      if o.am = 1 then ((s.mxJobOf aty o r rows scales).teams r.team).foldl
          (fun u t => u.modTile t o.tile.toNat fun y =>
            { y with int := decide (aty = 0 ∧ o.ssel = 2 ∧ (s.handle r.team o.bh.toNat).fmt = 0) })
          (s.modTeam r.team fun t => { t with latch := left })
        else s.modTeam r.team fun t => { t with latch := left } := by
  rw [← intForm_eq]
  by_cases sets : o.am = 1
  · exact (if_pos (sets_iff.2 sets)).trans (if_pos sets).symm
  · exact (if_neg (mt sets_iff.1 sets)).trans (if_neg sets).symm

/-- Without a pair every row is read from the registers of the word's own wave, two rows to a lane (R331). -/
theorem mxRegRows_getD {s : State} {o : FX} {r : Ref} {k : Nat} (single : ¬ pairedShape o.shape.toNat = true)
    (row : k < (shapeMN o.shape.toNat).1) : (s.mxRegRows o r).getD k [] = (List.range 16).map fun i =>
      if (s.lane ⟨r.team, r.wave, k / 2⟩).absent then 0
      else (s.lane ⟨r.team, r.wave, k / 2⟩).gr (o.abase.toNat + 16 * (k % 2) + i) := by
  unfold State.mxRegRows
  rw [if_neg single]
  simp [State.aRows, List.getD_eq_getElem?_getD, row]

/-! ### The obligations -/

/-- Settles O46: a word that R347 accepts captures its job, and every other raises LAYOUT. -/
theorem matrixWords : Obligations.MatrixWords := by
  unfold Obligations.MatrixWords
  intro s o m r ready alone room x T rows cols paired need held form
  constructor
  · intro full planes sliced axis area long completes
    have filling : x.state ≠ 1 := by simp [full]
    have draining : x.state ≠ 3 := by simp [full]
    have all (i : Instr) (aty : Nat) (word : exec i s = mxWord s aty o) : completes i aty := by
      intro fmt ofType own mates
      have fit : s.MxFit aty o r := by
        refine ⟨mxFits_iff.2 ⟨by simp [x] at full; simp [full], fmt, axis, sliced, planes, area⟩, mxTyped_iff.2 own,
          fun l is => ⟨ofType l is, ?_⟩, fun pair => ?_⟩
        · rw [aNeed_eq]; exact long l is
        · obtain ⟨p, mate, other⟩ := mates (pairedShape_iff.1 pair)
          exact ⟨p, mate, mxTyped_iff.2 other⟩
      have mate (rows : List (List Word)) (scales : List (Option Nat)) :
          (paired → (s.mxJobOf aty o r rows scales).mate = s.mxMate r.team r.wave T) ∧
          (¬ paired → (s.mxJobOf aty o r rows scales).mate = none) :=
        ⟨fun pair => if_pos (pairedShape_iff.2 pair), fun single => if_neg (mt pairedShape_iff.1 single)⟩
      have ends {rows scales left} (job : s.mxJob aty o r = some (s.mxJobOf aty o r rows scales, left)) :=
        mxTake_jobOf s aty o r rows scales left ▸ mxWord_ends ready alone room filling draining word job
      have needs : need = aNeed o.shape.toNat := (aNeed_eq o).symm
      cases latched : held with
      | some l =>
        refine ⟨_, _, ends (mxJob_latched fit latched), rfl, rfl, rfl, rfl, rfl, rfl, rfl, rfl, intForm_eq .., rfl, rfl, rfl,
          (mate _ _).1, (mate _ _).2, fun k is => ?_, fun none => ?_, fun unused => by simp [unused]⟩
        · cases is
          rw [needs]
          exact ⟨rfl, rfl, fun used => by simp [used]⟩
        · cases none
      | none =>
        refine ⟨_, _, ends (mxJob_unlatched fit latched), rfl, rfl, rfl, rfl, rfl, rfl, rfl, rfl, intForm_eq .., rfl, rfl, rfl,
          (mate _ _).1, (mate _ _).2, fun k is => ?_, fun _ => ⟨fun used => ?_, fun single k row => ?_⟩,
          fun unused => by simp [unused]⟩
        · cases is
        · rw [if_pos used, aNeed_eq]; rfl
        · exact mxRegRows_getD (mt pairedShape_iff.1 single) row
    exact ⟨all _ _ rfl, all _ _ rfl, all _ _ rfl, all _ _ rfl, all _ _ rfl⟩
  · intro filling draining layout
    have all (i : Instr) (aty : Nat) (word : exec i s = mxWord s aty o) : layout i aty := by
      intro unfit
      refine word.trans (mxWord_refused ready alone room filling draining (mxJob_refused fun fit => ?_))
      obtain ⟨free, fmt, axis, sliced, planes, area⟩ := mxFits_iff.1 fit.fits
      rcases unfit with h | h | h | h | h | h | h | ⟨l, is, h⟩ | ⟨pair, alone⟩
      · exact free h
      · exact h fmt
      · exact absurd ((axis h.1).symm.trans h.2) (by simp)
      · exact h.2 (sliced h.1)
      · exact absurd planes (Nat.not_le.2 h)
      · exact absurd area (Nat.not_le.2 h)
      · exact (mxTyped_iff.1 fit.typed).elim h.1 h.2
      · obtain ⟨type, long⟩ := fit.latch l is
        rw [aNeed_eq] at long
        exact h.elim (· type) (Nat.not_lt.2 long)
      · obtain ⟨p, mate, -⟩ := fit.mate (pairedShape_iff.2 pair)
        exact absurd (mate.symm.trans alone) (by simp)
    exact ⟨all _ _ rfl, all _ _ rfl, all _ _ rfl, all _ _ rfl, all _ _ rfl⟩

/-- Settles O60: without a latch an unpaired word that R347 accepts leaves one operation behind all others. -/
theorem matrixWordsComplete : Obligations.MatrixWordsComplete := by
  unfold Obligations.MatrixWordsComplete
  intro s o m r ready alone room x unlatched five six full planes sliced axis area completes
  have filling : x.state ≠ 1 := by simp [full]
  have draining : x.state ≠ 3 := by simp [full]
  have single : ¬ pairedShape o.shape.toNat = true := fun pair => (pairedShape_iff.1 pair).elim five six
  have all (i : Instr) (aty : Nat) (word : exec i s = mxWord s aty o) : completes i aty := by
    intro fmt own
    have fit : s.MxFit aty o r :=
      ⟨mxFits_iff.2 ⟨by simp [x] at full; simp [full], fmt, axis, sliced, planes, area⟩, mxTyped_iff.2 own,
        fun l is => absurd (is.symm.trans unlatched) (by simp), fun pair => absurd pair single⟩
    obtain ⟨t, op, gives, ops, body, opTeam, opWave, ctr, running, mem⟩ :=
      mxWord_posts ready alone room filling draining word (mxJob_unlatched fit unlatched)
    exact ⟨t, op, _, gives, ops, body, opTeam, opWave, ctr, running, rfl, rfl, rfl, rfl, rfl, rfl, if_neg single, mem⟩
  exact ⟨all _ _ rfl, all _ _ rfl, all _ _ rfl, all _ _ rfl, all _ _ rfl⟩

end Sys2Proof.Machine

/-! A sample's read of memory that its die does not hold goes through the hub, and takes in what stands on the die's link (R500): a
grid copy that waits there comes to the exchange while another copy is sampled, and takes a slot when the sampling ends (R381). -/

namespace Sys2Proof.Machine

/-- An open frame of one pixel with one sample, whose sample buffer is the first page of memory. -/
def onePixelFrame : Frame :=
  { record := leBytes 76 0 ++ [1] ++ leBytes 179 0, pattern := [], owners := [], root := 0,
    ranges := [{ base := 0, len := 65536, w := true, pages := [0] }], seq := 0, dataErr := false, doneTiles := [], moves := [],
    handoff := none, ending := none, crec := none }

/-- A vertex that does not move, with reciprocal depth -1. -/
def stillVertex (x y : Word) : Option (List Word) := some [x, y, 0xBF800000, x, y, 0xBF800000, 0, 0]

/-- One micropolygon with the corners (±1, ±1), which covers the pixel's sample and is behind what the buffer holds. -/
def coveringCopy : GridCopy :=
  { ticket := 0, nu := 2, nv := 2, opq := true, oi := false, tiles := [0], resv := false, place := 0,
    verts := [stillVertex 0xBF800000 0xBF800000, stillVertex 0x3F800000 0xBF800000,
              stillVertex 0xBF800000 0x3F800000, stillVertex 0x3F800000 0x3F800000] }

/-- A copy without vertices. -/
def emptyCopy : GridCopy :=
  { ticket := 0, nu := 1, nv := 1, opq := true, oi := false, verts := [], tiles := [0], resv := false, place := 0 }

/-- Die 0 has one copy in its Basket and another on its link. -/
def samplingState : State :=
  (State.reset.modHub fun h => { h with frame := some onePixelFrame }).modDie 0 fun d =>
    { d with basket := [coveringCopy], inbound := [.copy emptyCopy] }

/-- The Basket's copy is the one to be sampled. -/
theorem samplingState_eligible : (samplingState.die 0).eligible onePixelFrame = some coveringCopy := by decide +kernel

/-- Sampling alone leaves the copy of the link in the exchange. -/
theorem sampleCopy_exchange :
    (((samplingState.modDie 0 fun d => { d with basket := d.basket.erase coveringCopy }).sampleCopy 0 onePixelFrame
      coveringCopy).die 0).exchange = [emptyCopy] := by decide +kernel

/-- The exchange of die 0 after a step. -/
def exchangeAfter : Out → List GridCopy
  | .next t => (t.die 0).exchange
  | _ => []

/-- The event places it. -/
theorem copySampling_exchange : exchangeAfter (exec .copySampling samplingState) = [] := by
  change exchangeAfter (execCopySampling samplingState) = []
  decide +kernel

/-- Refutes O50: when the Basket's copy is sampled, the read of its sample's entry takes in the copy on the die's link, which the event
then moves from the exchange into the Basket; the statement's state leaves it in the exchange. -/
theorem not_graphicsEvents : ¬ Obligations.GraphicsEvents := by
  unfold Obligations.GraphicsEvents
  intro ⟨_, _, copies, _⟩
  obtain ⟨_, sampling, _⟩ := copies samplingState onePixelFrame [] rfl (by decide +kernel) rfl rfl rfl
  have result : exec .copySampling samplingState = _ := sampling coveringCopy samplingState_eligible rfl
  have placed := copySampling_exchange
  rw [result] at placed
  exact absurd (sampleCopy_exchange.symm.trans placed) (List.cons_ne_nil _ _)

end Sys2Proof.Machine

/-! The GFX words of one entry (R362 to R365, R371 to R379, R383). -/

namespace Sys2Proof.Machine

/-! ### Lanes that have latched halves (R24) -/

/-- The same word issues for the same lanes, whose registers and predicates are as they were; they may have latched halves. -/
structure Stands (s u : State) : Prop where
  lanes : ∀ q, (u.lane q).unlatched = (s.lane q).unlatched
  bundle : u.bundle = s.bundle

theorem Stands.refl (s : State) : Stands s s := ⟨fun _ => rfl, rfl⟩

theorem Stands.trans {s t u : State} (h : Stands s t) (k : Stands t u) : Stands s u :=
  ⟨fun q => (k.lanes q).trans (h.lanes q), k.bundle.trans h.bundle⟩

theorem stands_latchRead (s : State) (r : Ref) (n : Nat) : Stands s (s.latchRead r n) :=
  ⟨unlatched_latchRead s r n, congrArg (·.getD Bundle.blank) (issue_of_bare (bare_latchRead s r n))⟩

theorem latched_one (s : State) (x : BitVec 8) : s.latched [x] = s.active.foldl (fun u r => u.latchRead r x.toNat) s := rfl

/-- What holds of each read that latches holds of the reads of a word's active lanes. -/
theorem latched_induction {P : State → Prop} {s : State} {x : BitVec 8} (start : P s)
    (step : ∀ u r, P u → P (u.latchRead r x.toNat)) :
    P (s.latched [x]) :=
  List.foldlRecOn s.active (fun (u : State) r => u.latchRead r x.toNat) start fun u same r _ => step u r same

theorem stands_latched (s : State) (x : BitVec 8) : Stands s (s.latched [x]) :=
  latched_induction (P := Stands s) (.refl s) fun u r h => h.trans (stands_latchRead u r x.toNat)

section
variable {s u : State} (l : Stands s u)
include l

theorem Stands.activeOf (m : Member) : u.activeOf m = s.activeOf m := by
  have guard : u.guard = s.guard := by rw [State.guard, State.word, l.bundle, State.guard, State.word]
  have holds : ∀ r, guardHolds s.guard (u.lane r) = guardHolds s.guard (s.lane r) := fun r =>
    (congrArg (guardHolds s.guard) (l.lanes r) :)
  have ended : ∀ r, (u.lane r).ended = (s.lane r).ended := fun r => (congrArg Lane.ended (l.lanes r) :)
  simp only [State.activeOf, guard, ended, holds]

theorem Stands.active : u.active = s.active := by
  rw [State.active, State.active, l.bundle, show u.activeOf = s.activeOf from funext l.activeOf]

theorem Stands.alone {m : Member} {r : Ref} (h : s.Alone m r) : u.Alone m r where
  members := by rw [l.bundle]; exact h.members
  leads := by
    have helper : ∀ q, (u.lane q).isHelper = (s.lane q).isHelper := fun q => (congrArg Lane.isHelper (l.lanes q) :)
    rw [l.activeOf, ← h.leads]
    exact congrArg (fun p => (s.activeOf m).find? p) (funext fun q => congrArg (!·) (helper q))

end

/-- Teams as they latch: everything but their lanes. -/
theorem team_latchRead (s : State) (r : Ref) (n k : Nat) : ∃ f : List Wave → List Wave,
    (s.latchRead r n).team k = { s.team k with waves := f (s.team k).waves } := by
  obtain ⟨f, latched, -⟩ := latchRead_eq_modLane s r n
  rw [latched, State.modLane, State.modWave, team_modTeam]
  split
  · exact ⟨_, rfl⟩
  · exact ⟨id, rfl⟩

/-- A selector whose read latches reads no half itself (R24). -/
theorem srValue_latchRead (s : State) (q r : Ref) {n : Nat} (latches : n = 205 ∨ n = 207 ∨ n = 210 ∨ n = 212) :
    (s.latchRead q n).srValue r n = s.srValue r n := by
  obtain ⟨f, team⟩ := team_latchRead s q n r.team
  have lane := unlatched_latchRead s q n r
  rcases latches with rfl | rfl | rfl | rfl
  · change lo32 (s.coreClock ((s.latchRead q 205).team r.team).die ((s.latchRead q 205).team r.team).core) = _
    rw [team]
    rfl
  · rfl
  · exact congrArg lo32 (congrArg Lane.gen lane :)
  · exact congrArg lo32 (congrArg Lane.sp lane :)

theorem latchRead_other (s : State) (q : Ref) {n : Nat} (other : ¬ (n = 205 ∨ n = 207 ∨ n = 210 ∨ n = 212)) :
    s.latchRead q n = s := by
  unfold State.latchRead
  dsimp only
  split
  case h_5 => rfl
  all_goals simp at other

/-- A read that latches does not change what is read (R24). -/
theorem src_latchRead (s : State) (q r : Ref) (t : ETy) (x : BitVec 8) (e : BitVec 4) :
    (s.latchRead q x.toNat).src r t x e = s.src r t x e := by
  by_cases latches : x.toNat = 205 ∨ x.toNat = 207 ∨ x.toNat = 210 ∨ x.toNat = 212
  · have special : ¬ x.toNat < 192 ∧ x.toNat < 224 := by omega
    simp only [State.src, special, if_false, if_true, srValue_latchRead s q r latches]
  · rw [latchRead_other s q latches]

theorem src_latched (s : State) (r : Ref) (t : ETy) (x : BitVec 8) (e : BitVec 4) :
    (s.latched [x]).src r t x e = s.src r t x e :=
  latched_induction (P := fun u => u.src r t x e = s.src r t x e) rfl fun u q same => (src_latchRead u q r t x e).trans same

theorem ctrs_latchRead (s : State) (q : Ref) (n t w : Nat) : ((s.latchRead q n).wave t w).ctrs = (s.wave t w).ctrs := by
  obtain ⟨f, latched, -⟩ := latchRead_eq_modLane s q n
  rw [latched, State.modLane, wave_modWave]
  split <;> rfl

theorem counterFull_latched (s : State) (x : BitVec 8) (c : Ctr) : (s.latched [x]).counterFull c = s.counterFull c := by
  have ctrs (t w : Nat) : ((s.latched [x]).wave t w).ctrs = (s.wave t w).ctrs :=
    latched_induction (P := fun u => (u.wave t w).ctrs = (s.wave t w).ctrs) rfl fun u q same => (ctrs_latchRead u q _ t w).trans same
  simp only [State.counterFull, State.countingWaves, (stands_latched s x).active, ctrs]

theorem gridOf_latched (s : State) (x : BitVec 8) (k : Nat) : (s.latched [x]).gridOf k = s.gridOf k := by
  refine latched_induction (P := fun u => u.gridOf k = s.gridOf k) rfl fun u q same => ?_
  obtain ⟨f, team⟩ := team_latchRead u q x.toNat k
  have grids : (u.latchRead q x.toNat).grids = u.grids := (congrArg State.grids (bare_latchRead u q x.toNat) :)
  rw [← same, State.gridOf, team, grids]
  rfl

/-! ### Words that are done at once (R364, R371, R383) -/

section
variable {s : State} {m : Member} {r : Ref} (ready : s.Ready) (alone : s.Alone m r)
  (room : s.counterFull .gm = false)
include ready alone room

theorem execWmarkRel_ends :
    Ends .wmarkRel s ((s.modTeam r.team fun t => { t with hold := none }).emptyOps (wavesOf s.active) .gm) := by
  refine ends_of_finish (ready.of_calm ((calm_emptyOps ..).trans (calm_modTeam _ _ _ fun _ => ⟨rfl, rfl⟩))) ⟨s.active, [], ?_⟩
  change execWmarkRel s = _
  rw [execWmarkRel, whenIssued_ready ready]
  simp only [room, Bool.false_eq_true, if_false, performers_alone alone, List.foldl_cons, List.foldl_nil]

end

/-- What a word writes to every active lane of its entry. -/
theorem entryRegs_alone {s : State} {m : Member} {r : Ref} (alone : s.Alone m r) (xs : List (Nat × Word)) :
    s.entryRegs r xs = (s.activeOf m).map fun q => (q, ({ regs := xs } : Eff)) := by
  obtain ⟨team, wave, lane⟩ := ref_of_activeOf (lead_active alone)
  have mine : (m.team == r.team && m.wave == r.wave && m.mask.getLsbD r.lane) = true := by simp [team, wave, lane]
  have found : [m].find? (fun m => m.team == r.team && m.wave == r.wave && m.mask.getLsbD r.lane) = some m :=
    List.find?_cons_of_pos mine
  unfold State.entryRegs
  rw [alone.members, found]

/-- A change of a team beside its waves leaves the lanes as they are. -/
theorem stands_modTeam (s : State) (k : Nat) (f : Team → Team) (h : ∀ t, (f t).waves = t.waves) : Stands s (s.modTeam k f) where
  lanes q := by rw [State.lane, wave_modTeam s k f h]; rfl
  bundle := rfl

theorem stands_modDie (s : State) (d : Nat) (f : Die → Die) : Stands s (s.modDie d f) := ⟨fun _ => rfl, rfl⟩

section
variable {s : State} {m : Member} {r : Ref} (ready : s.Ready) (alone : s.Alone m r) (room : s.counterFull .gm = false)
include ready alone room

theorem wmarkRead_ends {i : Instr} {f : State → Nat → DWord} (word : exec i s = wmarkRead s f) : Ends i s
    ((s.applyAll ((s.activeOf m).map fun q => (q, ({ regs := [((faOfWord s.word).rd.toNat, lo32 (f s (s.team r.team).die)),
      ((faOfWord s.word).rd.toNat + 1, hi32 (f s (s.team r.team).die))] } : Eff)))).emptyOps (wavesOf s.active) .gm) := by
  refine ends_of_finish (ready.of_calm ((calm_emptyOps ..).trans (calm_applyAll ..))) ⟨s.active, [], ?_⟩
  rw [word, wmarkRead, whenIssued_ready ready]
  simp only [room, Bool.false_eq_true, if_false, performers_alone alone, List.flatMap_cons, List.flatMap_nil, List.append_nil,
    entryRegs_alone alone]

end

/-! ### PATCHDQ (R364) -/

/-- A team holds the entry `e`, which leaves its die's queue. -/
def State.heldSplit (s : State) (tid : Nat) (e : SplitEntry) : State :=
  (s.modDie (s.team tid).die fun d => { d with splitQ := d.splitQ.erase e }).modTeam tid fun x =>
    { x with held := some e.regs, hold := some (entryTicket e.regs) }

theorem stands_heldSplit (s : State) (tid : Nat) (e : SplitEntry) : Stands s (s.heldSplit tid e) :=
  (stands_modDie ..).trans (stands_modTeam _ _ _ fun _ => rfl)

theorem calm_heldSplit (s : State) (tid : Nat) (e : SplitEntry) : (s.heldSplit tid e).calm = s.calm := by
  refine (calm_modTeam _ _ _ ?_).trans (calm_modDie _ _ _ ?_)
  · exact fun _ => ⟨rfl, rfl⟩
  · exact fun _ => rfl

section
variable {s : State} {tid : Nat} (free : (s.team tid).held = none) (few : s.heldOn (s.team tid).die (fun _ => true) < 256)
include free few

theorem popSplit_some {e : SplitEntry} (next : nextSplit (s.die (s.team tid).die).splitQ (s.team tid).grid = some e) :
    s.popSplit tid = (s.heldSplit tid e, .got e.regs) := by
  unfold State.popSplit
  simp only [free, Option.isSome_none, Bool.false_eq_true, if_false, Nat.not_le.2 few, next]
  rfl

theorem popSplit_none (next : nextSplit (s.die (s.team tid).die).splitQ (s.team tid).grid = none)
    (done : s.splitsOut (s.team tid).die (s.team tid).grid = false) :
    s.popSplit tid = (s.modTeam tid fun x => { x with hold := none }, .got [0, 0, 0x10, 0]) := by
  unfold State.popSplit
  simp only [free, Option.isSome_none, Bool.false_eq_true, if_false, Nat.not_le.2 few, next, done]

end

section
variable {s : State} {m : Member} {r : Ref} (ready : s.Ready) (alone : s.Alone m r) (room : s.counterFull .gm = false)
include ready alone room

/-- PATCHDQ answers its entry, once it is known what it pops. -/
theorem execPatchdq_ends {u : State} {regs : List Word} (popped : s.popSplit r.team = (u, .got regs)) (same : Stands s u)
    (calm : u.calm = s.calm) : Ends .patchdq s ((u.applyAll ((s.activeOf m).map fun q =>
      (q, ({ regs := regs.zipIdx.map fun x => ((faOfWord s.word).rd.toNat + x.2, x.1) } : Eff)))).emptyOps
        (wavesOf s.active) .gm) := by
  refine ends_of_finish (ready.of_calm ((calm_emptyOps ..).trans ((calm_applyAll ..).trans calm))) ⟨s.active, [], ?_⟩
  change execPatchdq s = _
  rw [execPatchdq, whenIssued_ready ready]
  simp only [room, Bool.false_eq_true, if_false, performers_alone alone, List.foldl_cons, List.foldl_nil, popped,
    entryRegs_alone (same.alone alone), same.activeOf, filter_noParks, parkLanes_nil, faultLanes_nil, List.nil_append]

/-! ### DICE.bind and DICE.unbind (R376, R377) -/

theorem bindWord_eq {u : State} {f : State → Ref → State} (quads : (s.gridOf r.team).qmap = true) (binds : f s r = u) :
    bindWord s f =
      .next ((((u.settleBinds r.team).passTeam r.team).addOp m.team m.wave .gm false [] [] [] .bind).finish s.active []) := by
  rw [bindWord, whenIssued_ready ready]
  have good : [r].filter (fun r => (s.gridOf r.team).qmap) = [r] := by simp [quads]
  have bad : [r].filter (fun r => !(s.gridOf r.team).qmap) = [] := by simp [quads]
  simp only [room, Bool.false_eq_true, if_false, performers_alone alone, good, bad, List.map_nil, List.foldl_cons, List.foldl_nil,
    faultLanes_nil, List.map_cons, postEach_one _ _ _ _ _ alone, binds]

theorem execDiceBind_gives {o : FA} (quads : (s.gridOf r.team).qmap = true) :
    Gives (.diceBind o) s (((((((s.latched [o.rb]).bindTeam r.team ((s.src r .i32 o.rb 0).toNat % 32)
      ((s.src r .i32 o.rb 0).toNat / 256 % 32)).settleBinds r.team).passTeam r.team).addOp m.team m.wave .gm false [] [] []
        .bind).finish s.active [])) := by
  have l := stands_latched s o.rb
  have shape : ∀ v : Nat, v % 32 = bitsOf v 0 5 ∧ v / 256 % 32 = bitsOf v 8 5 := fun v =>
    ⟨(congrArg (· % 32) (Nat.div_one v)).symm, rfl⟩
  rw [(shape _).1, (shape _).2, ← l.active]
  exact bindWord_eq (ready.of_bare (bare_latched ..)) (l.alone alone) ((counterFull_latched ..).trans room)
    (f := fun u q => u.bindTeam q.team (bitsOf (u.src q .i32 o.rb 0).toNat 0 5) (bitsOf (u.src q .i32 o.rb 0).toNat 8 5))
    ((congrArg Grid.qmap (gridOf_latched ..)).trans quads) (by rw [src_latched])

/-! ### GEMIT (R379) -/

theorem execGemit_ends {o : FA} {hdr blk : Nat × Nat} (x : List Byte) (even : (s.src64 r o.ra).toNat % 128 = 0)
    (evenBlk : (s.src64 r o.rb).toNat % 128 = 0) (inHdr : s.window r.team (s.src64 r o.ra) 128 = some (some hdr))
    (inBlk : s.window r.team (s.src64 r o.rb) 8192 = some (some blk)) (present : s.absentAt (.spad hdr.1 hdr.2) 128 = none)
    (is : cellsReadN (s.team hdr.1).spad hdr.2 128 = x) (kind : recU64 x 0x10 % 4 = 2)
    (held : (s.team r.team).hold = some (BitVec.ofNat 64 (recU64 x 0)))
    (passes : recU64 x 0x10 / 256 % 2 = 1 ∨ s.opqend ≤ drawSeq (BitVec.ofNat 64 (recU64 x 0))) :
    Ends (.gemit o) s (s.addOp m.team m.wave .gm false [] [] [] (.gemit r.lane (s.team r.team).held blk
      (BitVec.ofNat 64 (recU64 x 0)) (bitOf (recU64 x 0x10) 8) (bitOf (recU64 x 0x10) 9) (min 16 (recU64 x 0x10 / 2 ^ 32 % 32))
      (min 16 (recU64 x 0x10 / 2 ^ 40 % 32)))) := by
  refine ends_of_finish (ready.of_calm (calm_addOp ..)) ⟨s.active, [], ?_⟩
  have checked : s.emitCheck o r = .ok { r, blk, hdr := x } := by
    have accepts : ¬ (recU64 x 0x10 % 4 ≠ 2 ∨ (s.team r.team).hold ≠ some (BitVec.ofNat 64 (recU64 x 0)) ∨
        (bitOf (recU64 x 0x10) 8 = false ∧ drawSeq (BitVec.ofNat 64 (recU64 x 0)) < s.opqend)) := by
      rintro (other | other | ⟨clear, early⟩)
      · exact other kind
      · exact other held
      · rcases passes with opq | late
        · rw [bitOf, show (2 : Nat) ^ 8 = 256 from rfl, opq] at clear
          cases clear
        · omega
    simp only [State.emitCheck, State.windowRange, even, evenBlk, inHdr, inBlk, if_true, Option.isSome_some, List.append_nil,
      List.isEmpty_nil, Bool.not_true, Bool.false_eq_true, if_false, Option.getD_some, present, Option.isSome_none, is, accepts]
  change execGemit o s = _
  rw [execGemit, whenIssued_ready ready]
  simp only [room, Bool.false_eq_true, if_false, performers_alone alone, List.map_cons, List.map_nil, checked]
  rw [show [EmitCheck.ok { r, blk, hdr := x }].contains .wait = false from rfl]
  exact congrArg (fun u : State => Host.Outcome.next (u.finish s.active [])) (postEach_one s .gm false [] _ alone)

end

/-! ### DICE.run (R366, R373) -/

/-- The 64-byte pieces of a record that was read whole are each read. -/
theorem engRead_of_recordRead {s : State} {tid : Nat} {a : DWord} {n : Nat} {b : List Byte} (read : s.recordRead tid a n = .ok b)
    {k : Nat} (piece : k < n) : ∃ bs, s.engRead tid (a + BitVec.ofNat 64 (64 * k)) 64 = .ok bs := by
  induction n generalizing a b k with
  | zero => omega
  | succ n ih =>
    rw [State.recordRead] at read
    split at read
    · next first is =>
      split at read
      · next rest tail =>
        cases k with
        | zero => exact ⟨first, by simpa using is⟩
        | succ k =>
          obtain ⟨bs, ok⟩ := ih tail (Nat.lt_of_succ_lt_succ piece)
          have step : a + 64 + BitVec.ofNat 64 (64 * k) = a + BitVec.ofNat 64 (64 * (k + 1)) := by
            rw [Nat.mul_succ, BitVec.ofNat_add, BitVec.add_assoc, BitVec.add_comm (BitVec.ofNat 64 (64 * k))]
            rfl
          exact ⟨bs, step ▸ ok⟩
      · cases read
    · cases read

theorem dieRead_noteDice (s : State) (r : Ref) : DieRead s (s.noteDice r) := by
  unfold State.noteDice
  split
  · exact .refl s
  · dsimp only
    split
    · exact dieRead_noteBytes ..
    · exact dieRead_noteBytes ..

/-- Which lines a read leaves busy: those of the operations and teams, which it does not change. -/
theorem shearsBusy_of_read {s t : State} (read : DieRead s t) (die unit : Nat) : t.shearsBusy die unit = s.shearsBusy die unit := by
  simp only [State.shearsBusy, State.team, read.ops_eq, read.teams_eq]

section
variable {s : State} {m : Member} {r : Ref} (ready : s.Ready) (alone : s.Alone m r) (room : s.counterFull .gm = false)
include ready alone room

theorem execDiceRun_ends {o : FA} {dst : Nat × Nat} {ent : List Word} {h b : List Byte} (fresh : s.bundle.diced = none)
    (held : (s.team r.team).held = some ent) (named : ((List.range 4).map fun k => s.rawReg r (o.rb.toNat + k)) = ent)
    (even : (s.src64 r o.ra).toNat % 128 = 0) (inside : s.window r.team (s.src64 r o.ra) 8320 = some (some dst))
    (head : s.engRead r.team (entryAddr ent) 64 = .ok h) (valid : patchValid h = true)
    (read : s.recordRead r.team (entryAddr ent) (patchPieces h) = .ok b)
    (free : s.shearsBusy s.bundle.die (s.bundle.core / 12) < 64) :
    Ends (.diceRun o) s (((s.noteDice r).setLines (diceLines dst) false).addOp m.team m.wave .gm false [] [] []
      (.dice r.lane dst ent b)) := by
  have checked : s.diceCheck o r = .inr { r, dst, ent, record := b } := by
    have record : s.diceRecord r ent = ([], b) := by
      have clean : ((List.range (patchPieces h)).flatMap fun k =>
          (s.engRead r.team (entryAddr ent + BitVec.ofNat 64 (64 * k)) 64).fault r (entryAddr ent + BitVec.ofNat 64 (64 * k))) = [] :=
        List.flatMap_eq_nil_iff.2 fun k piece => by
          obtain ⟨bs, ok⟩ := engRead_of_recordRead read (List.mem_range.1 piece)
          rw [ok]
          rfl
      simp only [State.diceRecord, head, clean, valid, read, if_true, List.append_nil]
      rfl
    simp only [State.diceCheck, named, held, State.windowRange, inside, even, record, BEq.rfl, if_true, Option.map_some,
      Option.getD_some, Option.isSome_some, List.append_nil]
  have read := dieRead_noteDice s r
  refine ends_of_finish (ready.of_calm ((calm_addOp ..).trans ((calm_setLines_absent ..).trans read.calm_eq))) ⟨s.active, [], ?_⟩
  have jobs : s.diceJobs o = (s.noteDice r, [{ r, dst, ent, record := b }]) := by
    simp only [State.diceJobs, fresh, performers_alone alone, List.map_cons, List.map_nil, checked]
    rfl
  have below : ¬ 64 < (s.noteDice r).shearsBusy (s.noteDice r).bundle.die ((s.noteDice r).bundle.core / 12) + 1 := by
    rw [shearsBusy_of_read read, State.bundle, read.issue_eq]
    exact Nat.not_lt.2 free
  change execDiceRun o s = _
  rw [execDiceRun, whenIssued_ready ready]
  simp only [room, Bool.false_eq_true, if_false, jobs, List.length_singleton, below, decide_false, Bool.and_false,
    List.flatMap_cons, List.flatMap_nil, List.append_nil, List.map_cons, List.map_nil, postEach_one _ _ _ _ _ alone]

end

/-! ### PATCHQ (R362, R363) -/

/-- The lanes of a PATCHQ that are no helpers, in lane order. -/
def State.patchLanes (s : State) : List Ref :=
  (laneAsc ((s.active.filter fun q => !(s.lane q).isHelper).map fun q => (q, ()))).map (·.1)

/-- One lane's entry is pushed in a state `u`, once its record has been read; the lane's operands are those of `s`. -/
def State.patchPush (s : State) (o : FA) (u : State) (q : Ref) : State :=
  (u.noteBytes q.team (s.src64 q o.ra) 64 needR).pushSplit (s.team q.team).die (s.team q.team).grid
    (Machine.entryRegs (patchTicket (s.gridOf q.team) (s.src q .i32 o.rb 0).toNat) (s.src64 q o.ra) 0)

/-- A lane's entry may be pushed: its record has no cause, and its die's queue has room for a patch. -/
def State.PatchGoes (s : State) (o : FA) (u : State) (q : Ref) : Prop :=
  u.patchCause q (s.src64 q o.ra) (s.src q .i32 o.rb 0).toNat = none ∧ (u.die (s.team q.team).die).depth0 < 4096

/-- Teams stand where they stood, in the same grids. -/
structure Placed (s u : State) : Prop where
  die : ∀ k, (u.team k).die = (s.team k).die
  grid : ∀ k, (u.team k).grid = (s.team k).grid
  gridOf : ∀ k, u.gridOf k = s.gridOf k

theorem Placed.trans {s t u : State} (h : Placed s t) (k : Placed t u) : Placed s u :=
  ⟨fun x => (k.die x).trans (h.die x), fun x => (k.grid x).trans (h.grid x), fun x => (k.gridOf x).trans (h.gridOf x)⟩

theorem placed_of_read {s t : State} (read : DieRead s t) : Placed s t :=
  have team (k : Nat) : t.team k = s.team k := by rw [State.team, State.team, read.teams_eq]
  ⟨fun k => by rw [team], fun k => by rw [team], read.gridOf_eq⟩

theorem placed_latched (s : State) (x : BitVec 8) : Placed s (s.latched [x]) :=
  latched_induction (P := Placed s) ⟨fun _ => rfl, fun _ => rfl, fun _ => rfl⟩ fun u q h => by
    have team := team_latchRead u q x.toNat
    have grids : (u.latchRead q x.toNat).grids = u.grids := (congrArg State.grids (bare_latchRead u q x.toNat) :)
    refine h.trans ⟨fun k => ?_, fun k => ?_, fun k => ?_⟩
    · obtain ⟨f, is⟩ := team k; rw [is]
    · obtain ⟨f, is⟩ := team k; rw [is]
    · obtain ⟨f, is⟩ := team k; rw [State.gridOf, is, grids]; rfl

theorem splitQ_of_read {s t : State} (read : DieRead s t) (d : Nat) : (t.die d).splitQ = (s.die d).splitQ := by
  have same := congrArg (·[d]?) (read.map_dies (f := Die.splitQ) fun _ => rfl)
  simp only [List.getElem?_map] at same
  simp only [State.die, List.getD_eq_getElem?_getD]
  cases found : t.dies[d]? <;> cases before : s.dies[d]? <;> simp_all

theorem aligned_of_patchCause {s : State} {r : Ref} {a : DWord} {k : Nat} (clear : s.patchCause r a k = none) : a.toNat % 64 = 0 := by
  by_contra odd
  rw [State.patchCause, if_pos odd] at clear
  cases clear

theorem placed_pushSplit (s : State) (d g : Nat) (regs : List Word) : Placed s (s.pushSplit d g regs) :=
  ⟨fun _ => rfl, fun _ => rfl, fun _ => rfl⟩

theorem patchPush_frame (s : State) (o : FA) (u : State) (q : Ref) :
    Placed u (s.patchPush o u q) ∧ (s.patchPush o u q).calm = u.calm := by
  have read := dieRead_noteBytes u q.team (s.src64 q o.ra) 64 needR
  exact ⟨(placed_of_read read).trans (placed_pushSplit ..), (calm_pushSplit ..).trans read.calm_eq⟩

/-- One turn of the word's loop over its lanes. -/
def patchTurn (p : State × List LaneFault × List Ref) (x : Ref × DWord × Nat) : State × List LaneFault × List Ref :=
  let r := x.1
  let cause := p.1.patchCause r x.2.1 x.2.2
  let s := if x.2.1.toNat % 64 = 0 then p.1.noteBytes r.team x.2.1 64 needR else p.1
  match cause with
  | some f => (s, p.2.1 ++ [f], p.2.2)
  | none =>
    let d := (s.team r.team).die
    if 4096 ≤ (s.die d).depth0 then (s, p.2.1, p.2.2 ++ [r])
    else (s.pushSplit d (s.team r.team).grid (Machine.entryRegs (patchTicket (s.gridOf r.team) x.2.2) x.2.1 0), p.2.1, p.2.2)

theorem execPatchq_eq (s : State) (o : FA) : exec (.patchq o) s = whenIssued s fun s =>
    if s.counterFull .gm then s.hold
    else
      let p := (s.patchLanes.map fun q => (q, s.src64 q o.ra, (s.src q .i32 o.rb 0).toNat)).foldl patchTurn (s.latched [o.rb], [], [])
      (((p.1.parkLanes p.2.2 4 .splitQueue false).faultLanes p.2.1).emptyOps
        (wavesOf (s.active.filter fun r => !p.2.2.contains r)) .gm).finish s.active [] := rfl

/-- A lane that may push does. -/
theorem patchTurn_goes {s u : State} {o : FA} {q : Ref} {bad : List LaneFault} {parks : List Ref} (placed : Placed s u)
    (goes : s.PatchGoes o u q) :
    patchTurn (u, bad, parks) (q, s.src64 q o.ra, (s.src q .i32 o.rb 0).toNat) = (s.patchPush o u q, bad, parks) := by
  obtain ⟨clear, room⟩ := goes
  have read := dieRead_noteBytes u q.team (s.src64 q o.ra) 64 needR
  have here := placed.trans (placed_of_read read)
  have below : ¬ 4096 ≤ ((u.noteBytes q.team (s.src64 q o.ra) 64 needR).die (s.team q.team).die).depth0 := by
    rw [Die.depth0, splitQ_of_read read]
    exact Nat.not_le.2 room
  unfold patchTurn
  simp only [clear, aligned_of_patchCause clear, if_true, here.die, here.grid, here.gridOf, below, if_false]
  rfl

/-- When every lane may push in its turn, all do. -/
theorem patchTurns_go {s : State} {o : FA} {own : List Ref} {u : State} (placed : Placed s u)
    (goes : ∀ n q, own[n]? = some q → s.PatchGoes o ((own.take n).foldl (s.patchPush o) u) q) :
    (own.map fun q => (q, s.src64 q o.ra, (s.src q .i32 o.rb 0).toNat)).foldl patchTurn (u, [], []) =
      (own.foldl (s.patchPush o) u, [], []) := by
  induction own generalizing u with
  | nil => rfl
  | cons q own ih =>
    rw [List.map_cons, List.foldl_cons, List.foldl_cons, patchTurn_goes placed (goes 0 q rfl)]
    exact ih (placed.trans (patchPush_frame s o u q).1) fun n q' is => goes (n + 1) q' is

theorem execPatchq_ends {s : State} {o : FA} (ready : s.Ready) (room : s.counterFull .gm = false)
    (goes : ∀ n q, s.patchLanes[n]? = some q → s.PatchGoes o ((s.patchLanes.take n).foldl (s.patchPush o) (s.latched [o.rb])) q) :
    Ends (.patchq o) s ((s.patchLanes.foldl (s.patchPush o) (s.latched [o.rb])).emptyOps (wavesOf s.active) .gm) := by
  refine ends_of_finish (ready.of_calm ((calm_emptyOps ..).trans ((calm_foldl _ (fun u q => (patchPush_frame s o u q).2) _ _).trans
    (calm_latched ..)))) ⟨s.active, [], ?_⟩
  rw [execPatchq_eq, whenIssued_ready ready]
  simp only [room, Bool.false_eq_true, if_false, patchTurns_go (placed_latched s o.rb) goes, filter_noParks, parkLanes_nil,
    faultLanes_nil]

/-! ### The obligation -/

/-- Settles O49: word by word, what its lanes read and what it leaves. -/
theorem graphicsWords : Obligations.GraphicsWords := by
  unfold Obligations.GraphicsWords
  intro s o m r ready alone room T rd post quick every answer own patch bound push pushed
  refine ⟨fun goes => ?_, fun free few => ⟨fun e next => ?_, fun none out => ?_⟩, ?_, ?_, ?_, ?_, ?_, ?_, ?_⟩
  · have step : push = s.patchPush o := rfl
    have all : pushed own.length = s.patchLanes.foldl (s.patchPush o) (s.latched [o.rb]) :=
      congrArg₂ (fun f l => List.foldl f (s.latched [o.rb]) l) step List.take_length
    have each (n : Nat) : pushed n = (s.patchLanes.take n).foldl (s.patchPush o) (s.latched [o.rb]) := by
      simp only [pushed, step]
      rfl
    rw [all]
    refine execPatchq_ends ready room fun n q is => ?_
    rw [State.PatchGoes, ← each]
    exact goes n q is
  · exact (execPatchdq_ends ready alone room (popSplit_some free few next) (stands_heldSplit ..) (calm_heldSplit ..) :)
  · exact (execPatchdq_ends ready alone room (popSplit_none free few none out) (stands_modTeam _ _ _ fun _ => rfl)
      (calm_modTeam _ _ _ fun _ => ⟨rfl, rfl⟩) :)
  · intro dst h b ent fresh held even inside head valid read busy
    exact execDiceRun_ends ready alone room fresh held rfl even inside head valid read busy
  · exact fun quads => execDiceBind_gives ready alone room quads
  · exact fun quads => bindWord_eq ready alone room (f := fun u q => u.unbindTeam q.team) quads rfl
  · intro hdr blk x ticket w even evenBlk inHdr inBlk present kind held passes
    exact execGemit_ends ready alone room x even evenBlk inHdr inBlk present rfl kind held passes
  · exact execWmarkRel_ends ready alone room
  · exact (wmarkRead_ends ready alone room (show exec .wmarkGlob s = wmarkRead s fun s d => (s.die d).leastMark from rfl) :)
  · exact (wmarkRead_ends ready alone room (show exec .wmarkDie s = wmarkRead s fun s d => s.watermark d from rfl) :)

end Sys2Proof.Machine

/-! A release performs a store by its operation's number, and leaves every operation of that number without anything to do (R253): a
ray that shares a store's number no longer traverses, and a TRACE that it held back starts at once. -/

namespace Sys2Proof.Machine

/-- The only lane of a wave, whose pair g2 points to its team's scratchpad window. -/
def tracingLane : Lane := { placedLane with g := (List.replicate 128 (0 : Word)).set 3 0xFFFFFE00 }

def tracingRef : Ref := ⟨0, 0, 0⟩

/-- The lane issues one word. -/
def tracingBundle : Bundle :=
  { Bundle.blank with members := [{ team := 0, wave := 0, slot := 0, mask := 1 }], clause := 0x1000, n := 1, words := [0x6070C00000000000] }

/-- A ray of the lane that traverses. -/
def runningRay : Ray :=
  { lane := 0, rd := 16, va := 0, tgt := .spad 0 0, rcd := rayOfBytes [], resume := false, fixed := none, done := false, fq := none,
    want := none, todo := false, kept := false }

/-- An operation with number 0. -/
def opZero (c : Ctr) (body : OpBody) : Op :=
  { id := 0, team := 0, wave := 0, ctr := c, clause := 0x1000, idx := 0, seq := 0, done := false, counts := true, writes := false,
    regs := [], preds := [], eccs := [], body }

/-- A store and a ray outstanding under one number. -/
def tracingState : State :=
  { State.reset with
    grids := [placedGrid], bundles := [tracingBundle], nextBundle := 1, issue := some tracingBundle, nextOp := 1,
    ops := [opZero .st (.store []), opZero .nd (.rays [runningRay])],
    teams := [{ placedTeam with waves := [{ Wave.blank with w := List.replicate 64 0, lanes := [tracingLane], entries :=
      [{ slot := 0, stamp := 0, runs := 0, clause := 0x1000, idx := 0, depth := 0, path := 0, park := 0, why := .none, yh := false,
         defer := 0, mask := 1, flight := some 0 }] }] }] }

/-- TRACE of the record at g2. -/
def traceOperands : FA := { rd := 16, ra := 2, rb := 8, h := 0, bar := 0, sub := 0 }

theorem tracingState_ready : tracingState.Ready where
  debug := by decide +kernel
  step := by decide +kernel
  bind := by decide +kernel
  issues := rfl

/-- What the statement makes of the word: it waits for the ray. -/
def tracingWaits : State :=
  let u := tracingState.release 0 0 2
  u.addOp 0 0 .nd true [] [] [] (.rays [{ newRay tracingRef 16 (tracingState.src64 tracingRef 2) (.spad 0 0)
    (u.traceRecord tracingRef traceOperands) with todo := true }])

/-- Which rays wait to be begun after a step, operation by operation. -/
def raysToDo : Out → List (List Bool)
  | .next t => t.ops.map fun o => o.rays.map Ray.todo
  | _ => []

/-- The word begins its ray. -/
theorem raysToDo_trace : raysToDo (exec (.trace traceOperands) tracingState) = [[], [], [false]] := by
  change raysToDo (execTrace traceOperands tracingState) = _
  decide +kernel

theorem raysToDo_waits : raysToDo (exec .nop tracingWaits) = [[], [], [true]] := by
  change raysToDo (execNop tracingWaits) = _
  decide +kernel

/-- Refutes O52: the statement judges before the release whether an earlier ray holds the word back, and the model's TRACE judges
after it. Where a store and a ray share a number the release ends the ray's traversal, so TRACE begins its ray at once. -/
theorem not_rayWords : ¬ Obligations.RayWords := by
  unfold Obligations.RayWords
  intro ⟨words, _⟩
  obtain ⟨_, granted⟩ := words tracingState traceOperands tracingRef tracingState_ready (by decide +kernel) (by decide +kernel)
    (by decide +kernel) (by decide +kernel) (by decide +kernel)
  obtain ⟨waits, _⟩ := granted (.spad 0 0) (by decide +kernel)
  obtain ⟨trace, _⟩ := waits (.inl (by decide +kernel))
  obtain ⟨t, word, nop⟩ := trace (by decide +kernel)
  have same : exec (.trace traceOperands) tracingState = exec .nop tracingWaits := word.trans nop.symm
  have begun := raysToDo_trace
  rw [same, raysToDo_waits] at begun
  exact absurd begun (by decide)

end Sys2Proof.Machine

/-! Mailboxes, spawning and dumps in a privileged launch (R484 to R486, R500 to R512). -/

namespace Sys2Proof.Machine

/-! ### Privileged words of one entry -/

theorem performersBySlot_alone {s : State} {m : Member} {r : Ref} (alone : s.Alone m r) : s.performersBySlot = [r] := by
  unfold State.performersBySlot
  rw [alone.members]
  simp [performer_alone alone, sortKey, insertKey]

theorem entryResults_alone {s : State} {m : Member} {r : Ref} (alone : s.Alone m r) (xs : List (Nat × Word)) :
    s.entryResults r xs = (s.activeOf m).flatMap fun q => xs.map fun x => RegRes.mk q.lane x.1 x.2 := by
  obtain ⟨team, wave, lane⟩ := ref_of_activeOf (lead_active alone)
  have mine : (m.team == r.team && m.wave == r.wave && m.mask.getLsbD r.lane) = true := by simp [team, wave, lane]
  have found : [m].find? (fun m => m.team == r.team && m.wave == r.wave && m.mask.getLsbD r.lane) = some m :=
    List.find?_cons_of_pos mine
  unfold State.entryResults
  rw [alone.members, found]

theorem stays_alone {s : State} {m : Member} {r : Ref} (alone : s.Alone m r) : s.stays r = true := by
  obtain ⟨team, wave, lane⟩ := ref_of_activeOf (lead_active alone)
  rw [State.stays, alone.members]
  simp [team, wave, lane]

/-- Nothing is released when no store is outstanding, and no REMOTEPERM delivered when none is pending (R253, R431). -/
theorem releaseWord_noStores {s : State} {m : Member} {r : Ref} (alone : s.Alone m r) (empty : s.NoStores)
    (clear : (s.wave m.team m.wave).rperm = none) (scope : Nat) : s.releaseWord scope = s := by
  unfold State.releaseWord
  have released : ∀ ws : List (Nat × Nat), ws.foldl (fun s w => s.release w.1 w.2 scope) s = s := fun ws =>
    List.foldlRecOn (motive := fun u : State => u = s) ws _ rfl fun u same w _ => by rw [same, release_noStores empty]
  rw [released, deliverRperm_none alone.members clear]

/-- A state with the teams of another, and its issuing bundle. -/
structure SameIssue (s u : State) : Prop where
  teams : u.teams = s.teams
  issue : u.issue = s.issue
  calm : u.calm = s.calm

theorem SameIssue.refl (s : State) : SameIssue s s := ⟨rfl, rfl, rfl⟩

theorem SameIssue.trans {s t u : State} (h : SameIssue s t) (k : SameIssue t u) : SameIssue s u :=
  ⟨k.teams.trans h.teams, k.issue.trans h.issue, k.calm.trans h.calm⟩

theorem SameIssue.stands {s u : State} (h : SameIssue s u) : Stands s u :=
  ⟨fun q => by rw [lane_of_teams h.teams], by rw [State.bundle, h.issue]; rfl⟩

theorem sameIssue_of_read {s u : State} (read : DieRead s u) : SameIssue s u := ⟨read.teams_eq, read.issue_eq, read.calm_eq⟩

theorem sameIssue_modDie (s : State) (d : Nat) (f : Die → Die) (h : ∀ x, (f x).dbgctl = x.dbgctl) : SameIssue s (s.modDie d f) :=
  ⟨rfl, rfl, calm_modDie _ _ _ h⟩

theorem sameIssue_modHub (s : State) (f : Hub → Hub) : SameIssue s (s.modHub f) := ⟨rfl, rfl, rfl⟩

theorem sameIssue_foldl {α : Type} {f : State → α → State} (h : ∀ s a, SameIssue s (f s a)) (l : List α) (s : State) :
    SameIssue s (l.foldl f s) :=
  List.foldlRecOn (motive := SameIssue s) l f (.refl s) fun u same a _ => same.trans (h u a)

/-! ### Links (R500) -/

theorem dbgctl_settleLink (d : Die) : d.settleLink.dbgctl = d.dbgctl := rfl

theorem sameIssue_linkPut (s : State) (d : Nat) (x : Msg) : SameIssue s (s.linkPut d x) :=
  sameIssue_modDie _ _ _ fun _ => rfl

theorem sameIssue_hubMarks (s : State) : SameIssue s s.hubMarks := by
  refine sameIssue_foldl (fun s d => ?_) _ s
  dsimp only
  split
  · exact .refl s
  · exact (sameIssue_modHub s _).trans (sameIssue_foldl (fun s a => sameIssue_linkPut s a _) _ _)

theorem sameIssue_forward (s : State) (d : Nat) (p : List DWord) : SameIssue s (s.forward d p) := by
  unfold State.forward
  dsimp only
  have put : SameIssue s (s.mailPut (pktDst p) (withSrc p d)) := sameIssue_linkPut ..
  split
  · exact put
  · refine put.trans (SameIssue.trans (sameIssue_modDie _ _ _ ?_) ((sameIssue_modHub _ _).trans (sameIssue_hubMarks _)))
    exact fun _ => rfl

/-! ### What SPAWN does for its lane (R510, R511) -/

theorem dieRead_noteRoot (s : State) (root : Nat) (va : DWord) (n : Nat) : DieRead s (s.noteRoot root va n) := by
  have agent : ∀ (u : State) a, DieRead u (u.noteAgent root a) := fun u a => by
    unfold State.noteAgent
    split
    · exact .refl u
    · exact dieRead_noteWalk ..
  refine DieRead.foldl (fun u p => ?_) _ s
  dsimp only
  split
  · exact (agent ..).trans (dieRead_noteRead ..)
  · exact agent ..

/-- A SPAWN without a cause leaves the teams and the issuing bundle as they are. -/
def Spawned.Keeps (s : State) : Spawned → Prop
  | .bad .. => True
  | .ok u .. => SameIssue s u

theorem keeps_ite {s : State} {c : Prop} [Decidable c] {a b : Spawned} (yes : a.Keeps s) (no : b.Keeps s) :
    (if c then a else b).Keeps s := by
  split
  · exact yes
  · exact no

theorem keeps_spawnTrim (s : State) (r : Ref) (p : List DWord) : (s.spawnTrim r p).Keeps s := by
  unfold State.spawnTrim
  dsimp only
  split
  · exact .refl s
  · next k q _ =>
    generalize (if (s.grids.getD k Grid.blank).cl2 = true then _ else _) = c
    split
    · split
      · exact trivial
      · refine SameIssue.trans (sameIssue_modDie s (s.team r.team).die (fun y => y.putRange q { q with stop := c }) fun _ => rfl) ?_
        split
        · exact .refl _
        · exact sameIssue_modDie _ _ _ fun _ => rfl
    · exact .refl s

theorem keeps_spawnRange (s : State) (more : List Range) (r : Ref) (p : List DWord) : (s.spawnRange more r p).Keeps s := by
  unfold State.spawnRange
  dsimp only
  split
  · exact .refl s
  · next k _ =>
    generalize (s.die (s.team r.team).die).known.find? (fun x => x.1 == k) = here
    have looked (root : Nat) (odd : Bool) : SameIssue s (if (here.isSome || odd) = true then s
        else (s.modDie (s.team r.team).die Die.takeIn).noteRoot root (pktLrec p) 128) := by
      split
      · exact .refl s
      · exact (sameIssue_of_read (dieRead_takeIn ..)).trans (sameIssue_of_read (dieRead_noteRoot ..))
    have known (v : State) (read : SameIssue s v) : SameIssue s (if here.isSome = true then v
        else v.modDie (s.team r.team).die fun x => { x with known := x.known ++ [(k, pktLrec p)] }) := by
      split
      · exact read
      · exact read.trans (sameIssue_modDie _ _ _ fun _ => rfl)
    generalize (if here.isSome = true then none else s.recordCause r _ _) = cause
    cases cause with
    | some f => exact trivial
    | none =>
      exact keeps_ite trivial (keeps_ite (known _ (looked ..)) (known _ (looked ..)))

theorem sameIssue_of_keeps {s u : State} {x y : Word} {range : Option Range} {a : Spawned} (keeps : a.Keeps s)
    (is : a = .ok u x y range) : SameIssue s u := by
  rw [is] at keeps
  exact keeps

theorem keeps_spawnKind (s : State) (more : List Range) (r : Ref) (p : List DWord) : (s.spawnKind more r p).Keeps s := by
  unfold State.spawnKind
  split
  · exact keeps_spawnRange ..
  · split
    · exact keeps_spawnTrim ..
    · exact trivial

/-! ### The words -/

/-- The words that answer do not wait, and all waves count them. -/
theorem answeringWaves {s : State} {m : Member} {r : Ref} (alone : s.Alone m r) :
    (wavesOf s.active).filter (wavesOf (s.active.filter fun r => !([] : List Ref).contains r)).contains = wavesOf s.active := by
  rw [filter_noParks, wavesOf_alone alone]
  simp

section
variable {s : State} {o : FA} {m : Member} {r : Ref} (ready : s.Ready) (priv : s.issueGrid.priv = true) (alone : s.Alone m r)

/-- The answers of a word to the active lanes of its entry. -/
def State.lanesGet (s : State) (m : Member) (xs : List (Nat × Word)) : List RegRes :=
  (s.activeOf m).flatMap fun q => xs.map fun x => RegRes.mk q.lane x.1 x.2

include ready priv alone

section
variable (room : s.counterFull .ld = false)
include room

/-- MBRECV answers its entry the words of `p`. -/
theorem execMbrecv_answers {u : State} {pkt : Option (List DWord)} {p : List DWord} (taken : s.mailTake (s.team r.team).die = (u, pkt))
    (same : SameIssue s u) (given : pkt = some p ∨ pkt = none ∧ p = [] ∧ o.sub.getLsbD 0 = true) :
    Ends (.mbrecv o) s (u.addOp m.team m.wave .ld true (s.lanesGet m (packetRegs o.rd.toNat p)) [] [] .plain) := by
  refine ends_of_finish (ready.of_calm ((calm_addOp ..).trans same.calm)) ⟨s.active, [], ?_⟩
  change execMbrecv o s = _
  have results : u.entryResults r (packetRegs o.rd.toNat p) = s.lanesGet m (packetRegs o.rd.toNat p) := by
    rw [entryResults_alone (same.stands.alone alone), same.stands.activeOf, State.lanesGet]
  rw [execMbrecv, privWord_ready ready priv]
  simp only [room, Bool.false_eq_true, if_false, performersBySlot_alone alone, List.foldl_cons, List.foldl_nil, taken]
  obtain rfl | ⟨rfl, rfl, polls⟩ := given
  · simp only [results, List.nil_append, answeringWaves alone, parkLanes_nil, postEach_one _ _ _ _ _ alone]
  · simp only [polls, if_true, results, List.nil_append, answeringWaves alone, parkLanes_nil, postEach_one _ _ _ _ _ alone]

theorem execMbrecv_waits (empty : (s.die (s.team r.team).die).mailbox = []) (waits : o.sub.getLsbD 0 = false) :
    Gives (.mbrecv o) s ((s.parkLanes (memberRefs m) 4 .mailbox false).finish s.active []) := by
  change execMbrecv o s = _
  have none_left : s.active.filter (fun q => !(memberRefs m).contains q) = [] := by
    rw [active_alone alone]
    refine List.filter_eq_nil_iff.2 fun q active => ?_
    simp [(List.mem_filter.1 active).1]
  have none_counts : (wavesOf s.active).filter (wavesOf []).contains = [] := List.filter_eq_nil_iff.2 fun _ _ => Bool.false_ne_true
  rw [execMbrecv, privWord_ready ready priv]
  simp only [room, Bool.false_eq_true, if_false, performersBySlot_alone alone, List.foldl_cons, List.foldl_nil, State.mailTake, empty,
    waits, entryMates_alone alone, List.nil_append, none_left, none_counts]
  rfl

end

section
variable (room : s.counterFull .st = false)
include room

/-- The packet of a word's 16 registers (R503). -/
def State.pktOf (s : State) (r : Ref) (o : FA) : List DWord := packetOfRegs (s.blockOf r o.rb)

theorem execMbsend_ends (kind : 3 ≤ pktKind (s.pktOf r o) ∧ pktKind (s.pktOf r o) ≤ 5) :
    Ends (.mbsend o) s (s.addOp m.team m.wave .st false [] [] [] (.packet none (withSrc (s.pktOf r o) (s.team r.team).die))) := by
  refine ends_of_finish (ready.of_calm (calm_addOp ..)) ⟨s.active, [], ?_⟩
  change execMbsend o s = _
  have good : (decide (3 ≤ pktKind (s.pktOf r o)) && decide (pktKind (s.pktOf r o) ≤ 5)) = true := by simp [kind]
  rw [execMbsend, privWord_ready ready priv]
  unfold State.pktOf at good
  simp only [room, Bool.false_eq_true, if_false, performers_alone alone, List.map_cons, List.map_nil, List.filter_cons, List.filter_nil,
    good, Bool.not_true, if_true, faultLanes_nil, postEach_one _ _ _ _ _ alone]
  rfl

section
variable (empty : s.NoStores) (clear : (s.wave m.team m.wave).rperm = none)
include empty clear

theorem execFwd_ends (good : fwdOk (s.pktOf r o) = true) (fits : s.mailFits (pktDst (s.pktOf r o)) 1 = true) :
    Ends (.fwd o) s ((s.forward (s.team r.team).die (s.pktOf r o)).addOp m.team m.wave .st false [] [] [] (.store [])) := by
  refine ends_of_finish (ready.of_calm ((calm_addOp ..).trans (sameIssue_forward ..).calm)) ⟨s.active, [], ?_⟩
  change execFwd o s = _
  rw [execFwd, privWord_ready ready priv]
  unfold State.pktOf at good fits
  simp only [room, Bool.false_eq_true, if_false, performers_alone alone, List.map_cons, List.map_nil, List.filter_cons, List.filter_nil,
    good, if_true, List.any_cons, List.any_nil, BEq.rfl, List.length_singleton, fits, Bool.not_true, Bool.or_self,
    tileStores_noStores empty, releaseWord_noStores alone empty clear, stays_alone alone, List.foldl_cons, List.foldl_nil,
    faultLanes_nil, postEach_one _ _ _ _ _ alone]
  rfl

theorem spawnWord_ends {i : Instr} {u : State} {x y : Word} {range : Option Range}
    {f : State → List Range → Ref → List DWord → Spawned}
    (word : exec i s = spawnWord s o f) (spawns : f s [] r (s.pktOf r o) = .ok u x y range) (same : SameIssue s u) :
    Ends i s (u.addOp m.team m.wave .st true (s.lanesGet m [(o.rd.toNat, x), (o.rd.toNat + 1, y)]) [] []
      (.spawn (s.blockOf r o.rb) range)) := by
  refine ends_of_finish (ready.of_calm ((calm_addOp ..).trans same.calm)) ⟨s.active, [], ?_⟩
  have results (xs : List (Nat × Word)) : u.entryResults r xs = s.lanesGet m xs := by
    rw [entryResults_alone (same.stands.alone alone), same.stands.activeOf, State.lanesGet]
  unfold State.pktOf at spawns
  have none_before : jobRanges [] = [] := rfl
  rw [word, spawnWord, privWord_ready ready priv]
  simp only [room, tileStores_noStores empty, Bool.or_self, Bool.false_eq_true, if_false, releaseWord_noStores alone empty clear,
    performersBySlot_alone alone, List.foldl_cons, List.foldl_nil, none_before, spawns, List.nil_append, results, faultLanes_nil,
    postEach_one _ _ _ _ _ alone]

variable {u : State} {x y : Word} {range : Option Range}

theorem execSpawnRange_ends (spawns : s.spawnKind [] r (s.pktOf r o) = .ok u x y range) :
    Ends (.spawnRange o) s (u.addOp m.team m.wave .st true (s.lanesGet m [(o.rd.toNat, x), (o.rd.toNat + 1, y)]) [] []
      (.spawn (s.blockOf r o.rb) range)) :=
  spawnWord_ends ready priv alone room empty clear (f := State.spawnKind) rfl spawns
    (sameIssue_of_keeps (keeps_spawnKind ..) spawns)

/-- SPAWN of a TRIM packet (R511). -/
def State.spawnCut (s : State) (_ : List Range) (r : Ref) (p : List DWord) : Spawned :=
  if pktKind p = 2 then s.spawnTrim r p else .bad s { r, cause := .layout }

theorem execSpawnTrim_ends (kind : pktKind (s.pktOf r o) = 2) (spawns : s.spawnTrim r (s.pktOf r o) = .ok u x y range) :
    Ends (.spawnTrim o) s (u.addOp m.team m.wave .st true (s.lanesGet m [(o.rd.toNat, x), (o.rd.toNat + 1, y)]) [] []
      (.spawn (s.blockOf r o.rb) range)) := by
  have cuts : s.spawnCut [] r (s.pktOf r o) = .ok u x y range := (if_pos kind).trans spawns
  exact spawnWord_ends ready priv alone room empty clear (f := State.spawnCut) rfl cuts
    (sameIssue_of_keeps (keeps_spawnTrim ..) spawns)

end

end
end

/-! ### DUMP (R483 to R485) -/

/-- An entry that goes on leaves the lanes, the issuing bundle and the hub as they are. -/
theorem stands_goOn (s : State) (t w : Nat) (e : Entry) : Stands s (s.goOn t w e) ∧ (s.goOn t w e).hub = s.hub := by
  have entry (v : State) k f : Stands v (v.modEntry t w k f) := ⟨fun q => by rw [lane_modEntry], rfl⟩
  have unparked : Stands s (s.unpark t w e) := entry ..
  unfold State.goOn
  split
  · exact ⟨.refl s, rfl⟩
  · split
    · split
      · exact ⟨unparked, rfl⟩
      · next b _ =>
        have flies := unparked.trans (entry (s.unpark t w e) e.slot fun e => { e with flight := some b.id })
        exact ⟨⟨flies.lanes, flies.bundle⟩, rfl⟩
    · exact ⟨⟨unparked.lanes, unparked.bundle⟩, rfl⟩

theorem stands_goOnWhere (s : State) (t : Nat) (p : Why → Bool) : Stands s (s.goOnWhere t p) ∧ (s.goOnWhere t p).hub = s.hub := by
  unfold State.goOnWhere
  rw [List.foldr_eq_foldl_reverse]
  refine List.foldlRecOn (motive := fun u : State => Stands s u ∧ u.hub = s.hub) _ _ ⟨.refl s, rfl⟩ fun u ⟨stands, hub⟩ x _ => ?_
  obtain ⟨goes, keeps⟩ := stands_goOn u t x.1 x.2
  exact ⟨stands.trans goes, keeps.trans hub⟩

theorem hub_latchRead (s : State) (r : Ref) (n : Nat) : (s.latchRead r n).hub = s.hub := by
  obtain ⟨f, latched, -⟩ := latchRead_eq_modLane s r n
  rw [latched]
  rfl

/-- A DUMP that is served lets its team run on, and its lanes latch the size (R24, R484). -/
def State.thawed (s : State) (tid : Nat) (size : BitVec 8) : State :=
  ((s.modTeam tid fun t => { t with frozen := false }).goOnFreed tid).latched [size]

theorem calm_setPcs (s : State) (t w : Nat) (mask : BitVec 32) (c : DWord) (i : Nat) : (s.setPcs t w mask c i).calm = s.calm :=
  calm_foldl _ (fun u k => calm_modLane u ⟨t, w, k⟩ (fun l => { l with clause := c, idx := i }) fun _ => rfl) _ s

section
variable (s : State) (tid : Nat)

theorem stands_freed : Stands s ((s.modTeam tid fun t => { t with frozen := false }).goOnFreed tid) :=
  (stands_modTeam s tid (fun t => { t with frozen := false }) fun _ => rfl).trans (stands_goOnWhere ..).1

theorem stands_thawed (x : BitVec 8) : Stands s (s.thawed tid x) := (stands_freed s tid).trans (stands_latched ..)

theorem hub_thawed (x : BitVec 8) : (s.thawed tid x).hub = s.hub :=
  (latched_induction (P := fun u : State => u.hub = ((s.modTeam tid fun t => { t with frozen := false }).goOnFreed tid).hub) rfl
    fun u q same => (hub_latchRead u q x.toNat).trans same).trans (stands_goOnWhere ..).2

theorem calm_thawed (x : BitVec 8) : (s.thawed tid x).calm = s.calm := by
  refine (calm_latched ..).trans ((calm_goOnWhere ..).trans (calm_modTeam _ _ _ ?_))
  exact fun _ => ⟨rfl, rfl⟩

theorem calm_standAt : (s.standAt tid).calm = s.calm := by
  unfold State.standAt
  refine calm_foldl _ (fun u b => ?_) _ s
  exact calm_foldl _ (fun v m => calm_setPcs ..) _ u

theorem calm_dumpPut (va : DWord) (b : List Byte) : (s.dumpPut tid va b).1.calm = s.calm := by
  unfold State.dumpPut
  split
  · rfl
  · split
    · exact calm_writeTarget ..
    · rfl

end

theorem calm_dumpWrite (tid : Nat) (va : DWord) (n : Nat) : ∀ (s : State) (off : Nat) (b : List Byte),
    (s.dumpWrite tid va off n b).1.calm = s.calm := by
  induction n with
  | zero => exact fun _ _ _ => rfl
  | succ n ih =>
    intro s off b
    have put := calm_dumpPut s tid (va + BitVec.ofNat 64 off) (b.take 16)
    unfold State.dumpWrite
    split
    · rfl
    · split
      · next out => rwa [out] at put
      · next out =>
        rw [out] at put
        exact (ih ..).trans put

theorem calm_dumpTeam (s : State) (tid : Nat) (buf : DWord) (size : Nat) : (s.dumpTeam tid buf size).1.calm = s.calm := by
  have headed (off n : Nat) (b : List Byte) : (((s.standAt tid).dumpWrite tid buf off n b).1).calm = s.calm :=
    (calm_dumpWrite ..).trans (calm_standAt ..)
  unfold State.dumpTeam
  dsimp only
  split
  · exact (calm_dumpWrite ..).trans (headed ..)
  · split
    all_goals
      next out =>
      have written := congrArg (fun p => p.1.calm) out
      exact (calm_dumpWrite ..).trans (written.symm.trans ((calm_dumpWrite ..).trans (headed ..)))

section
variable {s : State} {o : FA} {m : Member} {r : Ref} (ready : s.Ready) (priv : s.issueGrid.priv = true) (alone : s.Alone m r)
  (room : s.counterFull .st = false) (good : s.dumpCause r (s.src64 r o.ra) = none)
include ready priv alone room good

/-- A DUMP of one performer answers its entry the status `e.2`, 5 for a buffer below 256 bytes. -/
theorem execDump_ends {n : Nat} {e : State × Nat} (how : s.dumpHow r (s.src r .i32 o.rb 0).toNat = n)
    (thawedHow : (s.thawed r.team o.rb).dumpHow r (s.src r .i32 o.rb 0).toNat = n)
    (served : n = 0 ∧ e = (s.thawed r.team o.rb, 5) ∨
      n = 1 ∧ s.dumpQuiet r.team = true ∧
        e = (s.thawed r.team o.rb).dumpTeam r.team (s.src64 r o.ra) (s.src r .i32 o.rb 0).toNat) :
    Ends (.dump o) s (e.1.addOp m.team m.wave .st true (s.lanesGet m [(o.rd.toNat, BitVec.ofNat 32 e.2)]) [] []
      (.dump r.lane (s.src64 r o.ra) (s.src r .i32 o.rb 0).toNat)) := by
  have stands := stands_thawed s r.team o.rb
  have calm : e.1.calm = s.calm := by
    obtain ⟨-, rfl⟩ | ⟨-, -, rfl⟩ := served
    · exact calm_thawed ..
    · exact (calm_dumpTeam ..).trans (calm_thawed ..)
  refine ends_of_finish (ready.of_calm ((calm_addOp ..).trans calm)) ?_
  change ∃ gone ws, execDump o s = _
  have latched : s.active.foldl (fun u q => u.latchRead q o.rb.toNat)
      ((s.modTeam r.team fun t => { t with frozen := false }).goOnFreed r.team) = s.thawed r.team o.rb := by
    rw [State.thawed, latched_one, (stands_freed s r.team).active]
  rw [execDump, privWord_ready ready priv]
  simp only [room, Bool.false_eq_true, if_false, performers_alone alone, List.map_cons, List.map_nil, List.filterMap_cons,
    List.filterMap_nil, List.filter_cons, List.filter_nil, good, how, latched, List.foldl_cons, List.foldl_nil,
    Option.isNone_none, if_true, thawedHow, entryResults_alone (stands.alone alone), stands.activeOf]
  obtain ⟨rfl, rfl⟩ | ⟨rfl, quiet, rfl⟩ := served
  · simp only [List.all_nil, Nat.reduceBEq, Bool.false_eq_true, if_false, Bool.not_true, faultLanes_nil, List.nil_append,
      postEach_one _ _ _ _ _ alone]
    exact ⟨_, [], rfl⟩
  · simp only [List.all_cons, List.all_nil, quiet, BEq.rfl, Bool.and_true, Bool.false_eq_true, if_false, if_true, Bool.not_true,
      faultLanes_nil, List.nil_append, postEach_one _ _ _ _ _ alone]
    exact ⟨_, [], rfl⟩

theorem execDump_small (small : (s.src r .i32 o.rb 0).toNat < 256) :
    Ends (.dump o) s ((s.thawed r.team o.rb).addOp m.team m.wave .st true (s.lanesGet m [(o.rd.toNat, 5)]) [] []
      (.dump r.lane (s.src64 r o.ra) (s.src r .i32 o.rb 0).toNat)) :=
  have served := execDump_ends ready priv alone room good (n := 0) (e := (s.thawed r.team o.rb, 5)) (if_pos small) (if_pos small)
    (.inl ⟨rfl, rfl⟩)
  served

theorem execDump_large (large : 256 ≤ (s.src r .i32 o.rb 0).toNat) (hardware : s.hub.fnmode.getLsbD 6 = false)
    (quiet : s.dumpQuiet r.team = true) :
    let e := (s.thawed r.team o.rb).dumpTeam r.team (s.src64 r o.ra) (s.src r .i32 o.rb 0).toNat
    Ends (.dump o) s (e.1.addOp m.team m.wave .st true (s.lanesGet m [(o.rd.toNat, BitVec.ofNat 32 e.2)]) [] []
      (.dump r.lane (s.src64 r o.ra) (s.src r .i32 o.rb 0).toNat)) := by
  have how (u : State) (hub : u.hub = s.hub) : u.dumpHow r (s.src r .i32 o.rb 0).toNat = 1 := by
    rw [State.dumpHow, if_neg (Nat.not_lt.2 large), hub, hardware]
    rfl
  exact execDump_ends ready priv alone room good (how s rfl) (how _ (hub_thawed ..)) (.inr ⟨rfl, quiet, rfl⟩)

end

/-! ### What SPAWN answers (R510, R511) -/

section
variable {s : State} {r : Ref} {p : List DWord}

theorem spawnKind_range {k : Nat} (names : s.gridByGid (pktGid p) = some k) (kind : pktKind p = 1) (some_left : pktLo p < pktHi p)
    (inside : pktHi p ≤ (s.grids.getD k Grid.blank).teams) (free : (s.grids.getD k Grid.blank).det = false)
    (even : (s.grids.getD k Grid.blank).cl2 = true → pktLo p % 2 = 0 ∧ pktHi p % 2 = 0)
    (room : ((s.die (s.team r.team).die).rangesOf k).length +
      ((s.spawning (s.team r.team).die).filter fun x => x.grid == k).length < 8)
    (known : ((s.die (s.team r.team).die).known.find? fun x => x.1 == k) = some (k, pktLrec p)) :
    s.spawnKind [] r p = .ok s (BitVec.ofNat 32 (s.grids.getD k Grid.blank).slot) 1 (some ⟨k, pktLo p, pktHi p⟩) := by
  have fits : ¬ ((pktLo p < pktHi p ∧ 8 ≤ ((s.die (s.team r.team).die).rangesOf k).length +
        ((s.spawning (s.team r.team).die ++ []).filter fun x : Range => x.grid == k).length) ∨
      ((s.grids.getD k Grid.blank).cl2 = true ∧ (pktLo p % 2 = 1 ∨ pktHi p % 2 = 1)) ∨
      (s.grids.getD k Grid.blank).teams < pktHi p ∨ (s.grids.getD k Grid.blank).det = true ∨
      ((some (k, pktLrec p)).isSome = true ∧ some (k, pktLrec p) ≠ some (k, pktLrec p))) := by
    rw [List.append_nil]
    rintro (⟨-, full⟩ | ⟨cl2, odd⟩ | outside | det | ⟨-, other⟩)
    · omega
    · have := even cl2
      omega
    · omega
    · exact Bool.false_ne_true (free.symm.trans det)
    · exact other rfl
  rw [State.spawnKind, if_pos kind, State.spawnRange]
  simp only [names, known, Option.isSome_some, Bool.true_or, if_true] at fits ⊢
  rw [if_neg fits, if_pos some_left]

theorem spawnKind_trim {k : Nat} {x : Range} (names : s.gridByGid (pktGid p) = some k) (kind : pktKind p = 2)
    (last : (s.die (s.team r.team).die).lastRange k = some x) (single : (s.grids.getD k Grid.blank).cl2 = false)
    (stays : pktDcnt p = 0) (cuts : max x.next (pktNewend p) < x.stop) :
    s.spawnKind [] r p = .ok (s.modDie (s.team r.team).die fun y => y.putRange x { x with stop := max x.next (pktNewend p) })
      (BitVec.ofNat 32 (max x.next (pktNewend p))) (BitVec.ofNat 32 x.stop) none := by
  have found : ((s.gridByGid (pktGid p)).bind fun k => ((s.die (s.team r.team).die).lastRange k).map fun x => (k, x)) = some (k, x) := by
    rw [names, Option.bind_some, last, Option.map_some]
  rw [State.spawnKind, if_neg (by omega), if_pos kind, State.spawnTrim]
  simp only [found, single, Bool.false_eq_true, if_false, cuts, if_true, stays, ne_eq, not_true_eq_false, false_and]

theorem spawnKind_unnamed (unnamed : s.gridByGid (pktGid p) = none) :
    (pktKind p = 1 → s.spawnKind [] r p = .ok s 0xFFFFFFFF 0 none) ∧ (pktKind p = 2 → s.spawnKind [] r p = .ok s 0 0 none) := by
  constructor <;> intro kind
  · rw [State.spawnKind, if_pos kind, State.spawnRange]
    simp only [unnamed]
  · rw [State.spawnKind, if_neg (by omega), if_pos kind, State.spawnTrim]
    simp only [unnamed, Option.bind_none]

end

/-! ### What finishes SPAWN and DUMP, and packets of the host (R504, R510) -/

section
variable {s : State} {op : Op} (live : s.liveOp s.args.a = some op)
include live

theorem spawn_returns {p : List Word} {range : Option Range} (body : op.body = .spawn p range) :
    (s.resultWaits op = true ∨ s.countWaits op = true → Gives .loadResultReturn s s) ∧
    (s.resultWaits op = false → s.countWaits op = false → Gives .loadResultReturn s
      ((((s.writeResults op).installRange (s.team op.team).die range).landCharges (s.team op.team).die (packetOfRegs p)).opDone op.id)) := by
  constructor
  · intro waits
    change execLoadResultReturn s = _
    unfold execLoadResultReturn
    simp only [live, body]
    obtain result | count := waits
    · rw [if_pos result]
    · rw [if_pos count, ite_self]
  · intro result count
    change execLoadResultReturn s = _
    unfold execLoadResultReturn
    simp only [live, body, result, count, Bool.false_eq_true, if_false]

theorem dump_performed {lane size : Nat} {buf : DWord} (body : op.body = .dump lane buf size) :
    (s.resultWaits op = true → Gives .storePerformed s s) ∧
    (s.resultWaits op = false → Gives .storePerformed s ((s.writeResults op).opDone op.id)) := by
  have served : exec .storePerformed s = .next (if s.resultWaits op = true then s else (s.writeResults op).opDone op.id) := by
    change execStorePerformed s = _
    unfold execStorePerformed
    simp only [live, body]
  refine ⟨fun waits => ?_, fun lands => ?_⟩ <;> rw [Gives, served]
  · rw [if_pos waits]
  · rw [if_neg (Bool.not_eq_true _ |>.mpr lands)]

end

/-- A change of a die is judged by what it does to that die. -/
theorem modDie_congr {s : State} {d : Nat} {f g : Die → Die} (same : f (s.die d) = g (s.die d)) : s.modDie d f = s.modDie d g := by
  refine congrArg (fun dies => { s with dies }) (List.ext_getElem? fun k => ?_)
  rw [List.getElem?_modify, List.getElem?_modify]
  split
  · next here =>
    subst here
    cases is : s.dies[d]? with
    | none => rfl
    | some x =>
      rw [State.die, List.getD_eq_getElem?_getD, is] at same
      exact congrArg some same
  · rfl

/-- A packet that finds its die's link empty arrives at once (R500). -/
theorem mailPut_empty {s : State} {d : Nat} (empty : (s.die d).inbound = []) (p : List DWord) :
    s.mailPut d p = s.modDie d fun x => { x with hubBuf := x.hubBuf ++ [p] }.refillMail := by
  have filters (l : List Nat) : l.filter (fun t => !([] : List Nat).contains t) = l := List.filter_eq_self.2 fun _ _ => rfl
  have arrives (x : Die) (link : x.inbound = []) :
      { x with inbound := x.inbound ++ [Msg.packet p] }.settleLink = { x with hubBuf := x.hubBuf ++ [p] }.refillMail := by
    obtain ⟨⟩ := x
    subst link
    simp only [Die.settleLink, List.nil_append, takeLink, filters]
  exact modDie_congr (arrives _ empty)

theorem execMailboxPacketFromHost_gives (s : State) :
    let p := (List.range 8).map fun k => s.args.data.getD k 0
    (pktDst p < 8 → s.mailRoom (pktDst p) = true →
      Gives .mailboxPacketFromHost s (s.mailPut (pktDst p) (withSrc p 9))) ∧
    (8 ≤ pktDst p ∨ s.mailRoom (pktDst p) = false → Gives .mailboxPacketFromHost s s) := by
  intro p
  constructor
  · intro die room
    exact congrArg Host.Outcome.next (if_pos ⟨die, room⟩)
  · intro refused
    refine congrArg Host.Outcome.next (if_neg ?_)
    rintro ⟨die, room⟩
    obtain outside | full := refused
    · exact absurd die (Nat.not_lt.2 outside)
    · exact Bool.false_ne_true (full.symm.trans room)

/-- Settles O53: each word is one function of what its one performer reads and of what its die or its grid answers. -/
theorem mailboxWords : Obligations.MailboxWords := by
  unfold Obligations.MailboxWords
  refine ⟨?_, ?_, fun s op p range live body => spawn_returns live body, fun s op lane buf size live body => dump_performed live body,
    fun _ _ _ => ⟨rfl, rfl⟩, fun s => ?_⟩
  · intro s o m r ready priv alone
    refine ⟨fun room => ⟨?_, ?_, execMbrecv_waits ready priv alone room⟩,
      fun room => ⟨?_, fun empty clear => ⟨?_, ?_, ?_⟩, fun good => ⟨?_, ?_⟩⟩⟩
    · intro p ps mail
      refine execMbrecv_answers ready priv alone room (p := p) ?_ (sameIssue_modDie _ _ _ fun _ => rfl) (.inl rfl)
      rw [State.mailTake, mail]
    · intro mail polls
      refine execMbrecv_answers ready priv alone room (p := []) ?_ (.refl s) (.inr ⟨rfl, rfl, polls⟩)
      rw [State.mailTake, mail]
    · exact fun low high => execMbsend_ends ready priv alone room ⟨low, high⟩
    · exact execFwd_ends ready priv alone room empty clear
    · intro u x y range spawns
      exact execSpawnRange_ends ready priv alone room empty clear spawns
    · intro u x y range kind spawns
      exact execSpawnTrim_ends ready priv alone room empty clear kind spawns
    · exact execDump_small ready priv alone room good
    · exact execDump_large ready priv alone room good
  · intro s r p
    exact ⟨fun k names => ⟨fun kind lo hi det even room known => spawnKind_range names kind lo hi det even room known,
      fun x kind last single stays cuts => spawnKind_trim names kind last single stays cuts⟩, spawnKind_unnamed⟩
  · obtain ⟨arrives, refused⟩ := execMailboxPacketFromHost_gives s
    refine ⟨fun die room empty => ?_, arrives, refused⟩
    rw [← mailPut_empty empty]
    exact arrives die room

end Sys2Proof.Machine
